-- ==== Sys2Proof/Word.lean ====
section
/-!
DEFINITION. The words of the PLS2104: registers are 32 bits wide (R14) and memory is addressed by the byte (R8).
-/

namespace Sys2Proof

/-- A register word (R14). -/
abbrev Word := BitVec 32

/-- A byte of memory (R8). -/
abbrev Byte := BitVec 8

end Sys2Proof
end

