-- ==== Sys2Proof/Machine/Types.lean ====
section
/-!
DEFINITION. The names and operand forms that commands carry: bus masters (R37), power domains (R81), modes (R72), arm groups
(R47) and the data that partners of the block deliver with an event.
-/

namespace Sys2Proof.Machine

/-- The five bus masters (R37). -/
inductive Master where
  | island | mgmt | hspi | netBridge | dma
  deriving DecidableEq, Repr

/-- The master number (R37). -/
def Master.num : Master → Nat
  | .island => 0 | .mgmt => 1 | .hspi => 2 | .netBridge => 3 | .dma => 4

/-- The twelve power domains (R81). -/
inductive Dom where
  | aon | mgmt | safe | net | vin | mem | cmp | gme | scn | lnka | lnkb | drv
  deriving DecidableEq, Repr

/-- The domain number: its bit in PWR_DOMSTAT (R81). -/
def Dom.num : Dom → Nat
  | .aon => 0 | .mgmt => 1 | .safe => 2 | .net => 3 | .vin => 4 | .mem => 5
  | .cmp => 6 | .gme => 7 | .scn => 8 | .lnka => 9 | .lnkb => 10 | .drv => 11

/-- Every gated domain, in the order of R81. -/
def Dom.gated : List Dom := [.mgmt, .safe, .net, .vin, .mem, .cmp, .gme, .scn, .lnka, .lnkb, .drv]

/-- The six operating modes (R72). -/
inductive Mode where
  | dormant | standby | prepare | run | husk | dark
  deriving DecidableEq, Repr

/-- The encoding of PWR_MODE.MODE. -/
def Mode.num : Mode → Nat
  | .dormant => 0 | .standby => 1 | .prepare => 2 | .run => 3 | .husk => 4 | .dark => 5

/-- The mode that PWR_MODE.MODE names; 6 and 7 are not used and read here as DORMANT. -/
def Mode.ofNum : Nat → Mode
  | 1 => .standby | 2 => .prepare | 3 => .run | 4 => .husk | 5 => .dark | _ => .dormant

/-- The arm groups: each has one generation register (R47). -/
inductive Group where
  | pid (n : Nat) | buck (n : Nat) | proj (t : Nat) | map (t : Nat) | glean (p : Nat)
  | imu | energy | stream (n : Nat) | satVal (c : Nat)
  deriving DecidableEq, Repr

/-- What the CLK block counts over its windows (R34, R36): the outputs of the core PLL, of the memory, SerDes, link and SAFE PLLs, the transmit
word clock of each port, and the SAFE oscillator itself. -/
inductive ClockName where
  | pixel | mgmt | drv | memory | net | link | safe | lane (p : Nat) | safeOsc
  deriving DecidableEq, Repr

/-- One count of a 10 µs window: the clock and its cycles as counted (R36). -/
structure ClockCount where
  clock : ClockName
  counted : Nat
  deriving DecidableEq, Repr

/-- The instructions of the IEEE 1149.1 port (R113). -/
inductive TapInstr where
  | idcode | bypass | extest | samplePreload | scan (op : Nat)
  deriving DecidableEq, Repr

/-- The two image slots of the flash (R104). -/
inductive Slot where
  | a | b
  deriving DecidableEq, Repr

/-- What the read-out of a BIST slice found (R109, R112). -/
inductive SliceFinding where
  /-- no failing row -/
  | pass
  /-- failing rows, soft-repaired from the spares; the re-test of the rows follows in a further slice -/
  | repaired (rows : Nat)
  /-- the spares of scan-store bank 0–15 are exhausted -/
  | bankExhausted (bank rows : Nat)
  /-- composer lane 0–7 fails, or the spare lane for 8 -/
  | laneFails (lane : Nat)
  /-- line-buffer macro 0–7 fails -/
  | macroFails (scaler : Nat)
  /-- the link buffers of tile port 0–3 fail -/
  | linkFails (port rows : Nat)
  /-- any other failure of the target -/
  | fails (rows : Nat)
  deriving DecidableEq, Repr

/-- The result of one BIST slice: time in units of 10 µs, and its finding (R109). -/
structure SliceResult where
  duration : Nat
  finding : SliceFinding
  deriving DecidableEq, Repr

/-- A wake that qualifies during sleep entry, and the AON cycle after cycle k in which it does (R92–R94). -/
inductive WakeSource where
  | pin (n : Nat) | lampReq
  deriving DecidableEq, Repr

/-- What one switching period of a buck channel measured: inductor current mA, Bn_FB mV, the shunt voltage of the input in nV, VMON0 and VMON1 in µV at the
ball (R314), the level in µV that CSP − CSN would come to at a duty of 95 %, and the inductor current in mA that the low-side FET would leave at the end of the period (R305, R309). -/
structure BuckMeas where
  il : Nat
  vout : Nat
  shunt : Nat
  vmon0 : Nat
  vmon1 : Nat
  sense : Nat
  valley : Int
  deriving DecidableEq, Repr

/-- What one ledger tick measured: VMON0 and VMON1 in µV at the ball, the shunt voltage of each buck input in nV, and the
voltage (mV) and current (mA) of each of the device's own rails (R314). -/
structure LedgerMeas where
  vmon0 : Nat
  vmon1 : Nat
  shunt : List Nat
  rails : List (Nat × Nat)
  deriving DecidableEq, Repr

/-- What one thermal sample read: ten die sensors in 1/16 °C and the four NTC inputs in µV (R329). -/
structure ThermMeas where
  die : List Int
  ntc : List Nat
  deriving DecidableEq, Repr

/-- A Glean record (R277). -/
structure GleanRec where
  port : Nat
  lane : Nat
  region : Nat
  refresh : Nat
  wide : Bool
  max : Nat
  crc : Nat
  partialRows : Bool
  laneChg : Bool
  deriving DecidableEq, Repr

/-- The five privileged outputs that the island tests (R376). -/
inductive TestedOutput where
  | huskN (n : Nat) | lampFail
  deriving DecidableEq, Repr

/-- One zone of a clamp table (R235, R371). -/
structure Zone where
  en : Bool := false
  x0 : Nat := 0
  y0 : Nat := 0
  x1 : Nat := 0
  y1 : Nat := 0
  ceil : Nat := 0
  deriving DecidableEq, Repr

/-- The copies that the island keeps over a restart, as their CRCs find them: safety parameters, envelope configurations, confirmation state (R361). -/
structure KeptCopies where
  params : Bool
  envs : Bool
  confirm : Bool
  deriving DecidableEq, Repr

/-- A write to one safety parameter object (R362): index, subindex, value bytes. -/
structure ParamWrite where
  index : Nat
  sub : Nat
  value : List Byte
  deriving DecidableEq, Repr

/-- An uplink TRAIN block (R265): the state it echoes and its four reports. -/
structure TrainBlock where
  state : Nat
  dn0 : Bool
  dn1 : Bool
  deskewed : Bool
  accepted : Bool
  deriving DecidableEq, Repr

/-- A block as it stands on a lane (R250): its header as the pair ab of R247, and its eight payload bytes, scrambled or not. -/
structure LineBlock where
  header : Nat
  payload : List Byte
  deriving DecidableEq, Repr

/-- What an uplink brings (R253, R261, R35): blocks on the line in order, and whether XQ_UPL is full. -/
structure UpArrival where
  line : List LineBlock
  full : Bool
  deriving DecidableEq, Repr

/-- An IDENT record (R261). -/
structure IdentRec where
  part : Nat
  rev : Nat
  caps : Nat
  serial : Nat
  husk : Nat
  deriving DecidableEq, Repr

/-- A ROWECHO record (R261): band, REFRESH bits [3:0], the ROWOK bits and the 32 CRCs. -/
structure EchoRec where
  band : Nat
  refresh : Nat
  rowOk : Nat
  crcs : List Nat
  deriving DecidableEq, Repr

/-- A STATUS record (R261): the INFO bits, temperature in 1/16 °C, anode mV, error counts of the lanes, rows discarded. -/
structure StatusRec where
  huskShown : Bool
  dn0 : Bool
  dn1 : Bool
  bonded : Bool
  precode : Bool
  huskN : Bool
  temp : Int
  vanode : Nat
  err0 : Nat
  err1 : Nat
  discarded : Nat
  deriving DecidableEq, Repr

/-- What a lane's pad carried of a row where that was not what the lane was sent (R275): port, lane, and the level indices of its symbols, 0 for level −3 to 3
for level +3. -/
structure GleanSeen where
  port : Nat
  lane : Nat
  levels : List Nat
  deriving DecidableEq, Repr

/-- A satellite chain, and whether its line is not idle as the device is about to send (R293). -/
structure SatLine where
  chain : Nat
  busy : Bool
  deriving DecidableEq, Repr

/-- What comes back on a satellite chain (R281, R284): the address of the node that turned it, levels in half bit times, and whether the line is not idle
for what the device sends next. -/
structure SatArrival where
  turned : Nat
  line : List Bool
  busy : Bool
  deriving DecidableEq, Repr

/-- Read-back samples of a switch path (R310): the path, and of each sample Bn_FB − Wn_HR and Wn_LR in mV. -/
structure SwReadback where
  path : Nat
  samples : List (Int × Int)
  deriving DecidableEq, Repr

/-- A voltage at Bn_FB in mV (R324, R325). -/
structure FbReading where
  ch : Nat
  mv : Nat
  deriving DecidableEq, Repr

/-- The highest voltages at VMON0 and VMON1 during the filter of the supply-loss monitor, in µV (R328). -/
structure VmonPeaks where
  vmon0 : Nat
  vmon1 : Nat
  deriving DecidableEq, Repr


/-- Where a request or an envelope came from, and so where its answer goes: UDP on a MAC with the sender's MAC address, IP address and port
(R404, R410, R422), a CAN bus with the identifier (R405), or the host SPI request slot (R446). -/
inductive NetFrom where
  | udp (mac srcMac ip port : Nat)
  | can (bus id : Nat)
  | hspi
  deriving DecidableEq, Repr

/-- A CAN frame as ISO 11898-1 gives it (R405): bus, identifier, 29-bit format, CAN FD format, data field. -/
structure CanFrame where
  bus : Nat
  id : Nat
  ide : Bool
  fd : Bool
  data : List Byte
  deriving DecidableEq, Repr

/-- What a controller finds on its bus (R405): a frame, whether it came through without an error, and the error counters that the
controller's confinement of ISO 11898-1 leaves after it. -/
structure CanRecv extends CanFrame where
  sound : Bool := true
  txErr : Nat := 0
  rxErr : Nat := 0
  deriving DecidableEq, Repr

/-- An RVF packet as the AVTP and RVF headers give it (R119): the receiving MAC, the header fields that the device looks at, the
first line and the payload. -/
structure RvfPacket where
  mac : Nat
  /-- R403: the destination address of the frame, octet 0 lowest. -/
  dst : Nat
  version : Nat
  sv : Bool
  tv : Bool
  streamId : Nat
  seqNum : Nat
  ptime : Nat
  progressive : Bool
  width : Nat
  height : Nat
  depth : Nat
  firstLine : Nat
  payload : List Byte
  endOfFrame : Bool
  deriving DecidableEq, Repr

/-- A UDP datagram to VIN_OLCFG.PORT (R126): the receiving MAC, the sender's MAC address, IP address and port, and its payload. -/
structure OlDatagram where
  mac : Nat
  srcMac : Nat
  ip : Nat
  port : Nat
  data : List Byte
  deriving DecidableEq, Repr

/-- A received gPTP Sync with its follow-up (R133, R134): MAC, gPTP domain, origin time plus corrections in ns, announced log interval. -/
structure SyncMsg where
  mac : Nat
  domain : Nat
  origin : Nat
  logInterval : Int
  deriving DecidableEq, Repr

/-- What starts an IMU transaction (R136). -/
inductive ImuTrig where
  | rising | falling | timer
  deriving DecidableEq, Repr

/-- An ECC error met while a row is computed (R227): corrected, or uncorrectable at source line and pixel of the canvas. -/
inductive ScanEcc where
  | corrected
  | uncorrectable (line x : Nat)
  deriving DecidableEq, Repr

/-- An ECC error met while a band is rendered (R213). -/
inductive GmeEcc where
  | none | corrected | uncorrectable
  deriving DecidableEq, Repr

/-- What memory brings to the computing of one row: how many pixels of the composition band being filled have been written
(R226), and the ECC errors of the reads (R227). -/
structure RowInput where
  filled : Nat
  ecc : List ScanEcc
  deriving DecidableEq, Repr

/-- A symbol descriptor (R144). -/
structure SymDesc where
  addr : Nat
  width : Nat
  height : Nat
  fmt : Nat
  pitch : Nat
  deriving DecidableEq, Repr

/-- What an Ethernet frame carries, as far as the classification of R117 and R403 looks at it. -/
inductive EthBody where
  | gptp
  | rvf
  | avtpOther
  | arp
  /-- IPv4: destination address, whether the header is fragmented or carries options. -/
  | udp (ip port : Nat) (odd : Bool)
  | icmpEcho (ip : Nat) (odd : Bool)
  | other
  deriving DecidableEq, Repr

/-- A received Ethernet frame (R116, R403): MAC, destination address, FCS, 802.1Q tags, length, and whether its receive queue is
full (R35). -/
structure EthFrame where
  mac : Nat
  dst : Nat
  fcsGood : Bool
  tags : Nat
  length : Nat
  queueFull : Bool
  body : EthBody
  deriving DecidableEq, Repr

/-- Where a received frame goes (R117). -/
inductive RxClass where
  | timeEngine | stream | objectList | onoth | envelope | arp | icmp | dropped
  deriving DecidableEq, Repr

/-- A clamp table in transfer or in force (R235, R371). -/
structure ClampTable where
  seq : Nat := 0
  zones : List Zone := []
  check : Nat := 0
  deriving DecidableEq, Repr

/-- What leaves the block at its ports, and where it routes what it receives: the model's own record of it. -/
inductive Sent where
  /-- A dictionary answer: object, subindex, response code (R409). -/
  | answer (index sub code : Nat)
  /-- TDO data of a test instruction (R113). -/
  | tdo (instr : TapInstr) (word : Nat)
  /-- A received frame, its class and its stamp (R117, R118). -/
  | received (mac : Nat) (cls : RxClass) (stamp : Nat)
  /-- A Pdelay response (R133), and a Pdelay request of the device. -/
  | pdelayResponse
  | pdelayRequest
  /-- Command bytes of an IMU transaction (R136). -/
  | imuCommand (bytes : List Byte)
  /-- A tile row (R255): port, DEST, the payload of ROW_HEAD, the codes, the code width and the CRC-16. -/
  | tileRow (port dest : Nat) (head : List Byte) (codes : List Nat) (width crc : Nat)
  /-- A command on a port (R258): opcode, tag, ARG and the payload of its data blocks. -/
  | tileCmd (port opcode tag arg : Nat) (data : List Byte)
  /-- A frame on a satellite chain (R281, R282): header, payload and CRC-16. -/
  | satFrame (chain : Nat) (bytes : List Byte)
  /-- What a read by bus returned to its master (R16, R42): address and word. -/
  | busWord (m : Master) (addr : Nat) (word : Nat)
  /-- What a read of SEM_LOCKk returned to a master (R465): the owner code and GOT. -/
  | lockRead (m : Master) (k owner : Nat) (got : Bool)
  /-- An Onoth response to a UDP client or in the host SPI slot (R410, R446). -/
  | onoth (to_ : NetFrom) (message : List Byte)
  /-- A CAN FD frame that the device sends (R405, R411). -/
  | canFrame (f : CanFrame)
  /-- An ARP reply: MAC, destination MAC and IP address (R404). -/
  | arpReply (mac dstMac dstIp : Nat)
  /-- An ICMP echo reply with its data (R404). -/
  | icmpReply (mac dstMac dstIp : Nat) (data : List Byte)
  /-- An envelope that connection c sends over UDP (R422). -/
  | envelope (c : Nat) (to_ : NetFrom) (bytes : List Byte)
  /-- The value of a TAKE that a command of its own carries (R463). -/
  | tunnel (n : Nat) (data : List Byte)
  /-- The duty of AVS_PWM in 1/256 (R54, R357). -/
  | avsPwm (duty : Nat)
  deriving DecidableEq, Repr
end Sys2Proof.Machine
end

