-- ==== Sys2Proof/Syntax.lean ====
section
/-!
DEFINITION. The commands of the PLS2104: one constructor per row of spec/opcode_table.json, in the table's order. An operand is what
the sender of the command brings: the bus master and data of a register write, the readings of a sensor, the bytes
of a frame.
-/

namespace Sys2Proof

open Sys2Proof.Machine

/-- The commands. -/
inductive Instr where
  /-- REGISTER_WRITE (R16): A bus write to a register that has no row of its own takes effect under its access code and its block's ownership rules. -/
  | registerWrite (m : Master) (size addr : Nat) (data : Word)
  /-- SYS_BLKOWN_WRITE (R41): A write to SYS_BLKOWN changes the owners of the selectable blocks in STANDBY, and is ignored in any other mode. -/
  | sysBlkownWrite (m : Master) (data : Word)
  /-- GEN_ARM (R47): A write to a generation register with NOARM at 0 arms the group when GEN is APPLIED + 1, and otherwise sets MISMATCH. -/
  | genArm (m : Master) (g : Group) (data : Word)
  /-- GEN_NOARM_CLEAR (R47): A write to a generation register with NOARM at 1 clears only MISMATCH and BLOCKED. -/
  | genNoarmClear (m : Master) (g : Group) (data : Word)
  /-- GROUP_APPLY (R47): At a group's application point the staged members are applied, GEN is copied into APPLIED and ARMED is cleared. -/
  | groupApply (g : Group)
  /-- BOUNDARY (R31): A CF boundary begins a refresh, applies the armed sheaf and latches the frame record. -/
  | boundary
  /-- FRAME_RECORD_SWITCH (R45): Once the copy is complete, at most 2 µs after the boundary, the new frame record replaces the old one as a whole. -/
  | frameRecordSwitch
  /-- REFRESH_START (R32): A refresh begins, and the groups applied at refresh start take effect. -/
  | refreshStart
  /-- BAND_SLOT_START (R32): A band slot begins, and the map prefetch for the following band starts. -/
  | bandSlotStart
  /-- CLOCK_MON_WINDOW (R36): At the end of each 10 µs window the clock counts are compared, and CLOCK_MON is raised on a deviation above 2 %. -/
  | clockMonWindow (counts : List ClockCount)
  /-- DOMAIN_POWER_UP (R82): A gated domain reaches power-good and leaves reset, and firmware replays its retained configuration. -/
  | domainPowerUp (d : Dom)
  /-- DOMAIN_POWER_FAIL (R82): A domain that has not reached power-good within 60 µs is marked FAILED, and PWR_DOMAIN is raised. -/
  | domainPowerFail (d : Dom)
  /-- DOMAIN_POWER_DOWN (R82): A domain stops new transactions, waits up to 2 µs for those in flight, holds its pads and powers down. -/
  | domainPowerDown (d : Dom)
  /-- AON_POWER_ON_RESET (R79): The AON rails become valid, the device enters DORMANT with PWR_EN low, and the strap is read. -/
  | aonPowerOnReset (strapMv : Nat)
  /-- RESET_PIN (R79): A low on RESET_N resets every domain apart from the strap code and PWR_RSTCAUSE, and puts the device in DORMANT. -/
  | resetPin (lowNs : Nat)
  /-- RESET_PIN_RELEASE (R79): After RESET_N rises, the device proceeds from step 2 of R52 and leaves DORMANT if a wake source is active. -/
  | resetPinRelease
  /-- LAMP_REQ_ASSERT (R89): LAMP_REQ qualifies after its 250 µs assertion filter, and the lamp demand becomes true. -/
  | lampReqAssert
  /-- LAMP_REQ_RELEASE (R91): LAMP_REQ release qualifies after its 20 ms filter, and the lamp demand ends unless PWR_MODEREQ.REQ holds RUN. -/
  | lampReqRelease
  /-- RUN_BEAM_END (R77): At the next refresh start after the lamp demand ends in RUN, the beam ends, HUSK_N falls and the lighting domains and bucks stop. -/
  | runBeamEnd
  /-- MODE_REQ_SET (R73): A write to PWR_MODEREQ.REQ selects AUTO or RUN, and so changes the lamp demand. -/
  | modeReqSet (m : Master) (data : Word)
  /-- RECOVER (R78): A RECOVER request leaves HUSK through PREPARE when every cause is clear and the lamp demand is true, and is otherwise refused. -/
  | recover (m : Master) (data : Word)
  /-- CLEAR_DARK (R78): A CLEAR_DARK request leaves DARK for STANDBY when every cause is clear and the lamp demand is false, and is otherwise refused. -/
  | clearDark (m : Master) (data : Word)
  /-- RUNGATE_WRITE (R74): The safety island writes PWR_RUNGATE, and clearing PERMIT in RUN moves the device to HUSK. -/
  | rungateWrite (m : Master) (data : Word)
  /-- PREPARE_COMPLETE (R102): PREPARE ends, in RUN, HUSK or STANDBY according to the lamp demand, PERMIT and pending causes. -/
  | prepareComplete
  /-- PREPARE_TIMEOUT (R103): A PREPARE not complete within 1,000 ms of its entry ends in HUSK or STANDBY with cause 0x13. -/
  | prepareTimeout
  /-- DOMCTL_WRITE (R84): A write to PWR_DOMCTL powers lighting domains on or off in STANDBY, and is ignored in other modes. -/
  | domctlWrite (m : Master) (data : Word)
  /-- PADHOLD_RELEASE (R86): A write of 1 to a PWR_PADHOLD.GROUP bit releases a held group if its domain is on and out of reset. -/
  | padholdRelease (m : Master) (data : Word)
  /-- WAKE_PIN_QUALIFY (R90): A WAKE pin holds its active level for its filter time, sets its pending flag and wakes the device from DORMANT. -/
  | wakePinQualify (pin levels : Nat)
  /-- WAKE_TIMER_EXPIRE (R89): The wake timer expires in DORMANT, sets its pending flag and wakes the device. -/
  | wakeTimerExpire
  /-- SLEEP_REQUEST (R92): Host software writes the sleep object, and firmware closes its work and stores the retained objects before it writes GO. -/
  | sleepRequest
  /-- SLEEP_GO (R92): The mode controller samples PWR_SLEEP.GO and runs sleep entry through the point of no return to DORMANT, or refuses it. -/
  | sleepGo (m : Master) (wake : Option (WakeSource × Nat))
  /-- PWR_EN_HOLD_EXPIRE (R94): After PWR_EN has been held low for 2.0 ms, it rises again for a latched wake or after the test-only state. -/
  | pwrEnHoldExpire
  /-- HWHUSK_START (R96): The hardware Husk path starts a channel by closing the low-side switch and checking Wn_LR. -/
  | hwhuskStart (ch : Nat)
  /-- HWHUSK_LOWSIDE_CHECK (R96): Step 1 ends with Wn_LR at or below 0.2 V, or fails after 100 µs. -/
  | hwhuskLowsideCheck (ch lrMv : Nat)
  /-- HWHUSK_HIGHSIDE_ON (R96): Once the charge pump has reached its on level, or after 400 µs, the sequencer starts the buck ramp. -/
  | hwhuskHighsideOn (ch : Nat) (pumpReady : Bool)
  /-- HWHUSK_RAMP_END (R96): At the end of the ramp the sequencer checks Wn_HR against Bn_FB. -/
  | hwhuskRampEnd (ch hrMv fbMv : Nat)
  /-- HWHUSK_RAMPDOWN_END (R96): At the end of the ramp-down the sequencer opens the switches. -/
  | hwhuskRampdownEnd (ch : Nat)
  /-- SECURE_BOOT (R105): The boot ROM reads both headers, checks the preferred slot and falls back to the other slot, recording the results in BIST_BOOT. -/
  | secureBoot (readErrA readErrB : Bool)
  /-- SAFE_IMAGE_VERIFY (R106): The safety island's ROM verifies the staged SAFE image and copies it into SAFE SRAM. -/
  | safeImageVerify
  /-- RECOVERY_IMAGE_LOAD (R107): With no valid slot, an image written over HSPI into DRAM is checked and run. -/
  | recoveryImageLoad (base : Nat)
  /-- BIST_SLICE_END (R109): A BIST slice completes, its result is recorded and failing rows are soft-repaired and re-tested. -/
  | bistSliceEnd (target : Nat) (r : SliceResult)
  /-- BIST_START (R109): A START in BIST_CTRL runs the named target in STANDBY, or is refused. -/
  | bistStart (m : Master) (data : Word)
  /-- BIST_ABORT (R109): An ABORT in BIST_CTRL ends the run after the current slice, with outcome 6. -/
  | bistAbort (m : Master) (data : Word)
  /-- TEST_UNLOCK (R114): An honoured TEST_UNLOCK zeroizes the keys and memories, enters DARK and enables the test instructions. -/
  | testUnlock
  /-- IDCODE (R113): The IEEE 1149.1 IDCODE instruction, available at all times. -/
  | idcode
  /-- BYPASS (R113): The IEEE 1149.1 BYPASS instruction, available at all times. -/
  | bypass
  /-- EXTEST (R113): The EXTEST instruction, enabled only after TEST_UNLOCK. -/
  | extest
  /-- SAMPLE_PRELOAD (R113): The SAMPLE/PRELOAD instruction, enabled only after TEST_UNLOCK. -/
  | samplePreload
  /-- CAIFEL_SCAN_INSTRUCTION (R113): A Caifel scan or memory-access instruction, enabled only after TEST_UNLOCK. -/
  | caifelScanInstruction (op : Nat)
  /-- ETH_FRAME_RECEIVE (R117): A received Ethernet frame is address-filtered, stamped and classified, or dropped. -/
  | ethFrameReceive (f : EthFrame)
  /-- RVF_PACKET (R124): An RVF packet is checked and written into its stream buffer, or dropped and counted. -/
  | rvfPacket (p : RvfPacket)
  /-- RVF_FRAME_READY (R121): Once the last DRAM write of a complete frame is acknowledged, its buffer becomes READY and older READY buffers become FREE. -/
  | rvfFrameReady (n : Nat)
  /-- RVF_FRAME_TIMEOUT (R124): A frame still FILLING TIMEOUT ms after its first packet is discarded. -/
  | rvfFrameTimeout (n : Nat)
  /-- OBJECT_LIST_ARRIVE (R131): An object-list datagram arrives for the parser and waits, replacing any list already waiting as SUPERSEDED. -/
  | objectListArrive (d : OlDatagram)
  /-- OBJECT_LIST_PARSE (R129): The parser checks a list in order, rejects it with a cause, or accepts it and discards any invalid objects. -/
  | objectListParse
  /-- OBJECT_TABLE_BUILD (R195): GME builds the object table from an accepted list, holds absent tracks, and the table becomes usable. -/
  | objectTableBuild
  /-- VIN_OLCFG_WRITE (R129): A write to VIN_OLCFG checks PORT and MAXAGE and makes the parser skip its sequence comparisons. -/
  | vinOlcfgWrite (m : Master) (data : Word)
  /-- SYNC_MESSAGE (R134): A gPTP Sync is received, and the time engine slews or steps its time and updates its state. -/
  | syncMessage (x : SyncMsg)
  /-- PDELAY_REQUEST (R133): The device answers a received Pdelay request. -/
  | pdelayRequest
  /-- PDELAY_INTERVAL (R133): Every 1 s the device measures the link delay with Pdelay. -/
  | pdelayInterval (delayNs : Nat)
  /-- HOLDOVER_ENTER (R134): With no Sync for 3 sync intervals while LOCKED, the time engine enters HOLDOVER. -/
  | holdoverEnter
  /-- NOSYNC_ENTER (R134): After 500 ms of HOLDOVER without Sync, the time engine enters NOSYNC and GPTP_LOST is raised. -/
  | nosyncEnter
  /-- IMU_TRIGGER (R136): An I_DRDY edge or the timer starts an SPI transaction, or is counted as an overrun. -/
  | imuTrigger (t : ImuTrig)
  /-- IMU_SAMPLE (R138): A completed IMU transaction is scaled, checked, averaged and integrated, or discarded. -/
  | imuSample (response : List Byte) (queueFull : Bool)
  /-- IMU_LOST (R140): With no accepted sample for 4 × PERIOD, the IMU state becomes LOST and IMU_LOST is raised. -/
  | imuLost
  /-- VIN_IMUCFG_WRITE (R137): A write to VIN_IMUCFG changes only EN while EN is 1, and the whole transaction otherwise. -/
  | vinImucfgWrite (m : Master) (data : Word)
  /-- SHEAF_ARM (R149): A write of ARM arms the sheaf, captures TAG and starts the check. -/
  | sheafArm (m : Master) (data : Word)
  /-- SHEAF_CHECK_COMPLETE (R155): The sheaf check ends, refusing the sheaf or setting its target boundary and squashing the changed bands. -/
  | sheafCheckComplete
  /-- SHEAF_DISARM (R153): A DISARM withdraws an armed sheaf before its deadline, or is refused. -/
  | sheafDisarm (m : Master) (data : Word)
  /-- RETIME_HOLD_END (R168): At the end of the hold the boundary and the first refresh of the new mode begin. -/
  | retimeHoldEnd
  /-- COMPOSE_FRAME_START (R160): Once a buffer is free, the composer starts the next frame and claims the newest READY video buffers. -/
  | composeFrameStart
  /-- COMPOSE_BAND_COMPLETE (R172): A composition band is written back, its write-side signatures are updated and the spare lane checks it. -/
  | composeBandComplete (laneDiffers : Bool)
  /-- SYMBOL_LOAD (R182): LOAD starts copying a symbol from the shadow symbol table into the cache. -/
  | symbolLoad (m : Master) (data : Word)
  /-- SYMBOL_LOAD_COMPLETE (R182): A symbol copy completes, and its cache entry becomes complete. -/
  | symbolLoadComplete
  /-- SYMBOL_EVICT (R185): EVICT removes the entries of an index, unless a state uses them or a sheaf is in progress. -/
  | symbolEvict (m : Master) (data : Word)
  /-- SYMBOL_EVICT_UNUSED (R185): EVICT_UNUSED removes every entry that neither the applied nor the armed state uses. -/
  | symbolEvictUnused (m : Master) (data : Word)
  /-- CAPTURE_START (R188): START arms the capture of the frame shown from the next boundary, or is refused. -/
  | captureStart (m : Master) (data : Word)
  /-- CAPTURE_ABORT (R188): ABORT ends a capture that waits or copies, with STATE 6. -/
  | captureAbort (m : Master) (data : Word)
  /-- CAPTURE_COMPLETE (R188): The capture copy completes, or ends INCOMPLETE when its buffer is released first. -/
  | captureComplete
  /-- GME_SNAPSHOT (R199): At S_k a render unit takes the newest table, the IMU history and the GME state, and begins rendering the band. -/
  | gmeSnapshot
  /-- GME_RENDER_COMPLETE (R199): A render unit completes the band's mask buffer and writes its CRC. -/
  | gmeRenderComplete (pointsDiffer : Bool) (ecc : GmeEcc)
  /-- MASK_LATCH (R230): At L_k scan-out latches the band's mask, levelling shift and clamp table, and starts computing row 0. -/
  | maskLatch (mapsReady : Bool) (x : RowInput)
  /-- SCAN_FILL_BAND_COMPLETE (R225): A composition band is filled into the scan store and its read-side signatures are taken. -/
  | scanFillBandComplete
  /-- ROW_SLOT_START (R228): A row slot begins, the link sends the row computed before it, and the next row is computed. -/
  | rowSlotStart (x : RowInput) (gleanBad : List GleanSeen)
  /-- BLANK_START (R240): The vertical blanking begins, and the light sums are published. -/
  | blankStart
  /-- CHAR_SLOT (R244): At BLANK_START + 1,000 cycles each port's link receives a SAMPLE request, or the request is skipped. -/
  | charSlot
  /-- CLAMP_TABLE_RECEIVE (R235): A clamp table arrives through XQ_CLAMP, and is kept for the next latch or discarded when its check fails. -/
  | clampTableReceive (corrupt : Option ClampTable)
  /-- LINK_TRAIN_START (R265): An enabled port starts training in DETECT. -/
  | linkTrainStart (p : Nat)
  /-- UPLINK_SIGNAL_DETECT (R265): An uplink signal is detected, and training moves to UP_LOCK. -/
  | uplinkSignalDetect (p : Nat)
  /-- UPLINK_BLOCK_LOCK (R253): The uplink receiver reaches block lock. -/
  | uplinkBlockLock (p : Nat) (line : List LineBlock)
  /-- UPLINK_TRAIN_RECEIVE (R265): An uplink TRAIN block reports lock, deskew or parameter acceptance, and training advances. -/
  | uplinkTrainReceive (p : Nat) (line : List LineBlock)
  /-- TRAIN_STATE_TIMEOUT (R266): A training state times out, and the port retries, or becomes LOST or FAILED. -/
  | trainStateTimeout (p : Nat)
  /-- IDENT_RECORD (R267): An IDENT record is compared with the expected identity, and the port becomes FOREIGN on a difference. -/
  | identRecord (p : Nat) (full : Bool) (line : List LineBlock)
  /-- LINK_ENABLE (R265): A write to LNK_CTRL.EN enables or disables a port. -/
  | linkEnable (m : Master) (p : Nat) (data : Word)
  /-- LIGHT_SET (R268): A write of 1 to LIGHT lets a READY or ACTIVE port carry rows, and is ignored in any other state. -/
  | lightSet (m : Master) (p : Nat) (data : Word)
  /-- RETRAIN (R274): RETRAIN starts training in STANDBY or while the port is LOST, and is ignored otherwise. -/
  | retrain (m : Master) (p : Nat) (data : Word)
  /-- PING (R258): The PING command returns ARG. -/
  | ping (m : Master) (p : Nat) (data : Word)
  /-- IDENT (R258): The IDENT command requests the tile's IDENT record. -/
  | ident (m : Master) (p : Nat) (data : Word)
  /-- REG_WRITE (R258): The REG_WRITE command writes a tile register. -/
  | regWrite (m : Master) (p : Nat) (data : Word)
  /-- REG_READ (R258): The REG_READ command reads a tile register. -/
  | regRead (m : Master) (p : Nat) (data : Word)
  /-- HUSK_UNLOCK (R260): The HUSK_UNLOCK command opens the tile's Husk store to rows sent with DEST 1. -/
  | huskUnlock (m : Master) (p : Nat) (data : Word)
  /-- HUSK_COMMIT (R260): The HUSK_COMMIT command stores the new pattern when its CRC agrees. -/
  | huskCommit (m : Master) (p : Nat) (data : Word)
  /-- TILE_RESET (R258): The TILE_RESET command makes the tile restart training. -/
  | tileReset (m : Master) (p : Nat) (data : Word)
  /-- COMMAND_TIMEOUT (R258): A firmware command with no answer after 100 µs ends with status 15. -/
  | commandTimeout (p : Nat)
  /-- ROWECHO_RECORD (R262): A ROWECHO record is compared with the CRCs that were sent, and mismatches are counted. -/
  | rowechoRecord (p : Nat) (full : Bool) (line : List LineBlock)
  /-- ECHO_DEADLINE (R262): A ROWECHO not arrived by its deadline counts the band's rows as missing, and four such bands lose the port. -/
  | echoDeadline (p : Nat)
  /-- STATUS_RECORD (R261): A STATUS record delivers the tile temperature, anode voltage and error counts. -/
  | statusRecord (p : Nat) (full : Bool) (line : List LineBlock)
  /-- CHAR_RECORD (R261): A CHAR record delivers forward voltages for trims and characterization. -/
  | charRecord (p : Nat) (full : Bool) (before record : List LineBlock)
  /-- RESPONSE_RECORD (R261): A RESPONSE record completes a firmware command in LNK_CMDRESP. -/
  | responseRecord (p : Nat) (full : Bool) (before record after : List LineBlock)
  /-- ALERT_RECORD (R271): An ALERT record reports a lost lane or over-temperature. -/
  | alertRecord (p : Nat) (full : Bool) (before record after : List LineBlock)
  /-- UPLINK_LOCK_LOSS (R269): Uplink block lock lost for 1 ms loses the port. -/
  | uplinkLockLoss (p : Nat) (line : List LineBlock)
  /-- LOST_RETRY (R266): A LOST port retrains every RETRY_MS. -/
  | lostRetry (p : Nat)
  /-- GLEAN_RECORD (R277): At the end of a region's last row slot each lane emits a Glean record to the safety island. -/
  | gleanRecord (p region lane : Nat) (queueFull : Bool)
  /-- GLEAN_LOCK_LOSS (R278): A Glean receiver loses lock, and the lane is dropped, or the port stops rows. -/
  | gleanLockLoss (p : Nat) (headers : List Nat × List Nat)
  /-- SAT_PERIOD_START (R285): The update period starts, and each lit chain sends STREAM with its applied value table. -/
  | satPeriodStart (busy : Nat)
  /-- SAT_LATCH_SEND (R285): At OFS_US every chain sends LATCH. -/
  | satLatchSend (busy : Nat)
  /-- SAT_COLLECT_SEND (R285): After LATCH a chain sends COLLECT for the next 32 addresses. -/
  | satCollectSend (c : Nat) (busy : Bool)
  /-- SAT_CENSUS_SEND (R285): When CENSUS_MS has passed, a chain sends CENSUS. -/
  | satCensusSend (c : Nat) (busy : Bool)
  /-- SAT_RETURN_FRAME (R284): A turned frame returns, and its slots or counts update the tables or detect a change. -/
  | satReturnFrame (c : Nat) (x : SatArrival)
  /-- SAT_RETURN_TIMEOUT (R284): A turned frame not back in time is counted as lost. -/
  | satReturnTimeout (c : SatLine)
  /-- SAT_ENUMERATE (R288): A chain clears LIGHT and runs RESET_ADDR, ENUM and identity COLLECT, or fails. -/
  | satEnumerate (w : Option (Master × Word)) (c : SatLine)
  /-- SAT_NODE_WRITE (R290): Firmware sends NODE_WRITE to configure a node or all nodes. -/
  | satNodeWrite (c : SatLine) (node reg value : Nat)
  /-- SAT_TIMING_WRITE (R286): A write to SAT_PERIOD or SAT_LATCHOFS is accepted only when the timing constraints hold. -/
  | satTimingWrite (m : Master) (latch : Bool) (data : Word)
  /-- PID_SAMPLE (R294): At its period start a loop samples its source, computes P, I, D and u, and its groups select the lowest output. -/
  | pidSample (loops : Nat)
  /-- PID_OUTPUT_WRITE (R299): PHASE cycles after the period start the group outputs and pitch words are written. -/
  | pidOutputWrite
  /-- PID_GROUP_CFG_WRITE (R302): A membership write is accepted, or ignored and CFGREF set. -/
  | pidGroupCfgWrite (m : Master) (g : Nat) (data : Word)
  /-- BUCK_SWITCH_PERIOD (R306): Each switching period forms I_app with limit and slew, and applies the buck group. -/
  | buckSwitchPeriod (ch : Nat) (x : BuckMeas)
  /-- BUCK_OVERVOLTAGE (R308): FB above OVTH holds both FETs off, and 8 entries within 1 ms raise BUCK_OV. -/
  | buckOvervoltage (ch fbMv : Nat)
  /-- BUCK_OV_RELEASE (R308): FB below OVTH − 0.2 V resumes switching. -/
  | buckOvRelease (ch fbMv : Nat)
  /-- BUCK_SHORT_DETECT (R308): The peak limit ends every period for 1 ms with FB below 1.0 V, so the channel stops and BUCK_SHORT is raised. -/
  | buckShortDetect (ch : Nat)
  /-- BUCK_ENABLE (R309): A write of BUCKn_CFG.EN starts the channel, or stops it with a disconnect. -/
  | buckEnable (m : Master) (ch : Nat) (data : Word)
  /-- SW_CLOSED_FAULT (R310): Eight consecutive failing path samples raise SW_CLOSED. -/
  | swClosedFault (x : SwReadback)
  /-- SW_TEST_DUE (R312): A switch test falls due and opens one switch, or is deferred. -/
  | swTestDue
  /-- SW_TEST_END (R311): The switch closes at the first blocking sample, or the test fails after 20 µs. -/
  | swTestEnd (mv : Nat)
  /-- SW_UNTESTED_TIMEOUT (R312): A switch untested for 60 s raises SW_TEST. -/
  | swUntestedTimeout (sw : Nat)
  /-- LEDGER_TICK (R314): Every 100 µs the ledger adds the buck-input and device energies. -/
  | ledgerTick (x : LedgerMeas)
  /-- ALLOWED_POWER_COMPUTE (R316): Every 1 ms the ledger computes P_lim and P_allow and writes the energy loop setpoint. -/
  | allowedPowerCompute
  /-- DRIVE_CYCLE_RESTART (R315): RESTART begins a new drive cycle and clears ENG_ECYC. -/
  | driveCycleRestart (m : Master) (data : Word)
  /-- PLANNER_RUN (R320): Every 100 ms the planner grants the classes, sets the chain scales and may arm PFLOOR. -/
  | plannerRun
  /-- HARNESS_GUARD_TRIP (R324): The harness guard stops the channel and opens Wn_HG within 8 µs, and HARNESS_GUARD is raised. -/
  | harnessGuardTrip (fb : FbReading)
  /-- DISCHARGE_END (R325): FB falls below 1.0 V and the discharge ends. -/
  | dischargeEnd (fb : FbReading)
  /-- DISCHARGE_TIMEOUT (R325): A discharge not done after 200 µs stops, and DISCHARGE_FAIL is raised. -/
  | dischargeTimeout (ch : Nat)
  /-- FLASH_SECTOR_PROGRAM (R327): Before a sector program, firmware checks the hold-up energy, and starts or defers the program. -/
  | flashSectorProgram (vholdUv : Nat)
  /-- HOLDUP_RETRY (R327): A deferred program is checked again every 10 ms, and HOLDUP_DEFER is raised after 1 s. -/
  | holdupRetry (vholdUv : Nat)
  /-- SUPPLY_LOSS (R328): The monitor below VTH_MV for 10 µs during a program stops the bucks and the lighting domains. -/
  | supplyLoss (peaks : VmonPeaks)
  /-- PAGE_PROGRAM_COMPLETE (R328): The page program in flight completes, and no further page program starts. -/
  | pageProgramComplete
  /-- THERMAL_SAMPLE (R329): THM samples its sensors, computes T, T_eff and F, and acts on warnings and stops. -/
  | thermalSample (x : ThermMeas)
  /-- ORDERLY_STOP_HANDOFF (R332): When the currents have fallen, or after 50 ms, the mode controller moves from RUN to HUSK with cause 0x0B. -/
  | orderlyStopHandoff
  /-- THERMAL_TRIP (R331): The 160 °C comparator trips after its filter, and the device enters DARK. -/
  | thermalTrip (sensor : Nat)
  /-- MAP_GROUP_CHECK_COMPLETE (R339): The map group check ends, refusing the arm or arming the group with its CRC. -/
  | mapGroupCheckComplete (t : Nat)
  /-- BUCK_OFFSET_TRIM (R346): The sense offsets of a channel in STATE 0 are trimmed every 1 s. -/
  | buckOffsetTrim (ch : Nat) (cs ii : Int × Int)
  /-- FULLCHAR_START (R347): START begins full characterization of one tile in STANDBY. -/
  | fullcharStart (m : Master) (data : Word)
  /-- FULLCHAR_BATCH (R347): Each batch slot lights 16 pixels and issues a SAMPLE, and the run completes after pass 2. -/
  | fullcharBatch
  /-- FULLCHAR_ABORT (R348): ABORT ends characterization, drops HUSK_N, opens the switches and discards the results. -/
  | fullcharAbort (m : Master) (data : Word)
  /-- MONITOR_READ (R356): Every 100 ms the slack monitors are read, and a replica below 3 % raises CORE_TIMING. -/
  | monitorRead (slack : List (Nat × Nat))
  /-- AVS_PLAN (R357): Once per second firmware raises, lowers or keeps the VDD_CORE setpoint. -/
  | avsPlan
  /-- SAFETY_TASK (R360): Every 500 µs the island judges the Glean records, confirms violations and runs the Husk monitor. -/
  | safetyTask
  /-- VIOLATION_RELEASE (R370): 1 s after a function's last confirmed violation its cause is released. -/
  | violationRelease (func : Nat)
  /-- SAFE_WATCHDOG_EXPIRE (R361): The watchdog expires, and the hardwired Husk and island restart follow. -/
  | safeWatchdogExpire
  /-- LOCKSTEP_MISMATCH (R361): A lockstep mismatch lowers HUSK_N, requests HUSK and restarts the island. -/
  | lockstepMismatch
  /-- SAFE_SRAM_UNCORRECTABLE (R361): An uncorrectable SAFE SRAM error acts as a lockstep event. -/
  | safeSramUncorrectable
  /-- ISLAND_RESTART_COMPLETE (R361): The island finishes its restart from ROM and runs its first safety task. -/
  | islandRestartComplete (kept : KeptCopies)
  /-- HUSKN_MISMATCH (R373): A HUSK_N read-back mismatch held for 20 µs idles the port's lanes and raises HUSKN_STUCK. -/
  | husknMismatch (tile : Nat)
  /-- OUTPUT_TEST_DUE (R376): Every 200 ms the island pulses one privileged output. -/
  | outputTestDue
  /-- OUTPUT_TEST_PULSE_END (R376): The pulse ends and its read-back is checked, raising a pulse fault on failure. -/
  | outputTestPulseEnd (during after : Bool)
  /-- STARTUP_OUTPUT_ROUND (R376): In step 12 of PREPARE the island pulses every output, and then sets PERMIT or DENY. -/
  | startupOutputRound (husk : Nat × Nat) (lampFail : Bool × Bool)
  /-- SAFETY_PARAM_WRITE (R362): A safety parameter write is checked and copied by the island, voiding the confirmation. -/
  | safetyParamWrite (w : ParamWrite)
  /-- CHECK_VALUE_COMPUTED (R379): The island computes the new check value within 20 ms of a change. -/
  | checkValueComputed
  /-- CONFIRM_WRITE (R380): The confirmation value is checked against the check value, and the parameters are stored or the write is refused. -/
  | confirmWrite (value : Nat)
  /-- SOURCE_RAISE (R387): A Bramble source event counts, latches, writes a record and starts the grace timer. -/
  | sourceRaise (src addr : Nat)
  /-- GRACE_EXPIRY (R390): A grace timer expires, and the source escalates by its class. -/
  | graceExpiry (src : Nat)
  /-- SOURCE_HANDLE (R392): A BRM_HANDLEDw write stops the timers of INFO and DEGRADE sources. -/
  | sourceHandle (m : Master) (w : Nat) (data : Word)
  /-- SOURCE_SHANDLE (R392): A BRM_SHANDLEDw write by the island stops the timers of sources of any class. -/
  | sourceShandle (m : Master) (w : Nat) (data : Word)
  /-- SOURCE_CLEAR (R393): A BRM_STATw write clears the latch, states and request, and writes a CLEARED record. -/
  | sourceClear (m : Master) (w : Nat) (data : Word)
  /-- COUNT_CLEAR (R393): CNTCLR clears every source count. -/
  | countClear (m : Master) (data : Word)
  /-- CLASS_WRITE (R389): A class write in Commissioning is applied, or ignored. -/
  | classWrite (m : Master) (r : Nat) (data : Word)
  /-- GRACE_WRITE (R389): A grace write in Commissioning is applied, voiding the confirmation for HUSK and DARK classes. -/
  | graceWrite (m : Master) (r : Nat) (data : Word)
  /-- PARITY_SCAN (R394): Every 1 ms Bramble scans the parity of its words, and an error acts by hardwire. -/
  | parityScan (bad : Option (Nat × Bool))
  /-- BRAMBLE_COMPARE_MISMATCH (R394): The two copies of the Bramble logic disagree, and HUSK is forced. -/
  | brambleCompareMismatch
  /-- BRM_SELF_TEST (R395): Every second the island raises BRM_TEST through BRM_INJECT.TEST. -/
  | brmSelfTest
  /-- BRM_TEST_CHECK (R395): Within 10 µs the island checks the latch, count and record, then clears the source through CLRTEST. -/
  | brmTestCheck
  /-- MSG_NEXT (R397): NEXT advances the read index of the coded-message port. -/
  | msgNext (m : Master) (data : Word)
  /-- FAULT_LOG_FLUSH (R399): Firmware programs the open sector of the flash fault log with waiting records. -/
  | faultLogFlush
  /-- MGMT_WATCHDOG (R388): After 500 ms without service MGMT_WDOG is raised. -/
  | mgmtWatchdog
  /-- ARP_REQUEST (R404): The device answers an ARP request for its address. -/
  | arpRequest (mac srcMac srcIp target : Nat)
  /-- ICMP_ECHO (R404): The device answers an ICMP echo request within its rate limit. -/
  | icmpEcho (mac srcMac srcIp dst : Nat) (data : List Byte)
  /-- ETH_LINK_DOWN (R404): A link down for 100 ms raises ETH_LINK. -/
  | ethLinkDown (mac : Nat)
  /-- CAN_FRAME_RECEIVE (R411): A CAN FD frame is filtered and reassembled into an Onoth message or an envelope. -/
  | canFrameReceive (f : CanRecv)
  /-- SEGMENT_TIMEOUT (R411): More than 50 ms between segments drops the message. -/
  | segmentTimeout (bus : Nat)
  /-- CAN_BUSOFF (R406): A controller reaches bus-off, raises CAN_BUSOFF and discards its queued frames. -/
  | canBusoff (bus : Nat)
  /-- CAN_BUSOFF_RECOVER (R406): After 128 occurrences of 11 recessive bits the controller rejoins the bus. -/
  | canBusoffRecover (bus : Nat)
  /-- ONOTH_REQUEST_ARRIVE (R412): An Onoth request is queued for its client, or answered BUSY by the bridge. -/
  | onothRequestArrive (src : NetFrom) (message : List Byte)
  /-- READ (R428): The READ service returns an object's value. -/
  | read
  /-- WRITE (R428): The WRITE service checks and writes an object. -/
  | write
  /-- READ_SNAP (R413): READ_SNAP captures up to 16 objects with one strobe. -/
  | readSnap
  /-- DOM_READ (R414): DOM_READ returns a piece of a DOMAIN object. -/
  | domRead
  /-- DOM_BEGIN (R414): DOM_BEGIN opens a write session after checking access, mode and size. -/
  | domBegin
  /-- DOM_WRITE (R414): DOM_WRITE stages a piece of the new value. -/
  | domWrite
  /-- DOM_END (R414): DOM_END checks completeness and CRC, then the object takes the whole value or refuses it. -/
  | domEnd
  /-- DOM_ABORT (R414): DOM_ABORT ends the session without changing the object. -/
  | domAbort
  /-- DOM_SESSION_TIMEOUT (R414): A session without a request for 2 s ends. -/
  | domSessionTimeout (client : Nat)
  /-- REQUEST_WAIT_TIMEOUT (R448): A request waiting WAIT_MS is answered BUSY. -/
  | requestWaitTimeout
  /-- ENVELOPE_RECEIVE (R419): The island checks an envelope, and accepts, copies or rejects it. -/
  | envelopeReceive (src : NetFrom) (dstPort : Nat) (bytes : List Byte)
  /-- ENV_TIMER_EXPIRY (R420): A connection's timer reaches EXPECT_MS, and the connection enters TIMEOUT. -/
  | envTimerExpiry (c : Nat)
  /-- ENVELOPE_PRODUCE (R422): Every EXPECT_MS a producer builds and sends its status envelope. -/
  | envelopeProduce (c : Nat)
  /-- ENV_CONFIG_WRITE (R416): A connection configuration write is checked by the island, copied, and voids the confirmation. -/
  | envConfigWrite (c sub : Nat) (value : List Byte)
  /-- COMMISSION_ENTER (R437): A write of 1 to COMMISSION enters Commissioning in STANDBY with the lamp demand false. -/
  | commissionEnter
  /-- COMMISSION_LEAVE (R437): A write of 0 leaves Commissioning and stores the retained objects. -/
  | commissionLeave
  /-- DICT_STORE (R433): STORE writes the changed retained values to the dictionary store. -/
  | dictStore
  /-- DEFAULTS (R436): DEFAULTS resets every unsealed retained object to its default. -/
  | defaults
  /-- SEAL (R438): SEAL seals the named groups with a key. -/
  | seal (value : Nat)
  /-- UNSEAL (R438): UNSEAL unseals the named groups when the keys match, and counts refusals. -/
  | unseal (value : Nat)
  /-- ROLLBACK_ADV (R437): ROLLBACK_ADV programs the rollback fuse counter in Commissioning. -/
  | rollbackAdv (value : Nat)
  /-- CLEAR_PEAK (R447): CLEAR_PEAK clears the peak management load. -/
  | clearPeak
  /-- RISEN_CLEAR (R441): A write to RISEN clears the bits written with 1. -/
  | risenClear (value : Word)
  /-- ATTENTION_EVAL (R441): Every 1 ms firmware evaluates the attention flags and counts rises. -/
  | attentionEval
  /-- LOAD_UPDATE (R447): Every 10 ms the management load is updated, and background work is deferred or resumed. -/
  | loadUpdate (load : Nat)
  /-- HSPI_DOOR (R446): A DOOR write with a new TOKEN submits the host SPI request slot. -/
  | hspiDoor (m : Master) (data : Word)
  /-- TUNNEL_POST (R463): POST writes and posts a tunnel channel message, or answers BUSY. -/
  | tunnelPost (n : Nat) (data : List Byte)
  /-- TUNNEL_TAKE (R463): TAKE returns the posted message and writes SEEN. -/
  | tunnelTake (n : Nat)
  /-- TUNNEL_ACK (R463): ACK acknowledges a tunnel message, or answers REFUSED when stale. -/
  | tunnelAck (n : Nat) (value : Nat)
  /-- MBX_DOOR (R455): A DOOR write posts the staging buffer, advancing SEQ, or collides or errs. -/
  | mbxDoor (m : Master) (n : Nat) (data : Word)
  /-- MBX_SEEN (R457): A SEEN write copies SEQ into RDSEQ. -/
  | mbxSeen (m : Master) (n : Nat) (data : Word)
  /-- MBX_ACK (R458): An ACK with matching SEQ empties the channel, and any other is stale. -/
  | mbxAck (m : Master) (n : Nat) (data : Word)
  /-- MBX_CFG_WRITE (R453): A channel configuration write is applied while EN is 0, or ignored and CFGREF set. -/
  | mbxCfgWrite (m : Master) (n : Nat) (data : Word)
  /-- MBX_EPRST (R461): The host writes an endpoint reset of master 2. -/
  | mbxEprst (m : Master) (data : Word)
  /-- MGMT_CORE_RESET (R461): A reset of the management processor core outside a device reset acts as an endpoint reset of master 1. -/
  | mgmtCoreReset
  /-- LOCK_ACQUIRE (R465): A read of SEM_LOCKk acquires a free lock or returns the holder. -/
  | lockAcquire (m : Master) (k : Nat)
  /-- LOCK_RELEASE (R467): RELEASE by the holder frees the lock, and any other RELEASE is counted. -/
  | lockRelease (m : Master) (n : Nat) (data : Word)
  /-- LOCK_FORCE (R467): FORCE by the safety island frees any lock. -/
  | lockForce (m : Master) (n : Nat) (data : Word)
  /-- CVU_START (R470): START loads the CVU configuration, or is refused with CFGERR. -/
  | cvuStart (m : Master) (n : Nat) (data : Word)
  /-- CVU_DIN8 (R471): A DIN8 write feeds one byte. -/
  | cvuDin8 (m : Master) (n : Nat) (data : Word)
  /-- CVU_DIN16 (R471): A DIN16 write feeds two bytes. -/
  | cvuDin16 (m : Master) (n : Nat) (data : Word)
  /-- CVU_DIN32 (R471): A DIN32 write feeds four bytes. -/
  | cvuDin32 (m : Master) (n : Nat) (data : Word)
  /-- CVU_FEED_COMPLETE (R471): The unit has taken every byte fed, and held-off accesses proceed. -/
  | cvuFeedComplete (n : Nat)
  /-- CVU_RAW_WRITE (R471): A CVU_RAW write loads the CRC register directly. -/
  | cvuRawWrite (m : Master) (n : Nat) (data : Word)
  /-- CVU_ALIVE_INC (R473): INC advances the alive counter. -/
  | cvuAliveInc (m : Master) (n : Nat) (data : Word)
  /-- CVU_ACHK_WRITE (R473): A received alive value sets DELTA, STUCKRUN and JUMP. -/
  | cvuAchkWrite (m : Master) (n : Nat) (data : Word)
  /-- CVU_ACFG_WRITE (R476): A CVU_ACFG write is applied, or ignored and CFGERR set. -/
  | cvuAcfgWrite (m : Master) (n : Nat) (data : Word)
  /-- ETH_LINK_UP (R404): An Ethernet MAC's link comes back up, NET_LINKSTAT shows it up, and the pending 100 ms link-down timer stops. -/
  | ethLinkUp (mac : Nat)
  /-- SECTOR_PROGRAM_COMPLETE (R342): A flash sector program finishes, and firmware moves on to check and program the next sector of the slot, or marks the store done or failed. -/
  | sectorProgramComplete
  /-- TRIM_DUE (R345): CAL_TRIMPER.TRIM_S seconds after a tile's last trim, firmware starts a new forward-voltage trim of that tile. -/
  | trimDue (t : Nat)
  deriving DecidableEq, Repr

end Sys2Proof
end

