-- ==== Sys2Proof/Decode.lean ====
section
/-!
DEFINITION. The word form of a command. Every row of spec/opcode_table.json is a command given by its effect and none has bits: the
PLS2104 has no instruction encoding, so no word spells a command (notes/assumptions/1.md).
-/

namespace Sys2Proof

/-- The command that a word spells by the table's bits: none, since no row of the table has bits. -/
def decodeTableWord (_nbits _w : Nat) : Option Instr := none

end Sys2Proof
end

