-- ==== Sys2Proof/Machine/Bits.lean ====
section
/-!
DEFINITION. Bit fields, two's complement, rounding and byte order: R8 (little-endian), R9 (signed integers), R10 (rounding to
nearest with ties away from zero, saturation), R12 (bit fields).
-/

namespace Sys2Proof.Machine

/-- Bits [hi:lo] of a number (R12). -/
def bitsOf (w hi lo : Nat) : Nat := w / 2 ^ lo % 2 ^ (hi + 1 - lo)

/-- A number with bits [hi:lo] replaced (R12). -/
def setBits (w hi lo v : Nat) : Nat :=
  w - bitsOf w hi lo * 2 ^ lo + v % 2 ^ (hi + 1 - lo) * 2 ^ lo

/-- Bit n of a number as a Bool. -/
def bitAt (w n : Nat) : Bool := w / 2 ^ n % 2 == 1

/-- 1 for true, 0 for false. -/
def b2n (b : Bool) : Nat := if b then 1 else 0

/-- The value of an n-bit two's-complement field (R9). -/
def toSigned (n v : Nat) : Int :=
  let u := v % 2 ^ n
  if 2 ^ (n - 1) ≤ u then (u : Int) - (2 ^ n : Nat) else u

/-- An integer as an n-bit two's-complement field, wrapped to the width (R9). -/
def ofSigned (n : Nat) (i : Int) : Nat := (i % ((2 ^ n : Nat) : Int)).toNat

/-- The nearest end of [lo, hi] for a value outside it (R10). -/
def clampInt (lo hi i : Int) : Int := if i < lo then lo else if hi < i then hi else i

/-- Saturation to an n-bit signed field (R10). -/
def satSigned (n : Nat) (i : Int) : Int := clampInt (-((2 ^ (n - 1) : Nat) : Int)) (((2 ^ (n - 1) : Nat) : Int) - 1) i

/-- Saturation to an n-bit unsigned field (R10). -/
def satNat (n v : Nat) : Nat := min v (2 ^ n - 1)

/-- Division rounded to nearest, ties away from zero (R10); 0 for a zero divisor. -/
def divRound (a : Int) (b : Nat) : Int :=
  if b = 0 then 0 else
  if 0 ≤ a then ((2 * a + b) / (2 * b : Int)) else -((2 * (-a) + b) / (2 * b : Int))

/-- Division rounded to nearest of natural numbers, ties up (R10). -/
def divRoundNat (a b : Nat) : Nat := if b = 0 then 0 else (2 * a + b) / (2 * b)

/-- Division rounded up. -/
def ceilDiv (a b : Nat) : Nat := if b = 0 then 0 else (a + b - 1) / b

/-- The number of bits that are 1 among the lowest n. -/
def popcount (n w : Nat) : Nat := (List.range n).foldl (fun k i => k + w / 2 ^ i % 2) 0

/-- The positions, lowest first, of the bits that are 1 among the lowest n. -/
def bitList (n w : Nat) : List Nat := (List.range n).filter (bitAt w)

/-- The number whose bits, lowest first, a list gives. -/
def ofBits : List Bool → Nat
  | [] => 0
  | b :: bs => b2n b + 2 * ofBits bs

/-- The n bytes of a number, lowest first (R8). -/
def leBytes : Nat → Nat → List Byte
  | 0, _ => []
  | n + 1, v => BitVec.ofNat 8 v :: leBytes n (v / 256)

/-- The number that bytes, lowest first, hold (R8). -/
def ofLeBytes : List Byte → Nat
  | [] => 0
  | b :: bs => b.toNat + 256 * ofLeBytes bs

/-- The number that bytes, highest first, hold: the network order of standard headers (R8). -/
def ofBeBytes (bs : List Byte) : Nat := bs.foldl (fun v b => 256 * v + b.toNat) 0

/-- A little-endian field of a byte string. -/
def leAt (bs : List Byte) (off n : Nat) : Nat := ofLeBytes ((bs.drop off).take n)

/-- The n bits of a number in reverse order. -/
def reflect : Nat → Nat → Nat
  | 0, _ => 0
  | n + 1, v => v % 2 * 2 ^ n + reflect n (v / 2)

/-- Exclusive or of naturals, named for the text of the rules. -/
def xorNat (a b : Nat) : Nat := Nat.xor a b

/-- The floor of the square root, by bisection on the given number of bits. -/
def sqrtBits : Nat → Nat → Nat → Nat
  | 0, _, r => r
  | k + 1, n, r => if (r + 2 ^ k) * (r + 2 ^ k) ≤ n then sqrtBits k n (r + 2 ^ k) else sqrtBits k n r

/-- The floor of the square root of a number below 2^128. -/
def isqrt (n : Nat) : Nat := sqrtBits 64 n 0

/-- The elements of a list that stand at even distance: used to split coordinate lists. -/
def sumNat (l : List Nat) : Nat := l.foldl (· + ·) 0

end Sys2Proof.Machine
end

