-- ==== Sys2Proof/Machine/Flags.lean ====
section
/-!
DEFINITION. Check codes: the cyclic redundancy checks of R191, R257, R418 and of the check-value units (R469), written as R469
computes them, bit by bit.
-/

namespace Sys2Proof.Machine

/-- The parameters of a check (R469); the polynomial and the initial value are written unreflected. -/
structure CrcSpec where
  width : Nat
  poly : Nat
  init : Nat
  xorOut : Nat
  refIn : Bool
  refOut : Bool
  deriving DecidableEq, Repr

/-- One bit fed (R469). -/
def crcBit (width poly reg : Nat) (bit : Bool) : Nat :=
  let top := bitAt reg (width - 1)
  let reg := 2 * reg % 2 ^ width
  if top != bit then xorNat reg poly else reg

/-- One byte fed, its low or its high bit first (R469). -/
def CrcSpec.byte (c : CrcSpec) (reg b : Nat) : Nat :=
  (List.range 8).foldl (fun r i => crcBit c.width c.poly r (bitAt b (if c.refIn then i else 7 - i))) reg

/-- The register at the start (R469). -/
def CrcSpec.start (c : CrcSpec) : Nat := c.init % 2 ^ c.width

/-- The result that a register stands for (R469). -/
def CrcSpec.result (c : CrcSpec) (reg : Nat) : Nat :=
  xorNat (if c.refOut then reflect c.width reg else reg) c.xorOut % 2 ^ c.width

/-- The check over a string of bytes. -/
def CrcSpec.digest (c : CrcSpec) (bs : List Byte) : Nat :=
  c.result (bs.foldl (fun r b => c.byte r b.toNat) c.start)

/-- The CRC-32 of R191. -/
def crc32Spec : CrcSpec := ⟨32, 0x04C11DB7, 0xFFFFFFFF, 0xFFFFFFFF, true, true⟩

/-- The CRC-16 of R257. -/
def crc16Spec : CrcSpec := ⟨16, 0x1021, 0xFFFF, 0, false, false⟩

/-- The CRC-32 of the status envelope (R418). -/
def envCrcSpec : CrcSpec := ⟨32, 0xF4ACFB13, 0xFFFFFFFF, 0xFFFFFFFF, true, true⟩

/-- The CRC-32 of R191 over bytes. -/
def crc32 (bs : List Byte) : Nat := crc32Spec.digest bs

/-- The CRC-16 of R257 over bytes. -/
def crc16 (bs : List Byte) : Nat := crc16Spec.digest bs

end Sys2Proof.Machine
end

