-- ==== Sys2Proof/Machine/SatCode.lean ====
section
/-!
DEFINITION. The line code of the satellite chains: frames and Manchester coding (R281, R282).
-/

namespace Sys2Proof.Machine

/-- The 8-byte header of a frame (R282). -/
def satHeader (dest cmd flags len first : Nat) : List Byte :=
  leBytes 2 dest ++ leBytes 1 cmd ++ leBytes 1 flags ++ leBytes 2 len ++ leBytes 2 first

/-- Header, payload and CRC-16 of a frame that the device sends: FLAGS is 0 on the way down (R281, R282). -/
def satBytes (dest cmd first : Nat) (payload : List Byte) : List Byte :=
  let h := satHeader dest cmd 0 payload.length first
  h ++ payload ++ leBytes 2 (crc16 (h ++ payload))

/-- A bit as the levels of its two halves, high for Sn_A above Sn_B: 1 rises and 0 falls at mid-bit (R281). -/
def manchester (b : Bool) : List Bool := [!b, b]

/-- A frame on the line, in half bit times: preamble, start byte, the bytes least significant bit first, and the end mark of 2 tb high (R281). -/
def satLevels (bytes : List Byte) : List Bool :=
  let bits := List.replicate 16 true ++ (0x5D#8 :: bytes).flatMap fun b => (List.range 8).map fun i => b.getLsbD i
  bits.flatMap manchester ++ List.replicate 4 true

/-- A frame as received (R282). -/
structure SatFrame where
  dest : Nat
  cmd : Nat
  flags : Nat
  first : Nat
  payload : List Byte
  deriving DecidableEq, Repr

/-- The bits of a line up to the first without a transition at mid-bit, and the levels from there on (R281). -/
def manchesterBits : List Bool → List Bool × List Bool
  | a :: b :: rest => if a = b then ([], a :: b :: rest) else (b :: (manchesterBits rest).1, (manchesterBits rest).2)
  | rest => ([], rest)

/-- The bytes of bits, least significant first. -/
def satUnbits (bits : List Bool) : List Byte :=
  (List.range (bits.length / 8)).map fun i => BitVec.ofNat 8 (ofBits ((bits.drop (8 * i)).take 8))

/-- The frame on a line, or none for a Manchester violation before the end mark, a wrong CRC, or a length that is not LEN's (R281, R282, R284). -/
def satDecode (line : List Bool) : Option SatFrame :=
  let (bits, rest) := manchesterBits line
  let bytes := satUnbits (bits.drop 24)
  let body := bytes.take (bytes.length - 2)
  let n := leAt bytes 4 2
  if rest.take 4 = List.replicate 4 true && bits.take 16 = List.replicate 16 true && satUnbits ((bits.drop 16).take 8) = [0x5D#8]
    && bits.length = 24 + 8 * (10 + n) && leAt bytes (8 + n) 2 = crc16 body then
    some { dest := leAt bytes 0 2, cmd := leAt bytes 2 1, flags := leAt bytes 3 1, first := leAt bytes 6 2, payload := (bytes.drop 8).take n }
  else none

/-- END: the last node turned the frame; UNADDR: a node with address 0 forwarded it (R282). -/
def SatFrame.ended (f : SatFrame) : Bool := bitAt f.flags 1
def SatFrame.unaddr (f : SatFrame) : Bool := bitAt f.flags 2

/-- Pixel cycles of a bit time, 200 ns (R281). -/
def satBit : Nat := 120

/-- Pixel cycles of a frame with a payload of n bytes (R282). -/
def satLen (n : Nat) : Nat := (106 + 8 * n) * satBit

end Sys2Proof.Machine
end

