-- ==== Sys2Proof/Config.lean ====
section
/-!
DEFINITION. What an implementation or an outside standard fixes: free values (results the manual leaves open) and functions
of other standards that the manual names without restating them. Every constant here has no body, so that no proof can
see its value: a statement about one holds for every value (notes/assumptions/5.md and 6.md).
-/

namespace Sys2Proof.Config

/-- The k-th free value that the machine draws, where the manual leaves a value open (notes/assumptions/5.md). -/
opaque freeValue : Nat → Nat

/-- SHA-256 of a byte string, as R104 and R105 use it (notes/assumptions/6.md). -/
opaque sha256 : List Byte → List Byte

/-- Whether an ECDSA P-256 signature (r, s) verifies over a byte string under a public key (x, y), as R105 uses it. -/
opaque ecdsaVerify : (pubkey : List Byte) → (signature : List Byte) → (message : List Byte) → Bool

/-- The fused key hash of key slot 0–2 (R105). -/
opaque keyHash : Nat → List Byte

/-- Whether key slot 0–2 is revoked in the fuses (R105). -/
opaque keyRevoked : Nat → Bool

/-- The device key in the fuses (R114). -/
opaque deviceKey : Nat

/-- Whether an address of the dictionary SRAM lies in the Onoth request area, where the network bridge may write (R37): the manual places the slot of
host SPI there (R446) and not the area. -/
opaque onothArea : Nat → Bool

/-- Whether an address of DRAM lies in an object-list buffer (R37), which the manual does not place. -/
opaque listBuffer : Nat → Bool

/-- The CRC that a render unit writes of its finished band, over the mask codes of the band (R212): the manual gives no polynomial. -/
opaque maskCrc : List Nat → Nat

/-- The IDCODE word of IEEE 1149.1, which the manual does not state (R113). -/
opaque idcode : Nat

/-- The device serial in the fuses, 64 bits (R435). -/
opaque serial : Nat

/-- The ARG of the REG_WRITE that starts a trim of the sense channel: the MT512 defines it (R344, R259). -/
opaque trimCommand : Nat

/-- The error of the parallax correction in 10⁻⁶ mdeg, for an offset and a distance in mm, of which R196 states only the bound of
±1 mdeg; the machine limits it to that bound. -/
opaque parallaxError : (ofsMm : Int) → (distMm : Nat) → Int

/-- What a lane's transmitter holds after idle blocks, at the start of a transfer at a time (R248, R251, R254): 58 line bits, an index, a BIP
(notes/assumptions/53.md). -/
opaque laneIdle : (port : Nat) → (lane : Nat) → (time : Nat) → Nat

end Sys2Proof.Config
end

