-- ==== Sys2Proof/Machine/RegMap.lean ====
section
/-!
DEFINITION. The register map of the PLS2104 (R40 and the register tables of every chapter): where each register and
each of its fields lies, its access code (R16) and its reset value. Names are the manual's without the index letters;
an indexed register takes its indices as arguments, in the order of the manual's name.
-/

namespace Sys2Proof.Machine

/-- A register field: the address of its register and its bits [hi:lo] (R12, R15). -/
structure Fld where
  addr : Nat
  hi : Nat
  lo : Nat
  deriving DecidableEq, Repr

/-- The register access codes of R16. -/
inductive Acc where
  | rw | ro | wo | w1c | w1s | rws | rsi
  deriving DecidableEq, Repr

/-- One row of a register table: bits, access code, reset value. -/
structure FieldDef where
  hi : Nat
  lo : Nat
  acc : Acc
  reset : Nat
  deriving DecidableEq, Repr

/-- One register of a block: its first offset, the (count, stride) of each of its indices, its fields. -/
structure RegDef where
  base : Nat
  dims : List (Nat × Nat)
  fields : List FieldDef
  deriving DecidableEq, Repr

def R.SYS_BLKOWN : Nat := 0x40000010
def R.SYS_BUSERR_ADDR : Nat := 0x40000020
def R.SYS_BUSERR_INFO : Nat := 0x40000024
def F.SYS_BUSERR_INFO_MASTER : Fld := ⟨R.SYS_BUSERR_INFO, 2, 0⟩
def F.SYS_BUSERR_INFO_WRITE : Fld := ⟨R.SYS_BUSERR_INFO, 3, 3⟩
def F.SYS_BUSERR_INFO_CAUSE : Fld := ⟨R.SYS_BUSERR_INFO, 6, 4⟩
def F.SYS_BUSERR_INFO_VALID : Fld := ⟨R.SYS_BUSERR_INFO, 7, 7⟩
def F.SYS_BUSERR_INFO_COUNT : Fld := ⟨R.SYS_BUSERR_INFO, 31, 16⟩
def R.PWR_MODE : Nat := 0x40010000
def F.PWR_MODE_MODE : Fld := ⟨R.PWR_MODE, 2, 0⟩
def F.PWR_MODE_COMM : Fld := ⟨R.PWR_MODE, 3, 3⟩
def F.PWR_MODE_BUSY : Fld := ⟨R.PWR_MODE, 4, 4⟩
def F.PWR_MODE_DEMAND : Fld := ⟨R.PWR_MODE, 5, 5⟩
def F.PWR_MODE_PREV : Fld := ⟨R.PWR_MODE, 10, 8⟩
def F.PWR_MODE_CAUSE : Fld := ⟨R.PWR_MODE, 23, 16⟩
def R.PWR_MODEREQ : Nat := 0x40010004
def F.PWR_MODEREQ_REQ : Fld := ⟨R.PWR_MODEREQ, 0, 0⟩
def F.PWR_MODEREQ_REFUSED : Fld := ⟨R.PWR_MODEREQ, 16, 16⟩
def R.PWR_RUNGATE : Nat := 0x40010008
def F.PWR_RUNGATE_PERMIT : Fld := ⟨R.PWR_RUNGATE, 0, 0⟩
def F.PWR_RUNGATE_DENY : Fld := ⟨R.PWR_RUNGATE, 7, 4⟩
def R.PWR_DOMSTAT : Nat := 0x4001000C
def F.PWR_DOMSTAT_ON : Fld := ⟨R.PWR_DOMSTAT, 11, 0⟩
def F.PWR_DOMSTAT_FAILED : Fld := ⟨R.PWR_DOMSTAT, 27, 16⟩
def R.PWR_DOMCTL : Nat := 0x40010010
def F.PWR_DOMCTL_VIN : Fld := ⟨R.PWR_DOMCTL, 4, 4⟩
def F.PWR_DOMCTL_LIGHT : Fld := ⟨R.PWR_DOMCTL, 11, 6⟩
def R.PWR_PADHOLD : Nat := 0x40010014
def F.PWR_PADHOLD_GROUP : Fld := ⟨R.PWR_PADHOLD, 10, 0⟩
def R.PWR_WAKECFG : Nat := 0x40010018
def F.PWR_WAKECFG_EN1 : Fld := ⟨R.PWR_WAKECFG, 8, 8⟩
def R.PWR_WAKESTAT : Nat := 0x4001001C
def F.PWR_WAKESTAT_PIN : Fld := ⟨R.PWR_WAKESTAT, 3, 0⟩
def F.PWR_WAKESTAT_LAMPREQ : Fld := ⟨R.PWR_WAKESTAT, 4, 4⟩
def F.PWR_WAKESTAT_TIMER : Fld := ⟨R.PWR_WAKESTAT, 5, 5⟩
def F.PWR_WAKESTAT_LATCHED : Fld := ⟨R.PWR_WAKESTAT, 8, 8⟩
def F.PWR_WAKESTAT_LAMPREQ_LVL : Fld := ⟨R.PWR_WAKESTAT, 16, 16⟩
def F.PWR_WAKESTAT_PIN_LVL : Fld := ⟨R.PWR_WAKESTAT, 23, 20⟩
def R.PWR_WAKETIMER : Nat := 0x40010020
def F.PWR_WAKETIMER_SECONDS : Fld := ⟨R.PWR_WAKETIMER, 23, 0⟩
def R.PWR_SLEEP : Nat := 0x40010024
def F.PWR_SLEEP_RESULT : Fld := ⟨R.PWR_SLEEP, 7, 4⟩
def R.PWR_RSTCAUSE : Nat := 0x40010028
def F.PWR_RSTCAUSE_PIN : Fld := ⟨R.PWR_RSTCAUSE, 1, 1⟩
def F.PWR_RSTCAUSE_DORMANT : Fld := ⟨R.PWR_RSTCAUSE, 2, 2⟩
def F.PWR_RSTCAUSE_TEST : Fld := ⟨R.PWR_RSTCAUSE, 3, 3⟩
def R.BIST_CTRL : Nat := 0x40030000
def F.BIST_CTRL_REFUSED : Fld := ⟨R.BIST_CTRL, 16, 16⟩
def R.BIST_STATUS : Nat := 0x40030004
def F.BIST_STATUS_TARGET : Fld := ⟨R.BIST_STATUS, 3, 0⟩
def F.BIST_STATUS_RUNNING : Fld := ⟨R.BIST_STATUS, 4, 4⟩
def F.BIST_STATUS_DONE : Fld := ⟨R.BIST_STATUS, 5, 5⟩
def F.BIST_STATUS_SLICE : Fld := ⟨R.BIST_STATUS, 15, 8⟩
def R.BIST_UNUSABLE : Nat := 0x40030008
def F.BIST_UNUSABLE_TARGET : Fld := ⟨R.BIST_UNUSABLE, 10, 0⟩
def F.BIST_UNUSABLE_SCALER : Fld := ⟨R.BIST_UNUSABLE, 23, 16⟩
def R.BIST_SPARE : Nat := 0x4003000C
def F.BIST_SPARE_CMP_LANE : Fld := ⟨R.BIST_SPARE, 3, 0⟩
def F.BIST_SPARE_CMP_DEGRADED : Fld := ⟨R.BIST_SPARE, 4, 4⟩
def F.BIST_SPARE_SCN_BANK : Fld := ⟨R.BIST_SPARE, 12, 8⟩
def F.BIST_SPARE_ROWS_USED : Fld := ⟨R.BIST_SPARE, 31, 16⟩
def R.BIST_BOOT : Nat := 0x40030010
def F.BIST_BOOT_SLOT : Fld := ⟨R.BIST_BOOT, 0, 0⟩
def F.BIST_BOOT_FALLBACK : Fld := ⟨R.BIST_BOOT, 1, 1⟩
def F.BIST_BOOT_RECOVERY : Fld := ⟨R.BIST_BOOT, 2, 2⟩
def F.BIST_BOOT_DONE : Fld := ⟨R.BIST_BOOT, 3, 3⟩
def F.BIST_BOOT_FAIL_A : Fld := ⟨R.BIST_BOOT, 7, 4⟩
def F.BIST_BOOT_FAIL_B : Fld := ⟨R.BIST_BOOT, 11, 8⟩
def F.BIST_BOOT_ROLLBACK : Fld := ⟨R.BIST_BOOT, 17, 12⟩
def R.BIST_BOOTVER : Nat := 0x40030014
def R.BIST_HUSKPATH : Nat := 0x40030018
def F.BIST_HUSKPATH_STRAP : Fld := ⟨R.BIST_HUSKPATH, 10, 8⟩
def F.BIST_HUSKPATH_HANDED : Fld := ⟨R.BIST_HUSKPATH, 16, 16⟩
def R.BIST_TESTSTAT : Nat := 0x4003001C
def F.BIST_TESTSTAT_TESTONLY : Fld := ⟨R.BIST_TESTSTAT, 0, 0⟩
def F.BIST_TESTSTAT_ZEROIZED : Fld := ⟨R.BIST_TESTSTAT, 1, 1⟩
def F.BIST_TESTSTAT_REFUSED : Fld := ⟨R.BIST_TESTSTAT, 15, 8⟩
def R.BIST_REC_OUT (n : Nat) : Nat := 0x40030100 + 0x8 * n
def F.BIST_REC_OUT_OUTCOME (n : Nat) : Fld := ⟨R.BIST_REC_OUT n, 2, 0⟩
def F.BIST_REC_OUT_SLICES (n : Nat) : Fld := ⟨R.BIST_REC_OUT n, 11, 8⟩
def F.BIST_REC_OUT_DURATION (n : Nat) : Fld := ⟨R.BIST_REC_OUT n, 31, 16⟩
def R.BIST_REC_COV (n : Nat) : Nat := 0x40030104 + 0x8 * n
def F.BIST_REC_COV_COVERAGE (n : Nat) : Fld := ⟨R.BIST_REC_COV n, 9, 0⟩
def F.BIST_REC_COV_FAIL_ROWS (n : Nat) : Fld := ⟨R.BIST_REC_COV n, 23, 16⟩
def F.BIST_REC_COV_REPAIRED (n : Nat) : Fld := ⟨R.BIST_REC_COV n, 31, 24⟩
def R.VIN_CTRL : Nat := 0x40060000
def F.VIN_CTRL_E0_VID : Fld := ⟨R.VIN_CTRL, 0, 0⟩
def F.VIN_CTRL_OL_EN : Fld := ⟨R.VIN_CTRL, 2, 2⟩
def F.VIN_CTRL_GPTP_PORT : Fld := ⟨R.VIN_CTRL, 4, 4⟩
def F.VIN_CTRL_GPTP_EN : Fld := ⟨R.VIN_CTRL, 5, 5⟩
def R.VIN_TIMESTAT : Nat := 0x40060004
def F.VIN_TIMESTAT_STATE : Fld := ⟨R.VIN_TIMESTAT, 1, 0⟩
def F.VIN_TIMESTAT_STEPS : Fld := ⟨R.VIN_TIMESTAT, 15, 8⟩
def F.VIN_TIMESTAT_OFFSET : Fld := ⟨R.VIN_TIMESTAT, 31, 16⟩
def R.VIN_DROP : Nat := 0x40060008
def F.VIN_DROP_ERX0 : Fld := ⟨R.VIN_DROP, 7, 0⟩
def F.VIN_DROP_ERX1 : Fld := ⟨R.VIN_DROP, 15, 8⟩
def F.VIN_DROP_UNKNOWN : Fld := ⟨R.VIN_DROP, 23, 16⟩
def F.VIN_DROP_IMU : Fld := ⟨R.VIN_DROP, 31, 24⟩
def R.VIN_OLCFG : Nat := 0x40060010
def F.VIN_OLCFG_PORT : Fld := ⟨R.VIN_OLCFG, 15, 0⟩
def F.VIN_OLCFG_MAXAGE : Fld := ⟨R.VIN_OLCFG, 22, 16⟩
def F.VIN_OLCFG_ENV : Fld := ⟨R.VIN_OLCFG, 24, 24⟩
def R.VIN_OLSRC : Nat := 0x40060014
def F.VIN_OLSRC_SOURCE : Fld := ⟨R.VIN_OLSRC, 15, 0⟩
def R.VIN_OLIP : Nat := 0x40060018
def F.VIN_OLIP_IP : Fld := ⟨R.VIN_OLIP, 31, 0⟩
def R.VIN_OLSTAT : Nat := 0x4006001C
def F.VIN_OLSTAT_SEQ : Fld := ⟨R.VIN_OLSTAT, 15, 0⟩
def F.VIN_OLSTAT_COUNT : Fld := ⟨R.VIN_OLSTAT, 22, 16⟩
def F.VIN_OLSTAT_CAUSE : Fld := ⟨R.VIN_OLSTAT, 27, 24⟩
def R.VIN_OLCNT : Nat := 0x40060020
def F.VIN_OLCNT_ACCEPTED : Fld := ⟨R.VIN_OLCNT, 15, 0⟩
def F.VIN_OLCNT_REJECTED : Fld := ⟨R.VIN_OLCNT, 31, 16⟩
def R.VIN_OLCNT2 : Nat := 0x40060024
def F.VIN_OLCNT2_OBJDROP : Fld := ⟨R.VIN_OLCNT2, 15, 0⟩
def F.VIN_OLCNT2_SEQGAP : Fld := ⟨R.VIN_OLCNT2, 31, 16⟩
def R.VIN_IMUCFG : Nat := 0x40060030
def F.VIN_IMUCFG_EN : Fld := ⟨R.VIN_IMUCFG, 0, 0⟩
def F.VIN_IMUCFG_TRIG : Fld := ⟨R.VIN_IMUCFG, 2, 1⟩
def F.VIN_IMUCFG_AVG : Fld := ⟨R.VIN_IMUCFG, 5, 4⟩
def F.VIN_IMUCFG_STUCKCHK : Fld := ⟨R.VIN_IMUCFG, 6, 6⟩
def F.VIN_IMUCFG_CMDLEN : Fld := ⟨R.VIN_IMUCFG, 11, 8⟩
def F.VIN_IMUCFG_RSPLEN : Fld := ⟨R.VIN_IMUCFG, 15, 12⟩
def R.VIN_IMUTIME : Nat := 0x40060034
def F.VIN_IMUTIME_PERIOD : Fld := ⟨R.VIN_IMUTIME, 13, 0⟩
def F.VIN_IMUTIME_LAT_US : Fld := ⟨R.VIN_IMUTIME, 25, 16⟩
def R.VIN_IMUCMD (n : Nat) : Nat := 0x40060038 + 0x4 * n
def F.VIN_IMUCMD_BYTES (n : Nat) : Fld := ⟨R.VIN_IMUCMD n, 31, 0⟩
def R.VIN_IMUMAP : Nat := 0x40060048
def F.VIN_IMUMAP_YAW_OFS : Fld := ⟨R.VIN_IMUMAP, 3, 0⟩
def F.VIN_IMUMAP_PITCH_OFS : Fld := ⟨R.VIN_IMUMAP, 7, 4⟩
def F.VIN_IMUMAP_YAW_NEG : Fld := ⟨R.VIN_IMUMAP, 8, 8⟩
def F.VIN_IMUMAP_PITCH_NEG : Fld := ⟨R.VIN_IMUMAP, 9, 9⟩
def F.VIN_IMUMAP_BE : Fld := ⟨R.VIN_IMUMAP, 10, 10⟩
def F.VIN_IMUMAP_STAT_EN : Fld := ⟨R.VIN_IMUMAP, 11, 11⟩
def F.VIN_IMUMAP_STAT_OFS : Fld := ⟨R.VIN_IMUMAP, 15, 12⟩
def F.VIN_IMUMAP_STAT_MASK : Fld := ⟨R.VIN_IMUMAP, 23, 16⟩
def R.VIN_IMUSCALE : Nat := 0x4006004C
def F.VIN_IMUSCALE_SCALE : Fld := ⟨R.VIN_IMUSCALE, 31, 0⟩
def R.VIN_IMUGEN : Nat := 0x40060050
def R.VIN_IMUSTAT : Nat := 0x40060054
def F.VIN_IMUSTAT_STATE : Fld := ⟨R.VIN_IMUSTAT, 1, 0⟩
def F.VIN_IMUSTAT_OVERRUN : Fld := ⟨R.VIN_IMUSTAT, 15, 8⟩
def F.VIN_IMUSTAT_DISCARD : Fld := ⟨R.VIN_IMUSTAT, 23, 16⟩
def R.VIN_IMURATE : Nat := 0x40060058
def F.VIN_IMURATE_YAW : Fld := ⟨R.VIN_IMURATE, 15, 0⟩
def F.VIN_IMURATE_PITCH : Fld := ⟨R.VIN_IMURATE, 31, 16⟩
def R.VIN_STR_IDLO (n : Nat) : Nat := 0x40060100 + 0x40 * n
def F.VIN_STR_IDLO_ID (n : Nat) : Fld := ⟨R.VIN_STR_IDLO n, 31, 0⟩
def R.VIN_STR_IDHI (n : Nat) : Nat := 0x40060104 + 0x40 * n
def F.VIN_STR_IDHI_ID (n : Nat) : Fld := ⟨R.VIN_STR_IDHI n, 31, 0⟩
def R.VIN_STR_CFG (n : Nat) : Nat := 0x40060108 + 0x40 * n
def F.VIN_STR_CFG_EN (n : Nat) : Fld := ⟨R.VIN_STR_CFG n, 0, 0⟩
def F.VIN_STR_CFG_MAC (n : Nat) : Fld := ⟨R.VIN_STR_CFG n, 2, 1⟩
def F.VIN_STR_CFG_FORMAT (n : Nat) : Fld := ⟨R.VIN_STR_CFG n, 6, 4⟩
def F.VIN_STR_CFG_PITCH (n : Nat) : Fld := ⟨R.VIN_STR_CFG n, 23, 16⟩
def F.VIN_STR_CFG_TIMEOUT (n : Nat) : Fld := ⟨R.VIN_STR_CFG n, 31, 24⟩
def R.VIN_STR_SIZE (n : Nat) : Nat := 0x4006010C + 0x40 * n
def F.VIN_STR_SIZE_WIDTH (n : Nat) : Fld := ⟨R.VIN_STR_SIZE n, 11, 0⟩
def F.VIN_STR_SIZE_HEIGHT (n : Nat) : Fld := ⟨R.VIN_STR_SIZE n, 26, 16⟩
def R.VIN_STR_BUF (n : Nat) (m : Nat) : Nat := 0x40060110 + 0x40 * n + 0x4 * m
def F.VIN_STR_BUF_ADDR (n : Nat) (m : Nat) : Fld := ⟨R.VIN_STR_BUF n m, 31, 6⟩
def R.VIN_STR_GEN (n : Nat) : Nat := 0x40060120 + 0x40 * n
def R.VIN_STR_STAT (n : Nat) : Nat := 0x40060124 + 0x40 * n
def F.VIN_STR_STAT_BUF (n : Nat) : Fld := ⟨R.VIN_STR_STAT n, 7, 0⟩
def F.VIN_STR_STAT_NEWEST (n : Nat) : Fld := ⟨R.VIN_STR_STAT n, 9, 8⟩
def F.VIN_STR_STAT_RVALID (n : Nat) : Fld := ⟨R.VIN_STR_STAT n, 10, 10⟩
def F.VIN_STR_STAT_CHECK (n : Nat) : Fld := ⟨R.VIN_STR_STAT n, 15, 12⟩
def F.VIN_STR_STAT_LASTDISC (n : Nat) : Fld := ⟨R.VIN_STR_STAT n, 18, 16⟩
def R.VIN_STR_CNT0 (n : Nat) : Nat := 0x40060128 + 0x40 * n
def F.VIN_STR_CNT0_FRAMES (n : Nat) : Fld := ⟨R.VIN_STR_CNT0 n, 15, 0⟩
def F.VIN_STR_CNT0_DISCARD (n : Nat) : Fld := ⟨R.VIN_STR_CNT0 n, 31, 16⟩
def R.VIN_STR_CNT1 (n : Nat) : Nat := 0x4006012C + 0x40 * n
def F.VIN_STR_CNT1_MALFORMED (n : Nat) : Fld := ⟨R.VIN_STR_CNT1 n, 7, 0⟩
def F.VIN_STR_CNT1_DUPL (n : Nat) : Fld := ⟨R.VIN_STR_CNT1 n, 15, 8⟩
def F.VIN_STR_CNT1_LATE (n : Nat) : Fld := ⟨R.VIN_STR_CNT1 n, 23, 16⟩
def F.VIN_STR_CNT1_SEQGAP (n : Nat) : Fld := ⟨R.VIN_STR_CNT1 n, 31, 24⟩
def R.VIN_STR_PTIME (n : Nat) : Nat := 0x40060130 + 0x40 * n
def F.VIN_STR_PTIME_PTIME (n : Nat) : Fld := ⟨R.VIN_STR_PTIME n, 31, 0⟩
def R.LAY_SHEAF : Nat := 0x40070000
def F.LAY_SHEAF_TAG : Fld := ⟨R.LAY_SHEAF, 31, 16⟩
def R.LAY_SHEAFSTAT : Nat := 0x40070004
def F.LAY_SHEAFSTAT_STATE : Fld := ⟨R.LAY_SHEAFSTAT, 1, 0⟩
def F.LAY_SHEAFSTAT_LATE : Fld := ⟨R.LAY_SHEAFSTAT, 2, 2⟩
def F.LAY_SHEAFSTAT_REFUSED : Fld := ⟨R.LAY_SHEAFSTAT, 3, 3⟩
def F.LAY_SHEAFSTAT_BLOCKED : Fld := ⟨R.LAY_SHEAFSTAT, 4, 4⟩
def F.LAY_SHEAFSTAT_OVERLOAD : Fld := ⟨R.LAY_SHEAFSTAT, 5, 5⟩
def F.LAY_SHEAFSTAT_DISARM_REFUSED : Fld := ⟨R.LAY_SHEAFSTAT, 6, 6⟩
def F.LAY_SHEAFSTAT_CAUSE : Fld := ⟨R.LAY_SHEAFSTAT, 11, 8⟩
def F.LAY_SHEAFSTAT_LAYER : Fld := ⟨R.LAY_SHEAFSTAT, 14, 12⟩
def F.LAY_SHEAFSTAT_GLOBAL : Fld := ⟨R.LAY_SHEAFSTAT, 15, 15⟩
def F.LAY_SHEAFSTAT_APPLIED_TAG : Fld := ⟨R.LAY_SHEAFSTAT, 31, 16⟩
def R.LAY_SHEAFCNT : Nat := 0x40070008
def F.LAY_SHEAFCNT_APPLIED : Fld := ⟨R.LAY_SHEAFCNT, 15, 0⟩
def F.LAY_SHEAFCNT_LATE : Fld := ⟨R.LAY_SHEAFCNT, 23, 16⟩
def F.LAY_SHEAFCNT_REFUSED : Fld := ⟨R.LAY_SHEAFCNT, 31, 24⟩
def R.LAY_TARGET : Nat := 0x4007000C
def F.LAY_TARGET_CF : Fld := ⟨R.LAY_TARGET, 31, 0⟩
def R.LAY_LOAD : Nat := 0x40070010
def F.LAY_LOAD_LOAD : Fld := ⟨R.LAY_LOAD, 9, 0⟩
def R.LAY_MINLEAD : Nat := 0x40070014
def F.LAY_MINLEAD_CYCLES : Fld := ⟨R.LAY_MINLEAD, 23, 0⟩
def R.LAY_TIMING : Nat := 0x40070020
def F.LAY_TIMING_TM : Fld := ⟨R.LAY_TIMING, 1, 0⟩
def F.LAY_TIMING_LEAD_US : Fld := ⟨R.LAY_TIMING, 29, 16⟩
def R.LAY_LOADCFG : Nat := 0x40070024
def F.LAY_LOADCFG_RES_MBPS : Fld := ⟨R.LAY_LOADCFG, 13, 0⟩
def F.LAY_LOADCFG_LOADCHK : Fld := ⟨R.LAY_LOADCFG, 16, 16⟩
def R.LAY_SYMTAB : Nat := 0x40070028
def F.LAY_SYMTAB_ADDR : Fld := ⟨R.LAY_SYMTAB, 31, 6⟩
def R.LAY_SYMCFG : Nat := 0x4007002C
def F.LAY_SYMCFG_COUNT : Fld := ⟨R.LAY_SYMCFG, 8, 0⟩
def R.LAY_SQUASH : Nat := 0x40070040
def F.LAY_SQUASH_EVENTS : Fld := ⟨R.LAY_SQUASH, 15, 0⟩
def F.LAY_SQUASH_BANDS : Fld := ⟨R.LAY_SQUASH, 31, 16⟩
def R.LAY_NOTRDY0 : Nat := 0x40070044
def R.LAY_NOTRDY1 : Nat := 0x40070048
def R.LAY_STALESTAT : Nat := 0x4007004C
def F.LAY_STALESTAT_WARN : Fld := ⟨R.LAY_STALESTAT, 7, 0⟩
def F.LAY_STALESTAT_WITHDRAWN : Fld := ⟨R.LAY_STALESTAT, 15, 8⟩
def F.LAY_STALESTAT_REPEATING : Fld := ⟨R.LAY_STALESTAT, 23, 16⟩
def R.LAY_COMPSTAT : Nat := 0x40070050
def F.LAY_COMPSTAT_BAND : Fld := ⟨R.LAY_COMPSTAT, 4, 0⟩
def F.LAY_COMPSTAT_BUSY : Fld := ⟨R.LAY_COMPSTAT, 5, 5⟩
def F.LAY_COMPSTAT_AHEAD : Fld := ⟨R.LAY_COMPSTAT, 7, 6⟩
def F.LAY_COMPSTAT_FRAME : Fld := ⟨R.LAY_COMPSTAT, 31, 16⟩
def R.LAY_L_CTRL (n : Nat) : Nat := 0x40070100 + 0x20 * n
def F.LAY_L_CTRL_EN (n : Nat) : Fld := ⟨R.LAY_L_CTRL n, 0, 0⟩
def F.LAY_L_CTRL_FORMAT (n : Nat) : Fld := ⟨R.LAY_L_CTRL n, 3, 1⟩
def F.LAY_L_CTRL_BLEND (n : Nat) : Fld := ⟨R.LAY_L_CTRL n, 6, 4⟩
def F.LAY_L_CTRL_SAFETY (n : Nat) : Fld := ⟨R.LAY_L_CTRL n, 7, 7⟩
def F.LAY_L_CTRL_SRC (n : Nat) : Fld := ⟨R.LAY_L_CTRL n, 9, 8⟩
def F.LAY_L_CTRL_STREAM (n : Nat) : Fld := ⟨R.LAY_L_CTRL n, 12, 10⟩
def F.LAY_L_CTRL_Z (n : Nat) : Fld := ⟨R.LAY_L_CTRL n, 15, 13⟩
def F.LAY_L_CTRL_SYM (n : Nat) : Fld := ⟨R.LAY_L_CTRL n, 23, 16⟩
def R.LAY_L_ADDR (n : Nat) : Nat := 0x40070104 + 0x20 * n
def F.LAY_L_ADDR_ADDR (n : Nat) : Fld := ⟨R.LAY_L_ADDR n, 31, 6⟩
def R.LAY_L_SRCSIZE (n : Nat) : Nat := 0x40070108 + 0x20 * n
def F.LAY_L_SRCSIZE_SW (n : Nat) : Fld := ⟨R.LAY_L_SRCSIZE n, 11, 0⟩
def F.LAY_L_SRCSIZE_SH (n : Nat) : Fld := ⟨R.LAY_L_SRCSIZE n, 26, 16⟩
def R.LAY_L_PITCH (n : Nat) : Nat := 0x4007010C + 0x20 * n
def F.LAY_L_PITCH_PITCH (n : Nat) : Fld := ⟨R.LAY_L_PITCH n, 7, 0⟩
def F.LAY_L_PITCH_SOLID (n : Nat) : Fld := ⟨R.LAY_L_PITCH n, 31, 16⟩
def R.LAY_L_POS (n : Nat) : Nat := 0x40070110 + 0x20 * n
def F.LAY_L_POS_X (n : Nat) : Fld := ⟨R.LAY_L_POS n, 12, 0⟩
def F.LAY_L_POS_Y (n : Nat) : Fld := ⟨R.LAY_L_POS n, 28, 16⟩
def R.LAY_L_DSTSIZE (n : Nat) : Nat := 0x40070114 + 0x20 * n
def F.LAY_L_DSTSIZE_DW (n : Nat) : Fld := ⟨R.LAY_L_DSTSIZE n, 12, 0⟩
def F.LAY_L_DSTSIZE_DH (n : Nat) : Fld := ⟨R.LAY_L_DSTSIZE n, 28, 16⟩
def R.LAY_L_STALE (n : Nat) : Nat := 0x40070118 + 0x20 * n
def F.LAY_L_STALE_WARN_MS (n : Nat) : Fld := ⟨R.LAY_L_STALE n, 7, 0⟩
def F.LAY_L_STALE_WITHDRAW_MS (n : Nat) : Fld := ⟨R.LAY_L_STALE n, 15, 8⟩
def R.LAY_L_PAL (n : Nat) (m : Nat) : Nat := 0x40071000 + 0x200 * n + 0x4 * m
def F.LAY_L_PAL_E0 (n : Nat) (m : Nat) : Fld := ⟨R.LAY_L_PAL n m, 15, 0⟩
def F.LAY_L_PAL_E1 (n : Nat) (m : Nat) : Fld := ⟨R.LAY_L_PAL n m, 31, 16⟩
def R.CMP_CTRL : Nat := 0x40080000
def F.CMP_CTRL_CHK_EN : Fld := ⟨R.CMP_CTRL, 0, 0⟩
def R.CMP_STAT : Nat := 0x40080004
def F.CMP_STAT_CHK_LANE : Fld := ⟨R.CMP_STAT, 11, 8⟩
def F.CMP_STAT_FB_SHOW : Fld := ⟨R.CMP_STAT, 17, 16⟩
def F.CMP_STAT_FB_COMP : Fld := ⟨R.CMP_STAT, 19, 18⟩
def R.CMP_LANECHK : Nat := 0x40080008
def F.CMP_LANECHK_FAIL : Fld := ⟨R.CMP_LANECHK, 7, 0⟩
def F.CMP_LANECHK_COUNT : Fld := ⟨R.CMP_LANECHK, 31, 16⟩
def R.CMP_CAPCTRL : Nat := 0x40080010
def R.CMP_CAPADDR : Nat := 0x40080014
def F.CMP_CAPADDR_ADDR : Fld := ⟨R.CMP_CAPADDR, 31, 6⟩
def R.CMP_CAPSTAT : Nat := 0x40080018
def F.CMP_CAPSTAT_STATE : Fld := ⟨R.CMP_CAPSTAT, 2, 0⟩
def F.CMP_CAPSTAT_REFUSED : Fld := ⟨R.CMP_CAPSTAT, 3, 3⟩
def F.CMP_CAPSTAT_CF : Fld := ⟨R.CMP_CAPSTAT, 31, 16⟩
def R.CMP_SYMLOAD : Nat := 0x40080020
def R.CMP_SYMSTAT : Nat := 0x40080024
def F.CMP_SYMSTAT_BUSY : Fld := ⟨R.CMP_SYMSTAT, 0, 0⟩
def F.CMP_SYMSTAT_RESULT : Fld := ⟨R.CMP_SYMSTAT, 7, 4⟩
def F.CMP_SYMSTAT_ENTRIES : Fld := ⟨R.CMP_SYMSTAT, 16, 8⟩
def F.CMP_SYMSTAT_FREE : Fld := ⟨R.CMP_SYMSTAT, 27, 17⟩
def R.CMP_SIGRESULT : Nat := 0x40080040
def R.CMP_SIGRB : Nat := 0x40080044
def R.CMP_SIGSKIP : Nat := 0x40080048
def R.CMP_SIGCNT : Nat := 0x4008004C
def F.CMP_SIGCNT_MISMATCH : Fld := ⟨R.CMP_SIGCNT, 15, 0⟩
def F.CMP_SIGCNT_READBACK : Fld := ⟨R.CMP_SIGCNT, 23, 16⟩
def F.CMP_SIGCNT_UNCHECKED : Fld := ⟨R.CMP_SIGCNT, 31, 24⟩
def R.CMP_SIGBAD : Nat := 0x40080050
def F.CMP_SIGBAD_BADRECT : Fld := ⟨R.CMP_SIGBAD, 31, 0⟩
def R.CMP_SIG_RECT0 (n : Nat) : Nat := 0x40080100 + 0x10 * n
def F.CMP_SIG_RECT0_X0 (n : Nat) : Fld := ⟨R.CMP_SIG_RECT0 n, 10, 0⟩
def F.CMP_SIG_RECT0_Y0 (n : Nat) : Fld := ⟨R.CMP_SIG_RECT0 n, 25, 16⟩
def F.CMP_SIG_RECT0_MODE (n : Nat) : Fld := ⟨R.CMP_SIG_RECT0 n, 29, 28⟩
def R.CMP_SIG_RECT1 (n : Nat) : Nat := 0x40080104 + 0x10 * n
def F.CMP_SIG_RECT1_X1 (n : Nat) : Fld := ⟨R.CMP_SIG_RECT1 n, 10, 0⟩
def F.CMP_SIG_RECT1_Y1 (n : Nat) : Fld := ⟨R.CMP_SIG_RECT1 n, 25, 16⟩
def R.CMP_SIG_EXP (n : Nat) : Nat := 0x40080108 + 0x10 * n
def F.CMP_SIG_EXP_EXP (n : Nat) : Fld := ⟨R.CMP_SIG_EXP n, 31, 0⟩
def R.CMP_SIG_CRC (n : Nat) : Nat := 0x4008010C + 0x10 * n
def R.GME_CTRL : Nat := 0x40090000
def F.GME_CTRL_EN : Fld := ⟨R.GME_CTRL, 0, 0⟩
def F.GME_CTRL_IMU_USE : Fld := ⟨R.GME_CTRL, 1, 1⟩
def F.GME_CTRL_PARALLAX : Fld := ⟨R.GME_CTRL, 2, 2⟩
def F.GME_CTRL_CHK_EN : Fld := ⟨R.GME_CTRL, 3, 3⟩
def F.GME_CTRL_OVR_LEVEL : Fld := ⟨R.GME_CTRL, 15, 8⟩
def F.GME_CTRL_HB : Fld := ⟨R.GME_CTRL, 23, 16⟩
def R.GME_STALE : Nat := 0x40090004
def F.GME_STALE_GROW_RATE : Fld := ⟨R.GME_STALE, 15, 0⟩
def F.GME_STALE_RETIME_MARGIN : Fld := ⟨R.GME_STALE, 31, 16⟩
def R.GME_PARALLAX : Nat := 0x40090008
def F.GME_PARALLAX_OFS_X : Fld := ⟨R.GME_PARALLAX, 15, 0⟩
def F.GME_PARALLAX_OFS_Y : Fld := ⟨R.GME_PARALLAX, 31, 16⟩
def R.GME_IMUUNC : Nat := 0x4009000C
def F.GME_IMUUNC_UNC : Fld := ⟨R.GME_IMUUNC, 15, 0⟩
def R.GME_STAT : Nat := 0x40090010
def F.GME_STAT_STATE : Fld := ⟨R.GME_STAT, 2, 0⟩
def F.GME_STAT_IMU_OK : Fld := ⟨R.GME_STAT, 3, 3⟩
def F.GME_STAT_OBJ : Fld := ⟨R.GME_STAT, 11, 4⟩
def F.GME_STAT_HELD : Fld := ⟨R.GME_STAT, 19, 12⟩
def F.GME_STAT_AGE : Fld := ⟨R.GME_STAT, 31, 20⟩
def R.GME_LISTSEQ : Nat := 0x40090014
def F.GME_LISTSEQ_SEQ : Fld := ⟨R.GME_LISTSEQ, 15, 0⟩
def R.GME_CNT0 : Nat := 0x40090018
def F.GME_CNT0_USED : Fld := ⟨R.GME_CNT0, 15, 0⟩
def F.GME_CNT0_UNUSED : Fld := ⟨R.GME_CNT0, 31, 16⟩
def R.GME_CNT1 : Nat := 0x4009001C
def F.GME_CNT1_CONFDROP : Fld := ⟨R.GME_CNT1, 15, 0⟩
def F.GME_CNT1_HELDDROP : Fld := ⟨R.GME_CNT1, 31, 16⟩
def R.GME_FAULT : Nat := 0x40090020
def F.GME_FAULT_OVERRUN : Fld := ⟨R.GME_FAULT, 7, 0⟩
def F.GME_FAULT_CHECK : Fld := ⟨R.GME_FAULT, 15, 8⟩
def F.GME_FAULT_ECC_CORR : Fld := ⟨R.GME_FAULT, 23, 16⟩
def F.GME_FAULT_ECC_UNC : Fld := ⟨R.GME_FAULT, 31, 24⟩
def R.GME_LAT : Nat := 0x40090024
def F.GME_LAT_LAST : Fld := ⟨R.GME_LAT, 15, 0⟩
def F.GME_LAT_MAX : Fld := ⟨R.GME_LAT, 31, 16⟩
def R.GME_ZONESEQ : Nat := 0x40090028
def F.GME_ZONESEQ_SEQ : Fld := ⟨R.GME_ZONESEQ, 31, 0⟩
def R.GME_ZONE_A (n : Nat) : Nat := 0x40090100 + 0x8 * n
def R.GME_ZONE_B (n : Nat) : Nat := 0x40090104 + 0x8 * n
def R.GME_CLS_MARGIN (n : Nat) : Nat := 0x40090200 + 0x10 * n
def F.GME_CLS_MARGIN_MARGIN_H (n : Nat) : Fld := ⟨R.GME_CLS_MARGIN n, 15, 0⟩
def F.GME_CLS_MARGIN_MARGIN_V (n : Nat) : Fld := ⟨R.GME_CLS_MARGIN n, 31, 16⟩
def R.GME_CLS_SHAPE (n : Nat) : Nat := 0x40090204 + 0x10 * n
def F.GME_CLS_SHAPE_SOFT (n : Nat) : Fld := ⟨R.GME_CLS_SHAPE n, 5, 0⟩
def F.GME_CLS_SHAPE_DEPTH (n : Nat) : Fld := ⟨R.GME_CLS_SHAPE n, 15, 8⟩
def F.GME_CLS_SHAPE_MINCONF (n : Nat) : Fld := ⟨R.GME_CLS_SHAPE n, 19, 16⟩
def F.GME_CLS_SHAPE_UP (n : Nat) : Fld := ⟨R.GME_CLS_SHAPE n, 20, 20⟩
def F.GME_CLS_SHAPE_EN (n : Nat) : Fld := ⟨R.GME_CLS_SHAPE n, 21, 21⟩
def F.GME_CLS_SHAPE_PRIO (n : Nat) : Fld := ⟨R.GME_CLS_SHAPE n, 27, 24⟩
def R.GME_CLS_TRACK (n : Nat) : Nat := 0x40090208 + 0x10 * n
def F.GME_CLS_TRACK_RUNC (n : Nat) : Fld := ⟨R.GME_CLS_TRACK n, 15, 0⟩
def F.GME_CLS_TRACK_HOLD_MS (n : Nat) : Fld := ⟨R.GME_CLS_TRACK n, 23, 16⟩
def F.GME_CLS_TRACK_DIST_DEF (n : Nat) : Fld := ⟨R.GME_CLS_TRACK n, 31, 24⟩
def R.GME_PM_ORG (n : Nat) : Nat := 0x40091000 + 0x1000 * n
def F.GME_PM_ORG_AZ_ORG (n : Nat) : Fld := ⟨R.GME_PM_ORG n, 15, 0⟩
def F.GME_PM_ORG_EL_ORG (n : Nat) : Fld := ⟨R.GME_PM_ORG n, 31, 16⟩
def R.GME_PM_STEP (n : Nat) : Nat := 0x40091004 + 0x1000 * n
def F.GME_PM_STEP_AZ_STEP (n : Nat) : Fld := ⟨R.GME_PM_STEP n, 15, 0⟩
def F.GME_PM_STEP_EL_STEP (n : Nat) : Fld := ⟨R.GME_PM_STEP n, 31, 16⟩
def R.GME_PM_GEN (n : Nat) : Nat := 0x40091008 + 0x1000 * n
def R.GME_PM_STAT (n : Nat) : Nat := 0x4009100C + 0x1000 * n
def F.GME_PM_STAT_CHECK (n : Nat) : Fld := ⟨R.GME_PM_STAT n, 1, 0⟩
def F.GME_PM_STAT_POINT (n : Nat) : Fld := ⟨R.GME_PM_STAT n, 25, 16⟩
def R.GME_PM_P (n : Nat) (m : Nat) : Nat := 0x40091100 + 0x1000 * n + 0x4 * m
def F.GME_PM_P_X (n : Nat) (m : Nat) : Fld := ⟨R.GME_PM_P n m, 15, 0⟩
def F.GME_PM_P_Y (n : Nat) (m : Nat) : Fld := ⟨R.GME_PM_P n m, 31, 16⟩
def R.SCN_CTRL : Nat := 0x400A0000
def F.SCN_CTRL_CHAR_EN : Fld := ⟨R.SCN_CTRL, 2, 2⟩
def R.SCN_STAT : Nat := 0x400A0004
def F.SCN_STAT_TM : Fld := ⟨R.SCN_STAT, 1, 0⟩
def F.SCN_STAT_REFRESH : Fld := ⟨R.SCN_STAT, 3, 2⟩
def F.SCN_STAT_BAND : Fld := ⟨R.SCN_STAT, 8, 4⟩
def F.SCN_STAT_SHOW : Fld := ⟨R.SCN_STAT, 9, 9⟩
def F.SCN_STAT_FILLED : Fld := ⟨R.SCN_STAT, 21, 16⟩
def F.SCN_STAT_FILLING : Fld := ⟨R.SCN_STAT, 22, 22⟩
def R.SCN_LEVCFG : Nat := 0x400A0010
def F.SCN_LEVCFG_SRC : Fld := ⟨R.SCN_LEVCFG, 0, 0⟩
def F.SCN_LEVCFG_SLEW : Fld := ⟨R.SCN_LEVCFG, 15, 4⟩
def R.SCN_LEVLIM : Nat := 0x400A0014
def F.SCN_LEVLIM_MIN : Fld := ⟨R.SCN_LEVLIM, 15, 0⟩
def F.SCN_LEVLIM_MAX : Fld := ⟨R.SCN_LEVLIM, 31, 16⟩
def R.SCN_LEVFIX : Nat := 0x400A0018
def F.SCN_LEVFIX_SHIFT : Fld := ⟨R.SCN_LEVFIX, 15, 0⟩
def R.SCN_LEVSTAT : Nat := 0x400A001C
def F.SCN_LEVSTAT_APPLIED : Fld := ⟨R.SCN_LEVSTAT, 15, 0⟩
def F.SCN_LEVSTAT_REQUEST : Fld := ⟨R.SCN_LEVSTAT, 31, 16⟩
def R.SCN_TASSEL : Nat := 0x400A0020
def F.SCN_TASSEL_LINE : Fld := ⟨R.SCN_TASSEL, 9, 0⟩
def F.SCN_TASSEL_EN : Fld := ⟨R.SCN_TASSEL, 12, 12⟩
def F.SCN_TASSEL_FIRST : Fld := ⟨R.SCN_TASSEL, 13, 13⟩
def R.SCN_TASSELTIME : Nat := 0x400A0024
def R.SCN_EVSTAT : Nat := 0x400A0028
def F.SCN_EVSTAT_BLANK_START : Fld := ⟨R.SCN_EVSTAT, 0, 0⟩
def F.SCN_EVSTAT_LINE_MATCH : Fld := ⟨R.SCN_EVSTAT, 1, 1⟩
def F.SCN_EVSTAT_FRAME_DONE : Fld := ⟨R.SCN_EVSTAT, 2, 2⟩
def F.SCN_EVSTAT_UNDERRUN : Fld := ⟨R.SCN_EVSTAT, 3, 3⟩
def F.SCN_EVSTAT_UNDERRUN_SAFE : Fld := ⟨R.SCN_EVSTAT, 4, 4⟩
def F.SCN_EVSTAT_MAPLATE : Fld := ⟨R.SCN_EVSTAT, 5, 5⟩
def R.SCN_REFCNT : Nat := 0x400A002C
def F.SCN_REFCNT_COUNT : Fld := ⟨R.SCN_REFCNT, 31, 0⟩
def R.SCN_UNDCNT : Nat := 0x400A0030
def F.SCN_UNDCNT_ROWS : Fld := ⟨R.SCN_UNDCNT, 15, 0⟩
def F.SCN_UNDCNT_SAFE : Fld := ⟨R.SCN_UNDCNT, 23, 16⟩
def F.SCN_UNDCNT_MAPLATE : Fld := ⟨R.SCN_UNDCNT, 31, 24⟩
def R.SCN_UNDINFO : Nat := 0x400A0034
def F.SCN_UNDINFO_LINE : Fld := ⟨R.SCN_UNDINFO, 9, 0⟩
def F.SCN_UNDINFO_FILLED : Fld := ⟨R.SCN_UNDINFO, 27, 16⟩
def F.SCN_UNDINFO_VALID : Fld := ⟨R.SCN_UNDINFO, 31, 31⟩
def R.SCN_ECC : Nat := 0x400A0038
def F.SCN_ECC_CORR : Fld := ⟨R.SCN_ECC, 15, 0⟩
def F.SCN_ECC_UNC : Fld := ⟨R.SCN_ECC, 31, 16⟩
def R.SCN_CLAMPSTAT : Nat := 0x400A003C
def F.SCN_CLAMPSTAT_SEQ : Fld := ⟨R.SCN_CLAMPSTAT, 15, 0⟩
def F.SCN_CLAMPSTAT_DISCARDED : Fld := ⟨R.SCN_CLAMPSTAT, 23, 16⟩
def R.SCN_CLAMPCNT : Nat := 0x400A0040
def F.SCN_CLAMPCNT_PIXELS : Fld := ⟨R.SCN_CLAMPCNT, 21, 0⟩
def R.SCN_CHARSTAT : Nat := 0x400A0044
def F.SCN_CHARSTAT_SENT : Fld := ⟨R.SCN_CHARSTAT, 15, 0⟩
def F.SCN_CHARSTAT_SKIPPED : Fld := ⟨R.SCN_CHARSTAT, 31, 16⟩
def R.SCN_LIGHT_LO (n : Nat) : Nat := 0x400A0080 + 0x8 * n
def R.SCN_LIGHT_HI (n : Nat) : Nat := 0x400A0084 + 0x8 * n
def F.SCN_LIGHT_HI_SUM_HI (n : Nat) : Fld := ⟨R.SCN_LIGHT_HI n, 3, 0⟩
def F.SCN_LIGHT_HI_NOROWS (n : Nat) : Fld := ⟨R.SCN_LIGHT_HI n, 31, 31⟩
def R.SCN_CLAMP_RECT0 (n : Nat) : Nat := 0x400A0200 + 0x10 * n
def R.SCN_CLAMP_RECT1 (n : Nat) : Nat := 0x400A0204 + 0x10 * n
def R.SCN_CLAMP_CEIL (n : Nat) : Nat := 0x400A0208 + 0x10 * n
def F.SCN_CLAMP_CEIL_CEIL (n : Nat) : Fld := ⟨R.SCN_CLAMP_CEIL n, 15, 0⟩
def R.LNK_CTRL (n : Nat) : Nat := 0x400B0000 + 0x4000 * n
def F.LNK_CTRL_EN (n : Nat) : Fld := ⟨R.LNK_CTRL n, 0, 0⟩
def F.LNK_CTRL_BOND (n : Nat) : Fld := ⟨R.LNK_CTRL n, 1, 1⟩
def F.LNK_CTRL_PRECODE (n : Nat) : Fld := ⟨R.LNK_CTRL n, 2, 2⟩
def F.LNK_CTRL_LIGHT (n : Nat) : Fld := ⟨R.LNK_CTRL n, 3, 3⟩
def F.LNK_CTRL_RETRY_MS (n : Nat) : Fld := ⟨R.LNK_CTRL n, 23, 16⟩
def F.LNK_CTRL_ECHO_LIM (n : Nat) : Fld := ⟨R.LNK_CTRL n, 31, 24⟩
def R.LNK_STATE (n : Nat) : Nat := 0x400B0008 + 0x4000 * n
def F.LNK_STATE_STATE (n : Nat) : Fld := ⟨R.LNK_STATE n, 3, 0⟩
def F.LNK_STATE_LANEMAP (n : Nat) : Fld := ⟨R.LNK_STATE n, 5, 4⟩
def F.LNK_STATE_WIDTH12 (n : Nat) : Fld := ⟨R.LNK_STATE n, 6, 6⟩
def F.LNK_STATE_FULLREF (n : Nat) : Fld := ⟨R.LNK_STATE n, 7, 7⟩
def F.LNK_STATE_LOSTCAUSE (n : Nat) : Fld := ⟨R.LNK_STATE n, 11, 8⟩
def F.LNK_STATE_TRAINFAIL (n : Nat) : Fld := ⟨R.LNK_STATE n, 15, 12⟩
def F.LNK_STATE_TRAINCNT (n : Nat) : Fld := ⟨R.LNK_STATE n, 23, 16⟩
def R.LNK_EVENTS (n : Nat) : Nat := 0x400B000C + 0x4000 * n
def F.LNK_EVENTS_LOST (n : Nat) : Fld := ⟨R.LNK_EVENTS n, 0, 0⟩
def F.LNK_EVENTS_RETURNED (n : Nat) : Fld := ⟨R.LNK_EVENTS n, 1, 1⟩
def F.LNK_EVENTS_LANE_DEGRADED (n : Nat) : Fld := ⟨R.LNK_EVENTS n, 2, 2⟩
def F.LNK_EVENTS_FOREIGN (n : Nat) : Fld := ⟨R.LNK_EVENTS n, 3, 3⟩
def F.LNK_EVENTS_ECHO_LIMIT (n : Nat) : Fld := ⟨R.LNK_EVENTS n, 4, 4⟩
def F.LNK_EVENTS_OVERTEMP (n : Nat) : Fld := ⟨R.LNK_EVENTS n, 5, 5⟩
def R.LNK_IDPART (n : Nat) : Nat := 0x400B0010 + 0x4000 * n
def F.LNK_IDPART_PART (n : Nat) : Fld := ⟨R.LNK_IDPART n, 15, 0⟩
def F.LNK_IDPART_REV (n : Nat) : Fld := ⟨R.LNK_IDPART n, 23, 16⟩
def F.LNK_IDPART_CAPS (n : Nat) : Fld := ⟨R.LNK_IDPART n, 31, 24⟩
def R.LNK_IDSER_LO (n : Nat) : Nat := 0x400B0014 + 0x4000 * n
def R.LNK_IDSER_HI (n : Nat) : Nat := 0x400B0018 + 0x4000 * n
def R.LNK_IDHUSK (n : Nat) : Nat := 0x400B001C + 0x4000 * n
def R.LNK_EXPSER_LO (n : Nat) : Nat := 0x400B0020 + 0x4000 * n
def R.LNK_EXPSER_HI (n : Nat) : Nat := 0x400B0024 + 0x4000 * n
def R.LNK_EXPHUSK (n : Nat) : Nat := 0x400B0028 + 0x4000 * n
def R.LNK_CMD (n : Nat) : Nat := 0x400B002C + 0x4000 * n
def F.LNK_CMD_BUSY (n : Nat) : Fld := ⟨R.LNK_CMD n, 17, 17⟩
def R.LNK_CMDARG (n : Nat) : Nat := 0x400B0030 + 0x4000 * n
def R.LNK_CMDRESP (n : Nat) : Nat := 0x400B0034 + 0x4000 * n
def F.LNK_CMDRESP_TAG (n : Nat) : Fld := ⟨R.LNK_CMDRESP n, 7, 0⟩
def F.LNK_CMDRESP_STATUS (n : Nat) : Fld := ⟨R.LNK_CMDRESP n, 11, 8⟩
def F.LNK_CMDRESP_VALID (n : Nat) : Fld := ⟨R.LNK_CMDRESP n, 12, 12⟩
def R.LNK_CMDVAL (n : Nat) : Nat := 0x400B0038 + 0x4000 * n
def R.LNK_ROWCNT (n : Nat) : Nat := 0x400B0040 + 0x4000 * n
def F.LNK_ROWCNT_ROWS (n : Nat) : Fld := ⟨R.LNK_ROWCNT n, 31, 0⟩
def R.LNK_ECHOCNT (n : Nat) : Nat := 0x400B0044 + 0x4000 * n
def F.LNK_ECHOCNT_MISMATCH (n : Nat) : Fld := ⟨R.LNK_ECHOCNT n, 15, 0⟩
def F.LNK_ECHOCNT_MISSING (n : Nat) : Fld := ⟨R.LNK_ECHOCNT n, 31, 16⟩
def R.LNK_ERRCNT (n : Nat) : Nat := 0x400B0048 + 0x4000 * n
def F.LNK_ERRCNT_DN0 (n : Nat) : Fld := ⟨R.LNK_ERRCNT n, 15, 0⟩
def F.LNK_ERRCNT_DN1 (n : Nat) : Fld := ⟨R.LNK_ERRCNT n, 31, 16⟩
def R.LNK_UPCNT (n : Nat) : Nat := 0x400B004C + 0x4000 * n
def F.LNK_UPCNT_HDRERR (n : Nat) : Fld := ⟨R.LNK_UPCNT n, 15, 0⟩
def F.LNK_UPCNT_BADREC (n : Nat) : Fld := ⟨R.LNK_UPCNT n, 23, 16⟩
def F.LNK_UPCNT_DROP (n : Nat) : Fld := ⟨R.LNK_UPCNT n, 31, 24⟩
def R.LNK_TILESTAT (n : Nat) : Nat := 0x400B0050 + 0x4000 * n
def F.LNK_TILESTAT_TEMP (n : Nat) : Fld := ⟨R.LNK_TILESTAT n, 15, 0⟩
def F.LNK_TILESTAT_VANODE (n : Nat) : Fld := ⟨R.LNK_TILESTAT n, 31, 16⟩
def R.LNK_HUSK (n : Nat) : Nat := 0x400B0054 + 0x4000 * n
def F.LNK_HUSK_CMD (n : Nat) : Fld := ⟨R.LNK_HUSK n, 0, 0⟩
def F.LNK_HUSK_PAD (n : Nat) : Fld := ⟨R.LNK_HUSK n, 1, 1⟩
def F.LNK_HUSK_SHOWN (n : Nat) : Fld := ⟨R.LNK_HUSK n, 2, 2⟩
def F.LNK_HUSK_UNLOCKED (n : Nat) : Fld := ⟨R.LNK_HUSK n, 3, 3⟩
def R.LNK_GLSTAT (n : Nat) : Nat := 0x400B0058 + 0x4000 * n
def F.LNK_GLSTAT_LOCK0 (n : Nat) : Fld := ⟨R.LNK_GLSTAT n, 0, 0⟩
def F.LNK_GLSTAT_LOCK1 (n : Nat) : Fld := ⟨R.LNK_GLSTAT n, 1, 1⟩
def F.LNK_GLSTAT_ROWCRC (n : Nat) : Fld := ⟨R.LNK_GLSTAT n, 23, 8⟩
def R.LNK_GRGEN (n : Nat) : Nat := 0x400B005C + 0x4000 * n
def R.LNK_GR_RECT0 (n : Nat) (m : Nat) : Nat := 0x400B0100 + 0x4000 * n + 0x8 * m
def F.LNK_GR_RECT0_X0 (n : Nat) (m : Nat) : Fld := ⟨R.LNK_GR_RECT0 n m, 9, 0⟩
def F.LNK_GR_RECT0_Y0 (n : Nat) (m : Nat) : Fld := ⟨R.LNK_GR_RECT0 n m, 24, 16⟩
def F.LNK_GR_RECT0_EN (n : Nat) (m : Nat) : Fld := ⟨R.LNK_GR_RECT0 n m, 31, 31⟩
def R.LNK_GR_RECT1 (n : Nat) (m : Nat) : Nat := 0x400B0104 + 0x4000 * n + 0x8 * m
def F.LNK_GR_RECT1_X1 (n : Nat) (m : Nat) : Fld := ⟨R.LNK_GR_RECT1 n m, 9, 0⟩
def F.LNK_GR_RECT1_Y1 (n : Nat) (m : Nat) : Fld := ⟨R.LNK_GR_RECT1 n m, 24, 16⟩
def R.LNK_GRES_M (n : Nat) (m : Nat) (l : Nat) : Nat := 0x400B0200 + 0x4000 * n + 0x10 * m + 0x8 * l
def F.LNK_GRES_M_MAX (n : Nat) (m : Nat) (l : Nat) : Fld := ⟨R.LNK_GRES_M n m l, 15, 0⟩
def F.LNK_GRES_M_VALID (n : Nat) (m : Nat) (l : Nat) : Fld := ⟨R.LNK_GRES_M n m l, 19, 19⟩
def F.LNK_GRES_M_REFRESH (n : Nat) (m : Nat) (l : Nat) : Fld := ⟨R.LNK_GRES_M n m l, 31, 24⟩
def R.LNK_GRES_C (n : Nat) (m : Nat) (l : Nat) : Nat := 0x400B0204 + 0x4000 * n + 0x10 * m + 0x8 * l
def R.SAT_PERIOD : Nat := 0x400C0000
def F.SAT_PERIOD_PERIOD_US : Fld := ⟨R.SAT_PERIOD, 16, 0⟩
def R.SAT_LATCHOFS : Nat := 0x400C0004
def F.SAT_LATCHOFS_OFS_US : Fld := ⟨R.SAT_LATCHOFS, 16, 0⟩
def R.SAT_CH_CTRL (n : Nat) : Nat := 0x400C0100 + 0x40 * n
def F.SAT_CH_CTRL_EN (n : Nat) : Fld := ⟨R.SAT_CH_CTRL n, 0, 0⟩
def F.SAT_CH_CTRL_AUTOENUM (n : Nat) : Fld := ⟨R.SAT_CH_CTRL n, 1, 1⟩
def F.SAT_CH_CTRL_LIGHT (n : Nat) : Fld := ⟨R.SAT_CH_CTRL n, 2, 2⟩
def F.SAT_CH_CTRL_CENSUS_MS (n : Nat) : Fld := ⟨R.SAT_CH_CTRL n, 25, 16⟩
def R.SAT_CH_SCALE (n : Nat) : Nat := 0x400C0104 + 0x40 * n
def F.SAT_CH_SCALE_SCALE (n : Nat) : Fld := ⟨R.SAT_CH_SCALE n, 15, 0⟩
def R.SAT_CH_STAT (n : Nat) : Nat := 0x400C0108 + 0x40 * n
def F.SAT_CH_STAT_STATE (n : Nat) : Fld := ⟨R.SAT_CH_STAT n, 2, 0⟩
def F.SAT_CH_STAT_OVERSIZE (n : Nat) : Fld := ⟨R.SAT_CH_STAT n, 3, 3⟩
def F.SAT_CH_STAT_COUNT (n : Nat) : Fld := ⟨R.SAT_CH_STAT n, 25, 16⟩
def R.SAT_CH_EVENTS (n : Nat) : Nat := 0x400C010C + 0x40 * n
def F.SAT_CH_EVENTS_ENUMERATED (n : Nat) : Fld := ⟨R.SAT_CH_EVENTS n, 0, 0⟩
def F.SAT_CH_EVENTS_CHANGED (n : Nat) : Fld := ⟨R.SAT_CH_EVENTS n, 1, 1⟩
def F.SAT_CH_EVENTS_NODEALERT (n : Nat) : Fld := ⟨R.SAT_CH_EVENTS n, 2, 2⟩
def R.SAT_CH_ERRCNT (n : Nat) : Nat := 0x400C0110 + 0x40 * n
def F.SAT_CH_ERRCNT_LOST (n : Nat) : Fld := ⟨R.SAT_CH_ERRCNT n, 15, 0⟩
def F.SAT_CH_ERRCNT_COLLIDE (n : Nat) : Fld := ⟨R.SAT_CH_ERRCNT n, 23, 16⟩
def F.SAT_CH_ERRCNT_ENUMFAIL (n : Nat) : Fld := ⟨R.SAT_CH_ERRCNT n, 31, 24⟩
def R.SAT_CH_GEN (n : Nat) : Nat := 0x400C0114 + 0x40 * n
def R.SAT_VAL_W0 (n : Nat) (m : Nat) : Nat := 0x400C4000 + 0x1000 * n + 0x8 * m
def F.SAT_VAL_W0_CH0 (n : Nat) (m : Nat) : Fld := ⟨R.SAT_VAL_W0 n m, 15, 0⟩
def F.SAT_VAL_W0_CH1 (n : Nat) (m : Nat) : Fld := ⟨R.SAT_VAL_W0 n m, 31, 16⟩
def R.SAT_VAL_W1 (n : Nat) (m : Nat) : Nat := 0x400C4004 + 0x1000 * n + 0x8 * m
def F.SAT_VAL_W1_CH2 (n : Nat) (m : Nat) : Fld := ⟨R.SAT_VAL_W1 n m, 15, 0⟩
def R.SAT_NST (n : Nat) (m : Nat) : Nat := 0x400C2000 + 0x800 * n + 0x4 * m
def R.SAT_NID (n : Nat) (m : Nat) : Nat := 0x400C8000 + 0x800 * n + 0x4 * m
def F.SAT_NID_TYPE (n : Nat) (m : Nat) : Fld := ⟨R.SAT_NID n m, 15, 0⟩
def F.SAT_NID_REV (n : Nat) (m : Nat) : Fld := ⟨R.SAT_NID n m, 23, 16⟩
def R.PID_CTRL : Nat := 0x400D0000
def F.PID_CTRL_FREEZE : Fld := ⟨R.PID_CTRL, 0, 0⟩
def R.PID_STAT : Nat := 0x400D0004
def F.PID_STAT_RUN : Fld := ⟨R.PID_STAT, 15, 0⟩
def F.PID_STAT_SRCBAD : Fld := ⟨R.PID_STAT, 31, 16⟩
def R.PID_PITCHCFG : Nat := 0x400D0008
def F.PID_PITCHCFG_LOOP : Fld := ⟨R.PID_PITCHCFG, 3, 0⟩
def F.PID_PITCHCFG_EN : Fld := ⟨R.PID_PITCHCFG, 4, 4⟩
def F.PID_PITCHCFG_TC_MS : Fld := ⟨R.PID_PITCHCFG, 31, 16⟩
def R.PID_PITCHOFS : Nat := 0x400D000C
def F.PID_PITCHOFS_OFS : Fld := ⟨R.PID_PITCHOFS, 15, 0⟩
def R.PID_PITCHEST : Nat := 0x400D0010
def F.PID_PITCHEST_EST : Fld := ⟨R.PID_PITCHEST, 31, 0⟩
def R.PID_GRP_CFG (n : Nat) : Nat := 0x400D0040 + 0x10 * n
def F.PID_GRP_CFG_MEMBERS (n : Nat) : Fld := ⟨R.PID_GRP_CFG n, 15, 0⟩
def R.PID_GRP_STAT (n : Nat) : Nat := 0x400D0044 + 0x10 * n
def F.PID_GRP_STAT_WINNER (n : Nat) : Fld := ⟨R.PID_GRP_STAT n, 3, 0⟩
def F.PID_GRP_STAT_VALID (n : Nat) : Fld := ⟨R.PID_GRP_STAT n, 4, 4⟩
def F.PID_GRP_STAT_CFGREF (n : Nat) : Fld := ⟨R.PID_GRP_STAT n, 5, 5⟩
def F.PID_GRP_STAT_CHANGES (n : Nat) : Fld := ⟨R.PID_GRP_STAT n, 31, 16⟩
def R.PID_GRP_OUT (n : Nat) : Nat := 0x400D0048 + 0x10 * n
def F.PID_GRP_OUT_OUT (n : Nat) : Fld := ⟨R.PID_GRP_OUT n, 31, 0⟩
def R.PID_L_CTRL (n : Nat) : Nat := 0x400D0100 + 0x80 * n
def F.PID_L_CTRL_EN (n : Nat) : Fld := ⟨R.PID_L_CTRL n, 0, 0⟩
def F.PID_L_CTRL_SRC (n : Nat) : Fld := ⟨R.PID_L_CTRL n, 7, 4⟩
def F.PID_L_CTRL_SRCIDX (n : Nat) : Fld := ⟨R.PID_L_CTRL n, 9, 8⟩
def R.PID_L_PERIOD (n : Nat) : Nat := 0x400D0104 + 0x80 * n
def F.PID_L_PERIOD_PERIOD_US (n : Nat) : Fld := ⟨R.PID_L_PERIOD n, 16, 0⟩
def R.PID_L_PHASE (n : Nat) : Nat := 0x400D0108 + 0x80 * n
def F.PID_L_PHASE_CYCLES (n : Nat) : Fld := ⟨R.PID_L_PHASE n, 24, 0⟩
def R.PID_L_SP (n : Nat) : Nat := 0x400D010C + 0x80 * n
def F.PID_L_SP_SP (n : Nat) : Fld := ⟨R.PID_L_SP n, 31, 0⟩
def R.PID_L_KP (n : Nat) : Nat := 0x400D0110 + 0x80 * n
def F.PID_L_KP_KP (n : Nat) : Fld := ⟨R.PID_L_KP n, 31, 0⟩
def R.PID_L_KIS (n : Nat) : Nat := 0x400D0114 + 0x80 * n
def F.PID_L_KIS_KIS (n : Nat) : Fld := ⟨R.PID_L_KIS n, 31, 0⟩
def R.PID_L_AD (n : Nat) : Nat := 0x400D0118 + 0x80 * n
def F.PID_L_AD_AD (n : Nat) : Fld := ⟨R.PID_L_AD n, 15, 0⟩
def R.PID_L_BD (n : Nat) : Nat := 0x400D011C + 0x80 * n
def F.PID_L_BD_BD (n : Nat) : Fld := ⟨R.PID_L_BD n, 31, 0⟩
def R.PID_L_IMIN (n : Nat) : Nat := 0x400D0120 + 0x80 * n
def F.PID_L_IMIN_IMIN (n : Nat) : Fld := ⟨R.PID_L_IMIN n, 31, 0⟩
def R.PID_L_IMAX (n : Nat) : Nat := 0x400D0124 + 0x80 * n
def F.PID_L_IMAX_IMAX (n : Nat) : Fld := ⟨R.PID_L_IMAX n, 31, 0⟩
def R.PID_L_OMIN (n : Nat) : Nat := 0x400D0128 + 0x80 * n
def F.PID_L_OMIN_OMIN (n : Nat) : Fld := ⟨R.PID_L_OMIN n, 31, 0⟩
def R.PID_L_OMAX (n : Nat) : Nat := 0x400D012C + 0x80 * n
def F.PID_L_OMAX_OMAX (n : Nat) : Fld := ⟨R.PID_L_OMAX n, 31, 0⟩
def R.PID_L_TRACK (n : Nat) : Nat := 0x400D0130 + 0x80 * n
def F.PID_L_TRACK_TRACK (n : Nat) : Fld := ⟨R.PID_L_TRACK n, 31, 0⟩
def R.PID_L_GEN (n : Nat) : Nat := 0x400D0134 + 0x80 * n
def R.PID_L_OFAIL (n : Nat) : Nat := 0x400D0138 + 0x80 * n
def F.PID_L_OFAIL_OFAIL (n : Nat) : Fld := ⟨R.PID_L_OFAIL n, 31, 0⟩
def R.PID_L_IINIT (n : Nat) : Nat := 0x400D013C + 0x80 * n
def F.PID_L_IINIT_IINIT (n : Nat) : Fld := ⟨R.PID_L_IINIT n, 31, 0⟩
def R.PID_L_STAT (n : Nat) : Nat := 0x400D0140 + 0x80 * n
def F.PID_L_STAT_RUNNING (n : Nat) : Fld := ⟨R.PID_L_STAT n, 0, 0⟩
def F.PID_L_STAT_SRCBAD (n : Nat) : Fld := ⟨R.PID_L_STAT n, 1, 1⟩
def F.PID_L_STAT_ICLAMP (n : Nat) : Fld := ⟨R.PID_L_STAT n, 2, 2⟩
def F.PID_L_STAT_TRACKED (n : Nat) : Fld := ⟨R.PID_L_STAT n, 3, 3⟩
def F.PID_L_STAT_OSAT (n : Nat) : Fld := ⟨R.PID_L_STAT n, 4, 4⟩
def F.PID_L_STAT_WON (n : Nat) : Fld := ⟨R.PID_L_STAT n, 5, 5⟩
def F.PID_L_STAT_SAMPLES (n : Nat) : Fld := ⟨R.PID_L_STAT n, 31, 16⟩
def R.PID_L_OUT (n : Nat) : Nat := 0x400D0144 + 0x80 * n
def F.PID_L_OUT_OUT (n : Nat) : Fld := ⟨R.PID_L_OUT n, 31, 0⟩
def R.PID_L_IVAL (n : Nat) : Nat := 0x400D0148 + 0x80 * n
def F.PID_L_IVAL_IVAL (n : Nat) : Fld := ⟨R.PID_L_IVAL n, 31, 0⟩
def R.PID_L_YVAL (n : Nat) : Nat := 0x400D014C + 0x80 * n
def F.PID_L_YVAL_YVAL (n : Nat) : Fld := ⟨R.PID_L_YVAL n, 31, 0⟩
def R.BUCK_CFG (n : Nat) : Nat := 0x400D1000 + 0x100 * n
def F.BUCK_CFG_EN (n : Nat) : Fld := ⟨R.BUCK_CFG n, 0, 0⟩
def F.BUCK_CFG_FSW_KHZ (n : Nat) : Fld := ⟨R.BUCK_CFG n, 11, 2⟩
def F.BUCK_CFG_OVTH (n : Nat) : Fld := ⟨R.BUCK_CFG n, 22, 16⟩
def R.BUCK_SENSE (n : Nat) : Nat := 0x400D1004 + 0x100 * n
def F.BUCK_SENSE_RSENSE_UOHM (n : Nat) : Fld := ⟨R.BUCK_SENSE n, 15, 0⟩
def F.BUCK_SENSE_RIN_UOHM (n : Nat) : Fld := ⟨R.BUCK_SENSE n, 31, 16⟩
def R.BUCK_CFG2 (n : Nat) : Nat := 0x400D1008 + 0x100 * n
def F.BUCK_CFG2_L_NH (n : Nat) : Fld := ⟨R.BUCK_CFG2 n, 13, 0⟩
def F.BUCK_CFG2_SLEW (n : Nat) : Fld := ⟨R.BUCK_CFG2 n, 27, 16⟩
def R.BUCK_REF (n : Nat) : Nat := 0x400D100C + 0x100 * n
def F.BUCK_REF_REF (n : Nat) : Fld := ⟨R.BUCK_REF n, 13, 0⟩
def F.BUCK_REF_SRC (n : Nat) : Fld := ⟨R.BUCK_REF n, 16, 16⟩
def R.BUCK_ILIM (n : Nat) : Nat := 0x400D1010 + 0x100 * n
def F.BUCK_ILIM_ILIM (n : Nat) : Fld := ⟨R.BUCK_ILIM n, 13, 0⟩
def R.BUCK_GEN (n : Nat) : Nat := 0x400D1014 + 0x100 * n
def R.BUCK_STAT (n : Nat) : Nat := 0x400D1018 + 0x100 * n
def F.BUCK_STAT_STATE (n : Nat) : Fld := ⟨R.BUCK_STAT n, 2, 0⟩
def F.BUCK_STAT_PKLIM (n : Nat) : Fld := ⟨R.BUCK_STAT n, 3, 3⟩
def F.BUCK_STAT_OV (n : Nat) : Fld := ⟨R.BUCK_STAT n, 8, 8⟩
def F.BUCK_STAT_SHORT (n : Nat) : Fld := ⟨R.BUCK_STAT n, 9, 9⟩
def F.BUCK_STAT_OVCNT (n : Nat) : Fld := ⟨R.BUCK_STAT n, 31, 16⟩
def R.BUCK_MEAS0 (n : Nat) : Nat := 0x400D101C + 0x100 * n
def F.BUCK_MEAS0_IAVG (n : Nat) : Fld := ⟨R.BUCK_MEAS0 n, 15, 0⟩
def F.BUCK_MEAS0_VOUT (n : Nat) : Fld := ⟨R.BUCK_MEAS0 n, 31, 16⟩
def R.BUCK_MEAS1 (n : Nat) : Nat := 0x400D1020 + 0x100 * n
def F.BUCK_MEAS1_IIN (n : Nat) : Fld := ⟨R.BUCK_MEAS1 n, 15, 0⟩
def F.BUCK_MEAS1_REFAPP (n : Nat) : Fld := ⟨R.BUCK_MEAS1 n, 31, 16⟩
def R.ENG_CTRL : Nat := 0x400E0000
def F.ENG_CTRL_EN : Fld := ⟨R.ENG_CTRL, 0, 0⟩
def F.ENG_CTRL_SPLINK : Fld := ⟨R.ENG_CTRL, 1, 1⟩
def F.ENG_CTRL_PLAN : Fld := ⟨R.ENG_CTRL, 2, 2⟩
def F.ENG_CTRL_LOOP : Fld := ⟨R.ENG_CTRL, 7, 4⟩
def F.ENG_CTRL_VINSEL : Fld := ⟨R.ENG_CTRL, 11, 8⟩
def R.ENG_DIV0 : Nat := 0x400E0004
def F.ENG_DIV0_RATIO : Fld := ⟨R.ENG_DIV0, 31, 0⟩
def R.ENG_DIV1 : Nat := 0x400E0008
def F.ENG_DIV1_RATIO : Fld := ⟨R.ENG_DIV1, 31, 0⟩
def R.ENG_DIVH : Nat := 0x400E000C
def F.ENG_DIVH_RATIO : Fld := ⟨R.ENG_DIVH, 31, 0⟩
def R.ENG_HOLD : Nat := 0x400E0010
def F.ENG_HOLD_C_UF : Fld := ⟨R.ENG_HOLD, 15, 0⟩
def F.ENG_HOLD_VFLOOR_MV : Fld := ⟨R.ENG_HOLD, 31, 16⟩
def R.ENG_HOLDMIN : Nat := 0x400E0014
def F.ENG_HOLDMIN_MIN_UJ : Fld := ⟨R.ENG_HOLDMIN, 15, 0⟩
def R.ENG_HOLDSTAT : Nat := 0x400E0018
def F.ENG_HOLDSTAT_EAVAIL : Fld := ⟨R.ENG_HOLDSTAT, 15, 0⟩
def F.ENG_HOLDSTAT_DEFERS : Fld := ⟨R.ENG_HOLDSTAT, 23, 16⟩
def F.ENG_HOLDSTAT_RESULT : Fld := ⟨R.ENG_HOLDSTAT, 25, 24⟩
def R.ENG_PFAIL : Nat := 0x400E001C
def F.ENG_PFAIL_VTH_MV : Fld := ⟨R.ENG_PFAIL, 15, 0⟩
def F.ENG_PFAIL_SRC : Fld := ⟨R.ENG_PFAIL, 16, 16⟩
def F.ENG_PFAIL_EVENT : Fld := ⟨R.ENG_PFAIL, 17, 17⟩
def R.ENG_BCYC : Nat := 0x400E0020
def F.ENG_BCYC_BCYC : Fld := ⟨R.ENG_BCYC, 31, 0⟩
def R.ENG_BWIN : Nat := 0x400E0024
def F.ENG_BWIN_BWIN : Fld := ⟨R.ENG_BWIN, 31, 0⟩
def R.ENG_WSLOT : Nat := 0x400E0028
def F.ENG_WSLOT_SLOT_MS : Fld := ⟨R.ENG_WSLOT, 16, 0⟩
def R.ENG_PLIM : Nat := 0x400E002C
def F.ENG_PLIM_PMAX : Fld := ⟨R.ENG_PLIM, 19, 0⟩
def R.ENG_PFLOOR : Nat := 0x400E0030
def F.ENG_PFLOOR_PFLOOR : Fld := ⟨R.ENG_PFLOOR, 19, 0⟩
def R.ENG_HORIZON : Nat := 0x400E0034
def F.ENG_HORIZON_HORIZON_S : Fld := ⟨R.ENG_HORIZON, 15, 0⟩
def R.ENG_GEN : Nat := 0x400E0038
def R.ENG_CYC : Nat := 0x400E003C
def R.ENG_STAT : Nat := 0x400E0040
def F.ENG_STAT_LIMIT_WIN : Fld := ⟨R.ENG_STAT, 0, 0⟩
def F.ENG_STAT_LIMIT_CYC : Fld := ⟨R.ENG_STAT, 1, 1⟩
def F.ENG_STAT_LIMIT_PMAX : Fld := ⟨R.ENG_STAT, 2, 2⟩
def F.ENG_STAT_FLOOR : Fld := ⟨R.ENG_STAT, 3, 3⟩
def F.ENG_STAT_OVERRUN : Fld := ⟨R.ENG_STAT, 4, 4⟩
def F.ENG_STAT_DERATE : Fld := ⟨R.ENG_STAT, 5, 5⟩
def R.ENG_PALLOW : Nat := 0x400E0044
def F.ENG_PALLOW_P : Fld := ⟨R.ENG_PALLOW, 19, 0⟩
def R.ENG_PTOTAL : Nat := 0x400E0048
def F.ENG_PTOTAL_P : Fld := ⟨R.ENG_PTOTAL, 19, 0⟩
def R.ENG_PDEV : Nat := 0x400E004C
def F.ENG_PDEV_P : Fld := ⟨R.ENG_PDEV, 19, 0⟩
def R.ENG_EWIN : Nat := 0x400E0050
def R.ENG_FACTOR : Nat := 0x400E0054
def F.ENG_FACTOR_F : Fld := ⟨R.ENG_FACTOR, 16, 0⟩
def R.ENG_DEMAND (n : Nat) : Nat := 0x400E0060 + 0x4 * n
def F.ENG_DEMAND_P (n : Nat) : Fld := ⟨R.ENG_DEMAND n, 19, 0⟩
def R.ENG_GRANT (n : Nat) : Nat := 0x400E0070 + 0x4 * n
def F.ENG_GRANT_P (n : Nat) : Fld := ⟨R.ENG_GRANT n, 19, 0⟩
def R.ENG_PLAN : Nat := 0x400E0080
def F.ENG_PLAN_ESSENTIAL : Fld := ⟨R.ENG_PLAN, 3, 0⟩
def F.ENG_PLAN_SHORT : Fld := ⟨R.ENG_PLAN, 11, 8⟩
def R.ENG_EB_LO (n : Nat) : Nat := 0x400E0100 + 0x8 * n
def R.ENG_EB_HI (n : Nat) : Nat := 0x400E0104 + 0x8 * n
def R.ENG_EDEV_LO : Nat := 0x400E0120
def R.ENG_EDEV_HI : Nat := 0x400E0124
def R.ENG_ECYC_LO : Nat := 0x400E0128
def R.ENG_ECYC_HI : Nat := 0x400E012C
def R.ENG_HARN : Nat := 0x400E0140
def F.ENG_HARN_IDIS_MA : Fld := ⟨R.ENG_HARN, 15, 0⟩
def F.ENG_HARN_GUARD_VTH : Fld := ⟨R.ENG_HARN, 23, 16⟩
def F.ENG_HARN_GUARD_EN : Fld := ⟨R.ENG_HARN, 24, 24⟩
def R.ENG_HARNSTAT : Nat := 0x400E0144
def F.ENG_HARNSTAT_DISCH : Fld := ⟨R.ENG_HARNSTAT, 3, 0⟩
def F.ENG_HARNSTAT_GUARDED : Fld := ⟨R.ENG_HARNSTAT, 7, 4⟩
def F.ENG_HARNSTAT_DISFAIL : Fld := ⟨R.ENG_HARNSTAT, 11, 8⟩
def F.ENG_HARNSTAT_LAST_US : Fld := ⟨R.ENG_HARNSTAT, 31, 16⟩
def R.THM_CTRL : Nat := 0x40040000
def F.THM_CTRL_NTC_EN : Fld := ⟨R.THM_CTRL, 3, 0⟩
def F.THM_CTRL_RATE_EN : Fld := ⟨R.THM_CTRL, 4, 4⟩
def R.THM_RATE : Nat := 0x40040004
def F.THM_RATE_RATE_LIM : Fld := ⟨R.THM_RATE, 7, 0⟩
def F.THM_RATE_WIN_MS : Fld := ⟨R.THM_RATE, 19, 8⟩
def F.THM_RATE_PROJ_MS : Fld := ⟨R.THM_RATE, 31, 20⟩
def R.THM_EXTLIM : Nat := 0x40040008
def F.THM_EXTLIM_NTC_WARN : Fld := ⟨R.THM_EXTLIM, 7, 0⟩
def F.THM_EXTLIM_NTC_STOP : Fld := ⟨R.THM_EXTLIM, 15, 8⟩
def F.THM_EXTLIM_TILE_WARN : Fld := ⟨R.THM_EXTLIM, 23, 16⟩
def F.THM_EXTLIM_TILE_STOP : Fld := ⟨R.THM_EXTLIM, 31, 24⟩
def R.THM_NTCPAR : Nat := 0x4004000C
def F.THM_NTCPAR_B_K : Fld := ⟨R.THM_NTCPAR, 15, 0⟩
def F.THM_NTCPAR_R25 : Fld := ⟨R.THM_NTCPAR, 31, 16⟩
def R.THM_STAT : Nat := 0x40040010
def F.THM_STAT_STATE : Fld := ⟨R.THM_STAT, 2, 0⟩
def F.THM_STAT_FAST : Fld := ⟨R.THM_STAT, 3, 3⟩
def F.THM_STAT_RATEHI : Fld := ⟨R.THM_STAT, 4, 4⟩
def F.THM_STAT_CAUSE : Fld := ⟨R.THM_STAT, 7, 5⟩
def F.THM_STAT_HOT : Fld := ⟨R.THM_STAT, 11, 8⟩
def R.THM_HOT : Nat := 0x40040014
def F.THM_HOT_TEMP : Fld := ⟨R.THM_HOT, 15, 0⟩
def F.THM_HOT_RATE : Fld := ⟨R.THM_HOT, 31, 16⟩
def R.THM_TEFF : Nat := 0x40040018
def F.THM_TEFF_TEFF : Fld := ⟨R.THM_TEFF, 15, 0⟩
def R.THM_EVENTS : Nat := 0x4004001C
def F.THM_EVENTS_EV : Fld := ⟨R.THM_EVENTS, 6, 0⟩
def R.THM_SENSBAD : Nat := 0x40040020
def F.THM_SENSBAD_DIE : Fld := ⟨R.THM_SENSBAD, 9, 0⟩
def R.THM_DIE (n : Nat) : Nat := 0x40040040 + 0x4 * n
def F.THM_DIE_TEMP (n : Nat) : Fld := ⟨R.THM_DIE n, 15, 0⟩
def F.THM_DIE_VALID (n : Nat) : Fld := ⟨R.THM_DIE n, 16, 16⟩
def R.THM_NTC (n : Nat) : Nat := 0x40040070 + 0x4 * n
def F.THM_NTC_TEMP (n : Nat) : Fld := ⟨R.THM_NTC n, 15, 0⟩
def F.THM_NTC_STATE (n : Nat) : Fld := ⟨R.THM_NTC n, 17, 16⟩
def R.THM_TILE (n : Nat) : Nat := 0x40040080 + 0x4 * n
def F.THM_TILE_TEMP (n : Nat) : Fld := ⟨R.THM_TILE n, 15, 0⟩
def F.THM_TILE_VALID (n : Nat) : Fld := ⟨R.THM_TILE n, 16, 16⟩
def R.CAL_CTRL : Nat := 0x40050000
def F.CAL_CTRL_SPARSE_EN : Fld := ⟨R.CAL_CTRL, 0, 0⟩
def F.CAL_CTRL_TRIM_RUN : Fld := ⟨R.CAL_CTRL, 1, 1⟩
def F.CAL_CTRL_AVS_EN : Fld := ⟨R.CAL_CTRL, 2, 2⟩
def R.CAL_TOL : Nat := 0x40050004
def F.CAL_TOL_TOL_VF : Fld := ⟨R.CAL_TOL, 7, 0⟩
def F.CAL_TOL_TOL_TRIM : Fld := ⟨R.CAL_TOL, 15, 8⟩
def F.CAL_TOL_TOL_AVS : Fld := ⟨R.CAL_TOL, 23, 16⟩
def R.CAL_SPARSE : Nat := 0x40050008
def F.CAL_SPARSE_MINCODE : Fld := ⟨R.CAL_SPARSE, 11, 0⟩
def F.CAL_SPARSE_REFCODE : Fld := ⟨R.CAL_SPARSE, 27, 16⟩
def R.CAL_AVS : Nat := 0x4005000C
def F.CAL_AVS_SL_TGT : Fld := ⟨R.CAL_AVS, 7, 0⟩
def R.CAL_AVSSTAT : Nat := 0x40050010
def F.CAL_AVSSTAT_SETPT : Fld := ⟨R.CAL_AVSSTAT, 9, 0⟩
def F.CAL_AVSSTAT_REMAIN : Fld := ⟨R.CAL_AVSSTAT, 17, 10⟩
def F.CAL_AVSSTAT_WORST : Fld := ⟨R.CAL_AVSSTAT, 22, 18⟩
def R.CAL_EVENTS : Nat := 0x40050014
def F.CAL_EVENTS_DISCARD : Fld := ⟨R.CAL_EVENTS, 0, 0⟩
def F.CAL_EVENTS_HUSK_STALE : Fld := ⟨R.CAL_EVENTS, 1, 1⟩
def F.CAL_EVENTS_STORE : Fld := ⟨R.CAL_EVENTS, 2, 2⟩
def R.CAL_TRIMPER : Nat := 0x40050018
def F.CAL_TRIMPER_TRIM_S : Fld := ⟨R.CAL_TRIMPER, 15, 0⟩
def R.CAL_FULLCTL : Nat := 0x40050020
def F.CAL_FULLCTL_TILE : Fld := ⟨R.CAL_FULLCTL, 1, 0⟩
def F.CAL_FULLCTL_BASE : Fld := ⟨R.CAL_FULLCTL, 4, 4⟩
def F.CAL_FULLCTL_CODE : Fld := ⟨R.CAL_FULLCTL, 27, 16⟩
def R.CAL_FULLSTAT : Nat := 0x40050024
def F.CAL_FULLSTAT_RUNNING : Fld := ⟨R.CAL_FULLSTAT, 0, 0⟩
def F.CAL_FULLSTAT_RESULT : Fld := ⟨R.CAL_FULLSTAT, 2, 1⟩
def F.CAL_FULLSTAT_BATCH : Fld := ⟨R.CAL_FULLSTAT, 31, 16⟩
def R.CAL_FULLMA : Nat := 0x40050028
def F.CAL_FULLMA_MA : Fld := ⟨R.CAL_FULLMA, 13, 0⟩
def R.CAL_DEFLIM : Nat := 0x4005002C
def F.CAL_DEFLIM_VF_MIN : Fld := ⟨R.CAL_DEFLIM, 15, 0⟩
def F.CAL_DEFLIM_VF_MAX : Fld := ⟨R.CAL_DEFLIM, 31, 16⟩
def R.CAL_EFFMIN : Nat := 0x40050030
def F.CAL_EFFMIN_EFF_MIN : Fld := ⟨R.CAL_EFFMIN, 15, 0⟩
def F.CAL_EFFMIN_HEAD_WARN : Fld := ⟨R.CAL_EFFMIN, 31, 16⟩
def R.CAL_BOFS (n : Nat) : Nat := 0x40050040 + 0x4 * n
def F.CAL_BOFS_CS (n : Nat) : Fld := ⟨R.CAL_BOFS n, 15, 0⟩
def F.CAL_BOFS_II (n : Nat) : Fld := ⟨R.CAL_BOFS n, 31, 16⟩
def R.CAL_MON (n : Nat) : Nat := 0x40050080 + 0x4 * n
def F.CAL_MON_SLACK (n : Nat) : Fld := ⟨R.CAL_MON n, 9, 0⟩
def F.CAL_MON_VALID (n : Nat) : Fld := ⟨R.CAL_MON n, 10, 10⟩
def R.CAL_MAP_GAIN (n : Nat) : Nat := 0x40050100 + 0x40 * n
def F.CAL_MAP_GAIN_ADDR (n : Nat) : Fld := ⟨R.CAL_MAP_GAIN n, 31, 12⟩
def R.CAL_MAP_DEF (n : Nat) : Nat := 0x40050104 + 0x40 * n
def F.CAL_MAP_DEF_ADDR (n : Nat) : Fld := ⟨R.CAL_MAP_DEF n, 31, 12⟩
def R.CAL_MAP_DEFCNT (n : Nat) : Nat := 0x40050108 + 0x40 * n
def F.CAL_MAP_DEFCNT_COUNT (n : Nat) : Fld := ⟨R.CAL_MAP_DEFCNT n, 16, 0⟩
def R.CAL_MAP_GEN (n : Nat) : Nat := 0x4005010C + 0x40 * n
def R.CAL_MAP_STAT (n : Nat) : Nat := 0x40050110 + 0x40 * n
def F.CAL_MAP_STAT_CHECKING (n : Nat) : Fld := ⟨R.CAL_MAP_STAT n, 0, 0⟩
def F.CAL_MAP_STAT_CHECK (n : Nat) : Fld := ⟨R.CAL_MAP_STAT n, 3, 1⟩
def F.CAL_MAP_STAT_CRCFAIL (n : Nat) : Fld := ⟨R.CAL_MAP_STAT n, 4, 4⟩
def F.CAL_MAP_STAT_FULL (n : Nat) : Fld := ⟨R.CAL_MAP_STAT n, 5, 5⟩
def R.CAL_MAP_CRC (n : Nat) : Nat := 0x40050114 + 0x40 * n
def R.CAL_TRIM_OFS (n : Nat) : Nat := 0x40050118 + 0x40 * n
def F.CAL_TRIM_OFS_OFS (n : Nat) : Fld := ⟨R.CAL_TRIM_OFS n, 31, 0⟩
def R.CAL_TRIM_GAIN (n : Nat) : Nat := 0x4005011C + 0x40 * n
def F.CAL_TRIM_GAIN_GAIN (n : Nat) : Fld := ⟨R.CAL_TRIM_GAIN n, 31, 0⟩
def R.CAL_TRIM_REF (n : Nat) : Nat := 0x40050120 + 0x40 * n
def F.CAL_TRIM_REF_VREF_LO (n : Nat) : Fld := ⟨R.CAL_TRIM_REF n, 15, 0⟩
def F.CAL_TRIM_REF_VREF_HI (n : Nat) : Fld := ⟨R.CAL_TRIM_REF n, 31, 16⟩
def R.CAL_TRIM_STAT (n : Nat) : Nat := 0x40050124 + 0x40 * n
def F.CAL_TRIM_STAT_DONE (n : Nat) : Fld := ⟨R.CAL_TRIM_STAT n, 15, 0⟩
def F.CAL_TRIM_STAT_DISCARD (n : Nat) : Fld := ⟨R.CAL_TRIM_STAT n, 31, 16⟩
def R.CAL_AGE (n : Nat) : Nat := 0x40050128 + 0x40 * n
def F.CAL_AGE_KV (n : Nat) : Fld := ⟨R.CAL_AGE n, 15, 0⟩
def F.CAL_AGE_SAT (n : Nat) : Fld := ⟨R.CAL_AGE n, 31, 16⟩
def R.CAL_SLOPE (n : Nat) : Nat := 0x4005012C + 0x40 * n
def F.CAL_SLOPE_SLOPE (n : Nat) : Fld := ⟨R.CAL_SLOPE n, 15, 0⟩
def F.CAL_SLOPE_DISCARD (n : Nat) : Fld := ⟨R.CAL_SLOPE n, 31, 16⟩
def R.CAL_PHOT (n : Nat) : Nat := 0x40050130 + 0x40 * n
def F.CAL_PHOT_SCALE (n : Nat) : Fld := ⟨R.CAL_PHOT n, 31, 0⟩
def R.CAL_HEAD (n : Nat) : Nat := 0x40050134 + 0x40 * n
def F.CAL_HEAD_HEAD (n : Nat) : Fld := ⟨R.CAL_HEAD n, 15, 0⟩
def F.CAL_HEAD_INEED0 (n : Nat) : Fld := ⟨R.CAL_HEAD n, 31, 16⟩
def R.CAL_EFF (n : Nat) : Nat := 0x40050138 + 0x40 * n
def F.CAL_EFF_MEDIAN (n : Nat) : Fld := ⟨R.CAL_EFF n, 15, 0⟩
def F.CAL_EFF_SWEEPS (n : Nat) : Fld := ⟨R.CAL_EFF n, 31, 16⟩
def R.SAF_STATE : Nat := 0x400F0000
def F.SAF_STATE_READY : Fld := ⟨R.SAF_STATE, 0, 0⟩
def F.SAF_STATE_FUNC : Fld := ⟨R.SAF_STATE, 3, 1⟩
def F.SAF_STATE_CONF : Fld := ⟨R.SAF_STATE, 5, 4⟩
def F.SAF_STATE_CHAR : Fld := ⟨R.SAF_STATE, 6, 6⟩
def F.SAF_STATE_RESTARTS : Fld := ⟨R.SAF_STATE, 15, 8⟩
def F.SAF_STATE_TASKS : Fld := ⟨R.SAF_STATE, 31, 16⟩
def R.SAF_CONFCHK : Nat := 0x400F0004
def R.SAF_CONFVAL : Nat := 0x400F0008
def R.SAF_OUTCMD : Nat := 0x400F0010
def F.SAF_OUTCMD_HUSKN_HI : Fld := ⟨R.SAF_OUTCMD, 3, 0⟩
def F.SAF_OUTCMD_LANEIDLE : Fld := ⟨R.SAF_OUTCMD, 7, 4⟩
def F.SAF_OUTCMD_HUSKREQ : Fld := ⟨R.SAF_OUTCMD, 8, 8⟩
def F.SAF_OUTCMD_DARKREQ : Fld := ⟨R.SAF_OUTCMD, 9, 9⟩
def R.SAF_OUTRB : Nat := 0x400F0014
def F.SAF_OUTRB_HUSKN_PAD : Fld := ⟨R.SAF_OUTRB, 3, 0⟩
def F.SAF_OUTRB_LF_PAD : Fld := ⟨R.SAF_OUTRB, 4, 4⟩
def F.SAF_OUTRB_HUSKN_MIS : Fld := ⟨R.SAF_OUTRB, 11, 8⟩
def R.SAF_PULSE : Nat := 0x400F0018
def F.SAF_PULSE_FAIL : Fld := ⟨R.SAF_PULSE, 4, 0⟩
def F.SAF_PULSE_LAST : Fld := ⟨R.SAF_PULSE, 10, 8⟩
def F.SAF_PULSE_COUNT : Fld := ⟨R.SAF_PULSE, 31, 16⟩
def R.SAF_SWCTL : Nat := 0x400F0020
def F.SAF_SWCTL_HCLOSE : Fld := ⟨R.SAF_SWCTL, 3, 0⟩
def F.SAF_SWCTL_LCLOSE : Fld := ⟨R.SAF_SWCTL, 7, 4⟩
def F.SAF_SWCTL_SEQ_EN : Fld := ⟨R.SAF_SWCTL, 8, 8⟩
def R.SAF_SWSTAT : Nat := 0x400F0024
def F.SAF_SWSTAT_FAILED : Fld := ⟨R.SAF_SWSTAT, 7, 0⟩
def F.SAF_SWSTAT_PATHBAD : Fld := ⟨R.SAF_SWSTAT, 11, 8⟩
def F.SAF_SWSTAT_LASTSW : Fld := ⟨R.SAF_SWSTAT, 18, 16⟩
def R.SAF_VIOL : Nat := 0x400F0030
def F.SAF_VIOL_HELD : Fld := ⟨R.SAF_VIOL, 2, 0⟩
def F.SAF_VIOL_LOCKED : Fld := ⟨R.SAF_VIOL, 5, 3⟩
def R.SAF_VIOLCNT : Nat := 0x400F0034
def F.SAF_VIOLCNT_SLP : Fld := ⟨R.SAF_VIOLCNT, 7, 0⟩
def F.SAF_VIOLCNT_SLD : Fld := ⟨R.SAF_VIOLCNT, 15, 8⟩
def F.SAF_VIOLCNT_SLI : Fld := ⟨R.SAF_VIOLCNT, 23, 16⟩
def F.SAF_VIOLCNT_SINGLE : Fld := ⟨R.SAF_VIOLCNT, 31, 24⟩
def R.SAF_LASTVIOL : Nat := 0x400F0038
def F.SAF_LASTVIOL_TILE : Fld := ⟨R.SAF_LASTVIOL, 3, 2⟩
def F.SAF_LASTVIOL_REGION : Fld := ⟨R.SAF_LASTVIOL, 8, 4⟩
def F.SAF_LASTVIOL_MAX : Fld := ⟨R.SAF_LASTVIOL, 31, 16⟩
def R.SAF_LASTREF : Nat := 0x400F003C
def F.SAF_LASTREF_REFRESH : Fld := ⟨R.SAF_LASTREF, 7, 0⟩
def R.SAF_CLAMP : Nat := 0x400F0040
def F.SAF_CLAMP_SEQ : Fld := ⟨R.SAF_CLAMP, 15, 0⟩
def F.SAF_CLAMP_ZONES : Fld := ⟨R.SAF_CLAMP, 21, 16⟩
def F.SAF_CLAMP_GLARE : Fld := ⟨R.SAF_CLAMP, 22, 22⟩
def R.SAF_UNCHK : Nat := 0x400F0044
def F.SAF_UNCHK_COUNT : Fld := ⟨R.SAF_UNCHK, 15, 0⟩
def R.SAF_HUSKMON : Nat := 0x400F0048
def F.SAF_HUSKMON_LANEPATH : Fld := ⟨R.SAF_HUSKMON, 11, 8⟩
def R.SAF_LOCKSTEP : Nat := 0x400F004C
def F.SAF_LOCKSTEP_MISMATCH : Fld := ⟨R.SAF_LOCKSTEP, 7, 0⟩
def F.SAF_LOCKSTEP_WDOG : Fld := ⟨R.SAF_LOCKSTEP, 15, 8⟩
def F.SAF_LOCKSTEP_SRAM_UNC : Fld := ⟨R.SAF_LOCKSTEP, 23, 16⟩
def R.BRM_CTRL : Nat := 0x40100000
def R.BRM_SUMMARY : Nat := 0x40100004
def F.BRM_SUMMARY_SELF : Fld := ⟨R.BRM_SUMMARY, 4, 4⟩
def R.BRM_SELFSTAT : Nat := 0x40100008
def F.BRM_SELFSTAT_PAR_CFG : Fld := ⟨R.BRM_SELFSTAT, 0, 0⟩
def F.BRM_SELFSTAT_PAR_STATE : Fld := ⟨R.BRM_SELFSTAT, 1, 1⟩
def F.BRM_SELFSTAT_COMPARE : Fld := ⟨R.BRM_SELFSTAT, 2, 2⟩
def F.BRM_SELFSTAT_TEST : Fld := ⟨R.BRM_SELFSTAT, 3, 3⟩
def F.BRM_SELFSTAT_WORD : Fld := ⟨R.BRM_SELFSTAT, 14, 8⟩
def R.BRM_BLOCKED : Nat := 0x40100010
def F.BRM_BLOCKED_COUNT : Fld := ⟨R.BRM_BLOCKED, 7, 0⟩
def F.BRM_BLOCKED_LAST : Fld := ⟨R.BRM_BLOCKED, 15, 8⟩
def R.BRM_STAT (n : Nat) : Nat := 0x40100020 + 0x4 * n
def R.BRM_HANDLED (n : Nat) : Nat := 0x40100040 + 0x4 * n
def R.BRM_SHANDLED (n : Nat) : Nat := 0x40100060 + 0x4 * n
def R.BRM_ESC (n : Nat) : Nat := 0x40100080 + 0x4 * n
def R.BRM_CLASS (n : Nat) : Nat := 0x40100100 + 0x4 * n
def R.BRM_GRACE (n : Nat) : Nat := 0x40100200 + 0x4 * n
def R.BRM_CNT (n : Nat) : Nat := 0x40100300 + 0x4 * n
def R.BRM_LOGSTAT : Nat := 0x40100400
def F.BRM_LOGSTAT_NEXT : Fld := ⟨R.BRM_LOGSTAT, 5, 0⟩
def F.BRM_LOGSTAT_SEQ : Fld := ⟨R.BRM_LOGSTAT, 31, 16⟩
def R.BRM_MSGCTRL : Nat := 0x40100404
def F.BRM_MSGCTRL_RD : Fld := ⟨R.BRM_MSGCTRL, 5, 0⟩
def F.BRM_MSGCTRL_EMPTY : Fld := ⟨R.BRM_MSGCTRL, 7, 7⟩
def F.BRM_MSGCTRL_OVERRUN : Fld := ⟨R.BRM_MSGCTRL, 15, 8⟩
def R.BRM_LOG_W (n : Nat) (m : Nat) : Nat := 0x40100800 + 0x10 * n + 0x4 * m
def R.NET_CTRL : Nat := 0x40140000
def F.NET_CTRL_E0_EN : Fld := ⟨R.NET_CTRL, 0, 0⟩
def F.NET_CTRL_E1_EN : Fld := ⟨R.NET_CTRL, 1, 1⟩
def F.NET_CTRL_C0_EN : Fld := ⟨R.NET_CTRL, 6, 6⟩
def F.NET_CTRL_C1_EN : Fld := ⟨R.NET_CTRL, 7, 7⟩
def F.NET_CTRL_ONOTH_UDP : Fld := ⟨R.NET_CTRL, 8, 8⟩
def F.NET_CTRL_ONOTH_C0 : Fld := ⟨R.NET_CTRL, 9, 9⟩
def F.NET_CTRL_ONOTH_C1 : Fld := ⟨R.NET_CTRL, 10, 10⟩
def F.NET_CTRL_AUTOREC : Fld := ⟨R.NET_CTRL, 11, 11⟩
def R.NET_MAC_LO (n : Nat) : Nat := 0x40140010 + 0x8 * n
def R.NET_MAC_HI (n : Nat) : Nat := 0x40140014 + 0x8 * n
def F.NET_MAC_HI_OCT4_5 (n : Nat) : Fld := ⟨R.NET_MAC_HI n, 15, 0⟩
def R.NET_IP (n : Nat) : Nat := 0x40140020 + 0x4 * n
def R.NET_MCAST_LO (n : Nat) : Nat := 0x40140030 + 0x8 * n
def R.NET_MCAST_HI (n : Nat) : Nat := 0x40140034 + 0x8 * n
def F.NET_MCAST_HI_OCT4_5 (n : Nat) : Fld := ⟨R.NET_MCAST_HI n, 15, 0⟩
def F.NET_MCAST_HI_EN (n : Nat) : Fld := ⟨R.NET_MCAST_HI n, 16, 16⟩
def R.NET_LINKSTAT : Nat := 0x40140050
def F.NET_LINKSTAT_E0_UP : Fld := ⟨R.NET_LINKSTAT, 0, 0⟩
def F.NET_LINKSTAT_E1_UP : Fld := ⟨R.NET_LINKSTAT, 1, 1⟩
def F.NET_LINKSTAT_C0_STATE : Fld := ⟨R.NET_LINKSTAT, 5, 4⟩
def F.NET_LINKSTAT_C1_STATE : Fld := ⟨R.NET_LINKSTAT, 7, 6⟩
def F.NET_LINKSTAT_E0_DOWN : Fld := ⟨R.NET_LINKSTAT, 15, 8⟩
def F.NET_LINKSTAT_E1_DOWN : Fld := ⟨R.NET_LINKSTAT, 23, 16⟩
def F.NET_LINKSTAT_BUSOFF : Fld := ⟨R.NET_LINKSTAT, 31, 24⟩
def R.NET_CAN_CFG (n : Nat) : Nat := 0x40140060 + 0x10 * n
def F.NET_CAN_CFG_IDE (n : Nat) : Fld := ⟨R.NET_CAN_CFG n, 3, 3⟩
def R.NET_CAN_REQID (n : Nat) : Nat := 0x40140064 + 0x10 * n
def F.NET_CAN_REQID_ID (n : Nat) : Fld := ⟨R.NET_CAN_REQID n, 28, 0⟩
def R.NET_CAN_RSPID (n : Nat) : Nat := 0x40140068 + 0x10 * n
def F.NET_CAN_RSPID_ID (n : Nat) : Fld := ⟨R.NET_CAN_RSPID n, 28, 0⟩
def R.NET_CAN_ERR (n : Nat) : Nat := 0x4014006C + 0x10 * n
def F.NET_CAN_ERR_TEC (n : Nat) : Fld := ⟨R.NET_CAN_ERR n, 7, 0⟩
def F.NET_CAN_ERR_REC (n : Nat) : Fld := ⟨R.NET_CAN_ERR n, 15, 8⟩
def F.NET_CAN_ERR_CLASSIC (n : Nat) : Fld := ⟨R.NET_CAN_ERR n, 23, 16⟩
def R.NET_ONOTH : Nat := 0x40140080
def F.NET_ONOTH_REQUESTS : Fld := ⟨R.NET_ONOTH, 15, 0⟩
def F.NET_ONOTH_BUSY : Fld := ⟨R.NET_ONOTH, 23, 16⟩
def F.NET_ONOTH_DROPPED : Fld := ⟨R.NET_ONOTH, 31, 24⟩
def R.NET_ONOTH2 : Nat := 0x40140084
def F.NET_ONOTH2_REPLAYED : Fld := ⟨R.NET_ONOTH2, 7, 0⟩
def F.NET_ONOTH2_CLIENTS : Fld := ⟨R.NET_ONOTH2, 11, 8⟩
def F.NET_ONOTH2_DOMABORT : Fld := ⟨R.NET_ONOTH2, 23, 16⟩
def R.NET_ENV_CFG (n : Nat) : Nat := 0x40140100 + 0x20 * n
def F.NET_ENV_CFG_EN (n : Nat) : Fld := ⟨R.NET_ENV_CFG n, 0, 0⟩
def F.NET_ENV_CFG_KIND (n : Nat) : Fld := ⟨R.NET_ENV_CFG n, 2, 1⟩
def F.NET_ENV_CFG_PATH (n : Nat) : Fld := ⟨R.NET_ENV_CFG n, 5, 3⟩
def F.NET_ENV_CFG_TSCHK (n : Nat) : Fld := ⟨R.NET_ENV_CFG n, 6, 6⟩
def F.NET_ENV_CFG_ALIVE_MAX (n : Nat) : Fld := ⟨R.NET_ENV_CFG n, 10, 7⟩
def F.NET_ENV_CFG_PEER (n : Nat) : Fld := ⟨R.NET_ENV_CFG n, 13, 11⟩
def F.NET_ENV_CFG_PORT (n : Nat) : Fld := ⟨R.NET_ENV_CFG n, 31, 16⟩
def R.NET_ENV_ADDR (n : Nat) : Nat := 0x40140104 + 0x20 * n
def R.NET_ENV_ID (n : Nat) : Nat := 0x40140108 + 0x20 * n
def F.NET_ENV_ID_IDENT (n : Nat) : Fld := ⟨R.NET_ENV_ID n, 15, 0⟩
def F.NET_ENV_ID_EXPECT_MS (n : Nat) : Fld := ⟨R.NET_ENV_ID n, 23, 16⟩
def R.NET_ENV_SEED (n : Nat) : Nat := 0x4014010C + 0x20 * n
def R.NET_ENV_STAT (n : Nat) : Nat := 0x40140110 + 0x20 * n
def F.NET_ENV_STAT_STATE (n : Nat) : Fld := ⟨R.NET_ENV_STAT n, 1, 0⟩
def F.NET_ENV_STAT_CAUSE (n : Nat) : Fld := ⟨R.NET_ENV_STAT n, 5, 2⟩
def F.NET_ENV_STAT_HB_ALLOW (n : Nat) : Fld := ⟨R.NET_ENV_STAT n, 6, 6⟩
def F.NET_ENV_STAT_ALIVE (n : Nat) : Fld := ⟨R.NET_ENV_STAT n, 15, 8⟩
def F.NET_ENV_STAT_SEQ (n : Nat) : Fld := ⟨R.NET_ENV_STAT n, 31, 16⟩
def R.NET_ENV_CNT (n : Nat) : Nat := 0x40140114 + 0x20 * n
def F.NET_ENV_CNT_ACCEPTED (n : Nat) : Fld := ⟨R.NET_ENV_CNT n, 15, 0⟩
def F.NET_ENV_CNT_REJECTED (n : Nat) : Fld := ⟨R.NET_ENV_CNT n, 23, 16⟩
def F.NET_ENV_CNT_TIMEOUTS (n : Nat) : Fld := ⟨R.NET_ENV_CNT n, 31, 24⟩
def R.NET_ENV_LOST (n : Nat) : Nat := 0x40140118 + 0x20 * n
def F.NET_ENV_LOST_LOST (n : Nat) : Fld := ⟨R.NET_ENV_LOST n, 15, 0⟩
def F.NET_ENV_LOST_COPIES (n : Nat) : Fld := ⟨R.NET_ENV_LOST n, 31, 16⟩
def R.ODX_LOAD : Nat := 0x40150000
def F.ODX_LOAD_LOAD : Fld := ⟨R.ODX_LOAD, 7, 0⟩
def F.ODX_LOAD_PEAK : Fld := ⟨R.ODX_LOAD, 15, 8⟩
def F.ODX_LOAD_BUSY : Fld := ⟨R.ODX_LOAD, 31, 16⟩
def R.ODX_CFG : Nat := 0x40150004
def F.ODX_CFG_WAIT_MS : Fld := ⟨R.ODX_CFG, 7, 0⟩
def F.ODX_CFG_BG_HIGH : Fld := ⟨R.ODX_CFG, 15, 8⟩
def F.ODX_CFG_BG_LOW : Fld := ⟨R.ODX_CFG, 23, 16⟩
def R.ODX_ATTN : Nat := 0x40150008
def F.ODX_ATTN_FLAGS : Fld := ⟨R.ODX_ATTN, 15, 0⟩
def F.ODX_ATTN_CHANGES : Fld := ⟨R.ODX_ATTN, 31, 16⟩
def R.ODX_STORE : Nat := 0x4015000C
def F.ODX_STORE_STATE : Fld := ⟨R.ODX_STORE, 1, 0⟩
def R.ODX_DEFER : Nat := 0x40150010
def F.ODX_DEFER_DEFERRED : Fld := ⟨R.ODX_DEFER, 15, 0⟩
def R.MBX_CH_CFG (n : Nat) : Nat := 0x40120000 + 0x100 * n
def F.MBX_CH_CFG_SENDER (n : Nat) : Fld := ⟨R.MBX_CH_CFG n, 2, 0⟩
def F.MBX_CH_CFG_RECEIVER (n : Nat) : Fld := ⟨R.MBX_CH_CFG n, 6, 4⟩
def F.MBX_CH_CFG_EN (n : Nat) : Fld := ⟨R.MBX_CH_CFG n, 8, 8⟩
def F.MBX_CH_CFG_TUNNEL (n : Nat) : Fld := ⟨R.MBX_CH_CFG n, 9, 9⟩
def R.MBX_CH_STAT (n : Nat) : Nat := 0x40120008 + 0x100 * n
def F.MBX_CH_STAT_FULL (n : Nat) : Fld := ⟨R.MBX_CH_STAT n, 0, 0⟩
def F.MBX_CH_STAT_NEW (n : Nat) : Fld := ⟨R.MBX_CH_STAT n, 1, 1⟩
def F.MBX_CH_STAT_ACKED (n : Nat) : Fld := ⟨R.MBX_CH_STAT n, 2, 2⟩
def F.MBX_CH_STAT_COLLIDE (n : Nat) : Fld := ⟨R.MBX_CH_STAT n, 3, 3⟩
def F.MBX_CH_STAT_SENDER_RESET (n : Nat) : Fld := ⟨R.MBX_CH_STAT n, 4, 4⟩
def F.MBX_CH_STAT_STALE (n : Nat) : Fld := ⟨R.MBX_CH_STAT n, 5, 5⟩
def F.MBX_CH_STAT_DOORERR (n : Nat) : Fld := ⟨R.MBX_CH_STAT n, 6, 6⟩
def F.MBX_CH_STAT_CFGREF (n : Nat) : Fld := ⟨R.MBX_CH_STAT n, 7, 7⟩
def F.MBX_CH_STAT_LEN (n : Nat) : Fld := ⟨R.MBX_CH_STAT n, 14, 8⟩
def F.MBX_CH_STAT_SEQ (n : Nat) : Fld := ⟨R.MBX_CH_STAT n, 31, 16⟩
def R.MBX_CH_ACK (n : Nat) : Nat := 0x4012000C + 0x100 * n
def F.MBX_CH_ACK_CODE (n : Nat) : Fld := ⟨R.MBX_CH_ACK n, 7, 0⟩
def F.MBX_CH_ACK_SEQ (n : Nat) : Fld := ⟨R.MBX_CH_ACK n, 31, 16⟩
def R.MBX_CH_CNT (n : Nat) : Nat := 0x40120014 + 0x100 * n
def F.MBX_CH_CNT_POSTS (n : Nat) : Fld := ⟨R.MBX_CH_CNT n, 15, 0⟩
def F.MBX_CH_CNT_COLLIDES (n : Nat) : Fld := ⟨R.MBX_CH_CNT n, 23, 16⟩
def F.MBX_CH_CNT_STALECNT (n : Nat) : Fld := ⟨R.MBX_CH_CNT n, 31, 24⟩
def R.MBX_CH_TX (n : Nat) (m : Nat) : Nat := 0x40120040 + 0x100 * n + 0x4 * m
def R.MBX_CH_RX (n : Nat) (m : Nat) : Nat := 0x40120080 + 0x100 * n + 0x4 * m
def R.MBX_EPRST : Nat := 0x40121004
def R.MBX_EPCNT : Nat := 0x40121008
def F.MBX_EPCNT_M0 : Fld := ⟨R.MBX_EPCNT, 7, 0⟩
def F.MBX_EPCNT_M1 : Fld := ⟨R.MBX_EPCNT, 15, 8⟩
def F.MBX_EPCNT_M2 : Fld := ⟨R.MBX_EPCNT, 23, 16⟩
def R.SEM_LOCK (n : Nat) : Nat := 0x40130000 + 0x4 * n
def F.SEM_LOCK_OWNER (n : Nat) : Fld := ⟨R.SEM_LOCK n, 2, 0⟩
def R.SEM_OWNERS (n : Nat) : Nat := 0x40130100 + 0x4 * n
def R.SEM_STAT : Nat := 0x40130200
def F.SEM_STAT_BADREL : Fld := ⟨R.SEM_STAT, 7, 0⟩
def F.SEM_STAT_RESETREL : Fld := ⟨R.SEM_STAT, 15, 8⟩
def F.SEM_STAT_FORCED : Fld := ⟨R.SEM_STAT, 23, 16⟩
def R.CVU_CFG (n : Nat) : Nat := 0x40110000 + 0x100 * n
def F.CVU_CFG_WIDTH (n : Nat) : Fld := ⟨R.CVU_CFG n, 4, 0⟩
def F.CVU_CFG_REFIN (n : Nat) : Fld := ⟨R.CVU_CFG n, 5, 5⟩
def F.CVU_CFG_REFOUT (n : Nat) : Fld := ⟨R.CVU_CFG n, 6, 6⟩
def F.CVU_CFG_LOCKED (n : Nat) : Fld := ⟨R.CVU_CFG n, 7, 7⟩
def R.CVU_POLY (n : Nat) : Nat := 0x40110004 + 0x100 * n
def R.CVU_INIT (n : Nat) : Nat := 0x40110008 + 0x100 * n
def R.CVU_XOROUT (n : Nat) : Nat := 0x4011000C + 0x100 * n
def R.CVU_CTRL (n : Nat) : Nat := 0x40110010 + 0x100 * n
def R.CVU_DIN8 (n : Nat) : Nat := 0x40110014 + 0x100 * n
def R.CVU_DIN16 (n : Nat) : Nat := 0x40110018 + 0x100 * n
def R.CVU_DIN32 (n : Nat) : Nat := 0x4011001C + 0x100 * n
def R.CVU_RESULT (n : Nat) : Nat := 0x40110020 + 0x100 * n
def R.CVU_RAW (n : Nat) : Nat := 0x40110024 + 0x100 * n
def R.CVU_STAT (n : Nat) : Nat := 0x40110028 + 0x100 * n
def F.CVU_STAT_COUNT (n : Nat) : Fld := ⟨R.CVU_STAT n, 23, 0⟩
def F.CVU_STAT_BUSY (n : Nat) : Fld := ⟨R.CVU_STAT n, 24, 24⟩
def F.CVU_STAT_CFGERR (n : Nat) : Fld := ⟨R.CVU_STAT n, 25, 25⟩
def F.CVU_STAT_DENIED (n : Nat) : Fld := ⟨R.CVU_STAT n, 26, 26⟩
def R.CVU_ACFG (n : Nat) : Nat := 0x40110030 + 0x100 * n
def F.CVU_ACFG_AWIDTH (n : Nat) : Fld := ⟨R.CVU_ACFG n, 3, 0⟩
def F.CVU_ACFG_MAXDELTA (n : Nat) : Fld := ⟨R.CVU_ACFG n, 15, 8⟩
def R.CVU_ALIVE (n : Nat) : Nat := 0x40110034 + 0x100 * n
def F.CVU_ALIVE_VALUE (n : Nat) : Fld := ⟨R.CVU_ALIVE n, 7, 0⟩
def R.CVU_ACHK (n : Nat) : Nat := 0x40110038 + 0x100 * n
def F.CVU_ACHK_LAST (n : Nat) : Fld := ⟨R.CVU_ACHK n, 7, 0⟩
def F.CVU_ACHK_DELTA (n : Nat) : Fld := ⟨R.CVU_ACHK n, 15, 8⟩
def F.CVU_ACHK_STUCKRUN (n : Nat) : Fld := ⟨R.CVU_ACHK n, 23, 16⟩
def F.CVU_ACHK_JUMP (n : Nat) : Fld := ⟨R.CVU_ACHK n, 24, 24⟩
def F.CVU_ACHK_VALID (n : Nat) : Fld := ⟨R.CVU_ACHK n, 25, 25⟩

/-- Register table of the SYS block. -/
def regsSYS : List RegDef := [
  ⟨0x10, [], [⟨0, 0, .rw, 0⟩, ⟨1, 1, .rw, 0⟩, ⟨2, 2, .rw, 0⟩, ⟨3, 3, .rw, 0⟩, ⟨4, 4, .rw, 0⟩, ⟨5, 5, .rw, 0⟩, ⟨6, 6, .rw, 0⟩, ⟨7, 7, .rw, 0⟩, ⟨8, 8, .rw, 0⟩, ⟨9, 9, .rw, 0⟩, ⟨10, 10, .rw, 0⟩, ⟨11, 11, .rw, 0⟩]⟩,
  ⟨0x20, [], [⟨31, 0, .ro, 0⟩]⟩,
  ⟨0x24, [], [⟨2, 0, .ro, 0⟩, ⟨3, 3, .ro, 0⟩, ⟨6, 4, .ro, 0⟩, ⟨7, 7, .w1c, 0⟩, ⟨31, 16, .w1c, 0⟩]⟩]
/-- Register table of the PWR block. -/
def regsPWR : List RegDef := [
  ⟨0x0, [], [⟨2, 0, .ro, 0⟩, ⟨3, 3, .ro, 0⟩, ⟨4, 4, .ro, 0⟩, ⟨5, 5, .ro, 0⟩, ⟨10, 8, .ro, 0⟩, ⟨23, 16, .ro, 1⟩]⟩,
  ⟨0x4, [], [⟨0, 0, .rw, 0⟩, ⟨8, 8, .wo, 0⟩, ⟨9, 9, .wo, 0⟩, ⟨16, 16, .w1c, 0⟩]⟩,
  ⟨0x8, [], [⟨0, 0, .rsi, 0⟩, ⟨7, 4, .rsi, 3⟩]⟩,
  ⟨0xC, [], [⟨11, 0, .ro, 1⟩, ⟨27, 16, .ro, 0⟩]⟩,
  ⟨0x10, [], [⟨4, 4, .rw, 0⟩, ⟨11, 6, .rw, 0⟩]⟩,
  ⟨0x14, [], [⟨10, 0, .w1c, 0x3FF⟩]⟩,
  ⟨0x18, [], [⟨0, 0, .rw, 0⟩, ⟨1, 1, .rw, 0⟩, ⟨2, 2, .rw, 1⟩, ⟨7, 3, .rw, 1⟩, ⟨8, 8, .rw, 0⟩, ⟨9, 9, .rw, 0⟩, ⟨10, 10, .rw, 1⟩, ⟨15, 11, .rw, 1⟩, ⟨16, 16, .rw, 0⟩, ⟨17, 17, .rw, 0⟩, ⟨18, 18, .rw, 1⟩, ⟨23, 19, .rw, 1⟩, ⟨24, 24, .rw, 0⟩, ⟨25, 25, .rw, 0⟩, ⟨26, 26, .rw, 1⟩, ⟨31, 27, .rw, 1⟩]⟩,
  ⟨0x1C, [], [⟨3, 0, .w1c, 0⟩, ⟨4, 4, .w1c, 0⟩, ⟨5, 5, .w1c, 0⟩, ⟨8, 8, .w1c, 0⟩, ⟨16, 16, .ro, 0⟩, ⟨23, 20, .ro, 0⟩]⟩,
  ⟨0x20, [], [⟨23, 0, .rw, 0⟩]⟩,
  ⟨0x24, [], [⟨0, 0, .wo, 0⟩, ⟨7, 4, .ro, 0⟩]⟩,
  ⟨0x28, [], [⟨0, 0, .w1c, 1⟩, ⟨1, 1, .w1c, 0⟩, ⟨2, 2, .w1c, 0⟩, ⟨3, 3, .w1c, 0⟩]⟩]
/-- Register table of the CLK block. -/
def regsCLK : List RegDef := []
/-- Register table of the BIST block. -/
def regsBIST : List RegDef := [
  ⟨0x0, [], [⟨3, 0, .rw, 0⟩, ⟨8, 8, .wo, 0⟩, ⟨9, 9, .wo, 0⟩, ⟨16, 16, .w1c, 0⟩]⟩,
  ⟨0x4, [], [⟨3, 0, .ro, 0⟩, ⟨4, 4, .ro, 0⟩, ⟨5, 5, .w1c, 0⟩, ⟨15, 8, .ro, 0⟩]⟩,
  ⟨0x8, [], [⟨10, 0, .ro, 0⟩, ⟨23, 16, .ro, 0⟩]⟩,
  ⟨0xC, [], [⟨3, 0, .ro, 0xF⟩, ⟨4, 4, .ro, 0⟩, ⟨12, 8, .ro, 0x1F⟩, ⟨31, 16, .ro, 0⟩]⟩,
  ⟨0x10, [], [⟨0, 0, .ro, 0⟩, ⟨1, 1, .ro, 0⟩, ⟨2, 2, .ro, 0⟩, ⟨3, 3, .ro, 0⟩, ⟨7, 4, .ro, 0⟩, ⟨11, 8, .ro, 0⟩, ⟨17, 12, .ro, 0⟩]⟩,
  ⟨0x14, [], [⟨31, 0, .ro, 0⟩]⟩,
  ⟨0x18, [], [⟨7, 0, .ro, 0⟩, ⟨10, 8, .ro, 0⟩, ⟨16, 16, .ro, 0⟩]⟩,
  ⟨0x1C, [], [⟨0, 0, .ro, 0⟩, ⟨1, 1, .ro, 0⟩, ⟨15, 8, .w1c, 0⟩]⟩,
  ⟨0x100, [(11, 0x8)], [⟨2, 0, .ro, 0⟩, ⟨11, 8, .ro, 0⟩, ⟨31, 16, .ro, 0⟩]⟩,
  ⟨0x104, [(11, 0x8)], [⟨9, 0, .ro, 0⟩, ⟨23, 16, .ro, 0⟩, ⟨31, 24, .ro, 0⟩]⟩]
/-- Register table of the THM block. -/
def regsTHM : List RegDef := [
  ⟨0x0, [], [⟨3, 0, .rw, 0⟩, ⟨4, 4, .rw, 1⟩]⟩,
  ⟨0x4, [], [⟨7, 0, .rw, 0x50⟩, ⟨19, 8, .rw, 0xFA⟩, ⟨31, 20, .rw, 0x1F4⟩]⟩,
  ⟨0x8, [], [⟨7, 0, .rw, 0x69⟩, ⟨15, 8, .rw, 0x7D⟩, ⟨23, 16, .rw, 0x64⟩, ⟨31, 24, .rw, 0x78⟩]⟩,
  ⟨0xC, [], [⟨15, 0, .rw, 0xD6B⟩, ⟨31, 16, .rw, 0x3E8⟩]⟩,
  ⟨0x10, [], [⟨2, 0, .ro, 0⟩, ⟨3, 3, .ro, 0⟩, ⟨4, 4, .ro, 0⟩, ⟨7, 5, .ro, 0⟩, ⟨11, 8, .ro, 0⟩]⟩,
  ⟨0x14, [], [⟨15, 0, .ro, 0⟩, ⟨31, 16, .ro, 0⟩]⟩,
  ⟨0x18, [], [⟨15, 0, .ro, 0⟩]⟩,
  ⟨0x1C, [], [⟨6, 0, .w1c, 0⟩]⟩,
  ⟨0x20, [], [⟨9, 0, .ro, 0⟩]⟩,
  ⟨0x40, [(10, 0x4)], [⟨15, 0, .ro, 0⟩, ⟨16, 16, .ro, 0⟩]⟩,
  ⟨0x70, [(4, 0x4)], [⟨15, 0, .ro, 0⟩, ⟨17, 16, .ro, 0⟩]⟩,
  ⟨0x80, [(4, 0x4)], [⟨15, 0, .ro, 0⟩, ⟨16, 16, .ro, 0⟩]⟩]
/-- Register table of the CAL block, part 1. -/
def regsCAL0 : List RegDef := [
  ⟨0x0, [], [⟨0, 0, .rw, 0⟩, ⟨1, 1, .rw, 0⟩, ⟨2, 2, .rw, 1⟩]⟩,
  ⟨0x4, [], [⟨7, 0, .rw, 0x1E⟩, ⟨15, 8, .rw, 0x14⟩, ⟨23, 16, .rw, 5⟩]⟩,
  ⟨0x8, [], [⟨11, 0, .rw, 0x400⟩, ⟨27, 16, .rw, 0x800⟩]⟩,
  ⟨0xC, [], [⟨7, 0, .rw, 0x50⟩]⟩,
  ⟨0x10, [], [⟨9, 0, .ro, 0x320⟩, ⟨17, 10, .ro, 0x50⟩, ⟨22, 18, .ro, 0⟩]⟩,
  ⟨0x14, [], [⟨0, 0, .w1c, 0⟩, ⟨1, 1, .w1c, 0⟩, ⟨2, 2, .w1c, 0⟩]⟩,
  ⟨0x18, [], [⟨15, 0, .rw, 0⟩]⟩,
  ⟨0x20, [], [⟨1, 0, .rw, 0⟩, ⟨2, 2, .wo, 0⟩, ⟨3, 3, .wo, 0⟩, ⟨4, 4, .rw, 0⟩, ⟨27, 16, .rw, 0x400⟩]⟩,
  ⟨0x24, [], [⟨0, 0, .ro, 0⟩, ⟨2, 1, .ro, 0⟩, ⟨31, 16, .ro, 0⟩]⟩,
  ⟨0x28, [], [⟨13, 0, .rw, 0x1F4⟩]⟩,
  ⟨0x2C, [], [⟨15, 0, .rw, 0x5DC⟩, ⟨31, 16, .rw, 0x1194⟩]⟩,
  ⟨0x30, [], [⟨15, 0, .rw, 0x8000⟩, ⟨31, 16, .rw, 0xCCD⟩]⟩,
  ⟨0x40, [(4, 0x4)], [⟨15, 0, .ro, 0⟩, ⟨31, 16, .ro, 0⟩]⟩,
  ⟨0x80, [(24, 0x4)], [⟨9, 0, .ro, 0⟩, ⟨10, 10, .ro, 0⟩]⟩,
  ⟨0x100, [(4, 0x40)], [⟨31, 12, .rw, 0⟩]⟩,
  ⟨0x104, [(4, 0x40)], [⟨31, 12, .rw, 0⟩]⟩]
/-- Register table of the CAL block, part 2. -/
def regsCAL1 : List RegDef := [
  ⟨0x108, [(4, 0x40)], [⟨16, 0, .rw, 0⟩]⟩,
  ⟨0x10C, [(4, 0x40)], [⟨7, 0, .rw, 0⟩, ⟨15, 8, .ro, 0⟩, ⟨16, 16, .ro, 0⟩, ⟨17, 17, .w1c, 0⟩, ⟨18, 18, .w1c, 0⟩, ⟨19, 19, .wo, 0⟩]⟩,
  ⟨0x110, [(4, 0x40)], [⟨0, 0, .ro, 0⟩, ⟨3, 1, .ro, 0⟩, ⟨4, 4, .w1c, 0⟩, ⟨5, 5, .w1c, 0⟩]⟩,
  ⟨0x114, [(4, 0x40)], [⟨31, 0, .ro, 0⟩]⟩,
  ⟨0x118, [(4, 0x40)], [⟨31, 0, .ro, 0⟩]⟩,
  ⟨0x11C, [(4, 0x40)], [⟨31, 0, .ro, 0x10000⟩]⟩,
  ⟨0x120, [(4, 0x40)], [⟨15, 0, .rw, 0x3E8⟩, ⟨31, 16, .rw, 0xBB8⟩]⟩,
  ⟨0x124, [(4, 0x40)], [⟨15, 0, .ro, 0⟩, ⟨31, 16, .ro, 0⟩]⟩,
  ⟨0x128, [(4, 0x40)], [⟨15, 0, .rw, 0x106⟩, ⟨31, 16, .ro, 0⟩]⟩,
  ⟨0x12C, [(4, 0x40)], [⟨15, 0, .ro, 0⟩, ⟨31, 16, .ro, 0⟩]⟩,
  ⟨0x130, [(4, 0x40)], [⟨31, 0, .ro, 0x10000⟩]⟩,
  ⟨0x134, [(4, 0x40)], [⟨15, 0, .ro, 0⟩, ⟨31, 16, .rw, 0⟩]⟩,
  ⟨0x138, [(4, 0x40)], [⟨15, 0, .ro, 0xFFFF⟩, ⟨31, 16, .ro, 0⟩]⟩]
def regsCAL : List RegDef := regsCAL0 ++ regsCAL1
/-- Register table of the VIN block, part 1. -/
def regsVIN0 : List RegDef := [
  ⟨0x0, [], [⟨0, 0, .rw, 0⟩, ⟨1, 1, .rw, 0⟩, ⟨2, 2, .rw, 0⟩, ⟨4, 4, .rw, 0⟩, ⟨5, 5, .rw, 1⟩]⟩,
  ⟨0x4, [], [⟨1, 0, .ro, 0⟩, ⟨15, 8, .ro, 0⟩, ⟨31, 16, .ro, 0⟩]⟩,
  ⟨0x8, [], [⟨7, 0, .ro, 0⟩, ⟨15, 8, .ro, 0⟩, ⟨23, 16, .ro, 0⟩, ⟨31, 24, .ro, 0⟩]⟩,
  ⟨0x10, [], [⟨15, 0, .rw, 0xBDED⟩, ⟨22, 16, .rw, 0x28⟩, ⟨24, 24, .rw, 0⟩]⟩,
  ⟨0x14, [], [⟨15, 0, .rw, 0⟩]⟩,
  ⟨0x18, [], [⟨31, 0, .rw, 0⟩]⟩,
  ⟨0x1C, [], [⟨15, 0, .ro, 0⟩, ⟨22, 16, .ro, 0⟩, ⟨27, 24, .ro, 0⟩]⟩,
  ⟨0x20, [], [⟨15, 0, .ro, 0⟩, ⟨31, 16, .ro, 0⟩]⟩,
  ⟨0x24, [], [⟨15, 0, .ro, 0⟩, ⟨31, 16, .ro, 0⟩]⟩,
  ⟨0x30, [], [⟨0, 0, .rw, 0⟩, ⟨2, 1, .rw, 0⟩, ⟨3, 3, .rw, 0⟩, ⟨5, 4, .rw, 0⟩, ⟨6, 6, .rw, 1⟩, ⟨11, 8, .rw, 0⟩, ⟨15, 12, .rw, 5⟩, ⟨22, 16, .rw, 0⟩]⟩,
  ⟨0x34, [], [⟨13, 0, .rw, 0x3E8⟩, ⟨25, 16, .rw, 0⟩]⟩,
  ⟨0x38, [(4, 0x4)], [⟨31, 0, .rw, 0⟩]⟩,
  ⟨0x48, [], [⟨3, 0, .rw, 0⟩, ⟨7, 4, .rw, 2⟩, ⟨8, 8, .rw, 0⟩, ⟨9, 9, .rw, 0⟩, ⟨10, 10, .rw, 0⟩, ⟨11, 11, .rw, 0⟩, ⟨15, 12, .rw, 4⟩, ⟨23, 16, .rw, 0⟩]⟩,
  ⟨0x4C, [], [⟨31, 0, .rw, 0x10000⟩]⟩,
  ⟨0x50, [], [⟨7, 0, .rw, 0⟩, ⟨15, 8, .ro, 0⟩, ⟨16, 16, .ro, 0⟩, ⟨17, 17, .w1c, 0⟩, ⟨18, 18, .w1c, 0⟩, ⟨19, 19, .wo, 0⟩]⟩,
  ⟨0x54, [], [⟨1, 0, .ro, 0⟩, ⟨15, 8, .ro, 0⟩, ⟨23, 16, .ro, 0⟩, ⟨31, 24, .ro, 0⟩]⟩]
/-- Register table of the VIN block, part 2. -/
def regsVIN1 : List RegDef := [
  ⟨0x58, [], [⟨15, 0, .ro, 0⟩, ⟨31, 16, .ro, 0⟩]⟩,
  ⟨0x100, [(8, 0x40)], [⟨31, 0, .rw, 0⟩]⟩,
  ⟨0x104, [(8, 0x40)], [⟨31, 0, .rw, 0⟩]⟩,
  ⟨0x108, [(8, 0x40)], [⟨0, 0, .rw, 0⟩, ⟨2, 1, .rw, 2⟩, ⟨6, 4, .rw, 1⟩, ⟨23, 16, .rw, 0x30⟩, ⟨31, 24, .rw, 0x14⟩]⟩,
  ⟨0x10C, [(8, 0x40)], [⟨11, 0, .rw, 0x800⟩, ⟨26, 16, .rw, 0x400⟩]⟩,
  ⟨0x110, [(8, 0x40), (4, 0x4)], [⟨31, 6, .rw, 0⟩]⟩,
  ⟨0x120, [(8, 0x40)], [⟨7, 0, .rw, 0⟩, ⟨15, 8, .ro, 0⟩, ⟨16, 16, .ro, 0⟩, ⟨17, 17, .w1c, 0⟩, ⟨18, 18, .w1c, 0⟩, ⟨19, 19, .wo, 0⟩]⟩,
  ⟨0x124, [(8, 0x40)], [⟨7, 0, .ro, 0⟩, ⟨9, 8, .ro, 0⟩, ⟨10, 10, .ro, 0⟩, ⟨15, 12, .ro, 0⟩, ⟨18, 16, .ro, 0⟩]⟩,
  ⟨0x128, [(8, 0x40)], [⟨15, 0, .ro, 0⟩, ⟨31, 16, .ro, 0⟩]⟩,
  ⟨0x12C, [(8, 0x40)], [⟨7, 0, .ro, 0⟩, ⟨15, 8, .ro, 0⟩, ⟨23, 16, .ro, 0⟩, ⟨31, 24, .ro, 0⟩]⟩,
  ⟨0x130, [(8, 0x40)], [⟨31, 0, .ro, 0⟩]⟩]
def regsVIN : List RegDef := regsVIN0 ++ regsVIN1
/-- Register table of the LAY block, part 1. -/
def regsLAY0 : List RegDef := [
  ⟨0x0, [], [⟨0, 0, .wo, 0⟩, ⟨1, 1, .wo, 0⟩, ⟨31, 16, .rw, 0⟩]⟩,
  ⟨0x4, [], [⟨1, 0, .ro, 0⟩, ⟨2, 2, .w1c, 0⟩, ⟨3, 3, .w1c, 0⟩, ⟨4, 4, .w1c, 0⟩, ⟨5, 5, .w1c, 0⟩, ⟨6, 6, .w1c, 0⟩, ⟨11, 8, .ro, 0⟩, ⟨14, 12, .ro, 0⟩, ⟨15, 15, .ro, 0⟩, ⟨31, 16, .ro, 0⟩]⟩,
  ⟨0x8, [], [⟨15, 0, .ro, 0⟩, ⟨23, 16, .ro, 0⟩, ⟨31, 24, .ro, 0⟩]⟩,
  ⟨0xC, [], [⟨31, 0, .ro, 0⟩]⟩,
  ⟨0x10, [], [⟨9, 0, .ro, 0⟩]⟩,
  ⟨0x14, [], [⟨23, 0, .ro, 0⟩]⟩,
  ⟨0x20, [], [⟨1, 0, .rws, 1⟩, ⟨29, 16, .rws, 0x9C4⟩]⟩,
  ⟨0x24, [], [⟨13, 0, .rws, 0x3E8⟩, ⟨16, 16, .rws, 1⟩]⟩,
  ⟨0x28, [], [⟨31, 6, .rws, 0⟩]⟩,
  ⟨0x2C, [], [⟨8, 0, .rws, 0⟩]⟩,
  ⟨0x40, [], [⟨15, 0, .ro, 0⟩, ⟨31, 16, .ro, 0⟩]⟩,
  ⟨0x44, [], [⟨7, 0, .ro, 0⟩, ⟨15, 8, .ro, 0⟩, ⟨23, 16, .ro, 0⟩, ⟨31, 24, .ro, 0⟩]⟩,
  ⟨0x48, [], [⟨7, 0, .ro, 0⟩, ⟨15, 8, .ro, 0⟩, ⟨23, 16, .ro, 0⟩, ⟨31, 24, .ro, 0⟩]⟩,
  ⟨0x4C, [], [⟨7, 0, .ro, 0⟩, ⟨15, 8, .ro, 0⟩, ⟨23, 16, .ro, 0⟩]⟩,
  ⟨0x50, [], [⟨4, 0, .ro, 0⟩, ⟨5, 5, .ro, 0⟩, ⟨7, 6, .ro, 0⟩, ⟨31, 16, .ro, 0⟩]⟩,
  ⟨0x100, [(8, 0x20)], [⟨0, 0, .rws, 0⟩, ⟨3, 1, .rws, 1⟩, ⟨6, 4, .rws, 0⟩, ⟨7, 7, .rws, 0⟩, ⟨9, 8, .rws, 1⟩, ⟨12, 10, .rws, 0⟩, ⟨15, 13, .rws, 0⟩, ⟨23, 16, .rws, 0⟩]⟩]
/-- Register table of the LAY block, part 2. -/
def regsLAY1 : List RegDef := [
  ⟨0x104, [(8, 0x20)], [⟨31, 6, .rws, 0⟩]⟩,
  ⟨0x108, [(8, 0x20)], [⟨11, 0, .rws, 0x800⟩, ⟨26, 16, .rws, 0x400⟩]⟩,
  ⟨0x10C, [(8, 0x20)], [⟨7, 0, .rws, 0x30⟩, ⟨31, 16, .rws, 0⟩]⟩,
  ⟨0x110, [(8, 0x20)], [⟨12, 0, .rws, 0⟩, ⟨28, 16, .rws, 0⟩]⟩,
  ⟨0x114, [(8, 0x20)], [⟨12, 0, .rws, 0x800⟩, ⟨28, 16, .rws, 0x400⟩]⟩,
  ⟨0x118, [(8, 0x20)], [⟨7, 0, .rws, 0x32⟩, ⟨15, 8, .rws, 0xC8⟩]⟩,
  ⟨0x1000, [(8, 0x200), (128, 0x4)], [⟨15, 0, .rws, 0⟩, ⟨31, 16, .rws, 0⟩]⟩]
def regsLAY : List RegDef := regsLAY0 ++ regsLAY1
/-- Register table of the CMP block, part 1. -/
def regsCMP0 : List RegDef := [
  ⟨0x0, [], [⟨0, 0, .rw, 1⟩]⟩,
  ⟨0x4, [], [⟨3, 0, .ro, 8⟩, ⟨11, 8, .ro, 0xF⟩, ⟨17, 16, .ro, 0⟩, ⟨19, 18, .ro, 0⟩, ⟨20, 20, .ro, 0⟩]⟩,
  ⟨0x8, [], [⟨7, 0, .w1c, 0⟩, ⟨31, 16, .w1c, 0⟩]⟩,
  ⟨0x10, [], [⟨0, 0, .wo, 0⟩, ⟨1, 1, .wo, 0⟩]⟩,
  ⟨0x14, [], [⟨31, 6, .rw, 0⟩]⟩,
  ⟨0x18, [], [⟨2, 0, .ro, 0⟩, ⟨3, 3, .w1c, 0⟩, ⟨31, 16, .ro, 0⟩]⟩,
  ⟨0x20, [], [⟨7, 0, .rw, 0⟩, ⟨8, 8, .wo, 0⟩, ⟨9, 9, .wo, 0⟩, ⟨10, 10, .wo, 0⟩]⟩,
  ⟨0x24, [], [⟨0, 0, .ro, 0⟩, ⟨7, 4, .ro, 0⟩, ⟨16, 8, .ro, 0⟩, ⟨27, 17, .ro, 0x400⟩]⟩,
  ⟨0x40, [], [⟨31, 0, .ro, 0⟩]⟩,
  ⟨0x44, [], [⟨31, 0, .ro, 0⟩]⟩,
  ⟨0x48, [], [⟨31, 0, .ro, 0⟩]⟩,
  ⟨0x4C, [], [⟨15, 0, .ro, 0⟩, ⟨23, 16, .ro, 0⟩, ⟨31, 24, .ro, 0⟩]⟩,
  ⟨0x50, [], [⟨31, 0, .ro, 0⟩]⟩,
  ⟨0x100, [(32, 0x10)], [⟨10, 0, .rws, 0⟩, ⟨25, 16, .rws, 0⟩, ⟨29, 28, .rws, 0⟩]⟩,
  ⟨0x104, [(32, 0x10)], [⟨10, 0, .rws, 0⟩, ⟨25, 16, .rws, 0⟩]⟩,
  ⟨0x108, [(32, 0x10)], [⟨31, 0, .rws, 0⟩]⟩]
/-- Register table of the CMP block, part 2. -/
def regsCMP1 : List RegDef := [
  ⟨0x10C, [(32, 0x10)], [⟨31, 0, .ro, 0⟩]⟩]
def regsCMP : List RegDef := regsCMP0 ++ regsCMP1
/-- Register table of the GME block, part 1. -/
def regsGME0 : List RegDef := [
  ⟨0x0, [], [⟨0, 0, .rws, 0⟩, ⟨1, 1, .rws, 1⟩, ⟨2, 2, .rws, 0⟩, ⟨3, 3, .rws, 1⟩, ⟨15, 8, .rws, 0⟩, ⟨23, 16, .rws, 0⟩]⟩,
  ⟨0x4, [], [⟨15, 0, .rws, 0x2710⟩, ⟨31, 16, .rws, 0x1F4⟩]⟩,
  ⟨0x8, [], [⟨15, 0, .rws, 0⟩, ⟨31, 16, .rws, 0⟩]⟩,
  ⟨0xC, [], [⟨15, 0, .rws, 0x1388⟩]⟩,
  ⟨0x10, [], [⟨2, 0, .ro, 0⟩, ⟨3, 3, .ro, 0⟩, ⟨11, 4, .ro, 0⟩, ⟨19, 12, .ro, 0⟩, ⟨31, 20, .ro, 0xFFF⟩]⟩,
  ⟨0x14, [], [⟨15, 0, .ro, 0⟩]⟩,
  ⟨0x18, [], [⟨15, 0, .ro, 0⟩, ⟨31, 16, .ro, 0⟩]⟩,
  ⟨0x1C, [], [⟨15, 0, .ro, 0⟩, ⟨31, 16, .ro, 0⟩]⟩,
  ⟨0x20, [], [⟨7, 0, .ro, 0⟩, ⟨15, 8, .ro, 0⟩, ⟨23, 16, .ro, 0⟩, ⟨31, 24, .ro, 0⟩]⟩,
  ⟨0x24, [], [⟨15, 0, .ro, 0⟩, ⟨31, 16, .w1c, 0⟩]⟩,
  ⟨0x28, [], [⟨31, 0, .ro, 0⟩]⟩,
  ⟨0x100, [(16, 0x8)], [⟨10, 0, .ro, 0⟩, ⟨25, 16, .ro, 0⟩, ⟨31, 31, .ro, 0⟩]⟩,
  ⟨0x104, [(16, 0x8)], [⟨10, 0, .ro, 0⟩, ⟨25, 16, .ro, 0⟩, ⟨30, 28, .ro, 0⟩]⟩,
  ⟨0x200, [(7, 0x10)], [⟨15, 0, .rws, 0⟩, ⟨31, 16, .rws, 0⟩]⟩,
  ⟨0x204, [(7, 0x10)], [⟨5, 0, .rws, 0⟩, ⟨15, 8, .rws, 0⟩, ⟨19, 16, .rws, 0⟩, ⟨20, 20, .rws, 0⟩, ⟨21, 21, .rws, 1⟩, ⟨27, 24, .rws, 0⟩]⟩,
  ⟨0x208, [(7, 0x10)], [⟨15, 0, .rws, 0⟩, ⟨23, 16, .rws, 0⟩, ⟨31, 24, .rws, 0⟩]⟩]
/-- Register table of the GME block, part 2. -/
def regsGME1 : List RegDef := [
  ⟨0x1000, [(4, 0x1000)], [⟨15, 0, .rw, 0⟩, ⟨31, 16, .rw, 0⟩]⟩,
  ⟨0x1004, [(4, 0x1000)], [⟨15, 0, .rw, 0x271⟩, ⟨31, 16, .rw, 0x271⟩]⟩,
  ⟨0x1008, [(4, 0x1000)], [⟨7, 0, .rw, 0⟩, ⟨15, 8, .ro, 0⟩, ⟨16, 16, .ro, 0⟩, ⟨17, 17, .w1c, 0⟩, ⟨18, 18, .w1c, 0⟩, ⟨19, 19, .wo, 0⟩]⟩,
  ⟨0x100C, [(4, 0x1000)], [⟨1, 0, .ro, 0⟩, ⟨25, 16, .ro, 0⟩]⟩,
  ⟨0x1100, [(4, 0x1000), (561, 0x4)], [⟨15, 0, .rw, 0⟩, ⟨31, 16, .rw, 0⟩]⟩]
def regsGME : List RegDef := regsGME0 ++ regsGME1
/-- Register table of the SCN block, part 1. -/
def regsSCN0 : List RegDef := [
  ⟨0x0, [], [⟨0, 0, .rw, 1⟩, ⟨1, 1, .rw, 1⟩, ⟨2, 2, .rw, 0⟩]⟩,
  ⟨0x4, [], [⟨1, 0, .ro, 1⟩, ⟨3, 2, .ro, 0⟩, ⟨8, 4, .ro, 0x11⟩, ⟨9, 9, .ro, 0⟩, ⟨21, 16, .ro, 0⟩, ⟨22, 22, .ro, 0⟩]⟩,
  ⟨0x10, [], [⟨0, 0, .rw, 0⟩, ⟨15, 4, .rw, 0x10⟩]⟩,
  ⟨0x14, [], [⟨15, 0, .rw, 0xFC00⟩, ⟨31, 16, .rw, 0x400⟩]⟩,
  ⟨0x18, [], [⟨15, 0, .rw, 0⟩]⟩,
  ⟨0x1C, [], [⟨15, 0, .ro, 0⟩, ⟨31, 16, .ro, 0⟩]⟩,
  ⟨0x20, [], [⟨9, 0, .rw, 0⟩, ⟨12, 12, .rw, 0⟩, ⟨13, 13, .rw, 0⟩]⟩,
  ⟨0x24, [], [⟨31, 0, .ro, 0⟩]⟩,
  ⟨0x28, [], [⟨0, 0, .w1c, 0⟩, ⟨1, 1, .w1c, 0⟩, ⟨2, 2, .w1c, 0⟩, ⟨3, 3, .w1c, 0⟩, ⟨4, 4, .w1c, 0⟩, ⟨5, 5, .w1c, 0⟩]⟩,
  ⟨0x2C, [], [⟨31, 0, .ro, 0⟩]⟩,
  ⟨0x30, [], [⟨15, 0, .ro, 0⟩, ⟨23, 16, .ro, 0⟩, ⟨31, 24, .ro, 0⟩]⟩,
  ⟨0x34, [], [⟨9, 0, .ro, 0⟩, ⟨27, 16, .ro, 0⟩, ⟨31, 31, .w1c, 0⟩]⟩,
  ⟨0x38, [], [⟨15, 0, .ro, 0⟩, ⟨31, 16, .ro, 0⟩]⟩,
  ⟨0x3C, [], [⟨15, 0, .ro, 0⟩, ⟨23, 16, .ro, 0⟩]⟩,
  ⟨0x40, [], [⟨21, 0, .ro, 0⟩]⟩,
  ⟨0x44, [], [⟨15, 0, .ro, 0⟩, ⟨31, 16, .ro, 0⟩]⟩]
/-- Register table of the SCN block, part 2. -/
def regsSCN1 : List RegDef := [
  ⟨0x80, [(4, 0x8)], [⟨31, 0, .ro, 0⟩]⟩,
  ⟨0x84, [(4, 0x8)], [⟨3, 0, .ro, 0⟩, ⟨31, 31, .ro, 0⟩]⟩,
  ⟨0x200, [(32, 0x10)], [⟨10, 0, .ro, 0⟩, ⟨25, 16, .ro, 0⟩, ⟨31, 31, .ro, 0⟩]⟩,
  ⟨0x204, [(32, 0x10)], [⟨10, 0, .ro, 0⟩, ⟨25, 16, .ro, 0⟩]⟩,
  ⟨0x208, [(32, 0x10)], [⟨15, 0, .ro, 0⟩]⟩]
def regsSCN : List RegDef := regsSCN0 ++ regsSCN1
/-- Register table of the LNK block, part 1. -/
def regsLNK0 : List RegDef := [
  ⟨0x0, [(4, 0x4000)], [⟨0, 0, .rw, 0⟩, ⟨1, 1, .rw, 1⟩, ⟨2, 2, .rw, 1⟩, ⟨3, 3, .rw, 0⟩, ⟨4, 4, .wo, 0⟩, ⟨23, 16, .rw, 0x64⟩, ⟨31, 24, .rw, 0x10⟩]⟩,
  ⟨0x4, [(4, 0x4000)], [⟨3, 0, .rw, 8⟩, ⟨6, 4, .rw, 2⟩, ⟨11, 8, .rw, 3⟩]⟩,
  ⟨0x8, [(4, 0x4000)], [⟨3, 0, .ro, 0⟩, ⟨5, 4, .ro, 0⟩, ⟨6, 6, .ro, 0⟩, ⟨7, 7, .ro, 0⟩, ⟨11, 8, .ro, 0⟩, ⟨15, 12, .ro, 0⟩, ⟨23, 16, .ro, 0⟩]⟩,
  ⟨0xC, [(4, 0x4000)], [⟨0, 0, .w1c, 0⟩, ⟨1, 1, .w1c, 0⟩, ⟨2, 2, .w1c, 0⟩, ⟨3, 3, .w1c, 0⟩, ⟨4, 4, .w1c, 0⟩, ⟨5, 5, .w1c, 0⟩]⟩,
  ⟨0x10, [(4, 0x4000)], [⟨15, 0, .ro, 0⟩, ⟨23, 16, .ro, 0⟩, ⟨31, 24, .ro, 0⟩]⟩,
  ⟨0x14, [(4, 0x4000)], [⟨31, 0, .ro, 0⟩]⟩,
  ⟨0x18, [(4, 0x4000)], [⟨31, 0, .ro, 0⟩]⟩,
  ⟨0x1C, [(4, 0x4000)], [⟨31, 0, .ro, 0⟩]⟩,
  ⟨0x20, [(4, 0x4000)], [⟨31, 0, .rw, 0⟩]⟩,
  ⟨0x24, [(4, 0x4000)], [⟨31, 0, .rw, 0⟩]⟩,
  ⟨0x28, [(4, 0x4000)], [⟨31, 0, .rw, 0⟩]⟩,
  ⟨0x2C, [(4, 0x4000)], [⟨7, 0, .rw, 0⟩, ⟨15, 8, .rw, 0⟩, ⟨16, 16, .wo, 0⟩, ⟨17, 17, .ro, 0⟩]⟩,
  ⟨0x30, [(4, 0x4000)], [⟨31, 0, .rw, 0⟩]⟩,
  ⟨0x34, [(4, 0x4000)], [⟨7, 0, .ro, 0⟩, ⟨11, 8, .ro, 0⟩, ⟨12, 12, .w1c, 0⟩]⟩,
  ⟨0x38, [(4, 0x4000)], [⟨31, 0, .ro, 0⟩]⟩,
  ⟨0x40, [(4, 0x4000)], [⟨31, 0, .ro, 0⟩]⟩]
/-- Register table of the LNK block, part 2. -/
def regsLNK1 : List RegDef := [
  ⟨0x44, [(4, 0x4000)], [⟨15, 0, .ro, 0⟩, ⟨31, 16, .ro, 0⟩]⟩,
  ⟨0x48, [(4, 0x4000)], [⟨15, 0, .ro, 0⟩, ⟨31, 16, .ro, 0⟩]⟩,
  ⟨0x4C, [(4, 0x4000)], [⟨15, 0, .ro, 0⟩, ⟨23, 16, .ro, 0⟩, ⟨31, 24, .ro, 0⟩]⟩,
  ⟨0x50, [(4, 0x4000)], [⟨15, 0, .ro, 0⟩, ⟨31, 16, .ro, 0⟩]⟩,
  ⟨0x54, [(4, 0x4000)], [⟨0, 0, .ro, 0⟩, ⟨1, 1, .ro, 0⟩, ⟨2, 2, .ro, 0⟩, ⟨3, 3, .ro, 0⟩]⟩,
  ⟨0x58, [(4, 0x4000)], [⟨0, 0, .ro, 0⟩, ⟨1, 1, .ro, 0⟩, ⟨23, 8, .ro, 0⟩]⟩,
  ⟨0x5C, [(4, 0x4000)], [⟨7, 0, .rsi, 0⟩, ⟨15, 8, .ro, 0⟩, ⟨16, 16, .ro, 0⟩, ⟨17, 17, .w1c, 0⟩, ⟨18, 18, .w1c, 0⟩, ⟨19, 19, .wo, 0⟩]⟩,
  ⟨0x100, [(4, 0x4000), (32, 0x8)], [⟨9, 0, .rsi, 0⟩, ⟨24, 16, .rsi, 0⟩, ⟨31, 31, .rsi, 0⟩]⟩,
  ⟨0x104, [(4, 0x4000), (32, 0x8)], [⟨9, 0, .rsi, 0⟩, ⟨24, 16, .rsi, 0⟩]⟩,
  ⟨0x200, [(4, 0x4000), (32, 0x10), (2, 0x8)], [⟨15, 0, .ro, 0⟩, ⟨16, 16, .ro, 0⟩, ⟨17, 17, .ro, 0⟩, ⟨18, 18, .ro, 0⟩, ⟨19, 19, .ro, 0⟩, ⟨31, 24, .ro, 0⟩]⟩,
  ⟨0x204, [(4, 0x4000), (32, 0x10), (2, 0x8)], [⟨31, 0, .ro, 0⟩]⟩]
def regsLNK : List RegDef := regsLNK0 ++ regsLNK1
/-- Register table of the SAT block. -/
def regsSAT : List RegDef := [
  ⟨0x0, [], [⟨16, 0, .rw, 0x2710⟩]⟩,
  ⟨0x4, [], [⟨16, 0, .rw, 0x1388⟩]⟩,
  ⟨0x100, [(4, 0x40)], [⟨0, 0, .rw, 0⟩, ⟨1, 1, .rw, 1⟩, ⟨2, 2, .rw, 0⟩, ⟨3, 3, .wo, 0⟩, ⟨25, 16, .rw, 0x64⟩]⟩,
  ⟨0x104, [(4, 0x40)], [⟨15, 0, .rw, 0x8000⟩]⟩,
  ⟨0x108, [(4, 0x40)], [⟨2, 0, .ro, 0⟩, ⟨3, 3, .ro, 0⟩, ⟨25, 16, .ro, 0⟩]⟩,
  ⟨0x10C, [(4, 0x40)], [⟨0, 0, .w1c, 0⟩, ⟨1, 1, .w1c, 0⟩, ⟨2, 2, .w1c, 0⟩]⟩,
  ⟨0x110, [(4, 0x40)], [⟨15, 0, .ro, 0⟩, ⟨23, 16, .ro, 0⟩, ⟨31, 24, .ro, 0⟩]⟩,
  ⟨0x114, [(4, 0x40)], [⟨7, 0, .rw, 0⟩, ⟨15, 8, .ro, 0⟩, ⟨16, 16, .ro, 0⟩, ⟨17, 17, .w1c, 0⟩, ⟨18, 18, .w1c, 0⟩, ⟨19, 19, .wo, 0⟩]⟩,
  ⟨0x2000, [(4, 0x800), (512, 0x4)], [⟨15, 0, .ro, 0⟩, ⟨23, 16, .ro, 0⟩, ⟨31, 24, .ro, 0⟩]⟩,
  ⟨0x4000, [(4, 0x1000), (512, 0x8)], [⟨15, 0, .rw, 0⟩, ⟨31, 16, .rw, 0⟩]⟩,
  ⟨0x4004, [(4, 0x1000), (512, 0x8)], [⟨15, 0, .rw, 0⟩]⟩,
  ⟨0x8000, [(4, 0x800), (512, 0x4)], [⟨15, 0, .ro, 0xFFFF⟩, ⟨23, 16, .ro, 0xFF⟩, ⟨31, 24, .ro, 0xFF⟩]⟩]
/-- Register table of the PID block, part 1. -/
def regsPID0 : List RegDef := [
  ⟨0x0, [], [⟨0, 0, .rw, 0⟩]⟩,
  ⟨0x4, [], [⟨15, 0, .ro, 0⟩, ⟨31, 16, .ro, 0⟩]⟩,
  ⟨0x8, [], [⟨3, 0, .rw, 0xD⟩, ⟨4, 4, .rw, 0⟩, ⟨31, 16, .rw, 0x7D0⟩]⟩,
  ⟨0xC, [], [⟨15, 0, .rw, 0⟩]⟩,
  ⟨0x10, [], [⟨31, 0, .ro, 0⟩]⟩,
  ⟨0x40, [(4, 0x10)], [⟨15, 0, .rw, 0⟩]⟩,
  ⟨0x44, [(4, 0x10)], [⟨3, 0, .ro, 0⟩, ⟨4, 4, .ro, 0⟩, ⟨5, 5, .w1c, 0⟩, ⟨31, 16, .ro, 0⟩]⟩,
  ⟨0x48, [(4, 0x10)], [⟨31, 0, .ro, 0⟩]⟩,
  ⟨0x100, [(16, 0x80)], [⟨0, 0, .rw, 0⟩, ⟨7, 4, .rw, 0⟩, ⟨9, 8, .rw, 0⟩]⟩,
  ⟨0x104, [(16, 0x80)], [⟨16, 0, .rw, 0x64⟩]⟩,
  ⟨0x108, [(16, 0x80)], [⟨24, 0, .rw, 0x7D0⟩]⟩,
  ⟨0x10C, [(16, 0x80)], [⟨31, 0, .rw, 0⟩]⟩,
  ⟨0x110, [(16, 0x80)], [⟨31, 0, .rw, 0⟩]⟩,
  ⟨0x114, [(16, 0x80)], [⟨31, 0, .rw, 0⟩]⟩,
  ⟨0x118, [(16, 0x80)], [⟨15, 0, .rw, 0⟩]⟩,
  ⟨0x11C, [(16, 0x80)], [⟨31, 0, .rw, 0⟩]⟩]
/-- Register table of the PID block, part 2. -/
def regsPID1 : List RegDef := [
  ⟨0x120, [(16, 0x80)], [⟨31, 0, .rw, 0x80000000⟩]⟩,
  ⟨0x124, [(16, 0x80)], [⟨31, 0, .rw, 0x7FFFFFFF⟩]⟩,
  ⟨0x128, [(16, 0x80)], [⟨31, 0, .rw, 0x80000000⟩]⟩,
  ⟨0x12C, [(16, 0x80)], [⟨31, 0, .rw, 0x7FFFFFFF⟩]⟩,
  ⟨0x130, [(16, 0x80)], [⟨31, 0, .rw, 0⟩]⟩,
  ⟨0x134, [(16, 0x80)], [⟨7, 0, .rw, 0⟩, ⟨15, 8, .ro, 0⟩, ⟨16, 16, .ro, 0⟩, ⟨17, 17, .w1c, 0⟩, ⟨18, 18, .w1c, 0⟩, ⟨19, 19, .wo, 0⟩]⟩,
  ⟨0x138, [(16, 0x80)], [⟨31, 0, .rw, 0⟩]⟩,
  ⟨0x13C, [(16, 0x80)], [⟨31, 0, .rw, 0⟩]⟩,
  ⟨0x140, [(16, 0x80)], [⟨0, 0, .ro, 0⟩, ⟨1, 1, .ro, 0⟩, ⟨2, 2, .ro, 0⟩, ⟨3, 3, .ro, 0⟩, ⟨4, 4, .ro, 0⟩, ⟨5, 5, .ro, 0⟩, ⟨31, 16, .ro, 0⟩]⟩,
  ⟨0x144, [(16, 0x80)], [⟨31, 0, .ro, 0⟩]⟩,
  ⟨0x148, [(16, 0x80)], [⟨31, 0, .ro, 0⟩]⟩,
  ⟨0x14C, [(16, 0x80)], [⟨31, 0, .ro, 0⟩]⟩,
  ⟨0x1000, [(4, 0x100)], [⟨0, 0, .rw, 0⟩, ⟨11, 2, .rw, 0x190⟩, ⟨15, 12, .rw, 4⟩, ⟨22, 16, .rw, 0x78⟩]⟩,
  ⟨0x1004, [(4, 0x100)], [⟨15, 0, .rw, 0x1770⟩, ⟨31, 16, .rw, 0x1388⟩]⟩,
  ⟨0x1008, [(4, 0x100)], [⟨13, 0, .rw, 0x2710⟩, ⟨27, 16, .rw, 0x7D0⟩]⟩,
  ⟨0x100C, [(4, 0x100)], [⟨13, 0, .rw, 0⟩, ⟨16, 16, .rw, 0⟩]⟩]
/-- Register table of the PID block, part 3. -/
def regsPID2 : List RegDef := [
  ⟨0x1010, [(4, 0x100)], [⟨13, 0, .rw, 0x2710⟩]⟩,
  ⟨0x1014, [(4, 0x100)], [⟨7, 0, .rw, 0⟩, ⟨15, 8, .ro, 0⟩, ⟨16, 16, .ro, 0⟩, ⟨17, 17, .w1c, 0⟩, ⟨18, 18, .w1c, 0⟩, ⟨19, 19, .wo, 0⟩]⟩,
  ⟨0x1018, [(4, 0x100)], [⟨2, 0, .ro, 0⟩, ⟨3, 3, .ro, 0⟩, ⟨8, 8, .w1c, 0⟩, ⟨9, 9, .w1c, 0⟩, ⟨31, 16, .ro, 0⟩]⟩,
  ⟨0x101C, [(4, 0x100)], [⟨15, 0, .ro, 0⟩, ⟨31, 16, .ro, 0⟩]⟩,
  ⟨0x1020, [(4, 0x100)], [⟨15, 0, .ro, 0⟩, ⟨31, 16, .ro, 0⟩]⟩]
def regsPID : List RegDef := regsPID0 ++ regsPID1 ++ regsPID2
/-- Register table of the ENG block, part 1. -/
def regsENG0 : List RegDef := [
  ⟨0x0, [], [⟨0, 0, .rw, 1⟩, ⟨1, 1, .rw, 1⟩, ⟨2, 2, .rw, 1⟩, ⟨7, 4, .rw, 0xC⟩, ⟨11, 8, .rw, 0⟩]⟩,
  ⟨0x4, [], [⟨31, 0, .rw, 0x300000⟩]⟩,
  ⟨0x8, [], [⟨31, 0, .rw, 0x300000⟩]⟩,
  ⟨0xC, [], [⟨31, 0, .rw, 0x100000⟩]⟩,
  ⟨0x10, [], [⟨15, 0, .rw, 0⟩, ⟨31, 16, .rw, 0⟩]⟩,
  ⟨0x14, [], [⟨15, 0, .rw, 0xBB8⟩]⟩,
  ⟨0x18, [], [⟨15, 0, .ro, 0⟩, ⟨23, 16, .ro, 0⟩, ⟨25, 24, .ro, 0⟩]⟩,
  ⟨0x1C, [], [⟨15, 0, .rw, 0x1B58⟩, ⟨16, 16, .rw, 0⟩, ⟨17, 17, .w1c, 0⟩]⟩,
  ⟨0x20, [], [⟨31, 0, .rw, 0⟩]⟩,
  ⟨0x24, [], [⟨31, 0, .rw, 0⟩]⟩,
  ⟨0x28, [], [⟨16, 0, .rw, 0x753⟩]⟩,
  ⟨0x2C, [], [⟨19, 0, .rw, 0x11170⟩]⟩,
  ⟨0x30, [], [⟨19, 0, .rw, 0⟩]⟩,
  ⟨0x34, [], [⟨15, 0, .rw, 0xE10⟩]⟩,
  ⟨0x38, [], [⟨7, 0, .rw, 0⟩, ⟨15, 8, .ro, 0⟩, ⟨16, 16, .ro, 0⟩, ⟨17, 17, .w1c, 0⟩, ⟨18, 18, .w1c, 0⟩, ⟨19, 19, .wo, 0⟩]⟩,
  ⟨0x3C, [], [⟨0, 0, .wo, 0⟩]⟩]
/-- Register table of the ENG block, part 2. -/
def regsENG1 : List RegDef := [
  ⟨0x40, [], [⟨0, 0, .ro, 0⟩, ⟨1, 1, .ro, 0⟩, ⟨2, 2, .ro, 0⟩, ⟨3, 3, .ro, 0⟩, ⟨4, 4, .w1c, 0⟩, ⟨5, 5, .ro, 0⟩]⟩,
  ⟨0x44, [], [⟨19, 0, .ro, 0⟩]⟩,
  ⟨0x48, [], [⟨19, 0, .ro, 0⟩]⟩,
  ⟨0x4C, [], [⟨19, 0, .ro, 0⟩]⟩,
  ⟨0x50, [], [⟨31, 0, .ro, 0⟩]⟩,
  ⟨0x54, [], [⟨16, 0, .ro, 0x10000⟩]⟩,
  ⟨0x60, [(4, 0x4)], [⟨19, 0, .rw, 0⟩]⟩,
  ⟨0x70, [(4, 0x4)], [⟨19, 0, .rw, 0⟩]⟩,
  ⟨0x80, [], [⟨3, 0, .rw, 0⟩, ⟨11, 8, .rw, 0⟩]⟩,
  ⟨0x100, [(4, 0x8)], [⟨31, 0, .ro, 0⟩]⟩,
  ⟨0x104, [(4, 0x8)], [⟨31, 0, .ro, 0⟩]⟩,
  ⟨0x120, [], [⟨31, 0, .ro, 0⟩]⟩,
  ⟨0x124, [], [⟨31, 0, .ro, 0⟩]⟩,
  ⟨0x128, [], [⟨31, 0, .ro, 0⟩]⟩,
  ⟨0x12C, [], [⟨31, 0, .ro, 0⟩]⟩,
  ⟨0x140, [], [⟨15, 0, .rw, 0x1F40⟩, ⟨23, 16, .rw, 0x28⟩, ⟨24, 24, .rw, 1⟩]⟩]
/-- Register table of the ENG block, part 3. -/
def regsENG2 : List RegDef := [
  ⟨0x144, [], [⟨3, 0, .ro, 0⟩, ⟨7, 4, .w1c, 0⟩, ⟨11, 8, .w1c, 0⟩, ⟨31, 16, .ro, 0⟩]⟩]
def regsENG : List RegDef := regsENG0 ++ regsENG1 ++ regsENG2
/-- Register table of the SAF block. -/
def regsSAF : List RegDef := [
  ⟨0x0, [], [⟨0, 0, .rsi, 0⟩, ⟨3, 1, .rsi, 0⟩, ⟨5, 4, .rsi, 0⟩, ⟨6, 6, .rsi, 0⟩, ⟨15, 8, .rsi, 0⟩, ⟨31, 16, .rsi, 0⟩]⟩,
  ⟨0x4, [], [⟨31, 0, .rsi, 0⟩]⟩,
  ⟨0x8, [], [⟨31, 0, .rsi, 0⟩]⟩,
  ⟨0x10, [], [⟨3, 0, .rsi, 0⟩, ⟨7, 4, .rsi, 0⟩, ⟨8, 8, .rsi, 0⟩, ⟨9, 9, .rsi, 0⟩]⟩,
  ⟨0x14, [], [⟨3, 0, .ro, 0⟩, ⟨4, 4, .ro, 0⟩, ⟨11, 8, .ro, 0⟩]⟩,
  ⟨0x18, [], [⟨4, 0, .rsi, 0⟩, ⟨10, 8, .rsi, 0⟩, ⟨31, 16, .rsi, 0⟩]⟩,
  ⟨0x20, [], [⟨3, 0, .rsi, 0⟩, ⟨7, 4, .rsi, 0⟩, ⟨8, 8, .rsi, 0⟩]⟩,
  ⟨0x24, [], [⟨7, 0, .ro, 0⟩, ⟨11, 8, .ro, 0⟩, ⟨18, 16, .ro, 0⟩]⟩,
  ⟨0x30, [], [⟨2, 0, .rsi, 0⟩, ⟨5, 3, .rsi, 0⟩]⟩,
  ⟨0x34, [], [⟨7, 0, .rsi, 0⟩, ⟨15, 8, .rsi, 0⟩, ⟨23, 16, .rsi, 0⟩, ⟨31, 24, .rsi, 0⟩]⟩,
  ⟨0x38, [], [⟨1, 0, .rsi, 0⟩, ⟨3, 2, .rsi, 0⟩, ⟨8, 4, .rsi, 0⟩, ⟨31, 16, .rsi, 0⟩]⟩,
  ⟨0x3C, [], [⟨7, 0, .rsi, 0⟩]⟩,
  ⟨0x40, [], [⟨15, 0, .rsi, 0⟩, ⟨21, 16, .rsi, 0⟩, ⟨22, 22, .rsi, 0⟩]⟩,
  ⟨0x44, [], [⟨15, 0, .rsi, 0⟩]⟩,
  ⟨0x48, [], [⟨7, 0, .rsi, 0⟩, ⟨11, 8, .rsi, 0⟩]⟩,
  ⟨0x4C, [], [⟨7, 0, .ro, 0⟩, ⟨15, 8, .ro, 0⟩, ⟨23, 16, .ro, 0⟩]⟩]
/-- Register table of the BRM block. -/
def regsBRM : List RegDef := [
  ⟨0x0, [], [⟨0, 0, .wo, 0⟩]⟩,
  ⟨0x4, [], [⟨0, 0, .ro, 0⟩, ⟨1, 1, .ro, 0⟩, ⟨2, 2, .ro, 0⟩, ⟨3, 3, .ro, 0⟩, ⟨4, 4, .ro, 0⟩, ⟨16, 8, .ro, 0⟩]⟩,
  ⟨0x8, [], [⟨0, 0, .ro, 0⟩, ⟨1, 1, .ro, 0⟩, ⟨2, 2, .ro, 0⟩, ⟨3, 3, .ro, 0⟩, ⟨14, 8, .ro, 0⟩]⟩,
  ⟨0xC, [], [⟨0, 0, .rsi, 0⟩, ⟨1, 1, .rsi, 0⟩]⟩,
  ⟨0x10, [], [⟨7, 0, .ro, 0⟩, ⟨15, 8, .ro, 0⟩]⟩,
  ⟨0x20, [(8, 0x4)], [⟨31, 0, .w1c, 0⟩]⟩,
  ⟨0x40, [(8, 0x4)], [⟨31, 0, .w1s, 0⟩]⟩,
  ⟨0x60, [(8, 0x4)], [⟨31, 0, .rsi, 0⟩]⟩,
  ⟨0x80, [(8, 0x4)], [⟨31, 0, .ro, 0⟩]⟩,
  ⟨0x100, [(16, 0x4)], [⟨31, 0, .rw, 0⟩]⟩,
  ⟨0x200, [(64, 0x4)], [⟨31, 0, .rw, 0⟩]⟩,
  ⟨0x300, [(64, 0x4)], [⟨31, 0, .ro, 0⟩]⟩,
  ⟨0x400, [], [⟨5, 0, .ro, 0⟩, ⟨31, 16, .ro, 0⟩]⟩,
  ⟨0x404, [], [⟨5, 0, .ro, 0⟩, ⟨6, 6, .wo, 0⟩, ⟨7, 7, .ro, 1⟩, ⟨15, 8, .ro, 0⟩]⟩,
  ⟨0x410, [(4, 0x4)], [⟨31, 0, .ro, 0⟩]⟩,
  ⟨0x800, [(64, 0x10), (4, 0x4)], [⟨31, 0, .ro, 0⟩]⟩]
/-- Register table of the CVU block. -/
def regsCVU : List RegDef := [
  ⟨0x0, [(4, 0x100)], [⟨4, 0, .rw, 0⟩, ⟨5, 5, .rw, 1⟩, ⟨6, 6, .rw, 1⟩, ⟨7, 7, .rw, 0⟩]⟩,
  ⟨0x4, [(4, 0x100)], [⟨31, 0, .rw, 0x4C11DB7⟩]⟩,
  ⟨0x8, [(4, 0x100)], [⟨31, 0, .rw, 0xFFFFFFFF⟩]⟩,
  ⟨0xC, [(4, 0x100)], [⟨31, 0, .rw, 0xFFFFFFFF⟩]⟩,
  ⟨0x10, [(4, 0x100)], [⟨0, 0, .wo, 0⟩]⟩,
  ⟨0x14, [(4, 0x100)], [⟨7, 0, .wo, 0⟩]⟩,
  ⟨0x18, [(4, 0x100)], [⟨15, 0, .wo, 0⟩]⟩,
  ⟨0x1C, [(4, 0x100)], [⟨31, 0, .wo, 0⟩]⟩,
  ⟨0x20, [(4, 0x100)], [⟨31, 0, .ro, 0xFFFFFFFF⟩]⟩,
  ⟨0x24, [(4, 0x100)], [⟨31, 0, .rw, 0xFFFFFFFF⟩]⟩,
  ⟨0x28, [(4, 0x100)], [⟨23, 0, .ro, 0⟩, ⟨24, 24, .ro, 0⟩, ⟨25, 25, .w1c, 0⟩, ⟨26, 26, .w1c, 0⟩]⟩,
  ⟨0x30, [(4, 0x100)], [⟨3, 0, .rw, 4⟩, ⟨15, 8, .rw, 1⟩]⟩,
  ⟨0x34, [(4, 0x100)], [⟨7, 0, .ro, 0⟩, ⟨8, 8, .wo, 0⟩]⟩,
  ⟨0x38, [(4, 0x100)], [⟨7, 0, .rw, 0⟩, ⟨15, 8, .ro, 0⟩, ⟨23, 16, .ro, 0⟩, ⟨24, 24, .w1c, 0⟩, ⟨25, 25, .ro, 0⟩]⟩]
/-- Register table of the MBX block. -/
def regsMBX : List RegDef := [
  ⟨0x0, [(16, 0x100)], [⟨2, 0, .rw, 0⟩, ⟨6, 4, .rw, 0⟩, ⟨8, 8, .rw, 0⟩, ⟨9, 9, .rw, 0⟩]⟩,
  ⟨0x4, [(16, 0x100)], [⟨6, 0, .wo, 0⟩]⟩,
  ⟨0x8, [(16, 0x100)], [⟨0, 0, .ro, 0⟩, ⟨1, 1, .ro, 0⟩, ⟨2, 2, .ro, 0⟩, ⟨3, 3, .w1c, 0⟩, ⟨4, 4, .w1c, 0⟩, ⟨5, 5, .w1c, 0⟩, ⟨6, 6, .w1c, 0⟩, ⟨7, 7, .w1c, 0⟩, ⟨14, 8, .ro, 0⟩, ⟨31, 16, .ro, 0⟩]⟩,
  ⟨0xC, [(16, 0x100)], [⟨7, 0, .rw, 0⟩, ⟨31, 16, .rw, 0⟩]⟩,
  ⟨0x10, [(16, 0x100)], [⟨0, 0, .wo, 0⟩]⟩,
  ⟨0x14, [(16, 0x100)], [⟨15, 0, .ro, 0⟩, ⟨23, 16, .ro, 0⟩, ⟨31, 24, .ro, 0⟩]⟩,
  ⟨0x40, [(16, 0x100), (16, 0x4)], [⟨31, 0, .rw, 0⟩]⟩,
  ⟨0x80, [(16, 0x100), (16, 0x4)], [⟨31, 0, .ro, 0⟩]⟩,
  ⟨0x1000, [], [⟨15, 0, .ro, 0⟩, ⟨31, 16, .ro, 0⟩]⟩,
  ⟨0x1004, [], [⟨2, 2, .wo, 0⟩]⟩,
  ⟨0x1008, [], [⟨7, 0, .ro, 0⟩, ⟨15, 8, .ro, 0⟩, ⟨23, 16, .ro, 0⟩]⟩]
/-- Register table of the SEM block. -/
def regsSEM : List RegDef := [
  ⟨0x0, [(32, 0x4)], [⟨2, 0, .ro, 0⟩, ⟨3, 3, .ro, 0⟩]⟩,
  ⟨0x100, [(4, 0x4)], [⟨31, 0, .ro, 0⟩]⟩,
  ⟨0x200, [], [⟨7, 0, .ro, 0⟩, ⟨15, 8, .ro, 0⟩, ⟨23, 16, .ro, 0⟩]⟩]
/-- Register table of the NET block, part 1. -/
def regsNET0 : List RegDef := [
  ⟨0x0, [], [⟨0, 0, .rw, 0⟩, ⟨1, 1, .rw, 0⟩, ⟨3, 2, .rw, 0⟩, ⟨5, 4, .rw, 0⟩, ⟨6, 6, .rw, 0⟩, ⟨7, 7, .rw, 0⟩, ⟨8, 8, .rw, 1⟩, ⟨9, 9, .rw, 0⟩, ⟨10, 10, .rw, 0⟩, ⟨11, 11, .rw, 1⟩]⟩,
  ⟨0x10, [(2, 0x8)], [⟨31, 0, .rw, 0⟩]⟩,
  ⟨0x14, [(2, 0x8)], [⟨15, 0, .rw, 0⟩]⟩,
  ⟨0x20, [(2, 0x4)], [⟨31, 0, .rw, 0⟩]⟩,
  ⟨0x30, [(4, 0x8)], [⟨31, 0, .rw, 0⟩]⟩,
  ⟨0x34, [(4, 0x8)], [⟨15, 0, .rw, 0⟩, ⟨16, 16, .rw, 0⟩]⟩,
  ⟨0x50, [], [⟨0, 0, .ro, 0⟩, ⟨1, 1, .ro, 0⟩, ⟨5, 4, .ro, 0⟩, ⟨7, 6, .ro, 0⟩, ⟨15, 8, .ro, 0⟩, ⟨23, 16, .ro, 0⟩, ⟨31, 24, .ro, 0⟩]⟩,
  ⟨0x60, [(2, 0x10)], [⟨0, 0, .rw, 0⟩, ⟨2, 1, .rw, 0⟩, ⟨3, 3, .rw, 0⟩]⟩,
  ⟨0x64, [(2, 0x10)], [⟨28, 0, .rw, 0x600⟩]⟩,
  ⟨0x68, [(2, 0x10)], [⟨28, 0, .rw, 0x580⟩]⟩,
  ⟨0x6C, [(2, 0x10)], [⟨7, 0, .ro, 0⟩, ⟨15, 8, .ro, 0⟩, ⟨23, 16, .ro, 0⟩]⟩,
  ⟨0x80, [], [⟨15, 0, .ro, 0⟩, ⟨23, 16, .ro, 0⟩, ⟨31, 24, .ro, 0⟩]⟩,
  ⟨0x84, [], [⟨7, 0, .ro, 0⟩, ⟨11, 8, .ro, 0⟩, ⟨23, 16, .ro, 0⟩]⟩,
  ⟨0x100, [(8, 0x20)], [⟨0, 0, .rsi, 0⟩, ⟨2, 1, .rsi, 0⟩, ⟨5, 3, .rsi, 0⟩, ⟨6, 6, .rsi, 1⟩, ⟨10, 7, .rsi, 3⟩, ⟨13, 11, .rsi, 0⟩, ⟨31, 16, .rsi, 0⟩]⟩,
  ⟨0x104, [(8, 0x20)], [⟨31, 0, .rsi, 0⟩]⟩,
  ⟨0x108, [(8, 0x20)], [⟨15, 0, .rsi, 0⟩, ⟨23, 16, .rsi, 0x64⟩]⟩]
/-- Register table of the NET block, part 2. -/
def regsNET1 : List RegDef := [
  ⟨0x10C, [(8, 0x20)], [⟨31, 0, .rsi, 0⟩]⟩,
  ⟨0x110, [(8, 0x20)], [⟨1, 0, .ro, 0⟩, ⟨5, 2, .ro, 0⟩, ⟨6, 6, .ro, 0⟩, ⟨15, 8, .ro, 0⟩, ⟨31, 16, .ro, 0⟩]⟩,
  ⟨0x114, [(8, 0x20)], [⟨15, 0, .ro, 0⟩, ⟨23, 16, .ro, 0⟩, ⟨31, 24, .ro, 0⟩]⟩,
  ⟨0x118, [(8, 0x20)], [⟨15, 0, .ro, 0⟩, ⟨31, 16, .ro, 0⟩]⟩]
def regsNET : List RegDef := regsNET0 ++ regsNET1
/-- Register table of the ODX block. -/
def regsODX : List RegDef := [
  ⟨0x0, [], [⟨7, 0, .ro, 0⟩, ⟨15, 8, .w1c, 0⟩, ⟨31, 16, .ro, 0⟩]⟩,
  ⟨0x4, [], [⟨7, 0, .rw, 0x14⟩, ⟨15, 8, .rw, 0x50⟩, ⟨23, 16, .rw, 0x3C⟩]⟩,
  ⟨0x8, [], [⟨15, 0, .ro, 0⟩, ⟨31, 16, .ro, 0⟩]⟩,
  ⟨0xC, [], [⟨1, 0, .ro, 0⟩, ⟨31, 16, .ro, 0⟩]⟩,
  ⟨0x10, [], [⟨15, 0, .ro, 0⟩]⟩]

/-- The register tables by block number (R40): block k has its window at 0x4000_0000 + 0x1_0000 × k. -/
def blockRegs : Nat → List RegDef
  | 0 => regsSYS
  | 1 => regsPWR
  | 2 => regsCLK
  | 3 => regsBIST
  | 4 => regsTHM
  | 5 => regsCAL
  | 6 => regsVIN
  | 7 => regsLAY
  | 8 => regsCMP
  | 9 => regsGME
  | 10 => regsSCN
  | 11 => regsLNK
  | 12 => regsSAT
  | 13 => regsPID
  | 14 => regsENG
  | 15 => regsSAF
  | 16 => regsBRM
  | 17 => regsCVU
  | 18 => regsMBX
  | 19 => regsSEM
  | 20 => regsNET
  | 21 => regsODX
  | _ => []

/-- Whether an offset from a register's first address is one of its instances. -/
def inDims : List (Nat × Nat) → Nat → Bool
  | [], d => d == 0
  | (count, stride) :: rest, d => d / stride < count && inDims rest (d % stride)

/-- The register at an offset of a block, if the tables list one. -/
def findReg (block off : Nat) : Option RegDef :=
  (blockRegs block).find? fun r => r.base ≤ off && inDims r.dims (off - r.base)

end Sys2Proof.Machine
end

