-- ==== Sys2Proof/Machine/Sources.lean ====
section
/-!
DEFINITION. The Bramble sources (R388): number, default class, whether the class is fixed, and the block whose window base
goes into a record (R396). Classes are numbered as in R396: 0 INFO, 1 DEGRADE, 2 HUSK, 3 DARK.
-/

namespace Sys2Proof.Machine

/-- One row of the table of R388. -/
structure SrcRow where
  first : Nat
  count : Nat
  cls : Nat
  fixed : Bool
  block : Nat
  deriving DecidableEq, Repr

/-- The table of R388; numbers it does not list are the reserved sources. -/
def srcTable : List SrcRow := [
  ⟨0, 1, 2, true, 16⟩,
  ⟨1, 1, 2, true, 2⟩,
  ⟨2, 1, 2, false, 1⟩,
  ⟨3, 1, 1, false, 1⟩,
  ⟨4, 1, 1, false, 3⟩,
  ⟨5, 1, 0, false, 3⟩,
  ⟨6, 1, 0, false, 0⟩,
  ⟨7, 1, 0, false, 0⟩,
  ⟨8, 1, 2, true, 5⟩,
  ⟨9, 1, 1, false, 5⟩,
  ⟨10, 1, 1, false, 0⟩,
  ⟨11, 1, 1, false, 0⟩,
  ⟨12, 1, 1, false, 21⟩,
  ⟨13, 1, 2, false, 11⟩,
  ⟨14, 1, 1, false, 8⟩,
  ⟨15, 1, 1, false, 8⟩,
  ⟨16, 4, 1, false, 4⟩,
  ⟨20, 1, 1, false, 4⟩,
  ⟨21, 1, 0, false, 4⟩,
  ⟨22, 1, 0, false, 4⟩,
  ⟨23, 1, 0, true, 4⟩,
  ⟨24, 1, 0, true, 4⟩,
  ⟨25, 1, 0, true, 4⟩,
  ⟨26, 1, 0, false, 14⟩,
  ⟨27, 1, 0, false, 14⟩,
  ⟨28, 1, 1, false, 5⟩,
  ⟨29, 1, 0, false, 18⟩,
  ⟨32, 1, 1, false, 6⟩,
  ⟨33, 1, 1, false, 6⟩,
  ⟨34, 1, 1, false, 6⟩,
  ⟨35, 2, 0, false, 20⟩,
  ⟨37, 2, 1, false, 20⟩,
  ⟨39, 1, 0, false, 20⟩,
  ⟨40, 1, 1, false, 20⟩,
  ⟨41, 8, 1, false, 7⟩,
  ⟨49, 1, 1, false, 8⟩,
  ⟨50, 1, 2, false, 8⟩,
  ⟨51, 1, 2, false, 8⟩,
  ⟨52, 1, 2, false, 9⟩,
  ⟨53, 1, 1, false, 9⟩,
  ⟨54, 1, 2, false, 9⟩,
  ⟨55, 1, 1, false, 9⟩,
  ⟨56, 1, 2, false, 10⟩,
  ⟨57, 1, 2, false, 10⟩,
  ⟨58, 1, 1, false, 10⟩,
  ⟨59, 1, 2, false, 10⟩,
  ⟨64, 4, 2, false, 11⟩,
  ⟨68, 4, 2, false, 11⟩,
  ⟨72, 4, 2, false, 11⟩,
  ⟨76, 4, 1, false, 11⟩,
  ⟨80, 4, 2, false, 11⟩,
  ⟨84, 4, 2, false, 11⟩,
  ⟨88, 4, 2, false, 11⟩,
  ⟨92, 4, 0, false, 11⟩,
  ⟨96, 4, 2, true, 15⟩,
  ⟨100, 4, 2, false, 15⟩,
  ⟨104, 4, 2, false, 15⟩,
  ⟨108, 4, 0, true, 15⟩,
  ⟨112, 4, 1, false, 5⟩,
  ⟨116, 4, 1, false, 5⟩,
  ⟨120, 4, 0, false, 5⟩,
  ⟨124, 1, 2, true, 15⟩,
  ⟨125, 1, 0, true, 15⟩,
  ⟨126, 1, 1, false, 15⟩,
  ⟨128, 4, 3, true, 13⟩,
  ⟨132, 4, 1, false, 13⟩,
  ⟨136, 4, 2, false, 13⟩,
  ⟨140, 4, 2, false, 14⟩,
  ⟨144, 4, 1, false, 14⟩,
  ⟨148, 4, 2, false, 15⟩,
  ⟨152, 4, 1, false, 15⟩,
  ⟨156, 4, 2, false, 15⟩,
  ⟨160, 4, 1, false, 12⟩,
  ⟨164, 4, 0, false, 12⟩,
  ⟨255, 1, 0, true, 16⟩]

def Src.BRM_SELF : Nat := 0
def Src.CLOCK_MON : Nat := 1
def Src.PWR_DOMAIN : Nat := 2
def Src.STRAP_FAULT : Nat := 3
def Src.BIST_FAIL : Nat := 4
def Src.MEM_REPAIR : Nat := 5
def Src.BUS_ACCESS : Nat := 6
def Src.DORMANT_ACCESS : Nat := 7
def Src.CORE_TIMING : Nat := 8
def Src.AVS_MARGIN : Nat := 9
def Src.MGMT_WDOG : Nat := 10
def Src.MGMT_MEM : Nat := 11
def Src.DICT_MEM : Nat := 12
def Src.LINK_MEM : Nat := 13
def Src.LBUF_MEM : Nat := 14
def Src.SYM_MEM : Nat := 15
def Src.NTC_FAULT (n : Nat) : Nat := 16 + n
def Src.THERM_SENSOR : Nat := 20
def Src.THERM_WARN : Nat := 21
def Src.THERM_RATE : Nat := 22
def Src.THERM_STOP : Nat := 23
def Src.THERM_TRIP : Nat := 24
def Src.THERM_HUSK : Nat := 25
def Src.ENG_OVERRUN : Nat := 26
def Src.HOLDUP_DEFER : Nat := 27
def Src.CAL_STORE : Nat := 28
def Src.MBX_COLLIDE : Nat := 29
def Src.GPTP_LOST : Nat := 32
def Src.IMU_LOST : Nat := 33
def Src.IMU_STUCK : Nat := 34
def Src.ETH_LINK (n : Nat) : Nat := 35 + n
def Src.CAN_BUSOFF (n : Nat) : Nat := 37 + n
def Src.ENV_CHECK : Nat := 39
def Src.ENV_TIMEOUT : Nat := 40
def Src.LAYER_STALE (n : Nat) : Nat := 41 + n
def Src.CMP_LANE : Nat := 49
def Src.SIG_READBACK : Nat := 50
def Src.SIG_MISMATCH : Nat := 51
def Src.GME_CHECK : Nat := 52
def Src.GME_OVERRUN : Nat := 53
def Src.GME_MEM : Nat := 54
def Src.GLARE_STALE : Nat := 55
def Src.SCN_MEM : Nat := 56
def Src.SCN_CLAMP : Nat := 57
def Src.SCN_MAPLATE : Nat := 58
def Src.SCN_UNDERRUN : Nat := 59
def Src.TILE_LOST (n : Nat) : Nat := 64 + n
def Src.TILE_FOREIGN (n : Nat) : Nat := 68 + n
def Src.ROW_ECHO (n : Nat) : Nat := 72 + n
def Src.LANE_DEGRADE (n : Nat) : Nat := 76 + n
def Src.GLEAN_ROWCRC (n : Nat) : Nat := 80 + n
def Src.GLEAN_LOCK (n : Nat) : Nat := 84 + n
def Src.GLEAN_OVERFLOW (n : Nat) : Nat := 88 + n
def Src.UPLINK_DROP (n : Nat) : Nat := 92 + n
def Src.HUSKN_STUCK (n : Nat) : Nat := 96 + n
def Src.SAF_PULSE_HUSKN (n : Nat) : Nat := 100 + n
def Src.SAF_UNCHECKED (n : Nat) : Nat := 104 + n
def Src.HUSK_FAIL (n : Nat) : Nat := 108 + n
def Src.CAL_MAPCRC (n : Nat) : Nat := 112 + n
def Src.CAL_DEFFULL (n : Nat) : Nat := 116 + n
def Src.CAL_HEADROOM (n : Nat) : Nat := 120 + n
def Src.SAF_LOCKSTEP : Nat := 124
def Src.SAF_LIMIT : Nat := 125
def Src.SAF_PULSE_LAMPFAIL : Nat := 126
def Src.HWHUSK_FAIL (n : Nat) : Nat := 128 + n
def Src.BUCK_OV (n : Nat) : Nat := 132 + n
def Src.BUCK_SHORT (n : Nat) : Nat := 136 + n
def Src.HARNESS_GUARD (n : Nat) : Nat := 140 + n
def Src.DISCHARGE_FAIL (n : Nat) : Nat := 144 + n
def Src.SW_CLOSED (n : Nat) : Nat := 148 + n
def Src.SW_TEST (n : Nat) : Nat := 152 + n
def Src.SW_BOTH (n : Nat) : Nat := 156 + n
def Src.SAT_CHAIN (n : Nat) : Nat := 160 + n
def Src.SAT_NODE (n : Nat) : Nat := 164 + n
def Src.BRM_TEST : Nat := 255

/-- The row of a source, or none for a reserved one (R388). -/
def srcRow (src : Nat) : Option SrcRow :=
  srcTable.find? fun r => r.first ≤ src && src < r.first + r.count

/-- The default class of a source; a reserved source reads INFO (R388). -/
def srcDefaultClass (src : Nat) : Nat := match srcRow src with
  | some r => r.cls
  | none => 0

/-- A fixed or reserved source keeps its class and a grace of 0 (R388). -/
def srcFixed (src : Nat) : Bool := match srcRow src with
  | some r => r.fixed
  | none => true

/-- The window base that a record of this source carries (R396); for LNK the window of the source's port. -/
def srcAddr (src : Nat) : Nat := match srcRow src with
  | some r => 0x40000000 + 0x10000 * r.block + (if r.block = 11 && r.count = 4 then 0x4000 * (src - r.first) else 0)
  | none => 0x40100000

/-- The reset word of BRM_CLASSr: the default classes of sources 16r to 16r + 15 (R402). -/
def classResetWord (r : Nat) : Nat :=
  (List.range 16).foldl (fun w i => w + srcDefaultClass (16 * r + i) * 4 ^ i) 0

/-- The class parameters of R198 at reset, as the words MARGIN, SHAPE and TRACK of class c. -/
def gmeClassReset : List (Nat × Nat × Nat) := [
  (0x00640096, 0x00300008, 0x3C6401F4),
  (0x00500064, 0x01300008, 0x3264012C),
  (0x009600C8, 0x00300008, 0x28960320),
  (0x00C800FA, 0x00200006, 0x19960320),
  (0x00C800FA, 0x02200006, 0x14960320),
  (0x00000000, 0x03246004, 0x28000064),
  (0x009600C8, 0x02200008, 0x1E640320)]

/-- Reset words that depend on a register's index, where one reset value in the tables does not say it: the classes of
R388, the class parameters of R198, the control points of the projection (512 × i, 512 × j), zone 0 of the clamp mirror,
the loop groups' members and the mailbox endpoints of R453. -/
def resetOverride (addr : Nat) : Option Nat :=
  let block := (addr - 0x40000000) / 0x10000
  let off := addr % 0x10000
  if block = 16 && 0x100 ≤ off && off < 0x140 && off % 4 = 0 then some (classResetWord ((off - 0x100) / 4))
  else if block = 9 && 0x200 ≤ off && off < 0x270 then
    let row := gmeClassReset.getD ((off - 0x200) / 0x10) (0, 0, 0)
    if off % 0x10 = 0 then some row.1 else if off % 0x10 = 4 then some row.2.1
    else if off % 0x10 = 8 then some row.2.2 else none
  else if block = 9 && 0x1000 ≤ off && off < 0x5000 && 0x100 ≤ off % 0x1000 && off % 0x1000 < 0x100 + 4 * 561 && off % 4 = 0 then
    let k := (off % 0x1000 - 0x100) / 4
    some (512 * (k % 33) + 0x10000 * (512 * (k / 33)))
  else if block = 10 && off = 0x200 then some 0x80000000
  else if block = 10 && off = 0x204 then some (2047 + 0x10000 * 1023)
  else if block = 13 && 0x40 ≤ off && off < 0x80 && off % 0x10 = 0 then
    some ([0x1111, 0x1222, 0x1444, 0x1888].getD ((off - 0x40) / 0x10) 0)
  else if block = 18 && off < 0x1000 && off % 0x100 = 0 then
    let n := off / 0x100
    some (if n < 4 then 0x12 else if n < 8 then 0x21 else if n < 12 then 0x101 else 0x110)
  else none

/-- What a register reads after reset: the reset values of its fields (register tables; 0 where no register lies). -/
def resetNat (addr : Nat) : Nat :=
  match resetOverride addr with
  | some w => w
  | none =>
    match findReg ((addr - 0x40000000) / 0x10000) (addr % 0x10000) with
    | some r => r.fields.foldl (fun w f => w + f.reset * 2 ^ f.lo) 0
    | none => 0

/-- `resetNat` as a register word: what an address the register bank does not list reads. -/
def resetWord (addr : Nat) : Word := BitVec.ofNat 32 (resetNat addr)

end Sys2Proof.Machine
end

