-- ==== Sys2Proof/Machine/Sparse.lean ====
section
/-!
DEFINITION. Memory and register banks as lists of (key, value) pairs in one canonical form: keys strictly rising, and no pair
equal to what an unlisted key reads as. `dflt` says what an unlisted key reads as.
-/

namespace Sys2Proof.Machine.Sparse

variable {α : Type}

/-- The value at a key: the listed one, or what the key reads as unlisted. -/
def get (dflt : Nat → α) : List (Nat × α) → Nat → α
  | [], k => dflt k
  | (a, v) :: m, k => if a = k then v else get dflt m k

/-- The bank without a key. -/
def drop : List (Nat × α) → Nat → List (Nat × α)
  | [], _ => []
  | (a, v) :: m, k => if a = k then drop m k else (a, v) :: drop m k

/-- A pair put in front of the first larger key. -/
def insert : List (Nat × α) → Nat → α → List (Nat × α)
  | [], k, v => [(k, v)]
  | (a, w) :: m, k, v => if k < a then (k, v) :: (a, w) :: m else (a, w) :: insert m k v

/-- The bank with one key set, in canonical form. -/
def set [DecidableEq α] (dflt : Nat → α) (m : List (Nat × α)) (k : Nat) (v : α) : List (Nat × α) :=
  if v = dflt k then drop m k else insert (drop m k) k v

/-- The bank with the keys of [lo, hi) back to what they read as unlisted. -/
def erase (m : List (Nat × α)) (lo hi : Nat) : List (Nat × α) :=
  m.filter fun p => !(lo ≤ p.1 && p.1 < hi)

/-- The canonical form. -/
abbrev Wf (dflt : Nat → α) (m : List (Nat × α)) : Prop :=
  m.Pairwise (fun p q => p.1 < q.1) ∧ ∀ p ∈ m, p.2 ≠ dflt p.1

end Sys2Proof.Machine.Sparse
end

