-- ==== Sys2Proof/Machine/State.lean ====
section
/-!
DEFINITION. The state of the PLS2104 as plain data. Registers live in one bank, keyed by byte address, whose unlisted entries
read their reset value; memory is one list of bytes; what the manual gives the machine beside its registers stands in
one structure per chapter. Times are in cycles of the 600 MHz pixel clock (R31).
-/

namespace Sys2Proof.Machine

/-- What a byte of memory that nothing has written reads as (DESIGN CHOICE, notes/assumptions/2.md). -/
def memDefault (_ : Nat) : Byte := 0

/-- A PREPARE in progress (R102, R103). -/
structure Prep where
  /-- Entry into PREPARE, for the 1,000 ms of R103. -/
  since : Nat := 0
  /-- True on the path to RUN, false on the path to STANDBY (R102). -/
  toRun : Bool := false
  /-- Entered from HUSK through RECOVER, so the hardware Husk path does not run (R96). -/
  fromHusk : Bool := false
  /-- Entered from DORMANT: it starts with step 1 and not with step 10 (R102). -/
  cold : Bool := false
  /-- R102: the BIST targets whose run in this PREPARE is over. -/
  tested : List Nat := []
  /-- R102, R312: step 12 has begun, and with it the round of switch tests at intervals of 1 ms. -/
  swRound : Bool := false
  /-- R80: the step that was under way when the lamp demand became false; up to step 9 as 9. -/
  until_ : Option Nat := none
  deriving DecidableEq, Repr

/-- A WAKE pin behind its synchronizer (R89, R90). -/
structure WakePin where
  /-- The input level is high. -/
  high : Bool := false
  /-- When the level last changed. -/
  since : Nat := 0
  /-- The level has changed from inactive to active, and no qualification has followed that change. -/
  edge : Bool := false
  deriving DecidableEq, Repr

/-- How far the sequence of R92 has gone before its step 4: no request, step 2 in progress, or step 3 reached. -/
inductive SleepStep where
  | none | closing | ready
  deriving DecidableEq, Repr

/-- The mode controller and AON logic beside the PWR registers (R72–R95). -/
structure Pwr where
  /-- R52, R77: PWR_EN is high. -/
  pwrEn : Bool := false
  /-- R79: RESET_N is low. -/
  resetLow : Bool := false
  /-- R94, R115: the time until which PWR_EN is held low. -/
  enHold : Option Nat := none
  /-- R115: the test-only state ended by this reset; the next start sets PWR_RSTCAUSE.TEST. -/
  testEnded : Bool := false
  /-- R67, R68: the strap code held by AON. -/
  strap : Nat := 0
  /-- R68: the strap reading lay outside every window. -/
  strapBad : Bool := false
  /-- R68: STRAP_FAULT has been raised since SAFE left reset. -/
  strapTold : Bool := false
  /-- R102: the PREPARE in progress. -/
  prep : Option Prep := none
  /-- R77: in RUN, the lamp demand has ended and the beam ends at the next refresh start. -/
  beamEnding : Bool := false
  /-- R77: when that demand ended. -/
  beamSince : Nat := 0
  /-- R80, R384: when the mode last changed. -/
  modeAt : Nat := 0
  /-- R89: entry into DORMANT, from which the wake timer counts. -/
  dormantSince : Nat := 0
  /-- R328: a supply loss powered the lighting domains down. -/
  supplyLost : Bool := false
  /-- R58, R87: pad groups that are held in their state of reset, as a mask; the other held groups stand in the state of R85. -/
  padFirst : Nat := 0x3FF
  /-- R89, R90: the WAKE pins. -/
  pins : List WakePin := List.replicate 4 {}
  /-- R92: a sleep request and how far it has come. -/
  sleep : SleepStep := .none
  /-- R94: when PWR_EN fell at the end of the sleep sequence. -/
  offAt : Option Nat := none
  deriving DecidableEq, Repr

/-- The state of one channel of the hardware Husk path (R96). -/
inductive HwStep where
  | idle
  | lowside (since : Nat)
  /-- Step 1 has passed; the high-side switch waits for FB below 1.0 V (R323). -/
  | lowGood
  | highside (since : Nat)
  | ramping (since : Nat)
  | running
  /-- The reference falls from a value in µA (R96). -/
  | rampdown (since level : Nat)
  | failed
  deriving DecidableEq, Repr

/-- A BIST run in progress (R109). -/
structure BistRun where
  target : Nat
  slice : Nat := 0
  /-- R112: slices of the re-test of repaired rows, beside those of R109. -/
  extra : Nat := 0
  /-- R112: rows were repaired, and their re-test has not passed yet. -/
  repaired : Bool := false
  /-- R110: when the slice before ended, or when the run began. -/
  endAt : Option Nat := none
  /-- Requested through BIST_CTRL in STANDBY rather than run by PREPARE. -/
  standby : Bool := false
  /-- ABORT was written: the run ends after the current slice. -/
  abort : Bool := false
  deriving DecidableEq, Repr

/-- A safety-island image in the DRAM staging area (R106). -/
structure Staged where
  slot : Slot
  deriving DecidableEq, Repr

/-- Boot, fuses, hardware Husk path, BIST and the test port (R96–R115). -/
structure Boot where
  /-- R108: the rollback fuse counter, 0–63. -/
  rollback : Nat := 0
  /-- R437: the ROLLBACK field of the running image. -/
  runRollback : Nat := 0
  /-- R114: the fuse shadow of the device key and the derived keys have been cleared. -/
  keyCleared : Bool := false
  /-- R106: the image whose SAFE payload the boot ROM has staged in DRAM. -/
  staged : Option Staged := none
  /-- R106: the island's own verification of the staged image: not done, passed or failed. -/
  safeImage : Option Bool := none
  /-- R96: the hardware Husk path of each channel. -/
  hw : List HwStep := [.idle, .idle, .idle, .idle]
  /-- R102, R109: the BIST runs in progress: in PREPARE one on the management side and one on the island. -/
  bist : List BistRun := []
  /-- R112: tile ports whose link buffers failed. -/
  badPorts : List Nat := []
  /-- R107: the boot ROM has entered recovery. -/
  recovery : Bool := false
  /-- R104: MGMT_ENTRY of the running image. -/
  entry : Nat := 0
  /-- R112: composer lanes that failed, the spare lane as 8. -/
  badLanes : List Nat := []
  /-- R112: scan-store banks whose spares are exhausted. -/
  badBanks : List Nat := []
  /-- R113: the instruction in the test access port. -/
  tap : TapInstr := .idcode
  deriving DecidableEq, Repr

/-- A running grace timer (R390). -/
structure GraceTimer where
  src : Nat
  due : Nat
  cls : Nat
  /-- R396: the address that the record of an escalation carries. -/
  addr : Nat
  deriving DecidableEq, Repr

/-- What BRM_TEST was raised against (R395). -/
structure BrmTest where
  count : Nat
  seq : Nat
  at_ : Nat
  deriving DecidableEq, Repr

/-- Bramble beside its registers (R386–R402). -/
structure Brm where
  /-- R390: running grace timers, in the order they started. -/
  timers : List GraceTimer := []
  /-- R391: escalated requests of class HUSK (2) or DARK (3) that are still latched. -/
  pend : List (Nat × Nat) := []
  /-- R396: the address of the last RAISED record of each latched source whose records carry an address of their own. -/
  addrs : List (Nat × Nat) := []
  /-- R387: conditions found while SAFE was off, with their addresses, which their blocks raise once SAFE has left reset. -/
  waiting : List (Nat × Nat) := []
  /-- R17, R401: the cycle of the last event, and the sources raised in it: address, and whether the event set the latch. -/
  events : Nat × List (Nat × Nat × Bool) := (0, [])
  /-- R395: the self-test in progress. -/
  test : Option BrmTest := none
  /-- R399: records that wait for the flash fault log, in MGMT SRAM, oldest first. -/
  flashWait : List (List Nat) := []
  /-- R399: when the oldest waiting record was taken. -/
  waitSince : Nat := 0
  deriving DecidableEq, Repr

/-- One PID loop beside its registers (R294–R297); i and d in units of 1/65,536. -/
structure LoopSt where
  i : Int := 0
  d : Int := 0
  yPrev : Int := 0
  /-- R296, R297: the next sample takes y[k−1] = y[k]. -/
  fresh : Bool := true
  /-- R296: the next sample takes I = IINIT and D = 0. -/
  init : Bool := true
  u : Int := 0
  p : Int := 0
  deriving DecidableEq, Repr

/-- A value that is written when its output phase comes (R299). -/
structure Due where
  due : Nat
  value : Int
  deriving DecidableEq, Repr

/-- A light-sum record of one tile (R243): the sum of V9, the pixels that the clamp lowered, NOROWS, and its arrival. -/
structure LightRec where
  sum : Nat := 0
  clamped : Nat := 0
  noRows : Bool := true
  at_ : Nat := 0
  deriving DecidableEq, Repr

/-- The control engine beside its registers (R294–R304). -/
structure Pid where
  loops : List LoopSt := List.replicate 16 {}
  /-- R299: selected group outputs that wait for their phase. -/
  outs : List (Option Due) := [none, none, none, none]
  /-- R304: the loop outputs that wait for their phase as pitch words. -/
  pitchOut : List (Option Due) := List.replicate 16 none
  /-- R303: the dynamic pitch θ, in 1/65,536 mdeg. -/
  theta : Int := 0
  /-- R303: time of the last accepted IMU sample. -/
  imuAt : Option Nat := none
  /-- R298: the pitch rate of that sample, mdeg/s. -/
  omega : Int := 0
  /-- R243, R298: the last light-sum record of each tile, as XQ_PHOT brought it to the control engine and the energy ledger. -/
  light : List LightRec := List.replicate 4 {}
  deriving DecidableEq, Repr

/-- What ends a switching period (R305): CSP − CSN at Rsense × Ipk, the hardware peak limit of 60 mV, or a duty of 95 %. -/
inductive PeriodEnd where
  | reference | peakLimit | duty
  deriving DecidableEq, Repr

/-- One buck channel beside its registers (R305–R309, R323–R325). -/
structure BuckSt where
  /-- R306: the applied reference, µA. -/
  iApp : Nat := 0
  /-- R309: inductor current of the last 16 periods, mA, newest first. -/
  il : List Nat := []
  /-- R314: the input voltage of the last period, mV. -/
  vin : Nat := 0
  /-- R306: the peak reference Ipk of the inner loop, mA. -/
  ipk : Nat := 0
  /-- R305: slope compensation, in nV of CSP − CSN per µs; how the last period ended; and whether its low-side FET turned off at zero current. -/
  slope : Nat := 0
  ended : PeriodEnd := .duty
  lowOff : Bool := false
  /-- R308, BUCKn_STAT.PKLIM: when the hardware peak limit last ended a period. -/
  pkAt : Option Nat := none
  /-- R308: the state to which an overvoltage hold returns. -/
  ovFrom : Nat := 0
  /-- R308: times of the overvoltage entries of the last 1 ms. -/
  ovTimes : List Nat := []
  /-- R308, R324, R325: stopped until EN is cleared and set again. -/
  stopped : Bool := false
  /-- R324: stopped by the harness guard, which keeps Wn_HG open. -/
  tripped : Bool := false
  /-- R325: the active discharge in progress, by its start. -/
  disch : Option Nat := none
  /-- R325: the average reverse current of that discharge, in mA; 0 without one. -/
  rev : Nat := 0
  /-- R308: since when every period has ended at the peak limit with FB below 1.0 V. -/
  peakSince : Option Nat := none
  /-- R346: since when STATE has been 0. -/
  offSince : Nat := 0
  /-- R346: the offset of CSP − CSN in µV that the hardware Husk path holds since it started the channel, and that of IIP − IIN. -/
  ofs : Int := 0
  ofsIn : Int := 0
  /-- R306: the start of its last switching period. -/
  perAt : Option Nat := none
  deriving DecidableEq, Repr

/-- The test pulse of one switch in progress: 0–7 in the order H0, L0, H1, … (R312). -/
structure SwTest where
  sw : Nat
  since : Nat
  /-- In step 12 of PREPARE rather than in service. -/
  startup : Bool := false
  /-- R335: the channel was disconnected during the pulse. -/
  cut : Bool := false
  deriving DecidableEq, Repr

/-- Safe-switch drivers and test sequencer (R310–R312). -/
structure Switches where
  /-- R64: gate of Wn_HG on. -/
  hi : List Bool := [false, false, false, false]
  /-- R64: gate of Wn_LG on. -/
  lo : List Bool := [false, false, false, false]
  /-- R311: the test pulse in progress. -/
  test : Option SwTest := none
  /-- R312: the next switch in order. -/
  next : Nat := 0
  /-- R311: end of the last test pulse of each path. -/
  pulseEnd : List (Option Nat) := [none, none, none, none]
  /-- R312: since when each switch has been untested. -/
  untested : List Nat := List.replicate 8 0
  /-- R312: when the next test falls due. -/
  dueAt : Nat := 0
  /-- R312: a due test is deferred since this time. -/
  deferred : Option Nat := none
  /-- R312: switches tested in the step-12 round of this PREPARE. -/
  round : List Nat := []
  deriving DecidableEq, Repr

/-- The energy ledger beside its registers (R314–R319). Remainders are exact fractions of 1 µJ. -/
structure Eng where
  /-- R314: remainder of each buck input, (numerator, denominator). -/
  rem : List (Nat × Nat) := List.replicate 4 (0, 1)
  /-- R314: remainder of the device counter, in 1/10,000 µJ. -/
  remDev : Nat := 0
  /-- R314: energy of the last ten ticks in µJ, newest first: total and device. -/
  ticks : List (Rat × Rat) := []
  /-- R316: energies of the complete slots in µJ, newest first. -/
  slots : List Nat := []
  /-- R316: energy of the slot in progress, µJ. -/
  slotAcc : Nat := 0
  /-- R316: ticks counted in the slot in progress. -/
  slotTicks : Nat := 0
  /-- R315: the lifetime totals of the dictionary, µJ: buck inputs and device. -/
  lifeBuck : Nat := 0
  lifeDev : Nat := 0
  /-- R318: a budget was exceeded at the last look. -/
  overrun : Bool := false
  /-- R354: the current setpoint of each tile as software wrote it, before the planner's SCALE. -/
  setpoint : List (Option Int) := [none, none, none, none]
  deriving DecidableEq, Repr

/-- An orderly thermal stop in progress (R332). -/
structure ThermStop where
  since : Nat
  cause : Nat
  deriving DecidableEq, Repr

/-- The thermal monitor beside its registers (R329–R333). -/
structure Thm where
  /-- R330: past samples of T, newest first: time and 1/16 °C. -/
  hist : List (Nat × Int) := []
  /-- R331: consecutive samples at or above the warning and stop levels of T and T_eff. -/
  warnCnt : Nat := 0
  stopCnt : Nat := 0
  /-- R331: the same for each NTC and each tile: warning, stop. -/
  ntcCnt : List (Nat × Nat) := List.replicate 4 (0, 0)
  tileCnt : List (Nat × Nat) := List.replicate 4 (0, 0)
  /-- R333: consecutive samples at stop level plus 5 K: T, each NTC, each tile. -/
  heldT : Nat := 0
  heldNtc : List Nat := List.replicate 4 0
  heldTile : List Nat := List.replicate 4 0
  /-- R329: the derating factor F in units of 1/65,536, and when it was formed. -/
  f : Nat := 65536
  fAt : Option Nat := none
  /-- R332: the orderly stop in progress. -/
  stop : Option ThermStop := none
  /-- R333: in HUSK after an orderly stop. -/
  inHusk : Bool := false
  /-- R264, R298: arrival of the last STATUS of each tile. -/
  tileAt : List (Option Nat) := [none, none, none, none]
  deriving DecidableEq, Repr

/-- A static SLI zone as the dictionary holds it (R362). -/
structure SafZone where
  en : Bool := false
  x0 : Nat := 0
  y0 : Nat := 0
  x1 : Nat := 0
  y1 : Nat := 0
  ceil : Nat := 0
  deriving DecidableEq, Repr

/-- The island's copy of the safety parameters, with the defaults of R362. -/
structure SafParams where
  darkLc : Nat := 16
  funcEn : Nat := 7
  /-- SLP_CEIL: (column, ceiling) pairs in canonical form, 0 where unlisted. -/
  slpCeil : List (Nat × Nat) := []
  sldXmin : Nat := 0
  sldXmax : Nat := 2047
  zones : List SafZone := List.replicate 16 {}
  glareCeil : List Nat := [0, 0, 0, 0, 0, 1541, 0]
  glareEn : Bool := true
  huskImin : Nat := 500
  huskSettle : Nat := 15
  lfPulse : Bool := true
  deriving DecidableEq, Repr

/-- What the island uses a Glean region for (R367). -/
inductive RegionUse where
  | off
  | staircase (seg : Nat)
  | sweep (col : Nat)
  | piece (zone : Nat)
  | fullTile
  deriving DecidableEq, Repr

/-- One Glean region of a plan: its use, its tile-local rectangle, and its limits (R366, R367). -/
structure RegionPlan where
  use : RegionUse := .off
  x0 : Nat := 0
  y0 : Nat := 0
  x1 : Nat := 0
  y1 : Nat := 0
  limit12 : Nat := 0
  limit16 : Nat := 0
  /-- Wholly outside the SLD window (R369). -/
  outside : Bool := false
  deriving DecidableEq, Repr

/-- The plan of one refresh: REFRESH bits [7:0] and the regions of the four ports (R367). -/
structure GleanPlan where
  refresh : Nat := 0
  /-- The mode was RUN when the refresh began (R368). -/
  run : Bool := false
  ports : List (List RegionPlan) := []
  deriving DecidableEq, Repr

/-- A violation that no second one has confirmed yet (R369). -/
structure Viol where
  port : Nat
  region : Nat
  use : RegionUse
  refresh : Nat
  at_ : Nat
  deriving DecidableEq, Repr

/-- A test pulse on a privileged output (R376). -/
structure OutPulse where
  out : TestedOutput
  since : Nat
  startup : Bool := false
  deriving DecidableEq, Repr


/-- The safety island beside the SAF registers (R359–R385). -/
structure Saf where
  /-- R62, R376: the level to which the LAMP_FAIL line is stuck; low without the vehicle's pull-up. -/
  lfStuck : Option Bool := none
  /-- R362: the island's copy of the safety parameters. -/
  params : SafParams := {}
  /-- R380, R433: the safety parameters and the confirmed value that the dictionary store in flash holds. -/
  stored : Option (SafParams × Nat) := none
  /-- R379: a change whose check value is not yet computed, by its time. -/
  checkDue : Option Nat := none
  /-- R381: that change is the load of the stored parameters at a start. -/
  loading : Bool := false
  /-- R361: the restart in progress, by its event. -/
  restart : Option Nat := none
  /-- R361, R394: every HUSK_N line is held low by hardwire. -/
  forcedLow : Bool := false
  /-- R376, R374: HUSK_N lines whose read-back differs from what is driven: tile and level. -/
  stuck : List (Nat × Bool) := []
  /-- R373, R384: the ports whose lanes stay idle until the drive cycle ends, by bits. -/
  idled : Nat := 0
  /-- R360: completion of the last safety task, for the watchdog. -/
  lastTask : Nat := 0
  /-- R277: Glean records that arrived since the last task, oldest first. -/
  inbox : List GleanRec := []
  /-- R367: the plans in force in recent refreshes, newest first, and the plan armed for the next. -/
  plans : List GleanPlan := []
  /-- R367: first column of the sweep in each tile. -/
  sweep : List Nat := [0, 0, 0, 0]
  /-- R369: sweep columns held for one more refresh: port and column. -/
  sweepHold : List (Nat × Nat) := []
  /-- R367: the next SLI piece in turn of each tile, and pieces to check again (R369). -/
  pieceNext : List Nat := [0, 0, 0, 0]
  pieceAgain : List (Nat × Nat) := []
  /-- R369: unconfirmed violations of the last refresh, and those of the last 1 s of each port. -/
  first : List Viol := []
  singles : List (Nat × Nat) := []
  /-- R368: records seen for the refresh being judged, and regions unchecked in the one before: port and region. -/
  seen : List GleanRec := []
  unchecked : List (Nat × Nat) := []
  /-- R372: each port's last complete refresh was checked and clean. -/
  clean : List Bool := [false, false, false, false]
  /-- R35: refreshes marked unchecked by an overflow: port and REFRESH bits [7:0]. -/
  overflow : List (Nat × Nat) := []
  /-- R368: refreshes in which a port was sent no rows under R229: port and REFRESH bits [7:0]. -/
  exempt : List (Nat × Nat) := []
  /-- R370: time of the last confirmed violation of SLP, SLD and SLI, and the confirmed count in this drive cycle. -/
  violAt : List (Option Nat) := [none, none, none]
  violN : List Nat := [0, 0, 0]
  /-- R384: staircase segments confirmed lately: port, REFRESH bits [7:0], segment. -/
  segConf : List (Nat × Nat × Nat) := []
  /-- R371: the last clamp table sent. -/
  table : ClampTable := {}
  /-- R371: clamp tables sent that are still in XQ_CLAMP, oldest first. -/
  clampOut : List ClampTable := []
  /-- R374: from when each tile's Husk monitor settles, and consecutive failing checks. -/
  huskFrom : List (Option Nat) := [none, none, none, none]
  huskFails : List Nat := [0, 0, 0, 0]
  /-- R376: the test pulse in progress, the next output in turn, and when the last test fell due. -/
  pulse : Option OutPulse := none
  outNext : Nat := 0
  /-- R376, R381: the start-up round of this PREPARE: not run, or its outcome. -/
  round : Option Bool := none
  /-- R381: a step-12 switch test of this PREPARE failed. -/
  swRoundBad : Bool := false
  deriving DecidableEq, Repr

/-- Local gPTP time (R134). -/
structure Gptp where
  /-- Local time in ns at the instant `at_`. -/
  ns : Nat := 0
  at_ : Nat := 0
  /-- Offset still to be slewed in, ns, and the slew rate in ppm, at most 100. -/
  slew : Int := 0
  ppm : Nat := 0
  /-- R134: sync interval in ns, 125 ms before the first Sync. -/
  interval : Nat := 125000000
  /-- R134: consecutive Syncs within ±1 µs. -/
  good : Nat := 0
  /-- R134: arrival of the last Sync. -/
  lastSync : Option Nat := none
  /-- R134: entry into HOLDOVER and time counted there without Syncs, in pixel cycles. -/
  holdFrom : Option Nat := none
  holdCount : Nat := 0
  /-- R133: the link delay last measured, ns. -/
  pdelay : Nat := 0
  /-- R133: when it was last measured, in pixel cycles. -/
  pdelayAt : Option Nat := none
  deriving DecidableEq, Repr

/-- What a store in flash holds (R341, R399, R433), and what firmware does when it is done. -/
inductive StoreKind where
  /-- A map of R341 by its MAP_ID. -/
  | map (id : Nat)
  /-- The core supply plan: the setpoint stored, mV (R357). -/
  | plan (mv : Nat)
  /-- The fault log: how many waiting records this program carries (R399). -/
  | faultLog (records : Nat)
  /-- The dictionary store (R433): the retained register entries and firmware-held objects that differ from their default, with
  the safety parameters and their confirmed value (R380). -/
  | dictionary (kept : List (Nat × Word)) (objs : List ((Nat × Nat) × List Byte)) (p : SafParams) (confirmed : Nat)
  deriving DecidableEq, Repr

/-- A store that firmware programs into flash sector by sector (R341, R342). -/
structure FlashJob where
  kind : StoreKind
  /-- Flash offset of the first sector. -/
  base : Nat
  mapId : Nat
  seq : Nat
  payload : List Byte
  /-- INDEX of the sector to program next. -/
  index : Nat := 0
  /-- R449: the commissioning store of R380, which no load defers. -/
  urgent : Bool := false
  deriving DecidableEq, Repr

/-- A sector program that runs (R327, R328): its flash offset, its bytes, and the page in flight, 0–16. -/
structure SectorProg where
  at_ : Nat
  data : List Byte
  page : Nat := 0
  deriving DecidableEq, Repr

/-- Firmware's flash writer (R327, R328, R341, R342, R399). -/
structure FlashSt where
  /-- The stores that wait, the one in progress first. -/
  jobs : List FlashJob := []
  prog : Option SectorProg := none
  /-- R328: a supply loss was seen, so no further page program starts. -/
  cut : Bool := false
  /-- R327: since when the next program has been deferred, and the time of the last check. -/
  deferred : Option Nat := none
  checkedAt : Nat := 0
  /-- R335: a supply loss was seen while a program was deferred: it does not start. -/
  held : Bool := false
  /-- R327: HOLDUP_DEFER has been raised for this deferral. -/
  told : Bool := false
  /-- R449: the load has deferred the next program, which has counted. -/
  loadHeld : Bool := false
  /-- R399: the open sector of the fault log, its SEQ and the records in it, oldest first. -/
  logSector : Nat := 0
  logSeq : Nat := 0
  logRecs : List (List Nat) := []
  deriving DecidableEq, Repr


/-- A frame being filled (R121, R122, R124); without a buffer while every packet of it is dropped. -/
structure FillFrame where
  ptime : Nat
  since : Nat
  buf : Option Nat
  lines : List Nat := []
  deriving DecidableEq, Repr

/-- One stream beside its registers (R119–R125). -/
structure StreamSt where
  fill : Option FillFrame := none
  /-- R121: complete frames whose last DRAM write is not yet acknowledged: buffer and presentation time. -/
  acks : List (Nat × Nat) := []
  /-- Presentation time of the frame that each buffer holds. -/
  ptimes : List (Option Nat) := [none, none, none, none]
  /-- R120, R125: base address and line pitch in bytes with which each buffer was taken for its frame. -/
  places : List (Nat × Nat) := List.replicate 4 (0, 0)
  /-- R124: the frames that were discarded: presentation time, and when, in pixel cycles. -/
  gone : List (Nat × Nat) := []
  /-- R124: the last AVTP sequence_num. -/
  seq : Option Nat := none
  deriving DecidableEq, Repr

/-- A list at the parser (R118, R126, R131): its sender's address, whether it came as the payload of an envelope that the island accepted, its bytes, and
its arrival time in gPTP ns. -/
structure OlArrived where
  ip : Nat
  envOk : Bool
  /-- R419: the envelope was a copy of the last accepted one. -/
  copy : Bool
  data : List Byte
  at_ : Nat
  deriving DecidableEq, Repr

/-- An object of an accepted list (R128, R132): angles in mdeg, rates in mdeg/s, its time in ns. -/
structure ObjRec where
  id : Nat
  cls : Nat
  conf : Nat
  /-- DIST in 0.1 m while it is valid. -/
  dist : Option Nat
  azL : Int
  azR : Int
  elT : Int
  elB : Int
  rateAz : Int
  rateEl : Int
  t : Int
  deriving DecidableEq, Repr

/-- An accepted list on its way to GME (R132): SEQ, arrival in ns, objects, hand-over in pixel cycles. -/
structure ObjList where
  seq : Nat
  arrival : Nat
  objs : List ObjRec
  handed : Nat
  deriving DecidableEq, Repr

/-- The VIN domain: stream writers and parser (R119–R131). -/
structure Vin where
  streams : List StreamSt := List.replicate 8 {}
  checking : Option OlArrived := none
  waiting : Option OlArrived := none
  /-- R129: the last accepted SEQ and T_MEAS, kept while VIN is on. -/
  lastSeq : Option Nat := none
  lastMeas : Option Nat := none
  /-- R129: the sequence and time comparisons are skipped. -/
  skip : Bool := true
  orderRun : Nat := 0
  deriving DecidableEq, Repr

/-- The IMU port (R136–R140); times in gPTP ns unless said otherwise. -/
structure Imu where
  /-- The transaction in progress, by its sample time. -/
  busy : Option Nat := none
  /-- The raw words of the last sample, and how many consecutive samples have had them. -/
  raw : Option (Int × Int) := none
  same : Nat := 0
  /-- R139: the last accepted samples, newest first: time, yaw, pitch in mdeg/s. -/
  recent : List (Nat × Int × Int) := []
  /-- R140: when the last sample was accepted, in pixel cycles, and how many have been in a row since LOST. -/
  acceptedAt : Option Nat := none
  run : Nat := 0
  /-- R136: when the internal timer last came to its period, in pixel cycles. -/
  timerAt : Nat := 0
  deriving DecidableEq, Repr

/-- A symbol in the cache (R182, R183): its index, descriptor, 1 KiB blocks, and whether its copy is complete. -/
structure SymEntry where
  index : Nat
  desc : SymDesc
  blocks : List Nat
  complete : Bool
  deriving DecidableEq, Repr

/-- The window of a scaler's line buffer (R180): layer, half of the composition bands, frame, and the source lines kept in it as V and α. -/
structure Window where
  layer : Nat
  half : Nat
  frame : Nat
  lines : List (Nat × List (Nat × Nat))
  deriving DecidableEq, Repr

/-- One composed frame (R160–R164). -/
structure Frame where
  /-- CF sequence number. -/
  num : Nat
  /-- R162: for each composition band 0–31, none while it is not composed, and whether the armed state was used. -/
  bands : List (Option Bool) := List.replicate 32 none
  /-- R122: the buffer that each layer reads: stream and buffer. -/
  claims : List (Option (Nat × Nat)) := List.replicate 8 none
  /-- R166: the buffer that each layer used last before this frame. -/
  before : List (Option (Nat × Nat)) := List.replicate 8 none
  /-- R167: layers withdrawn in this frame, by bits. -/
  withdrawn : Nat := 0
  /-- R167: the not-ready counts and the withdrawn layers of the frame before it. -/
  countsBefore : List Nat := List.replicate 8 0
  staleBefore : Nat := 0
  /-- R166: the layers that were not ready when the frame started or started anew. -/
  bads : List Bool := List.replicate 8 false
  /-- The composed lines, for the write-side signatures (R192): line and 2,048 pixels. -/
  lines : List (Nat × List Nat) := []
  deriving DecidableEq, Repr

/-- The composer beside its registers (R160–R189). -/
structure Comp where
  /-- Frames composed or being composed and not yet shown, in order. -/
  frames : List Frame := []
  shown : Option Frame := none
  /-- Number of the next frame to start. -/
  nextNum : Nat := 0
  /-- R163: squash events with their bands, by the boundary at which they are counted (notes/assumptions/16.md). -/
  squashDue : List (Nat × Nat) := []
  /-- R166: the buffer each layer used last: stream and buffer. -/
  last : List (Option (Nat × Nat)) := List.replicate 8 none
  /-- R167: consecutive frames in which each layer was not ready. -/
  notReady : List Nat := List.replicate 8 0
  /-- R167, R170: layers that the newest frame composes as withdrawn, by bits. -/
  stale : Nat := 0
  /-- R180: the windows of the line buffers. -/
  windows : List Window := []
  /-- R186: the symbols that firmware still loads before the first sheaf. -/
  reload : List Nat := []
  /-- R182: the cache and the load in progress, by the position of its entry. -/
  cache : List SymEntry := []
  loading : Option Nat := none
  /-- R188: the frame being captured, the address latched at START, and the time of START. -/
  capFrame : Option Nat := none
  capAddr : Nat := 0
  capAt : Nat := 0
  deriving DecidableEq, Repr

/-- The armed sheaf (R149–R154). -/
structure Sheaf where
  armAt : Nat := 0
  tag : Nat := 0
  /-- R150: the first boundary after the arm instant, and its time; none before the first boundary is scheduled. -/
  b0 : Option (Nat × Nat) := none
  /-- R150: the target boundary of an armed sheaf. -/
  target : Nat := 0
  /-- R154: no sheaf has passed its check since CMP powered up. -/
  first : Bool := true
  /-- R159: MINLEAD of the armed state. -/
  minLead : Nat := 0
  overload : Bool := false
  /-- R144: the device's copies of the descriptors of layers 0–7, applied and armed. -/
  descApp : List (Option SymDesc) := List.replicate 8 none
  descArm : List (Option SymDesc) := List.replicate 8 none
  /-- R170: the sheaf was refused at the boundary of this CF, whose frame was composed with it. -/
  refusedAt : Option Nat := none
  deriving DecidableEq, Repr

/-- A retime hold (R168): its end, and whether TM2 fell back to TM1 rather than a sheaf (R273). -/
structure Hold where
  until_ : Nat
  /-- gPTP time is stored at the end of the hold. -/
  cf : Nat
  deriving DecidableEq, Repr

/-- The CF counter (R31–R33). Times in pixel cycles. -/
structure Cf where
  /-- Number and time of the next boundary, once one is scheduled (R154). -/
  next : Option (Nat × Nat) := none
  /-- Number of the CF in progress, and its boundary. -/
  cur : Option Nat := none
  start : Nat := 0
  /-- The refresh in progress within the CF and its start. -/
  refresh : Nat := 0
  refStart : Nat := 0
  /-- When the next refresh start falls due, with its index. -/
  refDue : Option (Nat × Nat) := none
  /-- The band slot that starts next in this refresh, and the row slot that starts next in the band. -/
  band : Option Nat := none
  row : Option (Nat × Nat) := none
  /-- R199: the next snapshot and the next latch: band and start of its refresh. -/
  snap : Option (Nat × Nat) := none
  latch : Option (Nat × Nat) := none
  /-- BLANK_START and the characterization slot of this refresh are still to come. -/
  blank : Bool := false
  charDue : Bool := false
  hold : Option Hold := none
  /-- R273: a lane loss in TM2 waits for the next boundary. -/
  fallback : Bool := false
  /-- R45: the record of the last boundary is being copied since this time. -/
  recordAt : Option Nat := none
  deriving DecidableEq, Repr

/-- The newest two frame records as byte strings, and the one being copied (R45, R443). -/
structure Records where
  newest : List Byte := List.replicate 144 0
  previous : List Byte := List.replicate 144 0
  copying : List Byte := []
  deriving DecidableEq, Repr

/-- One IMU sample in GME's history (R202): gPTP ns, rates in mdeg/s, and twice the integrals in mdeg/s × ns. -/
structure ImuPt where
  t : Nat
  yaw : Int
  pitch : Int
  psi2 : Int
  theta2 : Int
  deriving DecidableEq, Repr

/-- A track of the object table (R196, R197): a list object, or a held track with A_drop in ns. -/
structure Track where
  rec_ : ObjRec
  drop : Option Nat := none
  deriving DecidableEq, Repr

/-- An object table (R195–R197). -/
structure ObjTable where
  usable : Nat
  handed : Nat
  seq : Nat
  tracks : List Track
  /-- A snapshot has taken it, and a render has used it. -/
  snapped : Bool := false
  rendered : Bool := false
  deriving DecidableEq, Repr

/-- A shadow in one tile (R208, R211): rectangle in 1/16 pixel, open above with UP, and its shape. -/
structure Shadow where
  tile : Nat
  x0 : Int
  x1 : Int
  y0 : Option Int
  y1 : Int
  depth : Nat
  soft : Nat
  deriving DecidableEq, Repr

/-- What a render adds to the zone records (R221): identity, rank and the canvas rectangle of an object's core. -/
structure ZonePart where
  id : Nat
  cls : Nat
  prio : Nat
  dist : Nat
  /-- The start of the refresh in which the band is emitted. -/
  ref : Nat
  box : Option (Nat × Nat × Nat × Nat)
  deriving DecidableEq, Repr

/-- The render of one band (R199): its band, its latch, and the mask as the shadows drawn in it. -/
structure Render where
  band : Nat
  /-- The start of the refresh in which the band is emitted. -/
  ref : Nat
  snapAt : Nat
  done : Bool := false
  bad : Bool := false
  unity : Bool := false
  shadows : List Shadow := []
  zones : List ZonePart := []
  seq : Nat := 0
  handed : Nat := 0
  /-- R212: the CRC of the finished band. -/
  crc : Option Nat := none
  deriving DecidableEq, Repr

/-- The mask that scan-out has latched (R199, R213, R214). -/
inductive Mask where
  | unity
  | level (code : Nat)
  | drawn (shadows : List Shadow)
  deriving DecidableEq, Repr

/-- The withdrawal of the glare function (R217, R218), by boundary numbers. -/
inductive Glare where
  | shown
  | withdrawing (boundary : Nat)
  | withdrawn (since : Nat)
  | returning (withdrawnAt boundary : Nat)
  deriving DecidableEq, Repr

/-- The glare mask engine beside its registers (R195–R222). -/
structure Gme where
  handed : Option ObjList := none
  /-- R195: the newest table. -/
  table : Option ObjTable := none
  imu : List ImuPt := []
  /-- The hand-over of the list that a latch used last (GME_LAT). -/
  latched : Option Nat := none
  renders : List Render := []
  mask : Mask := .unity
  /-- R215: arrival of the last accepted list, ns. -/
  lastArrival : Option Nat := none
  glare : Glare := .shown
  /-- R214: layers withdrawn because GME SRAM is unusable, from this boundary on. -/
  sramFrom : Option Nat := none
  /-- R221: what renders have added to the zone records, and the records published last, with their boxes. -/
  zoneAcc : List ZonePart := []
  zoneLast : List ZonePart := []
  deriving DecidableEq, Repr

/-- One copy of the scan store (R223–R226). -/
structure CopySt where
  frame : Nat
  tm : Nat
  /-- Composition bands filled whole, and the one being filled. -/
  filled : List Nat := []
  /-- R225, R226: bands that were squashed after their fill and wait for their refill. -/
  refill : List Nat := []
  /-- The 16-bit values as they were read, for the read-side signatures (R192). -/
  lines : List (Nat × List Nat) := []
  deriving DecidableEq, Repr

/-- The maps of one tile in one band as prefetched (R239): the group they are of (GAIN.ADDR, DEF.ADDR, DEFCNT), the gain bytes of the band's 32 rows,
and its defect entries. -/
structure TileMaps where
  group : Nat × Nat × Nat
  gain : List Byte
  defs : List Byte
  deriving DecidableEq, Repr

/-- The bytes that a refresh has prefetched of one tile's maps (R340): the group, the number of bands from band 0 on, the gain map and the defect map. -/
structure MapRead where
  group : Nat × Nat × Nat := (0, 0, 0)
  bands : Nat := 0
  gain : List Byte := []
  defs : List Byte := []
  deriving DecidableEq, Repr

/-- The scan stage beside its registers (R223–R246). -/
structure Scn where
  copies : List (Option CopySt) := [none, none]
  /-- R225: the highest frame number whose copy is free for its fill. -/
  fillUpTo : Nat := 0
  /-- R245: a boundary whose frame was completely filled has passed. -/
  rows : Bool := false
  /-- R235, R245: complete clamp tables that no latch has taken yet, newest first, with their arrival. -/
  tables : List (ClampTable × Nat) := []
  /-- R233, R304: words of the pitch loop since SCN powered up that a latch may still take, newest first, with their arrival. -/
  pitch : List (Int × Nat) := []
  /-- The table that the latched bands use. -/
  zones : List Zone := { en := true, x1 := 2047, y1 := 1023 } :: List.replicate 31 {}
  /-- R239: the staging area of two bands: the band with the maps of the four tiles, as prefetched. -/
  staged : List (Nat × List TileMaps) := []
  /-- R239, R340: the maps that act on the latched band, per tile; none where none act. -/
  bandMaps : List (Option TileMaps) := [none, none, none, none]
  /-- R340: what has been prefetched of each tile's maps for one refresh, and the tiles where its CRC differed, by bits. -/
  mapRead : List MapRead := List.replicate 4 {}
  mapDiff : Nat := 0
  /-- R340: tiles whose maps are suspended, by bits. -/
  mapBad : Nat := 0
  /-- R246: SCN_CTRL as it acts in this refresh, and as it acts on the latched band. -/
  ctrl : Nat := 3
  bandCtrl : Nat := 3
  /-- R231, R245: the latest latch computed no row 0, inside a retime hold or before the first filled frame: whether its maps were complete, and what row 0 is
  computed with when the hold ends. -/
  held : Option (Bool × RowInput) := none
  /-- The row computed last: band, row, and per tile the output codes. -/
  row : Option (Nat × Nat × List (List Nat)) := none
  /-- R243: sums of V9 and pixels lowered by the clamp, per tile. -/
  light : List (Nat × Nat) := List.replicate 4 (0, 0)
  /-- R243, R244: tiles sent rows in this refresh, and tiles with an underrun, by bits. -/
  sent : Nat := 0
  under : Nat := 0
  deriving DecidableEq, Repr


/-- A band whose ROWECHO is expected (R262): band, REFRESH bits [7:0], the rows sent in it with their CRC-16, and the end of the
band slot that follows it, once that slot has begun. -/
structure EchoDue where
  band : Nat
  refresh : Nat
  rows : List (Nat × Nat) := []
  due : Option Nat := none
  /-- Whether it came, once that is known. -/
  got : Option Bool := none
  deriving DecidableEq, Repr

/-- What a Glean receiver holds of one region in this refresh (R277): the largest code, the CRC register, the rows decoded, and
whether the record has been emitted. -/
structure GleanAcc where
  region : Nat
  lane : Nat
  max : Nat := 0
  crc : Nat := 0xFFFFFFFF
  rows : Nat := 0
  emitted : Bool := false
  deriving DecidableEq, Repr

/-- A command in flight (R258). -/
structure LinkCmd where
  opcode : Nat
  tag : Nat
  arg : Nat
  since : Nat
  deriving DecidableEq, Repr

/-- A SAMPLE in flight (R258, R349): its tag, the pixels and the codes that they were sending. -/
structure SampleReq where
  tag : Nat
  pixels : List (Nat × Nat)
  codes : List Nat
  since : Nat
  deriving DecidableEq, Repr

/-- What a port was sent and what came back in one refresh (R268): REFRESH bits [7:0], rows sent, bands whose echoes all matched,
and mismatches (R262). -/
structure RefTally where
  refresh : Nat
  rows : Nat := 0
  matched : Nat := 0
  mism : Nat := 0
  deriving DecidableEq, Repr

/-- One downlink lane (R248, R251, R254): the line bits that its scrambler holds, newest first, the last index sent, the BIP since the last AM; and of its
last transfer the register and the index before it, and the level indices. -/
structure TxLane where
  reg : List Bool := []
  y : Nat := 0
  bip : Byte := 0#8
  before : List Bool × Nat := ([], 0)
  levels : List Nat := []
  deriving DecidableEq, Repr

/-- One tile port beside its registers (R247–R279). -/
structure LinkSt where
  /-- R265: entry into the state that LNK_STATE shows. -/
  since : Nat := 0
  /-- R265, R266: when the last training started, and whether it is for two lanes. -/
  trainedAt : Option Nat := none
  bonded : Bool := false
  /-- R266: the second training of this PREPARE is under way or done. -/
  retried : Bool := false
  /-- R265: lanes that the tile has reported locked in this training, by bits. -/
  locked : Nat := 0
  /-- R269, R270: the port has been lost and has not returned. -/
  wasLost : Bool := false
  /-- R278: the port stops rows because the Glean receiver of its last lane lost lock. -/
  muted : Bool := false
  /-- R265: ACTIVE has been entered, and the next refresh start has not come yet. -/
  fresh : Bool := false
  /-- R262, R269: the bands whose echo is expected or has been settled lately, oldest first. -/
  echoes : List EchoDue := []
  /-- The refresh in progress and the ones before it, newest first. -/
  tally : List RefTally := []
  cmd : Option LinkCmd := none
  sample : Option SampleReq := none
  sampleTag : Nat := 0
  /-- R358: the TAG of a requested trim that waits for the CHAR record of the SAMPLE in flight. -/
  trimWait : Option Nat := none
  /-- R312: when the last SAMPLE was sent. -/
  sampleAt : Option Nat := none
  /-- R349: the pixels that the next SAMPLE names, with the codes that the refresh in progress sends for them. -/
  watch : List (Nat × Nat × Option Nat) := []
  glean : List GleanAcc := []
  /-- R277: the lanes in use changed in this refresh. -/
  laneChg : Bool := false
  /-- The start of the last row sent, and its tile row. -/
  rowAt : Option (Nat × Nat) := none
  /-- R271, R277: the accumulators as they were before that row. -/
  gleanPrev : List GleanAcc := []
  /-- R248, R251: the two downlink lanes. -/
  tx : List TxLane := [{}, {}]
  /-- R248: the downlink runs with precoding. -/
  precoding : Bool := true
  /-- R254: when the AM framing of a bonded port began; none in single-lane framing. -/
  amAt : Option Nat := none
  /-- R253, R254, R275: from when on the Glean receivers of DN0 and DN1 are locked, while they are not lost. -/
  lockFrom : List Nat := [0, 0]
  /-- R253, R254: when the last transfer ended, and the idle stretch that the last one followed: its blocks, and the block of its first AM. -/
  txEnd : Nat := 0
  stretch : Nat × Option Nat := (0, none)
  /-- R251, R253: the line bits that the uplink descrambler holds, newest first; block lock, and when it was lost last. -/
  upReg : List Bool := []
  upLocked : Bool := false
  upLostAt : Option Nat := none
  /-- R265: the STATE that the tile echoed last in training. -/
  echoState : Nat := 0
  deriving DecidableEq, Repr

/-- A trim of a tile's sense channel in progress (R344): its CHAR records so far. -/
structure TrimRun where
  tile : Nat
  since : Nat
  recs : List (List Nat) := []
  deriving DecidableEq, Repr

/-- A full characterization in progress (R347): the tile, whether the result is also the baseline, the test code, the batch in progress
and whether its SAMPLE is out, the readings of pass 1 and the agreed values, by pixel index y × 1,024 + x in units of 100 µV. -/
structure FullRun where
  tile : Nat
  base : Bool
  code : Nat
  since : Nat
  batch : Nat := 0
  /-- The batch whose SAMPLE is out. -/
  lit : Option Nat := none
  pass1 : List (Nat × Rat) := []
  agreed : List (Nat × Nat) := []
  deriving DecidableEq, Repr

/-- A check of a staged map group (R339): when the generation was written, the word written, and the commissioning map that the tile takes
if it passes, as a dictionary object wrote it (R439). -/
structure MapCheck where
  since : Nat
  data : Word
  gain : Option (List (Nat × Nat)) := none
  defs : Option (List Nat) := none
  deriving DecidableEq, Repr

/-- Calibration, ageing and repair maps beside the CAL registers (R336–R358). Pixel maps are (pixel index, value) pairs in rising
order; a pixel that is not listed has no value. -/
structure Cal where
  checks : List (Option MapCheck) := [none, none, none, none]
  trims : List (Option TrimRun) := [none, none, none, none]
  /-- R345: start of each tile's last trim, and the tile temperature at its end. -/
  trimFrom : List (Option Nat) := [none, none, none, none]
  trimTemp : List (Option Int) := [none, none, none, none]
  /-- R346: end of each channel's last offset trim. -/
  offAt : List (Option Nat) := [none, none, none, none]
  full : Option FullRun := none
  /-- R347: the tile, the code and BASE of a characterization whose domains firmware powers first. -/
  fullDue : Option (Nat × Nat × Bool) := none
  /-- R349: the next batch of each tile's list, and whether it is named for the second time. -/
  batch : List (Nat × Bool) := List.replicate 4 (0, false)
  /-- R350: the normalized first readings of the batch, none for a pixel whose sample is not used. -/
  first : List (List (Option Rat)) := [[], [], [], []]
  /-- R341, R351: forward voltages in 100 µV, baseline and ageing. -/
  base : List (List (Nat × Nat)) := [[], [], [], []]
  age : List (List (Nat × Nat)) := [[], [], [], []]
  /-- R439: the ageing map of the last completed sweep. -/
  ageDone : List (List (Nat × Nat)) := [[], [], [], []]
  /-- R352: the gain entries written at commissioning; 128 where unlisted. -/
  g0 : List (List (Nat × Nat)) := [[], [], [], []]
  /-- R338, R353: the defect entries of each tile as 64-bit numbers, sorted by y and then x. -/
  defs : List (List Nat) := [[], [], [], []]
  /-- R351: the sweep of the tile's list is complete and the maps are not yet planned anew. -/
  swept : List Bool := [false, false, false, false]
  /-- R449: tiles whose maps the load keeps from being planned anew. -/
  planDue : List Bool := [false, false, false, false]
  /-- R336, R351: planned maps, gain and defects, that firmware cannot place yet. -/
  mapsWait : List (Option (List (Nat × Nat) × List Nat)) := [none, none, none, none]
  /-- R355: A_t when the Husk pattern of each tile was written. -/
  huskA : List (Option Nat) := [none, none, none, none]
  /-- R356: when each monitor was read last. -/
  monAt : List (Option Nat) := List.replicate 24 none
  /-- R357: the worst slacks of the last two readings, newest first, plans in a row above the target plus 4 %, and the setpoint stored last. -/
  worsts : List Nat := []
  above : Nat := 0
  /-- R54: the duty of AVS_PWM in 1/256; none while the pad is high-impedance. -/
  avs : Option Nat := none
  /-- R54, R357: when the last plan was made. -/
  planAt : Option Nat := none
  stored : Nat := 800
  deriving DecidableEq, Repr


/-- A frame that a chain expects back (R284): its command and KIND, its first address, and the latest end of its return. -/
structure SatOut where
  cmd : Nat
  kind : Nat := 0
  first : Nat := 0
  until_ : Nat
  deriving DecidableEq, Repr

/-- One satellite chain beside its registers (R285–R289). -/
structure ChainSt where
  out : Option SatOut := none
  /-- STREAM went out in this period, and the COLLECT of this period is still to come. -/
  lit : Bool := false
  collectDue : Bool := false
  /-- The group of 32 addresses that the next COLLECT asks. -/
  rot : Nat := 0
  /-- When the last CENSUS went out, and how many in a row have been lost. -/
  censusAt : Nat := 0
  lost : Nat := 0
  /-- R288: an enumeration runs, and whether it is the repeated attempt; when the last one began. -/
  enum : Option Bool := none
  /-- R281, R282: when the line is idle again after the last frame and its gap, and the levels of that frame in half bit times. -/
  idleAt : Nat := 0
  line : List Bool := []
  /-- R285: the CENSUS of this period has gone out. -/
  censused : Bool := false
  /-- R290: the node settings that firmware has still to send since the enumeration (node or 0xFFFF, register, value), and whether it has sent all. -/
  todo : List (Nat × Nat × Nat) := []
  configured : Bool := false
  enumAt : Option Nat := none
  deriving DecidableEq, Repr

/-- The satellite chains (R285): the start of the update period, and whether its LATCH has gone out. -/
structure Sat where
  chains : List ChainSt := List.replicate 4 {}
  period : Option Nat := none
  latched : Bool := true
  deriving DecidableEq, Repr



/-- The mailboxes and locks beside their registers (R456, R457), with what has happened in the present cycle (R464, R466, R467). -/
structure Mbx where
  /-- The read pointer of each channel. -/
  rdseq : List Nat := List.replicate 16 0
  /-- R456: the doorbell events raised at masters 0 and 1. -/
  bells : List Nat := [0, 0]
  /-- The last post of each channel: its time, the SEQ before it, and whether it was a collision. -/
  door : List (Option (Nat × Nat × Bool)) := List.replicate 16 none
  /-- The last endpoint reset of each master. -/
  epAt : List (Option Nat) := [none, none, none]
  /-- The last release of each lock with the owner code that it ended, and the master of the last one by an endpoint reset. -/
  released : List (Option (Nat × Nat)) := List.replicate 32 none
  resetFreed : List (Option (Nat × Nat)) := List.replicate 32 none
  deriving DecidableEq, Repr

/-- One check-value unit beside its registers (R470–R473): the values that its last START loaded, the bytes being taken, the writes that are held
off (master, offset and data), and whether the next write of CVU_ACHK only sets LAST. -/
structure CvuSt where
  width : Nat := 32
  poly : Nat := 0x04C11DB7
  xorOut : Nat := 0xFFFFFFFF
  refIn : Bool := true
  refOut : Bool := true
  feeding : List Byte := []
  held : List (Master × Nat × Word) := []
  first : Bool := true
  deriving DecidableEq, Repr



/-- The dictionary as firmware holds it (R425–R449). -/
structure Dict where
  /-- Firmware-held objects that differ from their default: (index, subindex) and value (R433). -/
  objs : List ((Nat × Nat) × List Byte) := []
  /-- What the dictionary store in flash holds: register entries by address, and firmware-held objects (R433). -/
  storedKept : List (Nat × Word) := []
  storedObjs : List ((Nat × Nat) × List Byte) := []
  /-- R438: sealed groups, by bits, and the KEY and the mask under which each was sealed; they survive every reset. -/
  sealed : Nat := 0
  keys : List (Nat × Nat) := List.replicate 32 (0, 0)
  /-- R436: refused unseals in this drive cycle. -/
  unsealFails : Nat := 0
  /-- R433, R450: a store has fallen due and is not yet handed to the flash writer. -/
  storeDue : Bool := false
  /-- R102, R433: firmware has loaded the store since MGMT powered up. -/
  loaded : Bool := false
  /-- R41, R84: loaded values of 0x2008 and 0x2004 that wait for STANDBY. -/
  forStandby : Bool := false
  /-- R154: the first sheaf since CMP powered up is still to be armed by firmware. -/
  sheafDue : Bool := false
  /-- R441: RISEN. -/
  risen : Nat := 0
  /-- R441: when firmware last answered BUSY. -/
  busyAt : Option Nat := none
  /-- R436, R448: BUSY and DEFERRED of MGMT_LOAD, 32 bits. -/
  busyCount : Nat := 0
  deferCount : Nat := 0
  /-- R449: LOAD has reached BG_HIGH and has not yet stayed below BG_LOW for 100 ms; since when it has been below. -/
  deferring : Bool := false
  lowSince : Option Nat := none
  deriving DecidableEq, Repr



/-- One envelope connection beside its registers (R419–R422). -/
structure EnvSt where
  /-- R420: the Repeat and Order checks are skipped until the next acceptance. -/
  skip : Bool := true
  /-- CRC of the last accepted envelope. -/
  last : Option Nat := none
  /-- Accepted envelopes in a row whose ALIVE was that of the one before. -/
  same : Nat := 0
  /-- Consecutive accepted envelopes. -/
  good : Nat := 0
  /-- From when the timer runs; for a producer, its last build. -/
  since : Nat := 0
  /-- Sender of the last accepted envelope (R422). -/
  peer : Option NetFrom := none
  /-- HB_ALLOW as the last accepted envelope gave it (R421). -/
  hb : Bool := false
  deriving DecidableEq, Repr

/-- A segmented message in reassembly (R411). -/
structure CanAsm where
  total : Nat
  bytes : List Byte
  /-- The segment number that comes next, and the arrival of the last segment. -/
  next : Nat
  at_ : Nat
  deriving DecidableEq, Repr

/-- The NET domain beside its registers (R403–R424). -/
structure Net where
  env : List EnvSt := List.replicate 8 {}
  asm : List (Option CanAsm) := [none, none]
  /-- R404: times of the echo replies of the last second, per MAC. -/
  pings : List (List Nat) := [[], []]
  /-- R404: since when each MAC's link has been down, until ETH_LINK has been raised for it. -/
  down : List (Option Nat) := [none, none]
  /-- R421: the withdrawal of the layers of HB by the beam command. -/
  hb : Glare := .shown
  deriving DecidableEq, Repr

/-- A UDP client of the bridge (R410). -/
structure UdpClient where
  ip : Nat
  port : Nat
  /-- When it last sent a request. -/
  active : Nat
  deriving DecidableEq, Repr

/-- A request on its way (R412, R446, R448): client 0–7 UDP, 8 C0, 9 C1, 10 host SPI, 11 one that has
been replaced. -/
structure OnothReq where
  client : Nat
  src : NetFrom
  token : Nat := 0
  at_ : Nat
  message : List Byte
  deriving DecidableEq, Repr

/-- What a request in service waits for: the check of a sheaf (R149), or that of a tile's map group (R339). -/
inductive Waits where
  | sheaf
  | map (t : Nat)
  deriving DecidableEq, Repr

/-- A write session of a DOMAIN object (R414): the pieces received, newest last. -/
structure DomSession where
  client : Nat
  index : Nat
  sub : Nat
  total : Nat
  pieces : List (Nat × List Byte) := []
  /-- The last request of the session. -/
  at_ : Nat
  deriving DecidableEq, Repr

/-- Requests, clients and sessions of the dictionary (R410–R414, R446, R448). -/
structure Onoth where
  udp : List (Option UdpClient) := List.replicate 8 none
  /-- R412: the last response of each client, beside the service that its request asked for. -/
  last : List (Nat × List Byte) := List.replicate 11 (0, [])
  /-- Requests that wait, in the order of R448. -/
  queue : List OnothReq := []
  /-- Requests in service whose answer waits for a check of the device. -/
  serving : List (Waits × OnothReq) := []
  sessions : List DomSession := []
  /-- R446: the last TOKEN. -/
  token : Nat := 0
  deriving DecidableEq, Repr


/-- Why the machine stops with a fault. -/
inductive Fault where
  /-- A register write sets a reserved bit: the manual guarantees no behaviour (R13). Raised by every command that writes
  a register by bus; safe, because the machine stops where the manual says nothing. -/
  | reservedBit
  deriving DecidableEq, Repr

/-- Why a command has no meaning. -/
inductive Refusal where
  /-- Raised by the dispatch alone, for a command that has no meaning yet; safe. -/
  | notModelled (mnemonic : String)
  deriving DecidableEq, Repr

/-- What runs at a fixed period (notes/assumptions/1.md). -/
inductive Timer where
  | ledger | allowed | planner | thermal | task | output | parity | selfTest | monitors | attention | load | pid (n : Nat)
  deriving DecidableEq, Repr

/-- A bus error as SYS_BUSERR captures it (R42, R43), with its cycle. -/
structure BusErr where
  at_ : Nat
  addr : Nat
  master : Nat
  write : Bool
  cause : Nat
  deriving DecidableEq, Repr

/-- The whole state of the block. -/
structure State where
  /-- MODEL'S OWN (R31): time in cycles of the 600 MHz pixel clock since the model began. -/
  now : Nat := 0
  /-- MODEL'S OWN (notes/assumptions/5.md): how many free values have been drawn. -/
  free : Nat := 0
  /-- MODEL'S OWN: the commands that wait, first in first out. -/
  pending : List Instr := []
  /-- MODEL'S OWN: what has left the ports, newest first. -/
  sent : List Sent := []
  /-- R38: every byte of the memory map that differs from `memDefault`. -/
  mem : List Host.Cell := []
  /-- R40: every register that differs from its reset value, by byte address. -/
  regs : List (Nat × Word) := []
  /-- R16, R47: the applied value behind each shadowed or staged register, by the address of the register. -/
  applied : List (Nat × Word) := []
  /-- R48: when each armed group was armed, by the address of its generation register. -/
  armedAt : List (Nat × Nat) := []
  /-- R17: a cycle, and the W1C fields that events have set in it. -/
  marks : Nat × List Fld := (0, [])
  /-- R43: the first bus error that met a held capture, which takes its place where VALID is cleared in its cycle. -/
  lateErr : Option BusErr := none
  /-- MODEL'S OWN (notes/assumptions/1.md): when each event of a fixed period last ran. -/
  ran : List (Timer × Nat) := []
  pwr : Pwr := {}
  boot : Boot := {}
  brm : Brm := {}
  gptp : Gptp := {}
  pid : Pid := {}
  buck : List BuckSt := List.replicate 4 {}
  sw : Switches := {}
  eng : Eng := {}
  thm : Thm := {}
  saf : Saf := {}
  flash : FlashSt := {}
  vin : Vin := {}
  imu : Imu := {}
  cf : Cf := {}
  sheaf : Sheaf := {}
  comp : Comp := {}
  recs : Records := {}
  gme : Gme := {}
  scn : Scn := {}
  link : List LinkSt := List.replicate 4 {}
  cal : Cal := {}
  sat : Sat := {}
  mbx : Mbx := {}
  cvu : List CvuSt := List.replicate 4 {}
  dict : Dict := {}
  net : Net := {}
  onoth : Onoth := {}
  /-- R433, R434: the retained value of every register entry that differs from its reset value, by address. -/
  kept : List (Nat × Word) := []
  deriving DecidableEq, Repr

/-- The machine right after a reset: DORMANT with PWR_EN low (R79), every register at its reset value, memory with nothing
listed, no command waiting. -/
def State.reset : State := {}

end Sys2Proof.Machine
end

