-- ==== Sys2Proof/Machine/Ops.lean ====
section
/-!
DEFINITION. The named operations over registers, memory and time; Bramble's raise and escalation (R386–R397); the mode
controller's entries into each mode (R72–R95); the bus checks of R42.
-/

namespace Sys2Proof.Machine

/-- The outcome of a command. -/
abbrev Out := Host.Outcome State Fault Refusal

/-! ### Time, in cycles of the 600 MHz pixel clock (R31) -/

def usec (n : Nat) : Nat := 600 * n
def msec (n : Nat) : Nat := 600000 * n
def sec (n : Nat) : Nat := 600000000 * n

/-- Cycles of the 200 MHz DRV clock (R34). -/
def drvCycles (n : Nat) : Nat := 3 * n

/-- Cycles of the 300 MHz SAFE clock (R34). -/
def safeCycles (n : Nat) : Nat := 2 * n

/-- Nanoseconds in a number of pixel cycles (R10, R31). -/
def nsOf (cycles : Nat) : Nat := divRoundNat (cycles * 5) 3

/-- Whether the time since an instant has reached a length. -/
def State.since (s : State) (t len : Nat) : Bool := t + len ≤ s.now

/-- Whether a STATUS of the tile arrived within the last 15 ms (R264, R298). -/
def State.tileFresh (s : State) (k : Nat) : Bool :=
  match s.thm.tileAt.getD k none with
  | some t => s.now ≤ t + msec 15
  | none => false

/-- An event of a fixed period falls due again. -/
def State.dueSince (s : State) (last : Option Nat) (period : Nat) : Bool :=
  match last with
  | some t => s.since t period
  | none => true

/-- The domain that runs a periodic event. -/
def Timer.dom : Timer → Dom
  | .ledger | .allowed | .pid _ => .drv
  | .task | .output | .parity | .selfTest => .safe
  | .planner | .monitors | .attention | .load => .mgmt
  | .thermal => .aon

/-- An event of a fixed period runs, if its time has come (notes/assumptions/1.md). -/
def State.periodic (s : State) (t : Timer) (period : Nat) (k : State → State) : State :=
  if s.dueSince (s.ran.lookup t) period then k { s with ran := (t, s.now) :: s.ran.filter fun x => x.1 != t } else s

/-- The next free value, and the state that has drawn it (notes/assumptions/5.md). -/
def State.draw (s : State) : Nat × State := (Config.freeValue s.free, { s with free := s.free + 1 })

/-! The response codes of R409. -/
def codeOK : Nat := 0x00
def codeBUSY : Nat := 0x01
def codeNOOBJECT : Nat := 0x02
def codeNOSUB : Nat := 0x03
def codeACCESS : Nat := 0x04
def codeRANGE : Nat := 0x05
def codeMODE : Nat := 0x06
def codeLENGTH : Nat := 0x07
def codeSEALED : Nat := 0x08
def codePENDING : Nat := 0x09
def codeREFUSED : Nat := 0x0A

/-- Local gPTP time in ns: it runs on the reference clock and slews toward its target (R134). -/
def State.localTime (s : State) : Nat :=
  let el := nsOf (s.now - s.gptp.at_)
  let corr := min s.gptp.slew.natAbs (divRoundNat (el * s.gptp.ppm) 1000000)
  if s.gptp.slew < 0 then s.gptp.ns + el - corr else s.gptp.ns + el + corr

/-! ### The register bank -/

/-- The word a register holds. -/
def State.reg (s : State) (a : Nat) : Word := Sparse.get resetWord s.regs a

/-- The register bank with one word set. -/
def State.setReg (s : State) (a : Nat) (w : Word) : State := { s with regs := Sparse.set resetWord s.regs a w }

/-- A register as a number. -/
def State.regN (s : State) (a : Nat) : Nat := (s.reg a).toNat

/-- A register set from a number, cut to 32 bits. -/
def State.setN (s : State) (a v : Nat) : State := s.setReg a (BitVec.ofNat 32 v)

/-- The value of a field. -/
def State.rd (s : State) (f : Fld) : Nat := bitsOf (s.regN f.addr) f.hi f.lo

/-- A field set, cut to its width. -/
def State.wr (s : State) (f : Fld) (v : Nat) : State := s.setN f.addr (setBits (s.regN f.addr) f.hi f.lo v)

/-- Whether a field is not 0. -/
def State.flag (s : State) (f : Fld) : Bool := s.rd f != 0

/-- A field set to a value that saturates at its end (R10). -/
def State.wrSat (s : State) (f : Fld) (v : Nat) : State := s.wr f (satNat (f.hi + 1 - f.lo) v)

/-- A field set to 0 or 1. -/
def State.wrB (s : State) (f : Fld) (b : Bool) : State := s.wr f (b2n b)

/-- The width of a field. -/
def Fld.width (f : Fld) : Nat := f.hi + 1 - f.lo

/-- A field read as two's complement (R9). -/
def State.rdS (s : State) (f : Fld) : Int := toSigned f.width (s.rd f)

/-- A field written with a two's-complement value that saturates (R9, R10). -/
def State.wrS (s : State) (f : Fld) (i : Int) : State := s.wr f (ofSigned f.width (satSigned f.width i))

/-- A wrapping counter field advanced. -/
def State.bump (s : State) (f : Fld) : State := s.wr f (s.rd f + 1)

/-- A wrapping counter field advanced by n. -/
def State.bumpBy (s : State) (f : Fld) (n : Nat) : State := s.wr f (s.rd f + n)

/-- A saturating counter field advanced. -/
def State.bumpSat (s : State) (f : Fld) : State := s.wr f (min (s.rd f + 1) (2 ^ f.width - 1))

/-- Bit n of a register. -/
def State.bitR (s : State) (a n : Nat) : Bool := bitAt (s.regN a) n

/-- Bit n of a field. -/
def State.bitF (s : State) (f : Fld) (n : Nat) : Bool := bitAt (s.rd f) n

/-- One bit of a register set or cleared. -/
def State.setBitR (s : State) (a n : Nat) (b : Bool) : State := s.setN a (setBits (s.regN a) n n (b2n b))

/-- One bit of a field set or cleared. -/
def State.setBitF (s : State) (f : Fld) (n : Nat) (b : Bool) : State := s.setBitR f.addr (f.lo + n) b

/-! ### W1C bits and the cycle of their event (R17) -/

/-- The W1C fields that events have set in this cycle. -/
def State.marksNow (s : State) : List Fld := if s.marks.1 = s.now then s.marks.2 else []

/-- An event sets a W1C bit. -/
def State.mark (s : State) (f : Fld) : State := { s.wr f 1 with marks := (s.now, f :: s.marksNow) }

/-- An event sets bit n of a W1C field. -/
def State.markBit (s : State) (f : Fld) (n : Nat) : State := s.mark ⟨f.addr, f.lo + n, f.lo + n⟩

/-- The bits of a register that events have set in this cycle: a clear of this cycle leaves them at 1 (R17). -/
def State.marked (s : State) (a : Nat) : Nat :=
  (s.marksNow.filter fun f => f.addr = a).foldl (fun w f => setBits w f.hi f.lo (2 ^ 32 - 1)) 0

/-- A clear of a W1C bit, which an event of this cycle outlasts (R17). -/
def State.unmark (s : State) (f : Fld) : State := if s.marksNow.contains f then s else s.wr f 0

/-! ### Pads (R58, R85–R87) -/

/-- A pad group is held: its balls keep their held state, whatever the logic drives (R85). -/
def State.held (s : State) (group : Nat) : Bool := s.bitF F.PWR_PADHOLD_GROUP group

/-- The pad group of a tile port (R85). -/
def portPads (p : Nat) : Nat := if p < 2 then 0 else 1

/-- The pad group through which something leaves the device (R85); reads, answers and what goes on inside it pass none. -/
def Sent.padGroup : Sent → Option Nat
  | .tileRow p _ _ _ _ _ => some (portPads p)
  | .tileCmd p _ _ _ _ => some (portPads p)
  | .satFrame _ _ => some 4
  | .imuCommand _ => some 6
  | .canFrame _ => some 3
  | .pdelayResponse | .pdelayRequest | .arpReply _ _ _ | .icmpReply _ _ _ _ => some 2
  | .onoth (.udp _ _ _ _) _ => some 2
  | .envelope _ (.udp _ _ _ _) _ => some 2
  | .tdo _ _ => some 10
  | .onoth _ _ | .envelope _ _ _ | .answer _ _ _ | .received _ _ _ | .busWord _ _ _ | .lockRead _ _ _ _ | .tunnel _ _ | .avsPwm _ => none

/-- Note what leaves a port. Nothing leaves through pads that are held (R85). -/
def State.emit (s : State) (x : Sent) : State :=
  { s with sent := if x.padGroup.any s.held then s.sent else x :: s.sent }

/-- What the dictionary answers to a service that a command of its own carries: object, subindex, response code (R409). -/
def State.answer (s : State) (index sub code : Nat) : State := s.emit (.answer index sub code)

/-- The pitch estimate OFS + θ (R303). -/
def State.showPitch (s : State) : State := s.wrS F.PID_PITCHEST_EST (s.rdS F.PID_PITCHOFS_OFS + divRound s.pid.theta 65536)

/-- A 64-bit counter held in a low and a high register. -/
def State.get64 (s : State) (lo hi : Nat) : Nat := s.regN lo + 2 ^ 32 * s.regN hi

/-- A 64-bit counter advanced; it wraps at its width. -/
def State.add64 (s : State) (lo hi v : Nat) : State :=
  let t := s.get64 lo hi + v
  (s.setN lo t).setN hi (t / 2 ^ 32)

/-- The applied value behind a staged or shadowed register (R16, R47). -/
def State.appReg (s : State) (a : Nat) : Nat := (Sparse.get resetWord s.applied a).toNat

/-- The applied value of a field. -/
def State.app (s : State) (f : Fld) : Nat := bitsOf (s.appReg f.addr) f.hi f.lo

/-- The applied value of a field as two's complement. -/
def State.appS (s : State) (f : Fld) : Int := toSigned f.width (s.app f)

/-- The applied value of one register set. -/
def State.setApp (s : State) (a v : Nat) : State :=
  { s with applied := Sparse.set resetWord s.applied a (BitVec.ofNat 32 v) }

/-- The staged value of a register becomes the applied one. -/
def State.applyReg (s : State) (a : Nat) : State := s.setApp a (s.regN a)

/-- The registers of [lo, hi) back at their reset values, staged and applied alike. -/
def State.resetRegs (s : State) (lo hi : Nat) : State :=
  { s with regs := Sparse.erase s.regs lo hi, applied := Sparse.erase s.applied lo hi
           armedAt := s.armedAt.filter fun p => !(lo ≤ p.1 && p.1 < hi) }

/-! ### Memory (R38, R8) -/

/-- One byte of memory. -/
def State.byte (s : State) (a : Nat) : Byte := Sparse.get memDefault s.mem a

/-- One byte of memory written. -/
def State.setByte (s : State) (a : Nat) (b : Byte) : State := { s with mem := Sparse.set memDefault s.mem a b }

/-- n bytes from an address upward. -/
def State.bytes (s : State) (a n : Nat) : List Byte := (List.range n).map fun i => s.byte (a + i)

/-- Bytes written from an address upward. -/
def State.setBytes (s : State) (a : Nat) : List Byte → State
  | [] => s
  | b :: bs => (s.setByte a b).setBytes (a + 1) bs

/-- A little-endian number of n bytes (R8). -/
def State.num (s : State) (a n : Nat) : Nat := ofLeBytes (s.bytes a n)

/-- A little-endian number of n bytes written (R8). -/
def State.setNum (s : State) (a n v : Nat) : State := s.setBytes a (leBytes n v)

/-- The bytes of [lo, hi) lose their contents. -/
def State.clearMem (s : State) (lo hi : Nat) : State := { s with mem := Sparse.erase s.mem lo hi }

/-! ### Power domains (R81–R83) -/

/-- Whether a domain is on and out of reset. -/
def State.on (s : State) (d : Dom) : Bool := s.bitF F.PWR_DOMSTAT_ON d.num

/-- The domain of a register block; LNK windows 0 and 1 lie in LNKA (R40). -/
def blockDom (block off : Nat) : Dom :=
  match block with
  | 1 | 4 => .aon
  | 6 | 20 => .net
  | 7 | 8 => .cmp
  | 9 => .gme
  | 10 => .scn
  | 11 => if off < 0x8000 then .lnka else .lnkb
  | 12 | 13 | 14 => .drv
  | 15 | 16 => .safe
  | _ => .mgmt

/-- The domain of the link logic of a tile port. -/
def portDom (p : Nat) : Dom := if p < 2 then .lnka else .lnkb

/-! ### Modes (R72) -/

/-- The operating mode. -/
def State.mode (s : State) : Mode := Mode.ofNum (s.rd F.PWR_MODE_MODE)

/-- The lamp demand of R73; the test-only state ignores it (R115). -/
def State.demand (s : State) : Bool :=
  !s.flag F.BIST_TESTSTAT_TESTONLY && (s.flag F.PWR_WAKESTAT_LAMPREQ_LVL || s.flag F.PWR_MODEREQ_REQ)

/-- Whether LAMP_FAIL is asserted: in DARK (R72), and in the test-only state (R115). -/
def State.lampFail (s : State) : Bool := s.mode == .dark || s.flag F.BIST_TESTSTAT_TESTONLY

/-- The level that Tn_HUSK_N is driven to: low while its pad group is held (R85), else the command, the hardwired low, and a test pulse in
progress (R361, R376). -/
def State.huskDriven (s : State) (n : Nat) : Bool :=
  !s.held (portPads n) && !s.saf.forcedLow && match s.saf.pulse with
    | some p => if p.out == .huskN n then p.startup else s.bitF F.SAF_OUTCMD_HUSKN_HI n
    | none => s.bitF F.SAF_OUTCMD_HUSKN_HI n

/-- The level at the pad of Tn_HUSK_N: what is driven, unless the line is stuck (R373). -/
def State.huskPad (s : State) (n : Nat) : Bool :=
  match s.saf.stuck.lookup n with
  | some l => l
  | none => s.huskDriven n

/-- The level of the LAMP_FAIL line: high while the transistor is off and the pull-up holds it, unless the line is stuck (R62). -/
def State.lampFailPad (s : State) : Bool :=
  s.saf.lfStuck.getD (s.lampFail || (match s.saf.pulse with | some p => p.out == .lampFail | none => false))

/-- The read-back registers follow the outputs: SAF_OUTRB and LNK_HUSK (R61, R62). -/
def State.syncPads (s : State) : State :=
  let pads := (List.range 4).foldl (fun w n => w + b2n (s.huskPad n) * 2 ^ n) 0
  let s := if s.on .safe then (s.wr F.SAF_OUTRB_HUSKN_PAD pads).wrB F.SAF_OUTRB_LF_PAD s.lampFailPad else s
  (List.range 4).foldl (fun s n =>
    if s.on (portDom n) then
      (s.wrB (F.LNK_HUSK_CMD n) (s.huskDriven n)).wrB (F.LNK_HUSK_PAD n) (s.huskPad n)
    else s) s

/-- Firmware runs: boot has completed and the processors are not held in reset (R105, R114). -/
def State.firmwareUp (s : State) : Bool := s.on .mgmt && s.flag F.BIST_BOOT_DONE && !s.flag F.BIST_TESTSTAT_TESTONLY

/-- The value of a firmware-held object: the written one, or its default. -/
def State.obj (s : State) (index sub : Nat) (dflt : List Byte) : List Byte := (s.dict.objs.lookup (index, sub)).getD dflt

/-- A background start is deferred (R449, R451). -/
def State.countDeferred (s : State) : State :=
  { s with dict := { s.dict with deferCount := (s.dict.deferCount + 1) % 2 ^ 32 } }.bump F.ODX_DEFER_DEFERRED

/-- The firmware-held objects that are retained: those that differ from their default, with RISEN among them (R433). -/
def State.retainedObjs (s : State) : List ((Nat × Nat) × List Byte) :=
  s.dict.objs ++ (if s.dict.risen = 0 then [] else [((0x1F00, 3), leBytes 4 s.dict.risen)])

/-- A retained value differs from what the store in flash holds (R433). -/
def State.retainedChanged (s : State) : Bool :=
  s.kept != s.dict.storedKept || s.retainedObjs != s.dict.storedObjs
    || (s.saf.params, s.regN R.SAF_CONFVAL) != s.saf.stored.getD ({}, 0)

/-- Sessions end without DOM_END (R414). -/
def State.endSessions (s : State) (ends : DomSession → Bool) : State :=
  let n := (s.onoth.sessions.filter ends).length
  let s := { s with onoth := { s.onoth with sessions := s.onoth.sessions.filter fun x => !ends x } }
  if s.on .net then s.bumpBy F.NET_ONOTH2_DOMABORT n else s

/-- Commissioning ends: sessions of RWC objects end, and the store falls due (R76, R433, R450). -/
def State.endCommission (s : State) : State :=
  let s := (s.endSessions fun x => x.index < 0xB000).wr F.PWR_MODE_COMM 0
  if s.retainedChanged then { s with dict := { s.dict with storeDue := true } }.wr F.ODX_STORE_STATE 1 else s

/-- Owners and calibration power as the dictionary store gives them act from the first STANDBY on (R41, R84). -/
def State.standbyObjects (s : State) : State :=
  let s := (s.setN R.SYS_BLKOWN (ofLeBytes (s.obj 0x2008 1 []))).setN R.PWR_DOMCTL (ofLeBytes (s.obj 0x2004 3 []))
  { s with dict := { s.dict with forStandby := false } }

/-- The coverage of a target's test in 0.1 % (R109). -/
def targetCoverage (target : Nat) : Nat := if target = 1 then 920 else if target = 10 then 965 else 1000

/-- A run ends as aborted. What part of its coverage it has achieved by then is open (notes/assumptions/5.md). -/
def State.abortTest (s : State) (b : BistRun) : State :=
  let (v, s) := s.draw
  (s.wr (F.BIST_REC_OUT_OUTCOME b.target) 6).wr (F.BIST_REC_COV_COVERAGE b.target) (v % (targetCoverage b.target + 1))

/-- Every BIST run in progress ends as aborted: no test runs on into another mode (R109, R111). -/
def State.endTests (s : State) : State :=
  if s.boot.bist.isEmpty then s else
  let s := s.boot.bist.foldl State.abortTest s
  { (s.wr F.BIST_STATUS_RUNNING 0).mark F.BIST_STATUS_DONE with boot := { s.boot with bist := [] } }

/-- The mode register after a transition; a transition ends Commissioning (R76) and the tests of the mode that it leaves (R109). -/
def State.setMode (s : State) (m : Mode) (cause : Nat) : State :=
  let s := s.endTests
  let prev := s.rd F.PWR_MODE_MODE
  let s := if s.flag F.PWR_MODE_COMM then s.endCommission else s
  let s := (((s.wr F.PWR_MODE_PREV prev).wr F.PWR_MODE_MODE m.num).wr F.PWR_MODE_CAUSE cause).wr F.PWR_MODE_BUSY 0
  let s := { s with pwr := { s.pwr with modeAt := s.now } }
  if m == .standby && s.dict.forStandby then s.standbyObjects else s

/-- Every HUSK_N line commanded low (R72, R372). -/
def State.lowerHusk (s : State) : State := s.wr F.SAF_OUTCMD_HUSKN_HI 0

/-- The strapped reference in mA of each strap code (R67). -/
def strapRef (code : Nat) : Nat := [1500, 2000, 2500, 3000, 3500, 4000, 5000, 6000].getD code 1500

/-- A safe-switch gate: path 0–3, high or low side, on or off. -/
def State.setGate (s : State) (path : Nat) (high on : Bool) : State :=
  if high then { s with sw := { s.sw with hi := s.sw.hi.set path on } }
  else { s with sw := { s.sw with lo := s.sw.lo.set path on } }

/-- Both switches of a path opened, and commanded open. -/
def State.openPath (s : State) (path : Nat) : State :=
  (((s.setGate path true false).setGate path false false).setBitF F.SAF_SWCTL_HCLOSE path false).setBitF
    F.SAF_SWCTL_LCLOSE path false

/-- Update the hidden state of one buck channel. -/
def State.modBuck (s : State) (n : Nat) (f : BuckSt → BuckSt) : State := { s with buck := s.buck.modify n f }

/-- The hidden state of one buck channel. -/
def State.buckN (s : State) (n : Nat) : BuckSt := s.buck.getD n {}

/-- A channel's state and applied reference: no current in any state but 1, 2 and 3. -/
def State.buckOff (s : State) (n st : Nat) : State :=
  ((s.modBuck n fun b => { b with iApp := 0, offSince := s.now, peakSince := none }).wr (F.BUCK_STAT_STATE n) st).wr
    (F.BUCK_MEAS1_REFAPP n) 0

/-- No discharge runs on the channel. -/
def BuckSt.noDisch (b : BuckSt) : BuckSt := { b with disch := none, rev := 0 }

/-- A disconnect: the channel stops and runs in reverse, returning charge to its input at IDIS_MA on average (R325). A test pulse of its path does not
count any more (R335). -/
def State.disconnect (s : State) (n : Nat) : State :=
  let s := { s with sw := { s.sw with test := s.sw.test.map fun (t : SwTest) => if t.sw / 2 = n then { t with cut := true } else t } }
  ((s.buckOff n 0).modBuck n fun b => { b with disch := some s.now, rev := s.rd F.ENG_HARN_IDIS_MA }).setBitF F.ENG_HARNSTAT_DISCH n true

/-- The stop line of DARK: gates low, no discharge (R308, R325). -/
def State.stopLine (s : State) (n : Nat) : State :=
  ((s.buckOff n 6).modBuck n BuckSt.noDisch).setBitF F.ENG_HARNSTAT_DISCH n false

/-- The state of the hardware Husk path of one channel, with its bits of BIST_HUSKPATH.CH (R96). DESIGN CHOICE (notes/assumptions/49.md): they read idle
during steps 1 and 2, and ramping during a ramp-down. -/
def State.setHw (s : State) (n : Nat) (x : HwStep) : State :=
  let code := match x with
    | .idle | .lowside _ | .lowGood | .highside _ => 0 | .ramping _ | .rampdown _ _ => 1 | .running => 2 | .failed => 3
  { s with boot := { s.boot with hw := s.boot.hw.set n x } }.wr ⟨R.BIST_HUSKPATH, 2 * n + 1, 2 * n⟩ code

/-- The state of the hardware Husk path of one channel. -/
def State.hwN (s : State) (n : Nat) : HwStep := s.boot.hw.getD n .idle

/-- Whether the hardware Husk path holds a channel's pads (R97). -/
def HwStep.active : HwStep → Bool
  | .lowside _ | .lowGood | .highside _ | .ramping _ | .running | .rampdown _ _ => true
  | .idle | .failed => false

/-- The sequencer has the low-side switch of a path closed, and the high-side switch (R96). -/
def HwStep.closes (high : Bool) : HwStep → Bool
  | .lowside _ | .lowGood => !high
  | .highside _ | .ramping _ | .running | .rampdown _ _ => true
  | .idle | .failed => false

/-- What drives one gate: the sequencer while the SW pads are held, else the command of the island outside DARK (R97, R310); either way a high-side switch
that the harness guard keeps open stays open (R324). -/
def State.gateCmd (s : State) (path : Nat) (high : Bool) : Bool :=
  if s.held 9 then (s.hwN path).closes high && !(high && (s.buckN path).tripped)
  else s.mode != .dark && (if high then s.bitF F.SAF_SWCTL_HCLOSE path && !(s.buckN path).tripped else s.bitF F.SAF_SWCTL_LCLOSE path)

/-- One gate follows what drives it, but for a switch under test (R86, R97, R310). An open high-side switch closes only while Bn_FB reads below 1.0 V
(R323). -/
def State.followGate (s : State) (path : Nat) (high : Bool) : State :=
  if s.sw.test.any fun t => t.sw = 2 * path + b2n (!high) then s
  else s.setGate path high (s.gateCmd path high && (!high || s.sw.hi.getD path false || decide (s.rd (F.BUCK_MEAS0_VOUT path) < 1000)))

/-- Both gates of a path follow what drives them. -/
def State.followPath (s : State) (path : Nat) : State := (s.followGate path false).followGate path true

/-- Every gate follows what drives it. -/
def State.followSw (s : State) : State := (List.range 4).foldl State.followPath s

/-- The reference of a channel in µA while the hardware Husk path runs it: it rises at 2 A/ms to the strapped value, and falls from where it
stood (R96). -/
def State.hwApp (s : State) (n : Nat) : Nat :=
  let ref := 1000 * strapRef s.pwr.strap
  match s.hwN n with
  | .ramping t => min ref (divRoundNat ((s.now - t) * 2000) 600)
  | .running => ref
  | .rampdown t start => start - min start (divRoundNat ((s.now - t) * 2000) 600)
  | _ => 0

/-- The light of one channel ends because the lamp demand ended: the hardware path ramps down and opens its switches at the
end (R96); under the logic the channel stops and discharges (R77, R325), also one that waits for its discharge to start again, and its switches
open. -/
def State.endSupply (s : State) (n : Nat) : State :=
  let step := if s.held 5 then s.hwN n else .idle
  match step with
  | .ramping _ | .running => s.setHw n (.rampdown s.now (s.hwApp n))
  | .rampdown _ _ => s
  | .lowside _ | .lowGood | .highside _ => (s.setHw n .idle).openPath n
  | .idle | .failed =>
    let s := if (s.hwN n).active then s.setHw n .idle else s
    let st := s.rd (F.BUCK_STAT_STATE n)
    let s := if 1 ≤ st && st ≤ 4 then (s.wr (F.BUCK_CFG_EN n) 0).disconnect n
      else if (s.buckN n).disch.isSome then s.wr (F.BUCK_CFG_EN n) 0 else s
    s.openPath n

/-- THM_STAT.STATE outside a stop: derating, warning or normal. -/
def State.thermLevel (s : State) : Nat :=
  if s.thm.f < 65536 then 2
  else if 3 ≤ s.thm.warnCnt || s.thm.ntcCnt.any (fun c => 3 ≤ c.1) || s.thm.tileCnt.any (fun c => 3 ≤ c.1) then 1 else 0

/-- An orderly stop in progress is abandoned (R335), and a HUSK that followed one is over (R333). -/
def State.dropThermStop (s : State) : State :=
  let t := { s with thm := { s.thm with stop := none, inHusk := false } }
  if s.thm.stop.isSome then t.wr F.THM_STAT_STATE 0 else if s.thm.inHusk then t.wr F.THM_STAT_STATE s.thermLevel else t

/-- PREPARE is over. -/
def State.endPrep (s : State) : State := { s with pwr := { s.pwr with prep := none, beamEnding := false } }

/-- STANDBY from RUN, HUSK or PREPARE: HUSK_N low, supplies ended (R77). -/
def State.enterStandby (s : State) (cause : Nat) : State :=
  let s := (List.range 4).foldl State.endSupply s
  let s := { s with saf := { s.saf with huskFrom := [none, none, none, none], huskFails := [0, 0, 0, 0] } }
  ((s.dropThermStop.endPrep.lowerHusk).setMode .standby cause).syncPads

/-- HUSK: every HUSK_N line low, supplies kept (R72, R77). With the lamp demand ended in RUN, HUSK falls back to STANDBY (R73, R77). -/
def State.enterHusk (s : State) (cause : Nat) : State :=
  let ended := s.mode == .run && s.pwr.beamEnding
  let from_ := if s.mode == .prepare then s.saf.huskFrom.map fun t => some (t.getD s.now) else List.replicate 4 (some s.now)
  let s := { s with saf := { s.saf with huskFrom := from_ } }
  let s := ((s.endPrep.lowerHusk).setMode .husk cause).syncPads
  if ended then s.enterStandby 0x0E else s

/-- A chain's hidden state. -/
def State.chain (s : State) (c : Nat) : ChainSt := s.sat.chains.getD c {}

def State.modChain (s : State) (c : Nat) (f : ChainSt → ChainSt) : State := { s with sat := { s.sat with chains := s.sat.chains.modify c f } }

/-- The line of a chain is not idle for a frame that the device itself calls for: a turned frame is still out (R293). -/
def State.lineBusy (s : State) (c : Nat) : Bool := (s.chain c).out.isSome

/-- A frame leaves on a chain behind the device's last one and its gap of 4 tb (R281); on a line that is not idle it waits up to 20 tb, then is sent and
counts a collision (R293). -/
def State.satSend (s : State) (c cmd dest first : Nat) (payload : List Byte) (busy : Bool) : State :=
  let bytes := satBytes dest cmd first payload
  let start := max s.now (s.chain c).idleAt + (if busy then 20 * satBit else 0)
  let s := (s.emit (.satFrame c bytes)).modChain c fun k => { k with idleAt := start + satLen payload.length + 4 * satBit, line := satLevels bytes }
  if busy then s.bump (F.SAT_CH_ERRCNT_COLLIDE c) else s

/-- Every enabled satellite chain ends the frame in flight, which it cuts off here, and sends OFF after the gap of 4 tb, within 1 ms (R281, R292). -/
def State.satOff (s : State) : State :=
  if !s.on .drv then s else
  (List.range 4).foldl (fun s c =>
    if s.flag (F.SAT_CH_CTRL_EN c) then
      let busy := s.lineBusy c
      let s := s.modChain c fun k => { k with idleAt := min k.idleAt (s.now + 4 * satBit) }
      (s.satSend c 0x03 0xFFFF 0 [] busy).modChain c fun k => { k with out := none, lit := false, collectDue := false, enum := none }
    else s) s

/-- DARK: LAMP_FAIL asserted, safe switches open, bucks stopped by the stop line, HUSK_N low, satellites off (R72, R77, R292,
R308). The island's
mode requests stand until the island releases them (R78, notes/assumptions/12.md). -/
def State.enterDark (s : State) (cause : Nat) : State :=
  let s := (List.range 4).foldl (fun s n =>
    let s := (s.stopLine n).openPath n
    if (s.hwN n).active then s.setHw n .idle else s) s
  let s := { s with thm := { s.thm with stop := none, inHusk := false }
                    saf := { s.saf with huskFrom := [none, none, none, none] }
                    sw := { s.sw with test := none } }
  (((s.endPrep.lowerHusk).setMode .dark cause).syncPads).satOff

/-- Full characterization ends: HUSK_N falls, the tile's switches open and its channel stops; a CHAR record still to come is discarded, and a run that
waits for its domains does not begin (R348, R375). -/
def State.endFull (s : State) (result : Nat) : State :=
  let s := if s.cal.fullDue.isSome then { s with cal := { s.cal with fullDue := none } }.wr F.CAL_FULLSTAT_RESULT result else s
  match s.cal.full with
  | none => s
  | some r =>
    let s := { s with link := s.link.modify r.tile fun l => { l with sample := none } }
    let s := (s.setBitF F.SAF_OUTCMD_HUSKN_HI r.tile false).openPath r.tile
    let st := s.rd (F.BUCK_STAT_STATE r.tile)
    let s := if 1 ≤ st && st ≤ 4 then (s.wr (F.BUCK_CFG_EN r.tile) 0).disconnect r.tile else s
    let s := { s with cal := { s.cal with full := none } }
    (((s.wr F.SAF_STATE_CHAR 0).wr F.CAL_FULLSTAT_RUNNING 0).wr F.CAL_FULLSTAT_RESULT result).syncPads

/-- A HUSK request at the mode controller: it moves RUN to HUSK and changes no other mode at once (R391, R80). A confirmed violation that meets an
escalation of the same cycle gives the cause (R384). -/
def State.requestHusk (s : State) (cause : Nat) : State :=
  if s.mode == .run then s.enterHusk cause
  else if s.mode == .husk && s.rd F.PWR_MODE_PREV = Mode.run.num && s.rd F.PWR_MODE_CAUSE = 0x08 && cause = 0x0A && s.pwr.modeAt = s.now then
    s.wr F.PWR_MODE_CAUSE 0x0A
  else s

/-- A DARK request at the mode controller (R77, R391). -/
def State.requestDark (s : State) (cause : Nat) : State :=
  match s.mode with
  | .prepare | .standby | .run | .husk => s.enterDark cause
  | .dormant | .dark => s

/-! ### Bramble (R386–R397) -/

/-- Bit of a source in one of the banks of eight words. -/
def srcBit (base src : Nat) : Nat × Nat := (base + 4 * (src / 32), src % 32)

def State.srcGet (s : State) (base src : Nat) : Bool := s.bitR (srcBit base src).1 (srcBit base src).2
def State.srcSet (s : State) (base src : Nat) (b : Bool) : State := s.setBitR (srcBit base src).1 (srcBit base src).2 b

def State.latched (s : State) (src : Nat) : Bool := s.srcGet (R.BRM_STAT 0) src
def State.escalated (s : State) (src : Nat) : Bool := s.srcGet (R.BRM_ESC 0) src

/-- Handled by firmware or by the island (R392). -/
def State.handled (s : State) (src : Nat) : Bool := s.srcGet (R.BRM_HANDLED 0) src || s.srcGet (R.BRM_SHANDLED 0) src

def State.setHandled (s : State) (src : Nat) (b : Bool) : State :=
  (s.srcSet (R.BRM_HANDLED 0) src b).srcSet (R.BRM_SHANDLED 0) src b

/-- The configured class of a source; a reserved source reads INFO (R388). -/
def State.cfgClass (s : State) (src : Nat) : Nat :=
  if src < 256 then bitsOf (s.regN (R.BRM_CLASS (src / 16))) (2 * (src % 16) + 1) (2 * (src % 16)) else 0

/-- The configured grace of a source in units of 256 µs. -/
def State.cfgGrace (s : State) (src : Nat) : Nat := bitsOf (s.regN (R.BRM_GRACE (src / 4))) (8 * (src % 4) + 7) (8 * (src % 4))

/-- R394 has acted. -/
def State.selfActed (s : State) : Bool := s.flag F.BRM_SUMMARY_SELF

/-- The class in force: after R394 has acted, the higher of the default class and HUSK. -/
def State.forceClass (s : State) (src : Nat) : Nat :=
  if s.selfActed && src != 255 then max (srcDefaultClass src) 2 else s.cfgClass src

/-- The grace in force: 0 after R394 has acted. -/
def State.forceGrace (s : State) (src : Nat) : Nat := if s.selfActed then 0 else s.cfgGrace src

/-- The count of a source, saturating at 255 (R387). -/
def State.srcCount (s : State) (src : Nat) : Nat := bitsOf (s.regN (R.BRM_CNT (src / 4))) (8 * (src % 4) + 7) (8 * (src % 4))

def State.countSrc (s : State) (src : Nat) : State :=
  s.setN (R.BRM_CNT (src / 4))
    (setBits (s.regN (R.BRM_CNT (src / 4))) (8 * (src % 4) + 7) (8 * (src % 4)) (min (s.srcCount src + 1) 255))

/-- The kinds of a record (R396). -/
inductive RecKind where
  | raised | escalated | handled | cleared | self
  deriving DecidableEq, Repr

def RecKind.num : RecKind → Nat
  | .raised => 0 | .escalated => 1 | .handled => 2 | .cleared => 3 | .self => 4

/-- The four words of a record (R396). -/
def State.recWords (s : State) (src cls : Nat) (kind : RecKind) (addr : Nat) : List Nat :=
  let seq := (s.rd F.BRM_LOGSTAT_SEQ + 1) % 65536
  let t := s.localTime
  [src + 2 ^ 8 * cls + 2 ^ 10 * kind.num + 2 ^ 13 * s.mode.num + 2 ^ 16 * seq, addr, t % 2 ^ 32, t / 2 ^ 32 % 2 ^ 32]

/-- A record enters the ring; the read index moves on with an entry that is overwritten before it was read (R397). Records
that the flash fault log keeps also wait there (R399). -/
def State.record (s : State) (src cls : Nat) (kind : RecKind) (addr : Nat) : State :=
  let ws := s.recWords src cls kind addr
  let e := s.rd F.BRM_LOGSTAT_NEXT
  let full := !s.flag F.BRM_MSGCTRL_EMPTY && e == s.rd F.BRM_MSGCTRL_RD
  let keep := kind == .self || (kind == .escalated && 2 ≤ cls)
  let s := (List.range 4).foldl (fun s j => s.setN (R.BRM_LOG_W e j) (ws.getD j 0)) s
  let s := if full then (s.wr F.BRM_MSGCTRL_RD (e + 1)).bumpSat F.BRM_MSGCTRL_OVERRUN else s
  let s := ((s.wr F.BRM_LOGSTAT_NEXT (e + 1)).bump F.BRM_LOGSTAT_SEQ).wr F.BRM_MSGCTRL_EMPTY 0
  if keep && s.on .mgmt then
    { s with brm := { s.brm with flashWait := s.brm.flashWait ++ [ws]
                                 waitSince := if s.brm.flashWait.isEmpty then s.now else s.brm.waitSince } }
  else s

/-- A source escalates by its class (R390): a HUSK or DARK request reaches the mode controller by hardwire (R391),
and ends a full characterization (R348). -/
def State.escalate (s : State) (src cls addr : Nat) : State :=
  let s := { s with brm := { s.brm with timers := s.brm.timers.filter fun t => t.src != src
                                        pend := s.brm.pend.filter (fun (p : Nat × Nat) => p.1 != src) ++ [(src, cls)] } }
  let s := (s.srcSet (R.BRM_ESC 0) src true).record src cls .escalated addr
  let s := if 2 ≤ cls then s.endFull 3 else s
  match cls with
  | 2 => s.requestHusk 0x08
  | 3 => s.requestDark 0x09
  | _ => s

/-- The grace timer of a source starts; a grace of 0 escalates at once, and INFO has no timer (R387, R390). -/
def State.startGrace (s : State) (src addr : Nat) : State :=
  let cls := s.forceClass src
  let g := s.forceGrace src
  if cls = 0 then s
  else if g = 0 then s.escalate src cls addr
  else { s with brm := { s.brm with timers := s.brm.timers.filter (fun t => t.src != src) ++
            [{ src := src, due := s.now + safeCycles (g * 76800), cls := cls, addr := addr }] } }

/-- The address that the records of a source carry until its next RAISED record (R396). -/
def State.addrOf (s : State) (src : Nat) : Nat := (s.brm.addrs.lookup src).getD (srcAddr src)

/-- The RAISED record of a source, and its timer (R387). -/
def State.recordRaised (s : State) (src addr : Nat) : State :=
  let rest := s.brm.addrs.filter fun (p : Nat × Nat) => p.1 != src
  let s := { s with brm := { s.brm with addrs := if addr = srcAddr src then rest else (src, addr) :: rest } }
  (s.record src (s.forceClass src) .raised addr).startGrace src addr

/-- The sources raised in this cycle: address, and whether the event set the latch. -/
def State.eventsNow (s : State) : List (Nat × Nat × Bool) := if s.brm.events.1 = s.now then s.brm.events.2 else []

/-- The event of a source in this cycle is noted (R401). -/
def State.noteEvent (s : State) (src addr : Nat) (new : Bool) : State :=
  let new := new || match s.eventsNow.lookup src with | some e => e.2 | none => false
  { s with brm := { s.brm with events := (s.now, (src, addr, new) :: s.eventsNow.filter fun e => e.1 != src) } }

/-- A source is raised (R387). Reserved sources are never raised (R388), and no event is recorded while SAFE is off. -/
def State.raiseAt (s : State) (src addr : Nat) : State :=
  if !s.on .safe || (srcRow src).isNone then s else
  let s := (s.countSrc src).noteEvent src addr (!s.latched src)
  if !s.latched src then (s.srcSet (R.BRM_STAT 0) src true).recordRaised src addr
  else if s.handled src then (s.setHandled src false).recordRaised src addr
  else s

/-- A source is raised, with the address that R396 gives its record. -/
def State.raise (s : State) (src : Nat) : State := s.raiseAt src (srcAddr src)

/-- A source is raised when a condition holds. -/
def State.raiseIf (s : State) (b : Bool) (src : Nat) : State := if b then s.raise src else s

/-- A block has found a lasting condition: it raises its source, with SAFE off as soon as SAFE has left reset (R387). -/
def State.raiseFound (s : State) (src : Nat) : State :=
  if s.on .safe then s.raise src
  else { s with brm := { s.brm with waiting := (src, srcAddr src) :: s.brm.waiting.filter fun (p : Nat × Nat) => p.1 != src } }

/-- SAFE has left reset: every condition that was found without it is raised, the lower source first (R387, R401). -/
def State.raiseWaiting (s : State) : State :=
  let w := s.brm.waiting
  (List.range 256).foldl (fun s k => match w.lookup k with | some a => s.raiseAt k a | none => s)
    { s with brm := { s.brm with waiting := [] } }

/-- BRM_SUMMARY as it reads: the stored SELF bit and the bits that follow the latches (R402). -/
def State.brmSummary (s : State) : Nat :=
  let n := sumNat ((List.range 8).map fun w => popcount 32 (s.regN (R.BRM_STAT w)))
  b2n (n != 0) + 2 * b2n (s.brm.pend.any fun p => p.2 == 1) + 4 * b2n (s.brm.pend.any fun p => p.2 == 2)
    + 8 * b2n (s.brm.pend.any fun p => p.2 == 3) + 16 * b2n s.selfActed + 256 * n

/-- A latched cause that keeps the device in HUSK or DARK: a latched source of class HUSK or DARK, or one that has escalated
as such (R78, R391). -/
def State.faultCause (s : State) : Bool :=
  s.brm.pend.any (fun p => 2 ≤ p.2) || (List.range 256).any (fun k => s.latched k && 2 ≤ s.forceClass k)

/-- A HUSK-class request is pending: PREPARE on the path to RUN then ends in HUSK (R391). -/
def State.huskPending (s : State) : Bool := s.brm.pend.any fun p => 2 ≤ p.2

/-- The faults of R394 act by hardwire: HUSK_N low, HUSK requested, a full characterization ended (R348), every running timer's source escalates at
once, the lower source first (R401). -/
def State.brambleSelf (s : State) (cause : Fld) : State :=
  let s := (s.wrB cause true).wrB F.BRM_SUMMARY_SELF true
  let s := { s with saf := { s.saf with forcedLow := true } }.syncPads
  let s := (s.srcSet (R.BRM_STAT 0) 0 true).record 0 2 .self 0x40100000
  let s := { s with brm := { s.brm with pend := s.brm.pend.filter (fun (p : Nat × Nat) => p.1 != 0) ++ [(0, 2)] } }
  let s := (s.endFull 3).requestHusk 0x08
  let timers := s.brm.timers
  (List.range 256).foldl (fun (s : State) k => match timers.find? fun t => t.src = k with
    | some t => s.escalate t.src (max (srcDefaultClass t.src) 2) t.addr
    | none => s) s

/-! ### Permission to enter RUN (R74, R381) -/

/-- The BIST outcome of a target is a failure (R109). -/
def State.bistFailed (s : State) (target : Nat) : Bool :=
  3 ≤ s.rd (F.BIST_REC_OUT_OUTCOME target) && s.rd (F.BIST_REC_OUT_OUTCOME target) ≤ 5

/-- The BIST of a target passed, at once or after repair (R109, R112). -/
def State.bistPassed (s : State) (target : Nat) : Bool :=
  s.rd (F.BIST_REC_OUT_OUTCOME target) == 1 || s.rd (F.BIST_REC_OUT_OUTCOME target) == 2

/-- The reason that DENY gives while PERMIT is 0, in the order of R381; 0 when nothing denies. DESIGN CHOICE (notes/assumptions/49.md): a test of the island
that has neither passed nor failed gives 3. A check value that is still to be computed confirms nothing (R361). -/
def State.denyReason (s : State) : Nat :=
  if s.bistFailed 0 || s.bistFailed 1 || s.boot.safeImage == some false || s.saf.swRoundBad || s.saf.round == some false then 2
  else if !s.flag F.SAF_STATE_READY || s.bistFailed 4 then 3
  else if s.rd F.SAF_STATE_CONF != 1 || s.regN R.SAF_CONFCHK != s.regN R.SAF_CONFVAL || s.saf.checkDue.isSome then 1
  else if s.saf.round != some true || !s.bistPassed 0 || !s.bistPassed 1 then 3
  else 0

/-- PWR_RUNGATE written: PERMIT cleared in RUN moves the device to HUSK (R80). -/
def State.writeGate (s : State) (permit : Bool) (deny : Nat) : State :=
  let s := (s.wrB F.PWR_RUNGATE_PERMIT permit).wr F.PWR_RUNGATE_DENY deny
  if !permit && s.mode == .run then s.enterHusk 0x07 else s

/-- The island sets PWR_RUNGATE by R381. -/
def State.judgeGate (s : State) : State := s.writeGate (s.denyReason == 0) s.denyReason

/-- The island withdraws PERMIT without having run its round again (R380, R381). -/
def State.closeGate (s : State) : State :=
  let d := s.denyReason
  s.writeGate false (if d = 0 then 3 else d)

/-- The confirmation is voided (R380, R389, R416): DENY gives 1, unless a reason that comes before it applies (R381). -/
def State.voidConfirm (s : State) : State :=
  let s := s.wr F.SAF_STATE_CONF 0
  s.writeGate false (if s.denyReason = 2 then 2 else 1)

/-! ### Entry into PREPARE and loss of power -/

/-- A pad group is latched in its held state (R85). Behind held BUCK pads every FET is off, and behind held SW pads every switch is open, unless the
sequencer runs the channel (R97). -/
def State.holdGroup (s : State) (g : Nat) : State :=
  let s := { s with pwr := { s.pwr with padFirst := setBits s.pwr.padFirst g g 0 } }.setBitF F.PWR_PADHOLD_GROUP g true
  if g = 5 then
    (List.range 4).foldl (fun s n =>
      let st := s.rd (F.BUCK_STAT_STATE n)
      if (s.hwN n).active || st = 0 || 5 ≤ st then s else s.buckOff n 0) s
  else if g = 9 then { s with sw := { s.sw with test := none } }.followSw
  else s

/-- The sequencer is ready for a new start: a channel that failed in an earlier PREPARE may start again (R96). -/
def State.rearmHw (s : State) : State :=
  (List.range 4).foldl (fun s n => if s.hwN n == .failed then s.setHw n .idle else s) s

/-- PREPARE begins (R77, R81, R97, R102, R381). -/
def State.enterPrepare (s : State) (cause : Nat) (fromHusk fromStandby : Bool) : State :=
  let s := s.setMode .prepare cause
  let s := { s with
    pwr := { s.pwr with prep := some { since := s.now, toRun := s.demand, fromHusk := fromHusk, cold := !fromHusk && !fromStandby } }
    saf := { s.saf with round := none, swRoundBad := false }
    sw := { s.sw with round := [] } }
  let s := s.dropThermStop
  let s := if fromStandby then (s.holdGroup 5).holdGroup 9 else s
  let s := if fromHusk then s else s.rearmHw.wrB F.BIST_HUSKPATH_HANDED false
  (s.closeGate.wrB F.PWR_MODE_DEMAND s.demand).syncPads

/-- The address window of a register block. -/
def blockBase (b : Nat) : Nat := 0x40000000 + 0x10000 * b

/-- A register block back at reset. -/
def State.resetBlock (s : State) (b : Nat) : State := s.resetRegs (blockBase b) (blockBase (b + 1))

end Sys2Proof.Machine
end

