-- ==== Sys2Proof/Machine/Bus.lean ====
section
/-!
DEFINITION. The interconnect: who may reach what (R37–R42), the access codes of R16 and R17, bus errors and their capture (R42,
R43), and the generation registers of the arm groups (R46–R48).
-/

namespace Sys2Proof.Machine

/-! ### The memory map (R38) -/

/-- The ranges of R38 outside the register blocks. -/
inductive Region where
  | scan | lineBuf | gme | sym | mgmtRam | safeRam | linkA | linkB | dictRam | flash | dram
  deriving DecidableEq, Repr

/-- The memory map of R38: first address, address after the last, range. -/
def memMap : List (Nat × Nat × Region) := [
  (0x20000000, 0x20600000, .scan), (0x20600000, 0x20780000, .lineBuf), (0x20780000, 0x20880000, .gme),
  (0x20880000, 0x20980000, .sym), (0x20980000, 0x20A80000, .mgmtRam), (0x20A80000, 0x20B00000, .safeRam),
  (0x20B00000, 0x20B40000, .linkA), (0x20B40000, 0x20B80000, .linkB), (0x20B80000, 0x20BC0000, .dictRam),
  (0x60000000, 0x64000000, .flash), (0x80000000, 0x90000000, .dram)]

/-- The range of an address. -/
def regionOf (a : Nat) : Option Region :=
  (memMap.find? fun r => r.1 ≤ a && a < r.2.1).map fun r => r.2.2

/-- The bounds of a range. -/
def Region.bounds (r : Region) : Nat × Nat :=
  match memMap.find? fun x => x.2.2 == r with
  | some x => (x.1, x.2.1)
  | none => (0, 0)

/-- The domain that a range lies in (R38, R81). -/
def Region.dom : Region → Dom
  | .scan => .scn | .lineBuf => .cmp | .gme => .gme | .sym => .cmp | .mgmtRam => .mgmt | .safeRam => .safe
  | .linkA => .lnka | .linkB => .lnkb | .dictRam => .mgmt | .flash => .mgmt | .dram => .mem

/-- The BIST target whose slice tests a range (R109, R110). -/
def Region.target : Region → Option Nat
  | .scan => some 5 | .lineBuf => some 6 | .gme => some 7 | .sym => some 8 | .mgmtRam => some 2 | .safeRam => some 0
  | .linkA | .linkB => some 9 | .dictRam => some 3 | .dram => some 4 | .flash => none

/-- The mapped dictionary as host SPI writes it: the request slot and the doorbell of R446. -/
def inSlot (a : Nat) : Bool := (0x20B80000 ≤ a && a < 0x20B80408) || (0x20B80FF0 ≤ a && a < 0x20B80FF4)

/-- DRAM above the areas of the boot ROM, the composer and firmware: layer buffers and host software's own memory (R125). -/
def userDram (a : Nat) : Bool := 0x81000000 ≤ a && a < 0x90000000

/-- What masters 2 and 3 may write of the dictionary SRAM and of DRAM (R37). Where the object-list buffers and the Onoth request area lie is the
implementation's (notes/assumptions/6.md). While the boot ROM is in recovery, host SPI writes the image anywhere into DRAM (R107). -/
def State.bridgeWrites (s : State) (m : Master) (r : Region) (a : Nat) : Bool :=
  match m, r with
  | .hspi, .dictRam => inSlot a
  | .hspi, .dram => userDram a || s.boot.recovery
  | .netBridge, .dictRam => Config.onothArea a
  | .netBridge, .dram => userDram a || (0x80000000 ≤ a && a < 0x80400000 && Config.listBuffer a)
  | _, _ => true

/-- Whether a master reaches a byte of a range of memory, and in which direction (R37–R39). -/
def State.mayReach (s : State) (m : Master) (r : Region) (write : Bool) (a : Nat) : Bool :=
  (!write || s.bridgeWrites m r a) && match r with
  | .scan | .lineBuf | .gme | .sym | .linkA | .linkB => !write && (m == .mgmt || m == .hspi) && s.mode == .standby
  | .safeRam => m == .island
  | .mgmtRam => m == .mgmt || m == .dma
  | .dictRam => m != .island && (m == .mgmt || m == .hspi || m == .dma || m == .netBridge)
  | .flash => !write && (m == .mgmt || m == .dma)
  | .dram => m != .island || !write

/-- The owner of a register block (R40). -/
inductive Owner where
  | dictionary | selectable (bit : Nat) | island | shared
  deriving DecidableEq, Repr

/-- The owner column of R40. -/
def blockOwner : Nat → Owner
  | 4 => .selectable 0 | 5 => .selectable 1 | 6 => .selectable 2 | 7 => .selectable 3 | 8 => .selectable 4
  | 9 => .selectable 5 | 10 => .selectable 6 | 11 => .selectable 7 | 12 => .selectable 8 | 13 => .selectable 9
  | 14 => .selectable 10 | 20 => .selectable 11 | 15 => .island | 17 | 18 | 19 => .shared | _ => .dictionary

/-- Whether a master owns a block for writing (R40). -/
def State.owns (s : State) (m : Master) (block : Nat) : Bool :=
  match blockOwner block with
  | .dictionary => m == .mgmt
  | .selectable b => if s.bitR R.SYS_BLKOWN b then m == .hspi else m == .mgmt
  | .island => m == .island
  | .shared => m == .island || m == .mgmt || m == .hspi

/-- While SPARSE_EN is 1, firmware keeps SCN_CTRL.CHAR_EN at 1 (R349), in a block that is the dictionary's to write (R40). -/
def State.keepChar (s : State) : State :=
  if s.firmwareUp && s.on .scn && s.owns .mgmt 10 && s.flag F.CAL_CTRL_SPARSE_EN then s.wr F.SCN_CTRL_CHAR_EN 1 else s

/-- The block number of a register address. -/
def blockOf (a : Nat) : Nat := (a - 0x40000000) / 0x10000

/-- Whether an address lies in the register blocks (R38). -/
def isReg (a : Nat) : Bool := 0x40000000 ≤ a && a < 0x40160000

/-- The table entry of a register address. -/
def regDef (a : Nat) : Option RegDef := findReg (blockOf a) (a % 0x10000)

/-- Whether a register holds an RSI field (R16, R42). -/
def hasRsi (a : Nat) : Bool :=
  match regDef a with
  | some r => r.fields.any fun f => f.acc == .rsi
  | none => false

/-- The bits of a register that some field covers, with RO fields among them. -/
def definedMask (a : Nat) : Nat :=
  match regDef a with
  | some r => r.fields.foldl (fun w f => w + (2 ^ (f.hi + 1) - 2 ^ f.lo)) 0
  | none => 0

/-- CVU_DIN8 and CVU_DIN16 ignore the bits above their data (R476). -/
def ignoresHigh (a : Nat) : Bool := blockOf a = 17 && (a % 0x100 = 0x14 || a % 0x100 = 0x18)

/-- Whether a write sets a reserved bit of a register that exists (R13). -/
def reservedSet (a : Nat) (data : Word) : Bool :=
  (regDef a).isSome && !ignoresHigh a && (data.toNat &&& (2 ^ 32 - 1 - definedMask a)) != 0

/-- The cause of R42 that a register access meets, if any. A master that reaches no register meets cause 2 (R40). In DORMANT no register is reachable
(R83). -/
def State.regError (s : State) (m : Master) (size : Nat) (write : Bool) (a : Nat) : Option Nat :=
  if size ≠ 4 || a % 4 ≠ 0 then some 1
  else if s.mode == .dormant then some 5
  else if !s.on (blockDom (blockOf a) (a % 0x10000)) then some 5
  else if m == .netBridge || m == .dma then some 2
  else if write && hasRsi a && m != .island then some 4
  else if write && !hasRsi a && !s.owns m (blockOf a) then some 3
  else none

/-- The domains that a BIST target lies in (R109). -/
def targetDoms : Nat → List Dom
  | 0 | 1 => [.safe] | 2 | 3 => [.mgmt] | 4 => [.mem] | 5 => [.scn] | 6 | 8 | 10 => [.cmp] | 7 => [.gme]
  | 9 => [.lnka, .lnkb] | _ => []

/-- A target has nothing to test: a domain of it did not come up (R82). -/
def State.untestable (s : State) (target : Nat) : Bool :=
  (targetDoms target).any fun d => s.bitF F.PWR_DOMSTAT_FAILED d.num

/-- The tests of some targets are over in this PREPARE, or cannot run (R102). -/
def State.testedAll (s : State) (ts : List Nat) : Bool :=
  ts.all fun t => s.untestable t || (match s.pwr.prep with | some p => p.tested.contains t | none => false)

/-- A port is in training (R265). -/
def State.training (s : State) (n : Nat) : Bool :=
  s.flag (F.LNK_CTRL_EN n) && 1 ≤ s.rd (F.LNK_STATE_STATE n) && s.rd (F.LNK_STATE_STATE n) ≤ 6

/-- Step 10 of R102 is done, where PREPARE runs. -/
def State.testsOver (s : State) : Bool := s.mode != .prepare || s.testedAll [5, 6, 7, 8, 9, 10]

/-- A step of PREPARE may begin: not after the one in which the lamp demand ended (R80). -/
def State.stepDue (s : State) (k : Nat) : Bool :=
  match s.pwr.prep.bind Prep.until_ with
  | some m => k ≤ m
  | none => true

/-- The step of R102 under way. DESIGN CHOICE (notes/assumptions/49.md): steps 1 to 9 count as one, because PREPARE ends after step 9 on the path to
STANDBY too. -/
def State.currentStep (s : State) : Nat :=
  if !s.dict.loaded then 9
  else if !s.testsOver then 10
  else if !(match s.pwr.prep with | some p => p.swRound | none => false) then 11
  else if s.dict.sheafDue then 12
  else 13

/-- The targets whose slice PREPARE runs now: in the order of R102, the island's targets beside the others; a cold PREPARE begins with targets 0
and 2, every other with target 5, and targets 5–10 need the dictionary and the path to RUN. -/
def State.bistDue (s : State) : List Nat :=
  match s.mode, s.pwr.prep with
  | .prepare, some p =>
    let todo := fun (l : List Nat) => l.filter fun t => !p.tested.contains t && !s.untestable t
    let early := if p.cold then todo [2, 3, 4] else []
    let late := if early.isEmpty && p.toRun && s.dict.loaded && s.stepDue 10 then todo [5, 6, 7, 8, 9, 10] else []
    ((if p.cold then (todo [0, 1]).take 1 else []) ++ (early ++ late).take 1).filter fun t => (targetDoms t).all s.on
  | _, _ => []

/-- A target is under test (R110). -/
def State.underTest (s : State) (target : Nat) : Bool :=
  s.bistDue.contains target || s.boot.bist.any fun b => b.target = target

/-- The cause of R42 that the access to one byte of memory meets, if any. A range under test refuses with cause 2 (R110). -/
def State.byteError (s : State) (m : Master) (write : Bool) (a : Nat) : Option Nat :=
  match regionOf a with
  | none => some 2
  | some r =>
    if s.mode == .dormant || !s.on r.dom then some 5
    else if !s.mayReach m r write a || r.target.any s.underTest then some 2
    else none

/-- The cause of R42 that a memory access meets, if any: that of its first byte that meets one (R37–R39). -/
def State.memError (s : State) (m : Master) (size : Nat) (write : Bool) (a : Nat) : Option Nat :=
  (List.range size).findSome? fun i => s.byteError m write (a + i)

/-- The cause of R42 that an access meets, if any. -/
def State.busError (s : State) (m : Master) (size : Nat) (write : Bool) (a : Nat) : Option Nat :=
  if isReg a then s.regError m size write a else s.memError m size write a

/-- What a failed read returns (R42). -/
def errorWord : Word := 0xD0FFD0FF#32

/-- A bus error takes the capture registers (R42). -/
def State.holdError (s : State) (e : BusErr) : State :=
  ((((s.setN R.SYS_BUSERR_ADDR e.addr).wr F.SYS_BUSERR_INFO_MASTER e.master).wrB F.SYS_BUSERR_INFO_WRITE e.write).wr
    F.SYS_BUSERR_INFO_CAUSE e.cause).mark F.SYS_BUSERR_INFO_VALID

/-- The bus error of this cycle that met a held capture (R43). -/
def State.lateNow (s : State) : Option BusErr := s.lateErr.filter fun e => e.at_ = s.now

/-- A bus error is captured, counted and raised (R42, R43). The capture registers lie in MGMT. -/
def State.captureError (s : State) (m : Master) (write : Bool) (a cause : Nat) : State :=
  let src := if cause = 5 then Src.DORMANT_ACCESS else Src.BUS_ACCESS
  if !s.on .mgmt then s.raiseAt src a else
  let e : BusErr := { at_ := s.now, addr := a, master := m.num, write := write, cause := cause }
  let s := if !s.flag F.SYS_BUSERR_INFO_VALID then s.holdError e
    else if s.lateNow.isNone then { s with lateErr := some e } else s
  (s.bumpSat F.SYS_BUSERR_INFO_COUNT).raiseAt src a

/-- A read that fails: the error is captured, and the master reads 0xD0FF_D0FF (R42, R83). -/
def State.readFailed (s : State) (m : Master) (a cause : Nat) : State :=
  (s.captureError m false a cause).emit (.busWord m a errorWord.toNat)

/-- One field of a register after a write, under its access code (R16). RSI fields are reached by the island alone, because any
other master has met a bus error. A multi-bit W1C field clears as a whole where the tables say so; those registers have
writes of their own. -/
def fieldWrite (old data : Nat) (f : FieldDef) : Nat :=
  let o := bitsOf old f.hi f.lo
  let d := bitsOf data f.hi f.lo
  match f.acc with
  | .rw | .rws | .rsi => d
  | .ro => o
  | .wo => 0
  | .w1c => o - (o &&& d)
  | .w1s => o ||| d

/-- A register after a write, every field under its access code (R16). -/
def regWrite (a : Nat) (old data : Nat) : Nat :=
  match regDef a with
  | some r => r.fields.foldl (fun w f => setBits w f.hi f.lo (fieldWrite old data f)) old
  | none => old

/-- The word of a register after a write under its access codes; W1C bits that an event has set in this cycle stay at 1 (R16, R17). -/
def State.written (s : State) (a : Nat) (data : Word) : Nat := regWrite a (s.regN a) data.toNat ||| (s.regN a &&& s.marked a)

/-- A register written under its access codes (R16, R17). -/
def State.store (s : State) (a : Nat) (data : Word) : State := s.setN a (s.written a data)

/-- A bus write to one register: the checks of R42, then what the register does. A reserved bit set stops the machine (R13). -/
def State.withBus (s : State) (m : Master) (a : Nat) (data : Word) (k : State → State) : Out :=
  match s.regError m 4 true a with
  | some c => .next (s.captureError m true a c)
  | none => if reservedSet a data then .fault .reservedBit else .next (k s)

/-! ### Generation arming (R46–R48) -/

/-- The generation register of a group. -/
def Group.gen : Group → Nat
  | .pid n => R.PID_L_GEN n
  | .buck n => R.BUCK_GEN n
  | .proj t => R.GME_PM_GEN t
  | .map t => R.CAL_MAP_GEN t
  | .glean p => R.LNK_GRGEN p
  | .imu => R.VIN_IMUGEN
  | .energy => R.ENG_GEN
  | .stream n => R.VIN_STR_GEN n
  | .satVal c => R.SAT_CH_GEN c

/-- How many instances of the group the device has. -/
def Group.ok : Group → Bool
  | .pid n => n < 16
  | .stream n => n < 8
  | .buck n | .proj n | .map n | .glean n | .satVal n => n < 4
  | .imu | .energy => true

/-- The staged members of a group, by address (R47 and the groups' chapters). -/
def Group.members : Group → List Nat
  | .pid n => [R.PID_L_KP n, R.PID_L_KIS n, R.PID_L_AD n, R.PID_L_BD n, R.PID_L_IMIN n, R.PID_L_IMAX n, R.PID_L_OMIN n,
      R.PID_L_OMAX n, R.PID_L_TRACK n]
  | .buck n => [R.BUCK_REF n, R.BUCK_ILIM n]
  | .proj t => [R.GME_PM_ORG t, R.GME_PM_STEP t] ++ (List.range 561).map (R.GME_PM_P t)
  | .map t => [R.CAL_MAP_GAIN t, R.CAL_MAP_DEF t, R.CAL_MAP_DEFCNT t]
  | .glean p => (List.range 32).flatMap fun r => [R.LNK_GR_RECT0 p r, R.LNK_GR_RECT1 p r]
  | .imu => [R.VIN_IMUMAP, R.VIN_IMUSCALE]
  | .energy => [R.ENG_BCYC, R.ENG_BWIN, R.ENG_WSLOT, R.ENG_PLIM, R.ENG_PFLOOR, R.ENG_HORIZON]
  | .stream n => [R.VIN_STR_IDLO n, R.VIN_STR_IDHI n, R.VIN_STR_CFG n, R.VIN_STR_SIZE n] ++
      (List.range 4).map (R.VIN_STR_BUF n)
  | .satVal c => (List.range 512).flatMap fun a => [R.SAT_VAL_W0 c a, R.SAT_VAL_W1 c a]

/-- The fields of R47 in a group's generation register. -/
def Group.fGen (g : Group) : Fld := ⟨g.gen, 7, 0⟩
def Group.fApplied (g : Group) : Fld := ⟨g.gen, 15, 8⟩
def Group.fArmed (g : Group) : Fld := ⟨g.gen, 16, 16⟩
def Group.fMismatch (g : Group) : Fld := ⟨g.gen, 17, 17⟩
def Group.fBlocked (g : Group) : Fld := ⟨g.gen, 18, 18⟩

/-- Whether a group is armed. -/
def State.armed (s : State) (g : Group) : Bool := s.flag g.fArmed

/-- The group that an address is a staged member of, if any. -/
def memberGroup (a : Nat) : Option Group :=
  let off := a % 0x10000
  match blockOf a with
  | 13 =>
    if 0x100 ≤ off && off < 0x900 then
      let r := off % 0x80
      if 0x10 ≤ r && r ≤ 0x30 then some (.pid ((off - 0x100) / 0x80)) else none
    else if 0x1000 ≤ off && off < 0x1400 then
      if off % 0x100 = 0x0C || off % 0x100 = 0x10 then some (.buck ((off - 0x1000) / 0x100)) else none
    else none
  | 9 => if 0x1000 ≤ off && off < 0x5000 then
      let r := off % 0x1000
      if r = 0 || r = 4 || (0x100 ≤ r && r < 0x100 + 4 * 561) then some (.proj ((off - 0x1000) / 0x1000)) else none
    else none
  | 5 => if 0x100 ≤ off && off < 0x200 then
      if off % 0x40 < 0x0C then some (.map ((off - 0x100) / 0x40)) else none
    else none
  | 11 => if 0x100 ≤ off % 0x4000 && off % 0x4000 < 0x200 then some (.glean (off / 0x4000)) else none
  | 6 => if off = 0x48 || off = 0x4C then some .imu
    else if 0x100 ≤ off && off < 0x300 && off % 0x40 < 0x20 then some (.stream ((off - 0x100) / 0x40)) else none
  | 14 => if 0x20 ≤ off && off ≤ 0x34 then some .energy else none
  | 12 => if 0x4000 ≤ off && off < 0x8000 then some (.satVal ((off - 0x4000) / 0x1000)) else none
  | _ => none

/-- The group whose generation register an address is, if any. -/
def genGroup (a : Nat) : Option Group :=
  let off := a % 0x10000
  match blockOf a with
  | 13 => if 0x100 ≤ off && off < 0x900 && off % 0x80 = 0x34 then some (.pid ((off - 0x100) / 0x80))
    else if 0x1000 ≤ off && off < 0x1400 && off % 0x100 = 0x14 then some (.buck ((off - 0x1000) / 0x100)) else none
  | 9 => if 0x1000 ≤ off && off < 0x5000 && off % 0x1000 = 8 then some (.proj ((off - 0x1000) / 0x1000)) else none
  | 5 => if 0x100 ≤ off && off < 0x200 && off % 0x40 = 0x0C then some (.map ((off - 0x100) / 0x40)) else none
  | 11 => if off % 0x4000 = 0x5C then some (.glean (off / 0x4000)) else none
  | 6 => if off = 0x50 then some .imu
    else if 0x100 ≤ off && off < 0x300 && off % 0x40 = 0x20 then some (.stream ((off - 0x100) / 0x40)) else none
  | 14 => if off = 0x38 then some .energy else none
  | 12 => if 0x100 ≤ off && off < 0x200 && off % 0x40 = 0x14 then some (.satVal ((off - 0x100) / 0x40)) else none
  | _ => none

/-- The W1C bits of a generation register act in every write (R47). -/
def State.genClear (s : State) (g : Group) (data : Word) : State :=
  let s := if bitAt data.toNat 17 then s.unmark g.fMismatch else s
  if bitAt data.toNat 18 then s.unmark g.fBlocked else s

/-- Whether a proposed generation is the one after the applied one, with no arm waiting (R47). -/
def State.genFits (s : State) (g : Group) (data : Word) : Bool :=
  !s.armed g && bitsOf data.toNat 7 0 == (s.rd g.fApplied + 1) % 256

/-- The group is armed with the generation of the write (R47); the time of the arm is kept for R48. -/
def State.armGroup (s : State) (g : Group) (data : Word) : State :=
  let s := (s.wr g.fGen (bitsOf data.toNat 7 0)).wr g.fArmed 1
  { s with armedAt := (g.gen, s.now) :: s.armedAt.filter fun p => p.1 != g.gen }

/-- Whether the application point at this moment serves the group: it is armed, and its arm did not complete in this very
cycle (R48). -/
def State.appliesNow (s : State) (g : Group) : Bool :=
  s.armed g && s.armedAt.lookup g.gen != some s.now

/-- The staged members of an armed group are applied as a whole (R46, R47). -/
def State.applyGroup (s : State) (g : Group) : State :=
  if s.appliesNow g then
    let s := g.members.foldl State.applyReg s
    let s := (s.wr g.fApplied (s.rd g.fGen)).wr g.fArmed 0
    { s with armedAt := s.armedAt.filter fun p => p.1 != g.gen }
  else s

/-- A write to a staged member: ignored while the group is armed, which sets BLOCKED (R48). -/
def State.writeMember (s : State) (g : Group) (a : Nat) (data : Word) : State :=
  if s.armed g then s.mark g.fBlocked else s.store a data

end Sys2Proof.Machine
end

