-- ==== Sys2Proof/Machine/Bridge.lean ====
section
/-!
DEFINITION. Onoth messages and the network bridge: the header of R407, responses and their routes (R408–R412, R446), segments on CAN FD
(R411).
-/

namespace Sys2Proof.Machine

/-! ### Messages (R407) -/

def msgSvc (m : List Byte) : Nat := leAt m 0 1
def msgTxn (m : List Byte) : Nat := leAt m 1 1
def msgIndex (m : List Byte) : Nat := leAt m 2 2
def msgSub (m : List Byte) : Nat := leAt m 4 1
def msgCode (m : List Byte) : Nat := leAt m 5 1
def msgLen (m : List Byte) : Nat := leAt m 6 2
def msgData (m : List Byte) : List Byte := m.drop 8

/-- The response to a request; one whose CODE is not OK carries no data (R408). -/
def responseTo (m : List Byte) (code : Nat) (data : List Byte) : List Byte :=
  let data := if code = codeOK then data else []
  leBytes 1 (msgSvc m ||| 0x80) ++ leBytes 1 (msgTxn m) ++ leBytes 2 (msgIndex m) ++ leBytes 1 (msgSub m) ++ leBytes 1 code
    ++ leBytes 2 data.length ++ data

/-- A request repeats the TXN, SVC, INDEX and SUB of the request that a response answered (R412). -/
def repeats (m : List Byte) (last : Nat × List Byte) : Bool :=
  let response := last.2
  !response.isEmpty && last.1 == msgSvc m && msgTxn response == msgTxn m && msgIndex response == msgIndex m
    && msgSub response == msgSub m

/-! ### CAN FD (R405, R411) -/

/-- The next valid CAN FD data length. -/
def canLen (n : Nat) : Nat :=
  if n ≤ 8 then n else ([12, 16, 20, 24, 32, 48, 64].find? fun l => n ≤ l).getD 64

/-- A frame's data filled up with 0 to a valid length. -/
def canPad (bs : List Byte) : List Byte := bs ++ List.replicate (canLen bs.length - bs.length) 0#8

/-- The Consecutive frames of what is left of a message, from a segment number on (R411). -/
def consecutive : Nat → Nat → List Byte → List (List Byte)
  | 0, _, _ => []
  | k + 1, n, bs =>
    if bs.isEmpty then [] else (leBytes 1 (0x80 + n) ++ bs.take 63) :: consecutive k (n % 63 + 1) (bs.drop 63)

/-- The frames of a message (R411). -/
def canFrames (m : List Byte) : List (List Byte) :=
  (if m.length ≤ 63 then [0#8 :: m]
   else (leBytes 1 0x40 ++ leBytes 2 m.length ++ m.take 61) :: consecutive m.length 1 (m.drop 61)).map canPad

/-- C0_STATE and C1_STATE. -/
def fCanState (bus : Nat) : Fld := if bus = 0 then F.NET_LINKSTAT_C0_STATE else F.NET_LINKSTAT_C1_STATE

/-- The enable of a controller. -/
def fCanEn (bus : Nat) : Fld := if bus = 0 then F.NET_CTRL_C0_EN else F.NET_CTRL_C1_EN

/-- A controller is on its bus. -/
def State.canUp (s : State) (bus : Nat) : Bool :=
  s.on .net && s.flag (fCanEn bus) && (s.rd (fCanState bus) == 1 || s.rd (fCanState bus) == 2)

/-- A frame leaves on a bus, in CAN FD format with the bus's identifier format; at bus-off it is discarded (R405, R406). -/
def State.sendCan (s : State) (bus id : Nat) (data : List Byte) : State :=
  if s.canUp bus then s.emit (.canFrame { bus := bus, id := id, ide := s.flag (F.NET_CAN_CFG_IDE bus), fd := true, data := data }) else s

/-! ### Responses (R404, R410, R412, R446) -/

/-- The host SPI slot: response, TAKEN and ANSWERED (R446). -/
def slotResponse : Nat := 0x20B80800
def slotTaken : Nat := 0x20B80FF4
def slotAnswered : Nat := 0x20B80FF5

/-- A response leaves by the way its request came; the slot is told by ANSWERED. -/
def State.reply (s : State) (src : NetFrom) (token : Nat) (m : List Byte) : State :=
  match src with
  | .udp mac _ _ _ => if s.on .net && s.bitR R.NET_CTRL mac then s.emit (.onoth src m) else s
  | .can bus _ => (canFrames m).foldl (fun s d => s.sendCan bus (s.rd (F.NET_CAN_RSPID_ID bus)) d) s
  | .hspi => ((s.setBytes slotResponse m).setNum slotAnswered 1 token).emit (.onoth .hspi m)

/-- Firmware answers BUSY: counted, and attention flag 12 shows it (R441, R448, R451). -/
def State.countBusy (s : State) : State :=
  let d : Dict := { s.dict with busyAt := some s.now, busyCount := (s.dict.busyCount + 1) % 2 ^ 32 }
  { s with dict := d }.bump F.ODX_LOAD_BUSY

/-- BUSY from firmware: since the request was not served it is no last answered one (R409, R412). -/
def State.respondBusy (s : State) (q : OnothReq) : State := s.countBusy.reply q.src q.token (responseTo q.message codeBUSY [])

/-- A request is answered; the device keeps the last response of each client (R412). -/
def State.respond (s : State) (q : OnothReq) (code : Nat) (data : List Byte) : State :=
  if code = codeBUSY then s.respondBusy q else
  let m := responseTo q.message code data
  let o : Onoth := { s.onoth with last := s.onoth.last.set q.client (msgSvc q.message, m) }
  { s with onoth := o }.reply q.src q.token m

/-- The requests that waited for a check of the device are answered with its outcome (R149, R439). -/
def State.settle (s : State) (w : Waits) (code : Nat) : State :=
  let (done, rest) := s.onoth.serving.partition fun q => q.1 == w
  done.foldl (fun (s : State) (q : Waits × OnothReq) => s.respond q.2 code []) { s with onoth := { s.onoth with serving := rest } }

end Sys2Proof.Machine
end

