-- ==== Sys2Proof/Machine/Domains.lean ====
section
/-!
DEFINITION. Power domains: which are wanted in each mode (R81, R84), what a domain loses with its power (R48, R95), pad hold
(R85–R87), and the lamp demand as the mode controller acts on it (R73, R77, R80).
-/

namespace Sys2Proof.Machine

/-- The pad groups of a domain (R85). -/
def Dom.padGroups : Dom → List Nat
  | .lnka => [0] | .lnkb => [1] | .net => [2, 3] | .drv => [4, 5, 6] | .mgmt => [7, 8, 10] | .safe => [9] | _ => []

/-- The domain of a pad group (R85). -/
def padGroupDom (g : Nat) : Dom :=
  match g with
  | 0 => .lnka | 1 => .lnkb | 2 | 3 => .net | 4 | 5 | 6 => .drv | 9 => .safe | _ => .mgmt

/-- Whether the mode, the path of PREPARE and PWR_DOMCTL want a domain on (R81, R84); the test-only state keeps MEM off (R114). -/
def State.wanted (s : State) (d : Dom) : Bool :=
  let always := d == .aon || d == .mgmt || d == .safe || d == .net || (d == .mem && !s.flag F.BIST_TESTSTAT_TESTONLY)
  let lightOnly := d == .vin || d == .cmp || d == .gme || d == .scn
  if lightOnly && s.pwr.supplyLost then false else
  match s.mode with
  | .dormant => d == .aon
  | .standby => always || (d != .mem && s.bitR R.PWR_DOMCTL d.num)
  | .prepare => always || d == .drv || (match s.pwr.prep with | some p => p.toRun && d != .mem | none => false)
  | .run => always || d != .mem
  | .husk | .dark => always || (!lightOnly && d != .mem)

/-! ### What a domain loses -/

/-- The state of a buffer: 0 FREE, 1 FILLING, 2 READY, 3 CLAIMED (R122). -/
def State.bufState (s : State) (n k : Nat) : Nat := bitsOf (s.rd (F.VIN_STR_STAT_BUF n)) (2 * k + 1) (2 * k)

def State.setBuf (s : State) (n k st : Nat) : State :=
  s.wr (F.VIN_STR_STAT_BUF n) (setBits (s.rd (F.VIN_STR_STAT_BUF n)) (2 * k + 1) (2 * k) st)

/-- RVALID follows the buffers. -/
def State.showReady (s : State) (n : Nat) : State :=
  s.wrB (F.VIN_STR_STAT_RVALID n) ((List.range 4).any fun k => s.bufState n k == 2)

/-- Buffers that some frame still claims. -/
def State.claimed (s : State) (b : Nat × Nat) : Bool := s.comp.frames.any fun f => f.claims.any fun c => c == some b

/-- The claims of a frame end: a buffer that no frame ahead claims becomes FREE (R122). -/
def State.release (s : State) (claims : List (Option (Nat × Nat))) : State :=
  claims.foldl (fun s c => match c with
    | some (n, k) => if s.on .vin && s.bufState n k = 3 && !s.claimed (n, k) then s.setBuf n k 0 else s
    | none => s) s

/-- The address of composed pixel (0, y) of frame m (R187). -/
def composedAddr (m y : Nat) : Nat := 0x80400000 + 0x400000 * (m % 3) + 4096 * y

/-- The composed frame in a buffer, or its first bytes, copied to the capture buffer. -/
def State.capCopy (s : State) (m bytes : Nat) : State := s.setBytes s.comp.capAddr (s.bytes (composedAddr m 0) bytes)

/-- A capture that copies ends before its end: how much has been copied by then is open (notes/assumptions/5.md). -/
def State.capCut (s : State) (state : Nat) : State :=
  match s.comp.capFrame with
  | none => s.wr F.CMP_CAPSTAT_STATE state
  | some m =>
    let (v, s) := s.draw
    let s := (s.capCopy m (v % 4194304)).wr F.CMP_CAPSTAT_STATE state
    { s with comp := { s.comp with capFrame := none } }

/-- Frames being filled are lost and every buffer is free when VIN powers down (R122, R124); the parser forgets its last accepted
list (R129). -/
def State.resetVin (s : State) : State :=
  let s := (List.range 8).foldl (fun s n => (s.wr (F.VIN_STR_STAT_BUF n) 0).wr (F.VIN_STR_STAT_RVALID n) 0) s
  { s with vin := {} }

/-- Refreshes end with the power of CMP or SCN: the ports send no rows any more (R268). DESIGN CHOICE (notes/assumptions/49.md): FULLREF returns to 0
there, without the length of a refresh. -/
def State.noRefreshes (s : State) : State :=
  (List.range 4).foldl (fun s p => if s.on (portDom p) then s.wr (F.LNK_STATE_FULLREF p) 0 else s) s

/-- CMP powers down: sheaf, CF counter, frames, cache and capture are lost, and the buffers of the composer are free. A scan store that stays on waits for
the first two frames of the new count, and sends no rows until then (R225, R245). -/
def State.resetComposer (s : State) : State :=
  let s := if s.rd F.CMP_CAPSTAT_STATE = 2 then s.capCut 4 else s
  let claims := s.comp.frames.flatMap fun f => f.claims
  let s := { s with comp := { s.comp with frames := [] } }.release claims
  let scn : Scn := if s.on .scn then { s.scn with copies := [none, none], fillUpTo := 1, held := none } else s.scn
  let s := if s.on .scn then ((s.wr F.SCN_STAT_BAND 17).wr F.SCN_STAT_FILLED 0).wr F.SCN_STAT_FILLING 0 else s
  { s with cf := {}, sheaf := {}, comp := {}, scn := scn }.noRefreshes

/-- What scan-out and the island hold of refreshes is lost with SCN (R95, R368), but not that maps are suspended, which their group in CAL outlives (R340). -/
def State.resetScan (s : State) : State :=
  let f : Saf := { s.saf with plans := [], seen := [], overflow := [], exempt := [], clean := [false, false, false, false] }
  { s with scn := { mapBad := s.scn.mapBad }, saf := f }

/-- The ports of a link domain, and a trim of one of their tiles, are lost. -/
def State.resetPorts (s : State) (a b : Nat) : State :=
  let c : Cal := { s.cal with trims := (s.cal.trims.set a none).set b none }
  { s with link := (s.link.set a {}).set b {}, cal := c }

/-- What the control engine, the chains and the IMU port hold is lost with DRV; the lifetime energy totals go on (R315). -/
def State.resetDrive (s : State) : State :=
  let life := sumNat ((List.range 4).map fun n => s.get64 (R.ENG_EB_LO n) (R.ENG_EB_HI n))
  let dev := s.get64 R.ENG_EDEV_LO R.ENG_EDEV_HI
  let s := [12, 13, 14].foldl State.resetBlock s
  let s := (List.range 4).foldl (fun s n => s.setN (R.CAL_BOFS n) 0) s
  { s with pid := {}, buck := List.replicate 4 {}, imu := {}, sat := {}
           cal := { s.cal with offAt := [none, none, none, none] }
           eng := { lifeBuck := s.eng.lifeBuck + life, lifeDev := s.eng.lifeDev + dev }
           boot := { s.boot with hw := [.idle, .idle, .idle, .idle] } }

/-- The part of the dictionary that flash keeps (R433, R438). -/
def Dict.cold (d : Dict) : Dict :=
  { objs := d.storedObjs, storedKept := d.storedKept, storedObjs := d.storedObjs, sealed := d.sealed, keys := d.keys }

/-- The part of calibration that flash keeps. -/
def Cal.cold (c : Cal) : Cal := { huskA := c.huskA, stored := c.stored }

/-- What firmware holds is lost with MGMT (R95, R444). -/
def State.resetMgmt (s : State) : State :=
  let s := [0, 2, 3, 5, 17, 18, 19, 21].foldl State.resetBlock s
  let s := (s.clearMem 0x20980000 0x20A80000).clearMem 0x20B80000 0x20BC0000
  let s := { s with scn := { s.scn with mapBad := 0, mapDiff := 0 } }
  { s with boot := { s.boot with keyCleared := false, staged := none, bist := [], badLanes := [], badBanks := [], badPorts := [], tap := .idcode,
                                  runRollback := 0, recovery := false, entry := 0 }
           brm := { s.brm with flashWait := [] }
           flash := { logSector := s.flash.logSector, logSeq := s.flash.logSeq, logRecs := s.flash.logRecs }
           recs := {}, mbx := {}, cvu := List.replicate 4 {}, cal := s.cal.cold
           onoth := {}, kept := s.dict.storedKept, dict := s.dict.cold }

/-- The clients and sessions of the network, and the state of the connections, are lost with NET (R423). -/
def State.resetNet (s : State) : State :=
  let s := [6, 20].foldl State.resetBlock s
  let o : Onoth := { s.onoth with udp := List.replicate 8 none, last := List.replicate 10 (0, []) ++ s.onoth.last.drop 10
                                  queue := s.onoth.queue.filter fun q => q.client = 10
                                  serving := s.onoth.serving.filter fun q => q.2.client = 10
                                  sessions := s.onoth.sessions.filter fun x => x.client = 10 }
  { s with gptp := {}, net := {}, onoth := o }

/-- What SAFE holds is lost; the parameters that flash holds remain (R380). -/
def State.resetSafe (s : State) : State :=
  let s := ([15, 16].foldl State.resetBlock s).clearMem 0x20A80000 0x20B00000
  { s with brm := { s.brm with timers := [], pend := [], addrs := [], waiting := [], test := none }
           saf := { stored := s.saf.stored }
           boot := { s.boot with safeImage := none }
           sw := {}
           pwr := { s.pwr with strapTold := false } }

/-- A withdrawal as the count of content frames begins again at 0: one that stands or waits is in force from the first frame, one that was ending has
ended. -/
def Glare.fromZero : Glare → Glare
  | .withdrawing _ | .withdrawn _ => .withdrawn 0
  | .shown | .returning _ _ => .shown

/-- CMP loses its registers and memories; what has withdrawn the high beam stays in force while the frames are counted anew: a beam command, a stale
list, GME SRAM that is marked (R214, R217, R218, R421). -/
def State.resetCmp (s : State) : State :=
  let s := ([7, 8].foldl State.resetBlock s.resetComposer).clearMem 0x20600000 0x20780000 |>.clearMem 0x20880000 0x20980000
  let sram := s.gme.sramFrom.map fun _ => 0
  { s with net := { s.net with hb := s.net.hb.fromZero }, gme := { s.gme with glare := s.gme.glare.fromZero, sramFrom := sram } }.settle .sheaf codeMODE

/-- What a domain holds is lost with its power: its registers return to their reset values, its memories and the state behind
them to nothing (R48, R82, R95). -/
def State.loseDom (s : State) (d : Dom) : State :=
  let s := { s with ran := s.ran.filter fun x => x.1.dom != d }
  match d with
  | .aon => s
  | .mgmt => s.resetMgmt
  | .safe => s.resetSafe
  | .net => s.resetNet
  | .vin => s.resetVin
  | .mem => s.clearMem 0x80000000 0x90000000
  | .cmp => s.resetCmp
  | .gme => { (s.resetBlock 9).clearMem 0x20780000 0x20880000 with gme := {} }
  | .scn => ((s.resetBlock 10).clearMem 0x20000000 0x20600000).resetScan.noRefreshes
  | .lnka => ((s.resetRegs 0x400B0000 0x400B8000).clearMem 0x20B00000 0x20B40000).resetPorts 0 1
  | .lnkb => ((s.resetRegs 0x400B8000 0x400C0000).clearMem 0x20B40000 0x20B80000).resetPorts 2 3
  | .drv => s.resetDrive

/-- A domain powers down: its pads are held first (R85), then it loses what it holds. -/
def State.powerOff (s : State) (d : Dom) : State :=
  let s := d.padGroups.foldl State.holdGroup s
  (s.loseDom d).setBitF F.PWR_DOMSTAT_ON d.num false

/-- Every rail but the AON rails falls: all gated domains lose what they hold (R92 step 7, R79). -/
def State.railsOff (s : State) : State :=
  Dom.gated.foldl (fun s d => (s.loseDom d).setBitF F.PWR_DOMSTAT_ON d.num false) { s with pwr := { s.pwr with pwrEn := false } }

/-- PWR_EN rises and PREPARE begins (R77, R115). -/
def State.leaveDormant (s : State) (cause : Nat) : State :=
  let s := if s.pwr.testEnded then s.mark F.PWR_RSTCAUSE_TEST else s
  let s := if s.rd F.PWR_SLEEP_RESULT = 1 then s.mark F.PWR_RSTCAUSE_DORMANT else s
  let s := { s with pwr := { s.pwr with pwrEn := true, testEnded := false, offAt := none } }
  s.enterPrepare cause false false

/-- A wake in DORMANT: the device leaves it at once; but a wake within 2.0 ms after the sleep sequence has let PWR_EN fall is latched, and PWR_EN
stays low for the 2.0 ms (R77, R94). -/
def State.wakeUp (s : State) (cause : Nat) : State :=
  if s.mode != .dormant || s.pwr.resetLow || s.pwr.enHold.isSome then s else
  match s.pwr.offAt with
  | some t =>
    if s.now < t + msec 2 then { s.mark F.PWR_WAKESTAT_LATCHED with pwr := { s.pwr with enHold := some (t + msec 2), offAt := none } }
    else s.leaveDormant cause
  | none => s.leaveDormant cause

/-- The lamp demand has become true (R77, R80, R89); it ends a full characterization (R348). DESIGN CHOICE (notes/assumptions/49.md): demand that
becomes true again in RUN before the beam has ended keeps the device in RUN. -/
def State.demandRise (s : State) (cause : Nat) : State :=
  let s := s.wrB F.PWR_MODE_DEMAND s.demand
  if !s.demand then s else
  let s := s.endFull 3
  match s.mode with
  | .dormant => s.wakeUp cause
  | .standby => s.enterPrepare cause false true
  | .prepare =>
    { s with pwr := { s.pwr with prep := s.pwr.prep.map fun p => { p with toRun := true, until_ := none } } }
  | .run => { s with pwr := { s.pwr with beamEnding := false } }.wr F.PWR_MODE_BUSY 0
  | .husk | .dark => s

/-- The sequencer is done with a channel: what it holds of the pads goes off (R96, R97). -/
def State.seqDone (s : State) (n : Nat) : State :=
  let s := s.setHw n .idle
  let s := if s.held 5 then s.disconnect n else s
  if s.held 9 then s.openPath n else s

/-- The demand has ended: a channel that the hardware Husk path runs ramps down, and one that it is still starting is opened (R96). -/
def State.rampDown (s : State) (n : Nat) : State :=
  match s.hwN n with
  | .ramping _ | .running => s.setHw n (.rampdown s.now (s.hwApp n))
  | .lowside _ | .lowGood | .highside _ => (s.setHw n .idle).followPath n
  | .idle | .rampdown _ _ | .failed => s

/-- The lamp demand has become false (R77, R80, R96). In RUN the beam ends at the next refresh start, during a retime hold at once, and an orderly stop in
progress is abandoned (R335). PREPARE on the path to RUN completes its current step. -/
def State.demandFall (s : State) : State :=
  let s := s.wrB F.PWR_MODE_DEMAND s.demand
  if s.demand then s else
  match s.mode with
  | .run =>
    if s.cf.hold.isSome then s.enterStandby 0x0E
    else { s.dropThermStop with pwr := { s.pwr with beamEnding := true, beamSince := s.now } }.wr F.PWR_MODE_BUSY 1
  | .husk => s.enterStandby 0x0E
  | .prepare =>
    let prep := s.pwr.prep.map fun p => if p.toRun then { p with until_ := p.until_ <|> some s.currentStep } else p
    (List.range 4).foldl State.rampDown { s with pwr := { s.pwr with prep := prep } }
  | .dormant | .standby | .dark => s

/-- Every cause of R78 is clear: faults, safety functions, temperatures. -/
def State.causesClear (s : State) : Bool :=
  !s.faultCause && s.rd F.SAF_VIOL_HELD = 0 && s.rd F.SAF_VIOL_LOCKED = 0
  && !s.flag F.SAF_OUTCMD_HUSKREQ && !s.flag F.SAF_OUTCMD_DARKREQ
  && s.rdS F.THM_HOT_TEMP < 135 * 16
  && (List.range 4).all (fun k => s.rd (F.THM_NTC_STATE k) != 1 || s.rdS (F.THM_NTC_TEMP k) < 16 * (s.rd F.THM_EXTLIM_NTC_WARN : Int))
  && (List.range 4).all (fun k => !s.flag (F.THM_TILE_VALID k) || !s.tileFresh k || s.rdS (F.THM_TILE_TEMP k) < 16 * (s.rd F.THM_EXTLIM_TILE_WARN : Int))

/-- RECOVER: HUSK is left through PREPARE, or the request is refused (R78). -/
def State.recover (s : State) : State :=
  if s.mode == .husk && s.demand && s.causesClear then s.enterPrepare 0x0F true false
  else s.mark F.PWR_MODEREQ_REFUSED

/-- CLEAR_DARK: DARK is left for STANDBY, or the request is refused (R78, R115). -/
def State.clearDark (s : State) : State :=
  if s.mode == .dark && !s.demand && s.causesClear && !s.flag F.BIST_TESTSTAT_TESTONLY then s.enterStandby 0x10
  else s.mark F.PWR_MODEREQ_REFUSED

/-- A write to PWR_MODEREQ: REFUSED cleared by 1, REQ set, then the requests (R73, R77, R78). -/
def State.writeModeReq (s : State) (data : Word) : State :=
  let d := data.toNat
  let before := s.demand
  let s := if bitAt d 16 then s.unmark F.PWR_MODEREQ_REFUSED else s
  let s := s.wr F.PWR_MODEREQ_REQ (bitsOf d 0 0)
  let s := if !before && s.demand then s.demandRise 0x04 else if before && !s.demand then s.demandFall else s
  let s := if bitAt d 8 then s.recover else s
  if bitAt d 9 then s.clearDark else s

/-- The strap code that a voltage in mV selects, or none outside every window (R67). -/
def strapCode (mv : Nat) : Option Nat :=
  let w := [(17, 23), (40, 54), (70, 94), (111, 149), (170, 230), (255, 345), (400, 540), (638, 862)]
  (List.range 8).find? fun k => (w.getD k (0, 0)).1 ≤ mv && mv ≤ (w.getD k (0, 0)).2

/-- The BUCK pads of a channel pass from the sequencer to the logic (R97, R101). A channel that the logic has enabled goes on at its reference, or
starts, once a discharge is done (R325); a stopped one keeps its gates low. -/
def State.handBuck (s : State) (n : Nat) : State :=
  let en := s.flag (F.BUCK_CFG_EN n) && s.mode != .dark && !(s.buckN n).stopped
  match s.hwN n with
  | .running => if en then s.wr (F.BUCK_STAT_STATE n) 3 else s.disconnect n
  | .failed => s
  | .idle => if en && s.rd (F.BUCK_STAT_STATE n) = 0 && (s.buckN n).disch.isNone then s.buckOff n 2 else s
  | .lowside _ | .lowGood | .highside _ | .ramping _ | .rampdown _ _ => s.buckOff n (if en then 2 else 0)

/-- Firmware releases the BUCK or the SW pads: they pass to what the logic drives. When both are released the sequencer stops, and HANDED shows
that firmware has its channels (R86, R97, R101). -/
def State.handPads (s : State) (buck sw : Bool) : State :=
  let s := if buck then (List.range 4).foldl State.handBuck s else s
  let s := if sw then s.followSw else s
  if s.held 5 || s.held 9 || !(s.boot.hw.any HwStep.active) then s
  else ((List.range 4).foldl (fun s n => if (s.hwN n).active then s.setHw n .idle else s) s).wr F.BIST_HUSKPATH_HANDED 1

/-- A write to PWR_PADHOLD: each 1 releases its group while the group's domain is on and out of reset; the pads pass to what the logic drives
(R86). -/
def State.releasePads (s : State) (data : Word) : State :=
  let out := (List.range 11).filter fun g => bitAt data.toNat g && s.held g && s.on (padGroupDom g)
  let s := out.foldl (fun s g =>
    { s with pwr := { s.pwr with padFirst := setBits s.pwr.padFirst g g 0 } }.setBitF F.PWR_PADHOLD_GROUP g false) s
  (s.handPads (out.contains 5) (out.contains 9)).syncPads

/-- Firmware takes the channels over from the sequencer (R101): each running channel's buck group is staged with the strapped
reference and armed, the switch drivers are configured closed, the pads are released. -/
def State.handOver (s : State) : State :=
  let s := (List.range 4).foldl (fun s n =>
    match s.hwN n with
    | .running =>
      let s := (s.wr (F.BUCK_REF_REF n) (strapRef s.pwr.strap)).wr (F.BUCK_REF_SRC n) 0
      let s := s.armGroup (.buck n) (BitVec.ofNat 32 ((s.rd (Group.buck n).fApplied + 1) % 256))
      let s := s.wr (F.BUCK_CFG_EN n) 1
      (s.setBitF F.SAF_SWCTL_HCLOSE n true).setBitF F.SAF_SWCTL_LCLOSE n true
    | _ => s) s
  let s := s.releasePads 0x220#32
  if s.held 5 || s.held 9 then s else s.wr F.BIST_HUSKPATH_HANDED 1

end Sys2Proof.Machine
end

