-- ==== Sys2Proof/Machine/Operands.lean ====
section
/-!
DEFINITION. Pixel operands: stored formats (R120, R174), blending (R175, R176), scaler sampling and weights (R177–R179), storage
codes (R224), the per-pixel stages of scan-out (R232–R238) and the angles of the parallax correction (R196).
-/

namespace Sys2Proof.Machine

/-! ### Stored formats (R120, R174) -/

/-- Bits per pixel of a format; 0 for the code that is not used. -/
def bppOf : Nat → Nat
  | 0 => 8 | 1 => 12 | 2 => 16 | 3 => 16 | 4 => 1 | 5 => 4 | 6 => 8 | _ => 0

/-- The line size in bytes (R120). -/
def lineSize (width fmt : Nat) : Nat := ceilDiv (width * bppOf fmt) 8

/-- The stored value of pixel x of a line that starts at a byte address, read with a byte reader: little-endian, L12 as two
pixels in three bytes, P4 and MASK1 with the lowest pixel in the lowest bits (R120). -/
def rawPixel (byteAt : Nat → Nat) (line fmt x : Nat) : Nat :=
  let bit := x * bppOf fmt
  let a := line + bit / 8
  let w := byteAt a + 256 * byteAt (a + 1)
  w / 2 ^ (bit % 8) % 2 ^ bppOf fmt

/-- A stored pixel as a 16-bit value V and an 8-bit opacity α (R174). -/
def toBlend (palette : Nat → Nat) (fmt raw : Nat) : Nat × Nat :=
  match fmt with
  | 0 => (raw * 257, 255)
  | 1 => (raw * 16 + raw / 256, 255)
  | 2 => (raw, 255)
  | 3 => (raw % 256 * 257, raw / 256)
  | 4 => if raw = 0 then (0, 0) else (65535, 255)
  | _ => (palette raw, 255)

/-! ### Blend arithmetic (R175) -/

/-- P by the blend rule: 0 OVER, 1 MAX, 2 MIN, 3 MUL, 4 ADDSAT. -/
def blendRule (rule d s : Nat) : Nat :=
  match rule with
  | 0 => s
  | 1 => max d s
  | 2 => min d s
  | 3 => (d * s + 32767) / 65535
  | _ => min (d + s) 65535

/-- R, the pixel after one layer. -/
def blend (rule d s alpha : Nat) : Nat :=
  (blendRule rule d s * alpha + d * (255 - alpha) + 127) / 255

/-! ### Scalers (R177–R179) -/

/-- The sample of destination index d: integer part and phase in 1/64 (R177). -/
def samplePos (sLen dLen d : Nat) : Int × Nat :=
  let n : Int := (2 * (d : Int) + 1) * sLen - dLen
  let den : Int := 2 * dLen
  let i := n / den
  let q := divRoundNat (64 * (n % den).toNat) (2 * dLen)
  if q = 64 then (i + 1, 0) else (i, q)

/-- The cubic convolution kernel with a = −0.5 (R178). -/
def cubic (t : Rat) : Rat :=
  let t := if t < 0 then -t else t
  if t ≤ 1 then 3 / 2 * t * t * t - 5 / 2 * t * t + 1
  else if t < 2 then -(1 / 2) * t * t * t + 5 / 2 * t * t - 4 * t + 2
  else 0

/-- A rational rounded to nearest, ties away from zero (R10). -/
def roundRat (x : Rat) : Int := divRound x.num x.den

/-- The weights of one phase, each rounded to 1/2,048, by tap offset from the integer part, lowest offset first; the largest
tap, the lowest one on a tie, absorbs the difference from 2,048 (R178). -/
def tapWeights (sLen dLen phase : Nat) : List (Int × Int) :=
  let rk : Rat := if dLen < sLen then (sLen : Rat) / dLen else 1
  let reach : Nat := (2 * rk).ceil.toNat + 1
  let taps : List Int := (List.range (2 * reach + 1)).map fun (k : Nat) => (k : Int) - (reach : Int)
  let ws : List (Int × Int) := taps.map fun (j : Int) =>
    (j, roundRat (2048 * (cubic ((((j : Int) : Rat) - ((phase : Nat) : Rat) / 64) / rk) / rk)))
  let ws := ws.filter fun w => w.2 != 0
  let total := ws.foldl (fun s w => s + w.2) 0
  let top := ws.foldl (fun (b : Option (Int × Int)) w => match b with
    | none => some w
    | some v => if v.2 < w.2 then some w else some v) none
  match top with
  | none => ws
  | some t => ws.map fun w => if w.1 = t.1 then (w.1, w.2 + (2048 - total)) else w

/-- The source positions that an output of the filter takes, edge pixels for taps outside the source (R177, R178). -/
def filterTaps (sLen dLen d : Nat) : List Nat :=
  let p := samplePos sLen dLen d
  (tapWeights sLen dLen p.2).map fun w => (clampInt 0 ((sLen : Int) - 1) (p.1 + w.1)).toNat

/-- One pass of the filter over an axis: Σ(weight × sample) / 2,048, rounded and saturated (R179). A tap outside the source
takes the nearest edge pixel (R177). -/
def filterAt (sLen dLen d top : Nat) (sample : Nat → Nat) : Nat :=
  let p := samplePos sLen dLen d
  let sum := (tapWeights sLen dLen p.2).foldl (fun s w =>
    s + w.2 * (sample (clampInt 0 ((sLen : Int) - 1) (p.1 + w.1)).toNat : Int)) 0
  (clampInt 0 top (divRound sum 2048)).toNat

/-! ### Storage codes (R224) -/

/-- The linear code of TM0–TM2 and its working value. -/
def linearCode (v : Nat) : Nat := (v * 4095 + 32767) / 65535
def linearValue (c : Nat) : Nat := c * 16 + c / 256

/-- The working value of a floating code of TM3: E = code[11:9], M = code[8:0]. -/
def floatValue (c : Nat) : Nat :=
  let e := c / 512 % 8
  let m := c % 512
  if e = 0 then m else
    let x := (512 + m) * 2 ^ (e - 1)
    x + x / 1024

/-- Bisection: the largest code below lo + 2^k whose working value is at most v. -/
def floatFloor : Nat → Nat → Nat → Nat
  | 0, lo, _ => lo
  | k + 1, lo, v => if floatValue (lo + 2 ^ k) ≤ v then floatFloor k (lo + 2 ^ k) v else floatFloor k lo v

/-- The floating code whose working value lies nearest to V; on a tie the larger code. -/
def floatCode (v : Nat) : Nat :=
  let c := floatFloor 12 0 v
  if c = 4095 then c else
    let a := floatValue c
    let b := floatValue (c + 1)
    if b - v ≤ v - a then c + 1 else c

/-- The code and the working value in a timing mode (R224). -/
def storeCode (tm v : Nat) : Nat := if tm = 3 then floatCode v else linearCode v
def storeValue (tm c : Nat) : Nat := if tm = 3 then floatValue c else linearValue c

/-! ### Per-pixel stages (R232–R238) -/

/-- Step 5: the levelling shift between two source lines. -/
def levelMix (f v0 v1 : Nat) : Nat := ((16 - f) * v0 + f * v1 + 8) / 16

/-- Step 6: the glare-mask multiply. -/
def maskMul (v m : Nat) : Nat := (v * m + 127) / 255

/-- Step 8, and the ceiling at a pixel's own gain: the per-pixel gain (R236, R237). -/
def gainMul (v g : Nat) : Nat := (v * (384 + g) + 256) / 512

/-- The contribution of a dead pixel to a neighbour. -/
def defectShare (v w : Nat) : Nat := (v * w + 128) / 256

/-- Step 10: the output code, 12 bits in TM0–TM2 and 16 bits in TM3 (R238). -/
def outputCode (tm v : Nat) : Nat := if tm = 3 then v else (v * 4095 + 32767) / 65535

/-- The working-scale ceiling of a 12-bit LC (R366). -/
def ceilWorking (lc : Nat) : Nat := lc * 16 + lc / 256

/-! ### Angles -/

/-- atan(2^−i) in units of 10⁻⁶ mdeg, for the rotations below. -/
def atanTable : List Nat :=
  [45000000000, 26565051177, 14036243468, 7125016349, 3576334375, 1789910608, 895173710, 447614171, 223810500, 111905677,
   55952892, 27976453, 13988227, 6994114, 3497057, 1748528, 874264, 437132, 218566, 109283, 54642, 27321, 13660, 6830]

/-- atan(y / x) for x > 0 in units of 10⁻⁶ mdeg, by rotation of the vector onto the axis; the error is below 10⁻² mdeg. -/
def atanMicro (y x : Int) : Int :=
  let scale : Int := 1073741824
  ((List.range atanTable.length).foldl (fun (v : Int × Int × Int) i =>
    let a : Int := atanTable.getD i 0
    let dx := v.1 / 2 ^ i
    let dy := v.2.1 / 2 ^ i
    if 0 ≤ v.2.1 then (v.1 + dy, v.2.1 - dx, v.2.2 + a) else (v.1 - dy, v.2.1 + dx, v.2.2 - a)) (x * scale, y * scale, 0)).2.2

/-! ### Logarithms -/

/-- The floor of log2 of a number below 2^64, at least 1. -/
def log2Floor (n : Nat) : Nat := (List.range 64).foldl (fun k i => if 2 ^ i ≤ n then i else k) 0

/-- Fraction bits of log2 of a mantissa in [1, 2), given in units of 2^−60: each squaring yields one bit. -/
def log2Bits : Nat → Nat → Nat → Nat
  | 0, _, acc => acc
  | k + 1, m, acc =>
    let q := m * m / 2 ^ 60
    if 2 ^ 61 ≤ q then log2Bits k (q / 2) (2 * acc + 1) else log2Bits k q (2 * acc)

/-- log2 of a number ≥ 1 with 40 fraction bits (notes/assumptions/20.md). -/
def log2Of (n : Nat) : Rat :=
  let k := log2Floor n
  (k : Rat) + (log2Bits 40 (n * 2 ^ 60 / 2 ^ k) 0 : Rat) / 2 ^ 40

/-! ### The SENSE converter (R65, R66) -/

/-- A voltage in µV as the 12-bit converter reads it against its 1.250 V reference (R65); the full scale is 4,096 codes (notes/assumptions/52.md). -/
def senseCode (uv : Nat) : Nat := min 4095 (divRoundNat (uv * 4096) 1250000)

/-- A reading of the converter in µV. -/
def senseUv (uv : Nat) : Nat := divRoundNat (senseCode uv * 1250000) 4096

/-- The temperature in 1/16 °C of an NTC behind the 10.0 kΩ bias resistor, by the ratio of its reading to the reference (R65, R66): the B equation from
25 °C with B in K and R25 in 10 Ω (notes/assumptions/52.md). -/
def ntcTemp (bK r25 uv : Nat) : Int :=
  let c := senseCode uv
  let lg : Rat := log2Of (10000 * max 1 c) - log2Of (4096 - c) - log2Of (10 * max 1 r25)
  let ln2 : Rat := 693147180559945309 / 1000000000000000000
  roundRat (16 * (1 / (100 / 29815 + lg * ln2 / bK) - 27315 / 100))

end Sys2Proof.Machine
end

