-- ==== Sys2Proof/Machine/Control.lean ====
section
/-!
DEFINITION. Control engine, tile supplies and safe switches: the commands of that chapter (R294–R313).
-/

namespace Sys2Proof.Machine

/-- Pixel cycles of one refresh of a timing mode; TM2's third refresh is one cycle shorter (R32). -/
def refreshCycles : Nat → Nat
  | 0 => 3000000 | 2 => 1666667 | _ => 2500000

/-! ### The loops (R294–R298) -/

/-- One loop's hidden state. -/
def State.loop (s : State) (n : Nat) : LoopSt := s.pid.loops.getD n {}

def State.setLoop (s : State) (n : Nat) (l : LoopSt) : State :=
  { s with pid := { s.pid with loops := s.pid.loops.set n l } }

/-- A temperature in 1/16 °C as m°C (R10, R298). -/
def milliC (t : Int) : Int := divRound (t * 1000) 16

/-- Whether a tile port is READY or ACTIVE (R265). -/
def State.portUp (s : State) (p : Nat) : Bool :=
  s.on (portDom p) && (s.rd (F.LNK_STATE_STATE p) == 7 || s.rd (F.LNK_STATE_STATE p) == 8)

/-- The value of a loop's source at its sample, or none while the source is invalid (R298). -/
def State.pidSource (s : State) (n : Nat) : Option Int :=
  let k := s.rd (F.PID_L_CTRL_SRCIDX n)
  match s.rd (F.PID_L_CTRL_SRC n) with
  | 1 => some (s.rd (F.BUCK_MEAS0_IAVG k))
  | 2 => some (s.rd (F.BUCK_MEAS0_VOUT k))
  | 3 => some (s.rd (F.BUCK_MEAS1_IIN k))
  | 4 => if s.tileFresh k && s.portUp k then some (milliC (s.rdS (F.THM_TILE_TEMP k))) else none
  | 5 => if s.rd (F.THM_NTC_STATE k) = 2 || s.rd (F.THM_NTC_STATE k) = 3 then none
      else some (milliC (s.rdS (F.THM_NTC_TEMP k)))
  | 6 => some (milliC (s.rdS F.THM_HOT_TEMP))
  | 7 =>
    let r := s.pid.light.getD k {}
    if r.noRows || r.at_ + 2 * refreshCycles (s.app F.LAY_TIMING_TM) < s.now then none else some (r.sum / 4096 : Nat)
  | 8 => some (s.rd F.ENG_PTOTAL_P)
  | 9 => if s.rd F.VIN_IMUSTAT_STATE = 1 then some (s.rdS F.PID_PITCHEST_EST) else none
  | 10 => if s.rd F.VIN_IMUSTAT_STATE = 1 then some s.pid.omega else none
  | _ => some 0

/-- Whether a loop is a member of a group (R300). -/
def State.isMember (s : State) (g n : Nat) : Bool := s.bitF (F.PID_GRP_CFG_MEMBERS g) n

/-- The groups that a loop belongs to. -/
def State.groupsOf (s : State) (n : Nat) : List Nat := (List.range 4).filter fun g => s.isMember g n

/-- Whether a test pulse of path n, or the 100 µs after one, is going on (R310, R311). -/
def State.pulsing (s : State) (path : Nat) : Bool :=
  (match s.sw.test with | some t => t.sw / 2 == path | none => false)
  || (match s.sw.pulseEnd.getD path none with | some t => s.now < t + usec 100 | none => false)

/-- A trim of tile t's sense channel, 1.2 ms long, or the 100 µs after it, is going on (R344, R345). -/
def State.trimming (s : State) (t : Nat) : Bool :=
  match s.cal.trimFrom.getD t none with | some e => s.now < e + usec 1300 | none => false

/-- A loop keeps I and D: FREEZE, a group's channel not running, a test pulse of its path or a trim of its tile (R296, R311, R345). -/
def State.frozen (s : State) (n : Nat) : Bool :=
  s.flag F.PID_CTRL_FREEZE || (s.groupsOf n).any fun g => s.rd (F.BUCK_STAT_STATE g) != 3 || s.pulsing g || s.trimming g

/-- I and D saturate at the ends of a 48-bit signed range with 16 fraction bits (R295). -/
def sat48 (i : Int) : Int := satSigned 48 i

/-- The applied limits of a loop, as integers (R294). -/
def State.outLimit (s : State) (n : Nat) (u : Int) : Int :=
  clampInt (s.appS (F.PID_L_OMIN_OMIN n)) (s.appS (F.PID_L_OMAX_OMAX n)) u

/-- I stands at IMIN or IMAX. -/
def State.atLimit (s : State) (n : Nat) (i : Int) : Bool :=
  i == 65536 * s.appS (F.PID_L_IMIN_IMIN n) || i == 65536 * s.appS (F.PID_L_IMAX_IMAX n)

/-- The law of one loop on a valid sample y (R294–R297): its new hidden state, and whether I and u stand at a limit. -/
def State.loopLaw (s : State) (n : Nat) (y : Int) : LoopSt × Bool × Bool :=
  let l := s.loop n
  let l := if l.init then { l with i := 65536 * s.rdS (F.PID_L_IINIT_IINIT n), d := 0 } else l
  let yPrev := if l.init || l.fresh then y else l.yPrev
  let e := s.rdS (F.PID_L_SP_SP n) - y
  let p := s.appS (F.PID_L_KP_KP n) * e
  let ki := s.appS (F.PID_L_KIS_KIS n) * e
  let imin := 65536 * s.appS (F.PID_L_IMIN_IMIN n)
  let imax := 65536 * s.appS (F.PID_L_IMAX_IMAX n)
  let keep := s.frozen n
  let d := if keep then l.d else
    sat48 (divRound (s.app (F.PID_L_AD_AD n) * l.d) 65536 + s.appS (F.PID_L_BD_BD n) * (yPrev - y))
  let i := if keep then l.i else clampInt imin imax (sat48 (l.i + ki))
  let sum := divRound (p + i + d) 65536
  let u := s.outLimit n sum
  let excess := (s.appS (F.PID_L_OMAX_OMAX n) < sum && 0 < ki) || (sum < s.appS (F.PID_L_OMIN_OMIN n) && ki < 0)
  let i := if excess && !keep then l.i else i
  ({ i := i, d := d, yPrev := y, fresh := false, init := false, u := u, p := p }, s.atLimit n i, u != sum)

/-- A loop whose source is invalid keeps I and D and outputs OFAIL; at the first sample after EN it has taken IINIT and 0 (R296, R297): its new hidden
state, and whether I and u stand at a limit. -/
def State.loopFail (s : State) (n : Nat) : LoopSt × Bool × Bool :=
  let l := s.loop n
  let l := if l.init then { l with i := 65536 * s.rdS (F.PID_L_IINIT_IINIT n), d := 0, init := false } else l
  let f := s.rdS (F.PID_L_OFAIL_OFAIL n)
  let u := s.outLimit n f
  ({ l with fresh := true, u := u, p := 0 }, s.atLimit n l.i, u != f)

/-- The registers of a loop after a sample. -/
def State.showLoop (s : State) (n : Nat) (bad clamped sat : Bool) (y : Option Int) : State :=
  let l := s.loop n
  let s := (((s.wr (F.PID_L_STAT_RUNNING n) 1).wrB (F.PID_L_STAT_SRCBAD n) bad).wrB (F.PID_L_STAT_ICLAMP n) clamped).wrB
    (F.PID_L_STAT_OSAT n) sat
  let s := ((s.wr (F.PID_L_STAT_TRACKED n) 0).wr (F.PID_L_STAT_WON n) 0).bump (F.PID_L_STAT_SAMPLES n)
  let s := (s.setBitF F.PID_STAT_SRCBAD n bad).wrS (F.PID_L_OUT_OUT n) l.u
  let s := s.wrS (F.PID_L_IVAL_IVAL n) (divRound l.i 65536)
  match y with
  | some v => s.wrS (F.PID_L_YVAL_YVAL n) v
  | none => s

/-- One loop samples: its gain group applies first (R47), then the law. -/
def State.sampleLoop (s : State) (n : Nat) : State :=
  if !s.flag (F.PID_L_CTRL_EN n) then s else
  let s := s.applyGroup (.pid n)
  match s.pidSource n with
  | some y =>
    let r := s.loopLaw n y
    (s.setLoop n r.1).showLoop n false r.2.1 r.2.2 (some y)
  | none =>
    let r := s.loopFail n
    (s.setLoop n r.1).showLoop n true r.2.1 r.2.2 none

/-- The enabled members of a group, lowest number first. -/
def State.enabledMembers (s : State) (g : Nat) : List Nat :=
  (List.range 16).filter fun n => s.isMember g n && s.flag (F.PID_L_CTRL_EN n)

/-- The member with the lowest u; on a tie the lower number (R300). -/
def State.winner (s : State) (g : Nat) : Option Nat :=
  (s.enabledMembers g).foldl (fun best n => match best with
    | none => some n
    | some b => if (s.loop n).u < (s.loop b).u then some n else some b) none

/-- The start of the sample period of a loop in which the time lies: periods run from the instant 0 of the model's clock, so that loops of one period sample in
one cycle (R299, R302; DESIGN CHOICE, notes/assumptions/1.md). -/
def State.periodStart (s : State) (n : Nat) : Nat :=
  let p := usec (s.rd (F.PID_L_PERIOD_PERIOD_US n))
  s.now / p * p

/-- The sample period of a loop has begun, and the loop has not sampled in it (R299). -/
def State.pidDue (s : State) (n : Nat) : Bool :=
  match s.ran.lookup (.pid n) with
  | some t => t < s.periodStart n
  | none => true

/-- The selection of one group (R300); its output waits for the winner's phase (R299). -/
def State.selectGroup (s : State) (g : Nat) : State :=
  match s.winner g with
  | none => s.wr (F.PID_GRP_STAT_VALID g) 0
  | some w =>
    let s := if s.rd (F.PID_GRP_STAT_WINNER g) ≠ w then (s.wr (F.PID_GRP_STAT_WINNER g) w).bump (F.PID_GRP_STAT_CHANGES g) else s
    let s := (s.wr (F.PID_GRP_STAT_VALID g) 1).wr (F.PID_L_STAT_WON w) 1
    let d : Due := { due := s.periodStart w + drvCycles (s.rd (F.PID_L_PHASE_CYCLES w)), value := (s.loop w).u }
    { s with pid := { s.pid with outs := s.pid.outs.set g (some d) } }

/-- The winning output of a group, if it has an enabled member. -/
def State.groupU (s : State) (g : Nat) : Option Int := (s.winner g).map fun w => (s.loop w).u

/-- A losing loop's integrator is limited from above (R301), within the range of I (R295). -/
def State.track (s : State) (n : Nat) : State :=
  let outs := (s.groupsOf n).filterMap s.groupU
  match outs with
  | [] => s
  | u :: us =>
    if (s.groupsOf n).any (fun g => s.winner g == some n) || s.flag (F.PID_L_STAT_SRCBAD n) || s.frozen n then s else
    let umax := us.foldl max u
    let l := s.loop n
    let lim := sat48 (min (65536 * s.appS (F.PID_L_IMAX_IMAX n)) (65536 * (umax + s.appS (F.PID_L_TRACK_TRACK n)) - l.p - l.d))
    if lim < l.i then
      (((s.setLoop n { l with i := lim }).wr (F.PID_L_STAT_TRACKED n) 1).wrS (F.PID_L_IVAL_IVAL n) (divRound lim 65536)).wrB
        (F.PID_L_STAT_ICLAMP n) (s.atLimit n lim)
    else s

/-- The output of each loop that has been sampled, limited, waits for its phase, at which LOOP and EN decide whether it is sent as the pitch word (R304). -/
def State.pitchSample (s : State) (loops : List Nat) : State :=
  loops.foldl (fun s n =>
    let d : Due := { due := s.periodStart n + drvCycles (s.rd (F.PID_L_PHASE_CYCLES n)), value := clampInt (-1024) 1024 (s.loop n).u }
    { s with pid := { s.pid with pitchOut := s.pid.pitchOut.set n (some d) } }) s

/-- The pitch word of loop n at its output phase: sent while the loop is the one that LOOP names and EN is 1 (R304). -/
def State.writePitch (s : State) (n : Nat) : State :=
  match s.pid.pitchOut.getD n none with
  | some d =>
    if s.now < d.due then s else
    let s := { s with pid := { s.pid with pitchOut := s.pid.pitchOut.set n none } }
    if s.on .scn && s.flag F.PID_PITCHCFG_EN && s.rd F.PID_PITCHCFG_LOOP = n then
      { s with scn := { s.scn with pitch := (d.value, s.now) :: s.scn.pitch } }
    else s
  | none => s

/-- The loops of a mask that begin their sample period in one cycle. -/
def State.startingLoops (s : State) (loops : Nat) : List Nat := (List.range 16).filter fun n => bitAt loops n && s.flag (F.PID_L_CTRL_EN n) && s.pidDue n

/-- The loops named in a mask whose sample period begins are computed in ascending order, then comes the selection of every group that has one of them, then
the tracking of the losers (R294–R301). -/
def execPidSample (loops : Nat) (s : State) : Out :=
  if !s.on .drv then .next s else
  let ns := s.startingLoops loops
  let s := { s with ran := ns.map (fun n => (Timer.pid n, s.now)) ++ s.ran.filter fun x => !(ns.map Timer.pid).contains x.1 }
  let s := ns.foldl State.sampleLoop s
  let gs := (List.range 4).filter fun g => ns.any fun n => s.isMember g n
  let s := gs.foldl State.selectGroup s
  let s := ns.foldl State.track s
  .next (s.pitchSample ns)

/-- A group's output is written at its phase (R299). -/
def State.writeOut (s : State) (g : Nat) : State :=
  match s.pid.outs.getD g none with
  | some d =>
    if d.due ≤ s.now then
      { s with pid := { s.pid with outs := s.pid.outs.set g none } }.wrS (F.PID_GRP_OUT_OUT g) d.value
    else s
  | none => s

/-- The group outputs and pitch words whose phase has come are written; a pitch word is sent only while PID_PITCHCFG.EN is 1, from
the loop in PID_PITCHCFG.LOOP (R299, R304). -/
def execPidOutputWrite (s : State) : Out :=
  if !s.on .drv then .next s else
  .next ((List.range 16).foldl State.writePitch ((List.range 4).foldl State.writeOut s))

/-- A loop's timing. -/
def State.timing (s : State) (n : Nat) : Nat × Nat := (s.rd (F.PID_L_PERIOD_PERIOD_US n), s.rd (F.PID_L_PHASE_CYCLES n))

/-- A membership that R302 lets in: at most eight loops, all of one timing, and so is every group that shares one. -/
def State.membersFit (s : State) (g members : Nat) : Bool :=
  let ns := (List.range 16).filter (bitAt members)
  let all := (List.range 4).foldl (fun l k =>
    if k != g && (members &&& s.rd (F.PID_GRP_CFG_MEMBERS k)) != 0 then
      l ++ (List.range 16).filter (s.isMember k) else l) ns
  ns.length ≤ 8 && (match all with
    | [] => true
    | n :: rest => rest.all fun k => s.timing k == s.timing n)

/-- VALID of a group says whether at least one member is enabled (R300). -/
def State.showValid (s : State) (g : Nat) : State := s.wrB (F.PID_GRP_STAT_VALID g) !(s.enabledMembers g).isEmpty

/-- A write to PID_GRPg_CFG (R302). -/
def State.writeMembers (s : State) (g : Nat) (data : Word) : State :=
  if s.membersFit g (bitsOf data.toNat 15 0) then (s.store (R.PID_GRP_CFG g) data).showValid g else s.mark (F.PID_GRP_STAT_CFGREF g)

def execPidGroupCfgWrite (m : Master) (g : Nat) (data : Word) (s : State) : Out :=
  s.withBus m (R.PID_GRP_CFG (g % 4)) data fun s => s.writeMembers (g % 4) data

/-- A write to PID_Ln_CTRL: SRC and SRCIDX while EN is 0, SRC 0–10; a loop that is enabled starts afresh (R296, R298). -/
def State.writeLoopCtrl (s : State) (n : Nat) (data : Word) : State :=
  let d := data.toNat
  let was := s.flag (F.PID_L_CTRL_EN n)
  if !was && 10 < bitsOf d 7 4 then s else
  let s := if was then s.wr (F.PID_L_CTRL_EN n) (bitsOf d 0 0) else s.store (R.PID_L_CTRL n) data
  if !was && s.flag (F.PID_L_CTRL_EN n) then
    (List.range 4).foldl State.showValid ((s.setLoop n { s.loop n with init := true, fresh := true }).setBitF F.PID_STAT_RUN n true)
  else if was && !s.flag (F.PID_L_CTRL_EN n) then
    (List.range 4).foldl State.showValid (((s.wr (F.PID_L_STAT_RUNNING n) 0).setBitF F.PID_STAT_RUN n false).setBitF F.PID_STAT_SRCBAD n false)
  else s

/-- A loop may change its timing: it is disabled and shares no group with another loop (R299, R302). -/
def State.mayRetime (s : State) (n : Nat) : Bool :=
  !s.flag (F.PID_L_CTRL_EN n) && (s.groupsOf n).all fun g => popcount 16 (s.rd (F.PID_GRP_CFG_MEMBERS g)) == 1

/-- Writes to PID_Ln_PERIOD and PID_Ln_PHASE (R299, R302). -/
def State.writePeriod (s : State) (n : Nat) (data : Word) : State :=
  let p := bitsOf data.toNat 16 0
  if s.mayRetime n && 10 ≤ p && p ≤ 100000 && s.rd (F.PID_L_PHASE_CYCLES n) < 200 * p then s.store (R.PID_L_PERIOD n) data else s

def State.writePhase (s : State) (n : Nat) (data : Word) : State :=
  let c := bitsOf data.toNat 24 0
  if s.mayRetime n && 400 ≤ c && c < 200 * s.rd (F.PID_L_PERIOD_PERIOD_US n) then s.store (R.PID_L_PHASE n) data else s

/-! ### Buck channels (R305–R309) -/

/-- The requested reference of a channel in mA: REF or the group's output, at most ILIM (R306, steps 1 and 2). -/
def State.buckTarget (s : State) (n : Nat) : Nat :=
  let src := if s.app (F.BUCK_REF_SRC n) = 0 then (s.app (F.BUCK_REF_REF n) : Int) else s.rdS (F.PID_GRP_OUT_OUT n)
  min src.toNat (s.app (F.BUCK_ILIM_ILIM n))

/-- The next applied reference in µA: a rise of at most SLEW mA/ms over the period, a fall at once (R306, step 3). -/
def State.nextApp (s : State) (n : Nat) : Nat :=
  let t := 1000 * s.buckTarget n
  let cur := (s.buckN n).iApp
  if t ≤ cur then t else min t (cur + divRoundNat (s.rd (F.BUCK_CFG2_SLEW n) * 1000) (s.rd (F.BUCK_CFG_FSW_KHZ n)))

/-- The input voltage of channel n, in 1/65,536 µV: the reading of its monitor times the divider ratio (R314). -/
def State.inputVolts (s : State) (n vmon0 vmon1 : Nat) : Nat :=
  if s.bitF F.ENG_CTRL_VINSEL n then senseUv vmon1 * s.rd F.ENG_DIV1_RATIO else senseUv vmon0 * s.rd F.ENG_DIV0_RATIO

/-- Ipk = I_app + ΔI/2 in mA (R306, step 4), from I_app in µA, Vout in mV and Vin in 1/65,536 µV. -/
def State.peakRef (s : State) (n app vout vin : Nat) : Nat :=
  let l := s.rd (F.BUCK_CFG2_L_NH n)
  let f := s.rd (F.BUCK_CFG_FSW_KHZ n)
  (roundRat ((app : Rat) / 1000 + (vout * (vin - vout * 65536000) * 1000000 : Nat) / (2 * vin * l * f : Nat))).toNat

/-- The level of CSP − CSN at Rsense × Ipk, in µV (R305). -/
def State.peakLevel (s : State) (n : Nat) : Nat := divRoundNat (s.rd (F.BUCK_SENSE_RSENSE_UOHM n) * (s.buckN n).ipk) 1000

/-- How a switching period ends whose sense voltage would come to a level in µV at a duty of 95 %: at the lower of Rsense × Ipk and 60 mV, where it gets there
(R305). -/
def State.periodEnd (s : State) (n sense : Nat) : PeriodEnd :=
  if s.peakLevel n ≤ 60000 && s.peakLevel n ≤ sense then .reference
  else if 60000 ≤ sense then .peakLimit
  else .duty

/-- Slope compensation: half the inductor's down-slope Vout / L, in µA per µs (R305). -/
def State.slopeOf (s : State) (n vout : Nat) : Nat := divRoundNat (vout * 1000000) (2 * s.rd (F.BUCK_CFG2_L_NH n))

/-- The slope compensation as a ramp of the sense voltage, in nV per µs (R305). -/
def State.slopeSense (s : State) (n vout : Nat) : Nat := divRoundNat (s.slopeOf n vout * s.rd (F.BUCK_SENSE_RSENSE_UOHM n)) 1000

/-- The offset of CSP − CSN that the channel subtracts: the one it holds since the hardware Husk path started it, else that of its last trim (R346). -/
def State.senseOffset (s : State) (n : Nat) : Int := if (s.hwN n).active then (s.buckN n).ofs else s.rdS (F.CAL_BOFS_CS n)

/-- The offset of IIP − IIN in the same way (R346). -/
def State.inputOffset (s : State) (n : Nat) : Int := if (s.hwN n).active then (s.buckN n).ofsIn else s.rdS (F.CAL_BOFS_II n)

/-- The input shunt voltage in nV, less its offset (R314, R346). -/
def State.inputSense (s : State) (n nv : Nat) : Nat := ((nv : Int) - 1000 * s.inputOffset n).toNat

/-- What the channel did and measured in the period (R305, R309). -/
def State.buckMeasure (s : State) (n : Nat) (x : BuckMeas) : State :=
  let b := s.buckN n
  let il := (x.il :: b.il).take 16
  let e := s.periodEnd n ((x.sense : Int) - s.senseOffset n).toNat
  let s := s.modBuck n fun b =>
    { b with il := il, vin := s.inputVolts n x.vmon0 x.vmon1, ended := e, slope := s.slopeSense n x.vout, lowOff := x.valley ≤ 0 && b.disch.isNone
             pkAt := if e = .peakLimit then some s.now else b.pkAt
             peakSince := if e = .peakLimit && x.vout < 1000 then some (b.peakSince.getD s.now) else none }
  let lim := match (s.buckN n).pkAt with | some t => s.now < t + msec 1 | none => false
  (((s.wrSat (F.BUCK_MEAS0_IAVG n) (divRoundNat (sumNat il) 16)).wrSat (F.BUCK_MEAS0_VOUT n) x.vout).wrSat (F.BUCK_MEAS1_IIN n)
      (divRoundNat (s.inputSense n x.shunt) (s.rd (F.BUCK_SENSE_RIN_UOHM n)))).wrB
    (F.BUCK_STAT_PKLIM n) lim

/-- A switching period of the channel begins now: it switches (R307, R308), and its last period is over (R306). -/
def State.periodDue (s : State) (n : Nat) : Bool :=
  let st := s.rd (F.BUCK_STAT_STATE n)
  1 ≤ st && st ≤ 3 && (!s.held 5 || (s.hwN n).active) && s.dueSince (s.buckN n).perAt (600000 / s.rd (F.BUCK_CFG_FSW_KHZ n))

/-- One switching period of a channel: measurements, the buck group (R47), the applied reference (R306), which an overvoltage hold keeps (R308). A high-side
switch that waits for Bn_FB below 1.0 V follows its command (R323). -/
def execBuckSwitchPeriod (ch : Nat) (x : BuckMeas) (s : State) : Out :=
  if !s.on .drv || 4 ≤ ch || (s.held 5 && !(s.hwN ch).active) then .next s else
  let s := ((s.buckMeasure ch x).applyGroup (.buck ch)).followPath ch
  let st := s.rd (F.BUCK_STAT_STATE ch)
  let app := if st = 2 || st = 3 then s.nextApp ch else if st = 1 then s.hwApp ch else if st = 4 then (s.buckN ch).iApp else 0
  let s := s.modBuck ch fun b => { b with perAt := some s.now, iApp := app, ipk := s.peakRef ch app x.vout (s.inputVolts ch x.vmon0 x.vmon1) }
  let s := s.wrSat (F.BUCK_MEAS1_REFAPP ch) (divRoundNat app 1000)
  .next (if st = 2 && app = 1000 * s.buckTarget ch then s.wr (F.BUCK_STAT_STATE ch) 3 else s)

/-- FB above OVTH: both FETs held off; eight entries within 1 ms raise BUCK_OV; an entry in STATE 3 below 100 mA is a
disconnect (R308, R325). -/
def execBuckOvervoltage (ch fbMv : Nat) (s : State) : Out :=
  let st := s.rd (F.BUCK_STAT_STATE ch)
  if 4 ≤ ch || st < 1 || 3 < st || fbMv ≤ 50 * s.rd (F.BUCK_CFG_OVTH ch) then .next s else
  let light := st = 3 && s.rd (F.BUCK_MEAS0_IAVG ch) < 100
  let times := s.now :: (s.buckN ch).ovTimes.filter fun t => s.now < t + msec 1
  let eight := 8 ≤ times.length
  let s := if light then s.disconnect ch else s
  let s := s.modBuck ch fun b => { b with ovTimes := if eight then [] else times, ovFrom := if light then 2 else st }
  let s := (s.wr (F.BUCK_STAT_STATE ch) 4).bump (F.BUCK_STAT_OVCNT ch)
  .next (if eight then (s.mark (F.BUCK_STAT_OV ch)).raise (Src.BUCK_OV ch) else s)

/-- FB below OVTH − 0.2 V: switching resumes, after an overvoltage disconnect from I_app = 0 once the discharge is done (R308,
R325). -/
def execBuckOvRelease (ch fbMv : Nat) (s : State) : Out :=
  .next (if ch < 4 && s.rd (F.BUCK_STAT_STATE ch) = 4 && fbMv + 200 < 50 * s.rd (F.BUCK_CFG_OVTH ch)
      && (s.buckN ch).disch.isNone && !(s.buckN ch).stopped then
    s.wr (F.BUCK_STAT_STATE ch) (s.buckN ch).ovFrom else s)

/-- A channel stops by a fault until EN is cleared and set again (R308, R324). -/
def State.buckFault (s : State) (n : Nat) : State :=
  (s.buckOff n 5).modBuck n fun b => { b with stopped := true }

/-- Every period for 1 ms has ended at the peak limit with FB below 1.0 V (R308). -/
def execBuckShortDetect (ch : Nat) (s : State) : Out :=
  let st := s.rd (F.BUCK_STAT_STATE ch)
  let due := match (s.buckN ch).peakSince with | some t => s.since t (msec 1) | none => false
  .next (if ch < 4 && 1 ≤ st && st ≤ 3 && due then ((s.buckFault ch).mark (F.BUCK_STAT_SHORT ch)).raise (Src.BUCK_SHORT ch)
    else s)

/-- The values of BUCKn_CFG lie in their ranges (R309). -/
def buckCfgFits (d : Nat) : Bool :=
  250 ≤ bitsOf d 11 2 && bitsOf d 11 2 ≤ 1000 && bitsOf d 15 12 ≤ 14 && 20 ≤ bitsOf d 22 16 && bitsOf d 22 16 ≤ 120

/-- EN starts a channel from I_app = 0 (R307), once a discharge is done (R325), except in DARK, where the stop line holds it; EN cleared is a disconnect
(R325) and ends a stop by a fault (R308) or by the harness guard (R324). -/
def State.buckEn (s : State) (n : Nat) (en : Bool) : State :=
  let was := s.flag (F.BUCK_CFG_EN n)
  let s := s.wrB (F.BUCK_CFG_EN n) en
  if en && !was then
    if s.mode == .dark || s.held 5 || (s.buckN n).stopped || (s.buckN n).disch.isSome then s else s.buckOff n 2
  else if !en && was then
    let s := s.modBuck n fun b => { b with stopped := false, tripped := false }
    if s.mode == .dark || s.held 5 then s else s.disconnect n
  else s

/-- A write to BUCKn_CFG: every field but EN only while EN is 0 and STATE is 0, values in range (R309). -/
def State.writeBuckCfg (s : State) (n : Nat) (data : Word) : State :=
  let idle := !s.flag (F.BUCK_CFG_EN n) && s.rd (F.BUCK_STAT_STATE n) = 0
  if idle then
    if buckCfgFits data.toNat then (s.store (R.BUCK_CFG n) (data &&& 0xFFFFFFFE#32)).buckEn n (bitAt data.toNat 0) else s
  else s.buckEn n (bitAt data.toNat 0)

def execBuckEnable (m : Master) (ch : Nat) (data : Word) (s : State) : Out :=
  s.withBus m (R.BUCK_CFG (ch % 4)) data fun s => s.writeBuckCfg (ch % 4) data

/-- A write to BUCKn_SENSE or BUCKn_CFG2 (R309). -/
def State.writeBuckStatic (s : State) (n a : Nat) (fits : Bool) (data : Word) : State :=
  if !s.flag (F.BUCK_CFG_EN n) && s.rd (F.BUCK_STAT_STATE n) = 0 && fits then s.store a data else s

/-! ### Safe switches (R310–R312) -/

/-- Both switches of a path are closed. -/
def State.pathClosed (s : State) (path : Nat) : Bool := s.sw.hi.getD path false && s.sw.lo.getD path false

/-- A read-back sample of a closed path fails: Bn_FB − Wn_HR above 0.2 V, or Wn_LR above 0.2 V, in mV (R310). -/
def closedFails (x : Int × Int) : Bool := 200 < x.1 || 200 < x.2

/-- Eight consecutive samples fail. -/
def eightFail (xs : List (Int × Int)) : Bool :=
  (List.range (xs.length - 7)).any fun i => ((xs.drop i).take 8).all closedFails

/-- Read-back samples of a path, Bn_FB − Wn_HR and Wn_LR: eight consecutive failing ones while it is closed and its channel runs, outside test pulses
(R310). PATHBAD shows the check: it falls again with a sample that passes. -/
def execSwClosedFault (x : SwReadback) (s : State) : Out :=
  let path := x.path
  let st := s.rd (F.BUCK_STAT_STATE path)
  if 4 ≤ path || !s.on .safe || !s.pathClosed path || st < 1 || 3 < st || s.pulsing path then .next s else
  .next (if eightFail x.samples then (s.setBitF F.SAF_SWSTAT_PATHBAD path true).raise (Src.SW_CLOSED path)
    else if x.samples.any fun p => !closedFails p then s.setBitF F.SAF_SWSTAT_PATHBAD path false else s)

/-- A test of path n cannot run now (R312): low current, a rising reference, under the logic or in the ramp of the hardware Husk path, a stopped channel, a
recent SAMPLE. -/
def State.testBlocked (s : State) (path : Nat) (sampledAt : Option Nat) : Bool :=
  let st := s.rd (F.BUCK_STAT_STATE path)
  s.rd (F.BUCK_MEAS0_IAVG path) < 300 || st != 1 && st != 3
  || (st == 3 && (s.buckN path).iApp < 1000 * s.buckTarget path)
  || (st == 1 && (match s.hwN path with | .ramping _ => true | _ => false))
  || !s.pathClosed path
  || (match sampledAt with | some t => s.now < t + usec 250 | none => false)

/-- The round of step 12 runs (R312). -/
def State.inRound (s : State) : Bool :=
  (match s.pwr.prep with | some p => p.swRound | none => false) && !(List.range 8).all s.sw.round.contains

/-- The interval to the next test: 1 ms in step 12 of PREPARE, 1.25 s in service (R312). -/
def State.testGap (s : State) : Nat := if s.inRound then msec 1 else msec 1250

/-- The sequencer goes on to the next switch: a deferral moves no later test (R312). -/
def State.nextSwitch (s : State) : State :=
  { s with sw := { s.sw with next := (s.sw.next + 1) % 8, deferred := none
                             dueAt := s.sw.dueAt + s.testGap * ((s.now - s.sw.dueAt) / s.testGap + 1) } }

/-- In step 12 of PREPARE the island turns the sequencer on, and the round of all eight switches begins (R312, R377). -/
def State.seqOn (s : State) : State :=
  match s.pwr.prep with
  | some p =>
    if s.mode != .prepare || !p.toRun || p.swRound || !s.flag F.SAF_STATE_READY then s else
    let fresh := if s.flag F.SAF_SWCTL_SEQ_EN then s.sw.untested else List.replicate 8 s.now
    { s.wr F.SAF_SWCTL_SEQ_EN 1 with
      pwr := { s.pwr with prep := some { p with swRound := true } }
      sw := { s.sw with untested := fresh, next := 0, dueAt := s.now, deferred := none, round := [] } }
  | none => s

/-- A switch test falls due: one switch opens, or the test is deferred by up to 1 s (R311, R312). -/
def State.testDue (s : State) (sampledAt : Nat → Option Nat) : State :=
  if !s.flag F.SAF_SWCTL_SEQ_EN || s.sw.test.isSome || s.now < s.sw.dueAt then s else
  let k := s.sw.next
  if s.testBlocked (k / 2) (sampledAt (k / 2)) then
    match s.sw.deferred with
    | none => { s with sw := { s.sw with deferred := some s.now } }
    | some t => if s.since t (sec 1) then s.nextSwitch else s
  else
    { s.setGate (k / 2) (k % 2 = 0) false with
      sw := { (s.setGate (k / 2) (k % 2 = 0) false).sw with
        test := some { sw := k, since := s.now, startup := s.inRound }, deferred := none } }

/-- The test of a switch is over: the gate follows its command again, whatever Bn_FB reads (R311, R323). -/
def State.closeTest (s : State) (t : SwTest) : State :=
  let path := t.sw / 2
  let s := s.setGate path (t.sw % 2 = 0) (s.gateCmd path (t.sw % 2 = 0))
  ({ s with sw := { s.sw with test := none, pulseEnd := s.sw.pulseEnd.set path (some s.now)
                              untested := s.sw.untested.set t.sw s.now, round := if t.startup then t.sw :: s.sw.round else s.sw.round } }.wr
    F.SAF_SWSTAT_LASTSW t.sw).nextSwitch

/-- The read-back of the switch under test, in mV: Bn_FB − Wn_HR for a high-side switch, Wn_LR for a low-side one. The gate
closes at the first blocking sample within 20 µs; without one the test has failed (R311, R312, R377), and in step 12 PERMIT with it (R381). A disconnect
during the pulse does not count (R335). -/
def State.switchTestEnd (s : State) (mv : Nat) : State :=
  match s.sw.test with
  | none => s
  | some t =>
    let path := t.sw / 2
    if s.now ≤ t.since + usec 20 && (if t.sw % 2 = 0 then 300 else 500) ≤ mv then s.closeTest t
    else if !s.since t.since (usec 20) then s
    else if t.cut then s.closeTest t
    else
      let s := ((s.closeTest t).setBitF F.SAF_SWSTAT_FAILED t.sw true).raise (Src.SW_TEST path)
      let s := if t.startup then { s with saf := { s.saf with swRoundBad := true } }.closeGate else s
      (s.raiseIf (s.bitF F.SAF_SWSTAT_FAILED (2 * path) && s.bitF F.SAF_SWSTAT_FAILED (2 * path + 1)) (Src.SW_BOTH path))

/-- A switch has gone untested for 60 s (R312). -/
def execSwUntestedTimeout (sw : Nat) (s : State) : Out :=
  .next (if sw < 8 && s.flag F.SAF_SWCTL_SEQ_EN && s.since (s.sw.untested.getD sw 0) (sec 60) then
    { s with sw := { s.sw with untested := s.sw.untested.set sw s.now } }.raise (Src.SW_TEST (sw / 2)) else s)

end Sys2Proof.Machine
end

