-- ==== Sys2Proof/Machine/Energy.lean ====
section
/-!
DEFINITION. Energy ledger, harness energy and thermal protection: the commands of that chapter (R314–R335), but for the flash
writer.
-/

namespace Sys2Proof.Machine

/-! ### Energy counters (R314, R315) -/

/-- One energy with its remainder: numerator over denominator added, whole units and the remainder (R314). -/
def addFrac (rem : Nat × Nat) (num den : Nat) : Nat × (Nat × Nat) :=
  if den = 0 then (0, rem)
  else if rem.2 = den then ((rem.1 + num) / den, ((rem.1 + num) % den, den))
  else
    let n := rem.1 * den + num * rem.2
    (n / (rem.2 * den), (n % (rem.2 * den), rem.2 * den))

/-- Input energy of buck n in one tick, as a fraction of 1 µJ: V in µV at the ball times the ratio, the shunt in nV, less its offset, over
the shunt resistor in µΩ, over 100 µs (R314, R346). -/
def State.buckEnergy (s : State) (x : LedgerMeas) (n : Nat) : Nat × Nat :=
  (s.inputVolts n x.vmon0 x.vmon1 * s.inputSense n (x.shunt.getD n 0), 65536 * s.rd (F.BUCK_SENSE_RIN_UOHM n) * 10000000)

/-- One tick of one buck input: the counter moves by whole microjoules, and the remainder is carried (R314). -/
def State.tickBuck (s : State) (x : LedgerMeas) (n : Nat) : State :=
  let e := s.buckEnergy x n
  let r := addFrac (s.eng.rem.getD n (0, 1)) e.1 e.2
  let s := { s with eng := { s.eng with rem := s.eng.rem.set n r.2, slotAcc := s.eng.slotAcc + r.1 } }
  (s.add64 (R.ENG_EB_LO n) (R.ENG_EB_HI n) r.1).add64 R.ENG_ECYC_LO R.ENG_ECYC_HI r.1

/-- The device's own energy in one tick, in 1/10,000 µJ: mV times mA over 100 µs (R314). -/
def railEnergy (x : LedgerMeas) : Nat := sumNat (x.rails.map fun r => r.1 * r.2)

/-- One tick of the device counter (R314). -/
def State.tickDevice (s : State) (x : LedgerMeas) : State :=
  let t := s.eng.remDev + railEnergy x
  let s := { s with eng := { s.eng with remDev := t % 10000, slotAcc := s.eng.slotAcc + t / 10000 } }
  (s.add64 R.ENG_EDEV_LO R.ENG_EDEV_HI (t / 10000)).add64 R.ENG_ECYC_LO R.ENG_ECYC_HI (t / 10000)

/-- ENG_PTOTAL and ENG_PDEV: the mean over the last ten ticks, 1 ms (R314). -/
def State.tickPower (s : State) (x : LedgerMeas) : State :=
  let uj : Rat := ((List.range 4).map fun n =>
    let e := s.buckEnergy x n
    (e.1 : Rat) / e.2).foldl (· + ·) 0
  let dev : Rat := railEnergy x / 10000
  let ticks := ((uj + dev, dev) :: s.eng.ticks).take 10
  let s := { s with eng := { s.eng with ticks := ticks } }
  let mw : List Rat → Nat := fun l => satNat 20 (roundRat (l.foldl (· + ·) 0)).toNat
  (s.wr F.ENG_PTOTAL_P (mw (ticks.map Prod.fst))).wr F.ENG_PDEV_P (mw (ticks.map Prod.snd))

/-- The sliding window: a slot of SLOT_MS is complete, and at most 64 are kept (R316). -/
def State.tickWindow (s : State) : State :=
  let n := s.eng.slotTicks + 1
  let s := if n < 10 * s.app F.ENG_WSLOT_SLOT_MS then { s with eng := { s.eng with slotTicks := n } }
    else { s with eng := { s.eng with slots := (s.eng.slotAcc :: s.eng.slots).take 64, slotAcc := 0, slotTicks := 0 } }
  s.setN R.ENG_EWIN (min (2 ^ 32 - 1) (divRoundNat (sumNat s.eng.slots) 1000))

/-- The budget group is applied at a ledger tick; a change of SLOT_MS clears the window (R319). -/
def State.applyBudget (s : State) : State :=
  let old := s.app F.ENG_WSLOT_SLOT_MS
  let s := s.applyGroup .energy
  if s.app F.ENG_WSLOT_SLOT_MS = old then s
  else { s with eng := { s.eng with slots := [], slotAcc := 0, slotTicks := 0 } }.setN R.ENG_EWIN 0

/-- One ledger tick (R314, R316, R319). -/
def State.ledgerTick (s : State) (x : LedgerMeas) : State :=
  let s := s.applyBudget
  if !s.flag F.ENG_CTRL_EN then s else
  let s := (List.range 4).foldl (fun s n => s.tickBuck x n) s
  ((s.tickDevice x).tickPower x).tickWindow

/-- Every 100 µs (R314). -/
def execLedgerTick (x : LedgerMeas) (s : State) : Out :=
  .next (if s.on .drv then s.periodic .ledger (usec 100) fun s => s.ledgerTick x else s)

/-- RESTART begins a new drive cycle and clears ENG_ECYC alone (R315). -/
def State.restartCycle (s : State) (data : Word) : State :=
  if bitAt data.toNat 0 then (s.setN R.ENG_ECYC_LO 0).setN R.ENG_ECYC_HI 0 else s

def execDriveCycleRestart (m : Master) (data : Word) (s : State) : Out :=
  s.withBus m R.ENG_CYC data fun s => s.restartCycle data

/-! ### Allowed power (R316–R318) -/

/-- E_cyc, the drive-cycle energy in µJ. -/
def State.eCyc (s : State) : Nat := s.get64 R.ENG_ECYC_LO R.ENG_ECYC_HI

/-- E_win, the energy of the last 64 complete slots in µJ. -/
def State.eWin (s : State) : Nat := sumNat s.eng.slots

/-- E_old, the energy of the oldest of the 64 slots; 0 while fewer are complete, since none drops out (R316). -/
def State.eOld (s : State) : Nat := s.eng.slots.getD 63 0

/-- P_win in mW, or none when its budget is 0; a negative result counts as 0 (R316). -/
def State.pWin (s : State) : Option Nat :=
  let b := s.app F.ENG_BWIN_BWIN
  if b = 0 then none else some ((b * 1000 + s.eOld - s.eWin) / s.app F.ENG_WSLOT_SLOT_MS)

/-- P_cyc in mW, or none when its budget is 0 (R316). -/
def State.pCyc (s : State) : Option Nat :=
  let b := s.app F.ENG_BCYC_BCYC
  if b = 0 then none else some ((b * 1000 - s.eCyc) / (s.app F.ENG_HORIZON_HORIZON_S * 1000))

/-- P_lim = min(PMAX, P_win, P_cyc) (R316). -/
def State.pLim (s : State) : Nat :=
  let p := s.app F.ENG_PLIM_PMAX
  min p (min (s.pWin.getD p) (s.pCyc.getD p))

/-- P_allow (R317). -/
def State.pAllow (s : State) : Nat :=
  let floor := s.app F.ENG_PFLOOR_PFLOOR
  if floor < s.pLim then floor + s.thm.f * (s.pLim - floor) / 65536 else floor

/-- A budget that has a value is exceeded (R318). -/
def State.overBudget (s : State) : Bool :=
  (s.app F.ENG_BWIN_BWIN != 0 && s.app F.ENG_BWIN_BWIN * 1000 < s.eWin)
  || (s.app F.ENG_BCYC_BCYC != 0 && s.app F.ENG_BCYC_BCYC * 1000 < s.eCyc)

/-- A budget is exceeded, or no longer is: ENG_OVERRUN is raised when the condition begins (R318, R386). -/
def State.showOverrun (s : State) : State :=
  let beyond := s.overBudget
  let began := beyond && !s.eng.overrun
  let s := { s with eng := { s.eng with overrun := beyond } }
  if beyond then (s.mark F.ENG_STAT_OVERRUN).raiseIf began Src.ENG_OVERRUN else s

/-- The limits, P_allow, the setpoint of the energy loop, and the overrun (R316–R318). -/
def State.allowPower (s : State) : State :=
  let p := s.pAllow
  let s := (((s.wrB F.ENG_STAT_LIMIT_WIN (s.pWin == some s.pLim)).wrB F.ENG_STAT_LIMIT_CYC (s.pCyc == some s.pLim)).wrB
    F.ENG_STAT_LIMIT_PMAX (s.pLim == s.app F.ENG_PLIM_PMAX)).wrB F.ENG_STAT_FLOOR (p == s.app F.ENG_PFLOOR_PFLOOR)
  let s := ((s.wrB F.ENG_STAT_DERATE (decide (s.thm.f < 65536))).wr F.ENG_FACTOR_F s.thm.f).wr F.ENG_PALLOW_P (satNat 20 p)
  (if s.flag F.ENG_CTRL_SPLINK then s.wrS (F.PID_L_SP_SP (s.rd F.ENG_CTRL_LOOP)) p else s).showOverrun

/-- Every 1 ms (R316). -/
def execAllowedPowerCompute (s : State) : Out :=
  .next (if s.on .drv then s.periodic .allowed (msec 1) State.allowPower else s)

/-! ### The light planner (R320, R321) -/

/-- The budget group passes the checks of its arm (R319). -/
def State.budgetFits (s : State) : Bool :=
  s.rd F.ENG_PLIM_PMAX != 0 && 16 ≤ s.rd F.ENG_WSLOT_SLOT_MS && s.rd F.ENG_WSLOT_SLOT_MS ≤ 56250
    && s.rd F.ENG_HORIZON_HORIZON_S != 0

/-- Firmware arms a group with the generation after the applied one. -/
def State.armNext (s : State) (g : Group) : State :=
  s.armGroup g (BitVec.ofNat 32 ((s.rd g.fApplied + 1) % 256))

/-- The grants in class order: class 0 whole, the others from what remains of A (R320). -/
def grants (a : Nat) (demands : List Nat) : List Nat :=
  match demands with
  | [] => []
  | d0 :: rest =>
    d0 :: (rest.foldl (fun (acc : List Nat × Nat) d => (acc.1 ++ [min d acc.2], acc.2 - min d acc.2)) ([], a - d0)).1

/-- The scale of chain n (R321, step 3). -/
def State.chainScale (s : State) (n g3 d3 : Nat) : Nat :=
  if s.bitF F.ENG_PLAN_ESSENTIAL n || d3 = 0 then 32768 else 32768 * g3 / d3

/-- Firmware writes one tile's current setpoint, multiplied by the tile's SCALE (R354): loop t is the tile's current loop
(notes/assumptions/13.md). -/
def State.scaleSetpoint (s : State) (t : Nat) : State :=
  match s.eng.setpoint.getD t none with
  | some b => s.wrS (F.PID_L_SP_SP t) (divRound (b * s.rdS (F.CAL_PHOT_SCALE t)) 65536)
  | none => s

/-- Grants, short classes, chain scales, PFLOOR (R320, R321). -/
def State.planLight (s : State) : State :=
  let ds := (List.range 4).map fun c => s.rd (F.ENG_DEMAND_P c)
  let gs := grants (s.rd F.ENG_PALLOW_P - s.rd F.ENG_PDEV_P) ds
  let s := (List.range 4).foldl (fun s c => s.wr (F.ENG_GRANT_P c) (gs.getD c 0)) s
  let short := (List.range 4).foldl (fun w c => w + b2n (decide (gs.getD c 0 < ds.getD c 0)) * 2 ^ c) 0
  let s := s.wr F.ENG_PLAN_SHORT short
  let s := (List.range 4).foldl (fun s n =>
    if s.flag (F.SAT_CH_CTRL_EN n) || s.bitF F.ENG_PLAN_ESSENTIAL n then s.wr (F.SAT_CH_SCALE_SCALE n) (s.chainScale n (gs.getD 3 0) (ds.getD 3 0)) else s) s
  let s := (List.range 4).foldl State.scaleSetpoint s
  let want := s.rd F.ENG_PDEV_P + ds.getD 0 0
  let have_ := s.app F.ENG_PFLOOR_PFLOOR
  if have_ < 50 * (max want have_ - min want have_) && !s.armed .energy then
    let s := s.wr F.ENG_PFLOOR_PFLOOR (satNat 20 want)
    if s.budgetFits then s.armNext .energy else s
  else s

/-- Every 100 ms while firmware runs, with PLAN 1 and ENG owned by the dictionary (R320). -/
def execPlannerRun (s : State) : Out :=
  .next (if s.firmwareUp && s.on .drv && s.flag F.ENG_CTRL_PLAN && !s.bitR R.SYS_BLKOWN 10 then s.periodic .planner (msec 100) State.planLight
    else s)

/-! ### Harness energy (R322–R326) -/

/-- Whether an output that stays below a level in mV for the comparator's filter trips the harness guard: below GUARD_VTH in STATE 3, below 1.0 V at 500 mA
or more in STATE 2 (R324). -/
def State.guardTrips (s : State) (n fbMv : Nat) : Bool :=
  let st := s.rd (F.BUCK_STAT_STATE n)
  (st == 3 && fbMv < 50 * s.rd F.ENG_HARN_GUARD_VTH) || (st == 2 && fbMv < 1000 && 500000 ≤ (s.buckN n).iApp)

/-- The comparator of the harness guard at Bn_FB, with the highest voltage during its filter. A trip stops the channel and opens its high-side
switch, which stays open until the channel may restart (R324), and ends a test of the path without a result (DESIGN CHOICE, notes/assumptions/49.md); in DARK
the stop line has acted (R335). -/
def execHarnessGuardTrip (fb : FbReading) (s : State) : Out :=
  let ch := fb.ch
  if 4 ≤ ch || !s.on .drv || !s.flag F.ENG_HARN_GUARD_EN then .next s
  else if s.guardTrips ch fb.mv then
    let s := (s.buckFault ch).modBuck ch fun b => { b with tripped := true }
    let s := { s with sw := { s.sw with test := s.sw.test.filter fun t => t.sw / 2 ≠ ch } }.setGate ch true false
    .next ((s.markBit F.ENG_HARNSTAT_GUARDED ch).raise (Src.HARNESS_GUARD ch))
  else if s.mode == .dark && fb.mv < 50 * s.rd F.ENG_HARN_GUARD_VTH then .next (s.markBit F.ENG_HARNSTAT_GUARDED ch)
  else .next s

/-- The discharge of a channel is over; its duration is kept. -/
def State.endDischarge (s : State) (ch t : Nat) : State :=
  ((s.modBuck ch BuckSt.noDisch).setBitF F.ENG_HARNSTAT_DISCH ch false).wrSat F.ENG_HARNSTAT_LAST_US (divRoundNat (s.now - t) (usec 1))

/-- A channel that was enabled again during its discharge starts when that is done (R307, R325). -/
def State.startWaiting (s : State) (ch : Nat) : State :=
  if s.flag (F.BUCK_CFG_EN ch) && s.rd (F.BUCK_STAT_STATE ch) = 0 && s.mode != .dark && !s.held 5 && !(s.buckN ch).stopped then s.buckOff ch 2 else s

/-- Bn_FB during a discharge: below 1.0 V the discharge ends (R325). -/
def execDischargeEnd (fb : FbReading) (s : State) : Out :=
  match (s.buckN fb.ch).disch with
  | some t => .next (if fb.ch < 4 && fb.mv < 1000 then (s.endDischarge fb.ch t).startWaiting fb.ch else s)
  | none => .next s

/-- A discharge not done after 200 µs stops, and the channel stays stopped until EN is cleared and set again (R325). -/
def execDischargeTimeout (ch : Nat) (s : State) : Out :=
  match (s.buckN ch).disch with
  | some t =>
    if 4 ≤ ch || !s.since t (usec 200) then .next s else
    let s := (s.endDischarge ch t).modBuck ch fun b => { b with stopped := true }
    .next ((s.markBit F.ENG_HARNSTAT_DISFAIL ch).raise (Src.DISCHARGE_FAIL ch))
  | none => .next s

/-! ### Thermal protection (R329–R333) -/

/-- Insertion into a rising list. -/
def insertSorted (x : Int) : List Int → List Int
  | [] => [x]
  | y :: ys => if x ≤ y then x :: y :: ys else y :: insertSorted x ys

/-- Twice the median of a list: the mean of the two middle elements when their number is even. -/
def median2 (l : List Int) : Int :=
  let m := l.foldl (fun acc x => insertSorted x acc) []
  let n := m.length
  if n % 2 = 1 then 2 * m.getD (n / 2) 0 else m.getD (n / 2 - 1) 0 + m.getD (n / 2) 0

/-- The factor F for an effective temperature in 1/16 °C (R329). -/
def derate (teff : Int) : Nat :=
  if teff ≤ 140 * 16 then 65536 else if 150 * 16 ≤ teff then 0 else (65536 * (150 * 16 - teff) / 160).toNat

/-- An NTC input by its voltage in µV: 2 open, 3 short, 1 valid (R66). -/
def ntcState (uv : Nat) : Nat := if 1220000 < senseUv uv then 2 else if senseUv uv < 30000 then 3 else 1

/-- The NTC inputs of a sample (R66, R329). An input that becomes open or shorted raises NTC_FAULT (R386). -/
def State.sampleNtc (s : State) (x : ThermMeas) : State :=
  (List.range 4).foldl (fun s k =>
    if !s.bitF F.THM_CTRL_NTC_EN k then s.wr (F.THM_NTC_STATE k) 0 else
    let uv := x.ntc.getD k 0
    let st := ntcState uv
    let old := s.rd (F.THM_NTC_STATE k)
    let s := s.wr (F.THM_NTC_STATE k) st
    if st = 1 then s.wrS (F.THM_NTC_TEMP k) (ntcTemp (s.rd F.THM_NTCPAR_B_K) (s.rd F.THM_NTCPAR_R25) uv)
    else s.raiseIf (old != st) (Src.NTC_FAULT k)) s

/-- The die sensors of a sample: one more than 10 K from the median is excluded (R329). -/
def State.sampleDie (s : State) (x : ThermMeas) : State :=
  let med := median2 x.die
  let bad := fun k => decide (320 < (2 * x.die.getD k 0 - med).natAbs)
  let s := (List.range 10).foldl (fun s k => (s.wrS (F.THM_DIE_TEMP k) (x.die.getD k 0)).wrB (F.THM_DIE_VALID k) (!bad k)) s
  let word := (List.range 10).foldl (fun w k => w + b2n (bad k) * 2 ^ k) 0
  let s := s.wr F.THM_SENSBAD_DIE word
  if word = 0 then s else (s.markBit F.THM_EVENTS_EV 5).raise Src.THERM_SENSOR

/-- The hottest valid die sensor: number and 1/16 °C. -/
def State.hottest (s : State) : Nat × Int :=
  ((List.range 10).filter fun k => s.flag (F.THM_DIE_VALID k)).foldl (fun (b : Nat × Int) k =>
    if b.2 < s.rdS (F.THM_DIE_TEMP k) then (k, s.rdS (F.THM_DIE_TEMP k)) else b) (0, -32768)

/-- The rise of T over the window in 0.1 K/s, from the newest sample that is at least WIN_MS old (R330). -/
def State.tempRate (s : State) (t : Int) : Int :=
  let win := s.rd F.THM_RATE_WIN_MS
  match s.thm.hist.find? fun p => p.1 + msec win ≤ s.now with
  | some p => divRound ((t - p.2) * 10 * 1000) (16 * win)
  | none => 0

/-- F for the new T_eff: forced to 0 in an orderly stop; a rise of at most 6,554 per second (R329, R332). -/
def State.nextFactor (s : State) (teff : Int) : Nat :=
  if s.thm.stop.isSome then 0 else
  let want := derate teff
  if want ≤ s.thm.f then want else
  match s.thm.fAt with
  | some t => min want (s.thm.f + 6554 * (s.now - t) / sec 1)
  | none => want

/-- A count of consecutive samples, up to 255. -/
def countUp (n : Nat) (b : Bool) : Nat := if b then min 255 (n + 1) else 0

/-- Entry into DARK for heat (R331–R333). -/
def State.thermDark (s : State) (cause : Nat) : State :=
  (s.wr F.THM_STAT_STATE 5).enterDark cause

/-- A warning of an NTC or of a tile records its cause, but not over the cause of a stop (R331). -/
def State.warnLevel (s : State) (cause : Nat) : State :=
  let s := (s.markBit F.THM_EVENTS_EV 0).raise Src.THERM_WARN
  if s.thm.stop.isSome || s.thm.inHusk || s.mode == .dark then s else s.wr F.THM_STAT_CAUSE cause

/-- An orderly stop begins in RUN, or DARK at once by the projection (R332); none begins once the lamp demand has ended (R335). -/
def State.orderlyStop (s : State) (cause : Nat) (t rate : Int) : State :=
  if s.mode != .run || s.thm.stop.isSome || s.pwr.beamEnding then s else
  let s := (s.markBit F.THM_EVENTS_EV 2).raise Src.THERM_STOP
  if 0 < rate && (160 * 16 - t) * 1000 * 10 < 60 * rate * 16 then (s.wr F.THM_STAT_CAUSE cause).thermDark 0x0C
  else
    let s := { s with thm := { s.thm with stop := some { since := s.now, cause := cause }, f := 0 } }
    ((s.wr F.THM_STAT_STATE 3).wr F.THM_STAT_CAUSE cause).wr F.ENG_FACTOR_F 0

/-- In HUSK after an orderly stop a level plus 5 K means that Husk is not held (R333). -/
def State.huskTooHot (s : State) : State :=
  if s.mode == .husk && s.thm.inHusk then
    ((s.markBit F.THM_EVENTS_EV 6).raise Src.THERM_HUSK).thermDark 0x0D
  else s

/-- The levels of one tile, counted over its STATUS records (R331, R333). -/
def State.tileLevels (s : State) (k : Nat) : State :=
  let t := s.rdS (F.THM_TILE_TEMP k)
  let stop : Int := 16 * s.rd F.THM_EXTLIM_TILE_STOP
  let c := s.thm.tileCnt.getD k (0, 0)
  let w := countUp c.1 (decide (16 * (s.rd F.THM_EXTLIM_TILE_WARN : Int) ≤ t))
  let st := countUp c.2 (decide (stop ≤ t))
  let h := countUp (s.thm.heldTile.getD k 0) (decide (stop + 80 ≤ t))
  let s := { s with thm := { s.thm with tileCnt := s.thm.tileCnt.set k (w, st), heldTile := s.thm.heldTile.set k h } }
  let s := if w = 3 then s.warnLevel 3 else s
  let s := if 3 ≤ st then s.orderlyStop 3 (s.rdS F.THM_HOT_TEMP) (s.rdS F.THM_HOT_RATE) else s
  if 3 ≤ h then s.huskTooHot else s

/-- The counts of the NTC levels at one sample (R331, R333). -/
def State.countNtc (s : State) : State :=
  (List.range 4).foldl (fun s k =>
    let ok := s.rd (F.THM_NTC_STATE k) == 1
    let v := s.rdS (F.THM_NTC_TEMP k)
    let stop : Int := 16 * s.rd F.THM_EXTLIM_NTC_STOP
    let c := s.thm.ntcCnt.getD k (0, 0)
    let w := countUp c.1 (ok && decide (16 * (s.rd F.THM_EXTLIM_NTC_WARN : Int) ≤ v))
    let st := countUp c.2 (ok && decide (stop ≤ v))
    let h := countUp (s.thm.heldNtc.getD k 0) (ok && decide (stop + 80 ≤ v))
    { s with thm := { s.thm with ntcCnt := s.thm.ntcCnt.set k (w, st), heldNtc := s.thm.heldNtc.set k h } }) s

/-- The counts of T and T_eff at one sample (R331, R333). -/
def State.countDie (s : State) (t teff : Int) : State :=
  let w := countUp s.thm.warnCnt (decide (135 * 16 ≤ t))
  let st := countUp s.thm.stopCnt (decide (150 * 16 ≤ teff))
  let h := countUp s.thm.heldT (decide (155 * 16 ≤ t))
  { s with thm := { s.thm with warnCnt := w, stopCnt := st, heldT := h } }

/-- The warnings of a sample, counted over three samples (R331). Sources raised in one cycle are recorded in ascending order
(R401), so a sample warns before it stops. -/
def State.warnSample (s : State) : State :=
  let s := if s.thm.warnCnt = 3 then (s.markBit F.THM_EVENTS_EV 0).raise Src.THERM_WARN else s
  (List.range 4).foldl (fun s k => if (s.thm.ntcCnt.getD k (0, 0)).1 = 3 then s.warnLevel 2 else s) s

/-- The orderly stops of a sample (R331). -/
def State.stopSample (s : State) (t rate : Int) : State :=
  let s := if 3 ≤ s.thm.stopCnt then s.orderlyStop (if t < 150 * 16 then 4 else 1) t rate else s
  (List.range 4).foldl (fun s k => if 3 ≤ (s.thm.ntcCnt.getD k (0, 0)).2 then s.orderlyStop 2 t rate else s) s

/-- Husk is not held at a stop level plus 5 K (R333). -/
def State.heldSample (s : State) : State :=
  if decide (3 ≤ s.thm.heldT) || s.thm.heldNtc.any fun h => decide (3 ≤ h) then s.huskTooHot else s

/-- During an orderly stop each later sample checks the projection again (R332). -/
def State.reproject (s : State) (t rate : Int) : State :=
  if s.thm.stop.isSome && 0 < rate && (160 * 16 - t) * 1000 * 10 < 60 * rate * 16 then s.thermDark 0x0C else s

/-- THM_STAT.STATE outside a stop: warning, derating or normal. -/
def State.showThermal (s : State) : State :=
  if 3 ≤ s.rd F.THM_STAT_STATE && (s.thm.stop.isSome || s.thm.inHusk || s.mode == .dark) then s
  else s.wr F.THM_STAT_STATE s.thermLevel

/-- A tile whose last STATUS is older than 15 ms has no valid temperature (R264, R298). -/
def State.ageTiles (s : State) : State :=
  (List.range 4).foldl (fun s k => if s.tileFresh k then s else s.wr (F.THM_TILE_VALID k) 0) s

/-- The record of a rate above its limit (R330). -/
def State.showRate (s : State) (high : Bool) : State :=
  let s := if high && !s.flag F.THM_STAT_RATEHI then (s.markBit F.THM_EVENTS_EV 4).raise Src.THERM_RATE else s
  s.wrB F.THM_STAT_RATEHI high

/-- T, the rate and T_eff in their registers (R330). -/
def State.showTemps (s : State) (hot : Nat) (t rate teff : Int) : State :=
  let s := (((s.wr F.THM_STAT_HOT hot).wrS F.THM_HOT_TEMP t).wrS F.THM_HOT_RATE rate).wrS F.THM_TEFF_TEFF teff
  { s with thm := { s.thm with hist := ((s.now, t) :: s.thm.hist).take 1024 } }

/-- The new factor F in its places (R329). -/
def State.takeFactor (s : State) (teff : Int) : State :=
  let f := s.nextFactor teff
  let s := { s with thm := { s.thm with f := f, fAt := some s.now } }
  let s := if s.on .drv then s.wr F.ENG_FACTOR_F f else s
  if f < 65536 then s.markBit F.THM_EVENTS_EV 1 else s

/-- Whether the sampler runs at 1 kHz (R329). -/
def State.fastSampling (s : State) : Bool :=
  (List.range 10).any (fun k => decide (123 * 16 ≤ s.rdS (F.THM_DIE_TEMP k)))
  || (List.range 4).any fun k => s.rd (F.THM_NTC_STATE k) == 1
    && decide (16 * (s.rd F.THM_EXTLIM_NTC_WARN : Int) - 192 ≤ s.rdS (F.THM_NTC_TEMP k))

/-- T_eff (R330). -/
def State.effTemp (s : State) (t rate : Int) (high : Bool) : Int :=
  if high then t + divRound (16 * rate * (s.rd F.THM_RATE_PROJ_MS : Int)) 10000 else t

/-- Everything a sample does once the sensors are read. -/
def State.thermalStep (s : State) (hot : Nat) (t rate : Int) : State :=
  let high := s.flag F.THM_CTRL_RATE_EN && decide ((s.rd F.THM_RATE_RATE_LIM : Int) < rate)
  let teff := s.effTemp t rate high
  let s := (s.showTemps hot t rate teff).takeFactor teff
  let s := s.wrB F.THM_STAT_FAST s.fastSampling
  let s := (((s.reproject t rate).countDie t teff).countNtc).warnSample
  (((s.showRate high).stopSample t rate).heldSample).showThermal

/-- One sample of the thermal monitor. -/
def State.thermalSample (s : State) (x : ThermMeas) : State :=
  let s := ((s.sampleNtc x).sampleDie x).ageTiles
  s.thermalStep s.hottest.1 s.hottest.2 (s.tempRate s.hottest.2)

/-- The time between samples: 1 ms at the fast rate, else 50 ms (R329). -/
def State.thermalPeriod (s : State) : Nat := msec (if s.fastSampling then 1 else 50)

/-- The thermal monitor samples at 20 Hz or at 1 kHz (R329–R333). -/
def execThermalSample (x : ThermMeas) (s : State) : Out :=
  .next (s.periodic .thermal s.thermalPeriod fun s => s.thermalSample x)

/-- A channel's IAVG is at or below the strapped reference plus 10 % (R332). -/
def State.handoffLow (s : State) (n : Nat) : Bool := 10 * s.rd (F.BUCK_MEAS0_IAVG n) ≤ 11 * strapRef s.pwr.strap

/-- The orderly stop hands over: RUN goes to HUSK when every running channel's current has fallen, or after 50 ms (R332). -/
def execOrderlyStopHandoff (s : State) : Out :=
  match s.thm.stop with
  | none => .next s
  | some st =>
    let low := (List.range 4).all fun n => s.rd (F.BUCK_STAT_STATE n) != 3 || s.handoffLow n
    if s.mode != .run || s.pwr.beamEnding then .next s.dropThermStop
    else if low || s.since st.since (msec 50) then
      let s := s.enterHusk 0x0B
      .next ({ s with thm := { s.thm with stop := none, inHusk := true } }.wr F.THM_STAT_STATE 4)
    else .next s

/-- A 160 °C comparator has tripped after its filter (R331): DARK from any mode that R77 lets in. -/
def execThermalTrip (sensor : Nat) (s : State) : Out :=
  if 10 ≤ sensor || s.mode == .dormant || s.mode == .dark then .next s else
  let s := ((s.wr F.THM_STAT_CAUSE 1).wr F.THM_STAT_HOT sensor).markBit F.THM_EVENTS_EV 3
  .next ((s.raise Src.THERM_TRIP).thermDark 0x0C)

end Sys2Proof.Machine
end

