-- ==== Sys2Proof/Machine/Codec.lean ====
section
/-!
DEFINITION. The Mersar line code: symbols and precoding (R247, R248), blocks and scrambling (R250–R252), block lock (R253, R254), the row (R255–R257),
commands and uplink records (R258, R261, R265).
-/

namespace Sys2Proof.Machine

/-! ### Symbols (R247, R248) -/

/-- The Gray index of a bit pair ab, given as 2a + b (R247). -/
def grayOf : Nat → Nat
  | 0 => 0 | 1 => 1 | 3 => 2 | _ => 3

/-- The bit pair of a Gray index. -/
def ofGray : Nat → Nat
  | 0 => 0 | 1 => 1 | 2 => 3 | _ => 2

/-- The level of an index: −3, −1, +1, +3 (R247, R248). -/
def pamLevel (y : Nat) : Int := 2 * (y : Int) - 3

/-- Precoding of a run of Gray indices after index y (R248). -/
def precode : Nat → List Nat → List Nat
  | _, [] => []
  | y, g :: gs => let n := (g + 4 - y % 4) % 4; n :: precode n gs

/-- What a receiver recovers from precoded indices after index y (R248). -/
def unprecode : Nat → List Nat → List Nat
  | _, [] => []
  | y, n :: ns => (n + y) % 4 :: unprecode n ns

/-! ### Blocks (R250–R254) -/

/-- A 66-bit block before scrambling: control or data, and its eight payload bytes (R250). -/
structure Block where
  control : Bool
  payload : List Byte
  deriving DecidableEq, Repr

/-- The block type, byte 0 of a control block (R250). -/
def Block.type (b : Block) : Nat := leAt b.payload 0 1

/-- The block is a control block of a type. -/
def Block.isType (b : Block) (t : Nat) : Bool := b.control && b.type = t

/-- The bits of a byte string, bit 0 of each byte first (R250). -/
def payloadBits (bs : List Byte) : List Bool := bs.flatMap fun b => (List.range 8).map fun i => b.getLsbD i

/-- The bytes of a run of bits, bit 0 first. -/
def bytesOfBits (bs : List Bool) : List Byte := (List.range (bs.length / 8)).map fun i => BitVec.ofNat 8 (ofBits ((bs.drop (8 * i)).take 8))

/-- The sync header as the pair ab of R247: 01 for data, 10 for control (R250). -/
def Block.header (b : Block) : Nat := if b.control then 2 else 1

/-- The register of a scrambler or a descrambler after line bits: the last 58 of them, newest first (R251). -/
def pushBits (reg bits : List Bool) : List Bool := (bits.reverse ++ reg).take 58

/-- The scrambler of R251 over payload bits: the register holds the last 58 line bits, newest first. -/
def scramble : List Bool → List Bool → List Bool
  | _, [] => []
  | reg, d :: ds =>
    let x := d != (reg.getD 38 false != reg.getD 57 false)
    x :: scramble ((x :: reg).take 58) ds

/-- The descrambler of R251. -/
def descramble : List Bool → List Bool → List Bool
  | _, [] => []
  | reg, x :: xs => (x != (reg.getD 38 false != reg.getD 57 false)) :: descramble ((x :: reg).take 58) xs

/-- The bit pairs of a run of bits as Gray indices (R247). -/
def symbolsOf : List Bool → List Nat
  | b :: a :: rest => grayOf (2 * b2n a + b2n b) :: symbolsOf rest
  | _ => []

/-- The bits of a run of Gray indices (R247). -/
def bitsOfSymbols (gs : List Nat) : List Bool := gs.flatMap fun g => [bitAt (ofGray g) 0, bitAt (ofGray g) 1]

/-- The 33 Gray indices of a block on the line: the header, then payload bits 0 to 63 (R250). -/
def LineBlock.symbols (b : LineBlock) : List Nat := grayOf b.header :: symbolsOf (payloadBits b.payload)

/-- The block that 33 Gray indices carry (R250). -/
def lineBlockOf (gs : List Nat) : LineBlock :=
  { header := ofGray (gs.getD 0 0), payload := bytesOfBits (bitsOfSymbols (gs.drop 1)) }

/-- A run of Gray indices cut into blocks of 33 symbols (R250). -/
def lineBlocksOf (gs : List Nat) : List LineBlock := (List.range (gs.length / 33)).map fun i => lineBlockOf ((gs.drop (33 * i)).take 33)

/-- A comma block (R252). -/
def commaBlock : Block := ⟨true, [0xC5, 0x0F, 0xF0, 0x0F, 0xF0, 0x0F, 0xF0, 0x3A].map (BitVec.ofNat 8)⟩

/-- An idle block (R252). -/
def idleBlock : Block := ⟨true, 0x1E#8 :: List.replicate 7 0#8⟩

/-- An alignment marker of a lane with its BIP (R252, R254). -/
def amBlock (lane bip : Nat) : Block :=
  ⟨true, [0xA5, lane, 255 - lane % 256, bip, 255 - bip % 256, 0x5A, 0x3C, 0xC3].map (BitVec.ofNat 8)⟩

/-- A block bypasses the scrambler: comma blocks and alignment markers (R251). -/
def Block.bypasses (b : Block) : Bool := b == commaBlock || (b.isType 0xA5 && b.payload.drop 5 == [0x5A#8, 0x3C#8, 0xC3#8])

/-- A block as it stands on the line behind a scrambler register, and the register after it (R251). -/
def Block.scrambled (b : Block) (reg : List Bool) : LineBlock × List Bool :=
  let d := payloadBits b.payload
  let x := if b.bypasses then d else scramble reg d
  ({ header := b.header, payload := bytesOfBits x }, pushBits reg x)

/-- Blocks as they stand on the line. -/
def scrambledAll : List Bool → List Block → List LineBlock
  | _, [] => []
  | reg, b :: bs => (b.scrambled reg).1 :: scrambledAll (b.scrambled reg).2 bs

/-- The control block types (R252). -/
def blockTypes : List Nat := [0x1E, 0xC5, 0xA5, 0x2D, 0x4B, 0x55, 0x33, 0x66]

/-- A received block: none for an invalid header and for a control block of another type, which are header errors (R250–R252). -/
def LineBlock.received (b : LineBlock) (reg : List Bool) : Option Block × List Bool :=
  let x := payloadBits b.payload
  let plain : Block := ⟨true, b.payload⟩
  let got : Block := if b.header = 2 && plain.bypasses then plain else ⟨b.header = 2, bytesOfBits (descramble reg x)⟩
  let ok := b.header = 1 || (b.header = 2 && blockTypes.contains got.type)
  (if ok then some got else none, pushBits reg x)

/-- The blocks of a line in order, from a descrambler register. -/
def receivedAll : List Bool → List LineBlock → List (Option Block)
  | _, [] => []
  | reg, b :: bs => (b.received reg).1 :: receivedAll (b.received reg).2 bs

/-- The descrambler register after a line. -/
def receiverAfter (reg : List Bool) (line : List LineBlock) : List Bool := line.foldl (fun r b => (b.received r).2) reg

/-- The header errors among received blocks (R252). -/
def headerErrors (bs : List (Option Block)) : Nat := (bs.filter Option.isNone).length

/-- Block lock in single-lane operation: four COMMAs at the boundary (R253). -/
def commaLocked (bs : List (Option Block)) : Bool := 4 ≤ (bs.filter fun b => b == some commaBlock).length

/-- Block lock is lost: 16 of some 64 consecutive blocks carry an invalid header (R253). -/
def lockLost (bad : List Bool) : Bool := (List.range bad.length).any fun i => 16 ≤ (((bad.drop i).take 64).filter id).length

/-- The idle blocks until a receiver is block-locked: four COMMAs, one in every 32 blocks (R253), or on a bonded lane two AMs that are 4,096 blocks
apart (R254). -/
def lockBlocks (bonded : Bool) : Nat := if bonded then 2 * 4096 else 4 * 32

/-- A stretch of n blocks without rows or records in single-lane framing: IDLE, and a COMMA at least every 32 blocks (R253). -/
def idleStretch (n : Nat) : List Block := (List.range n).map fun i => if i % 32 = 31 then commaBlock else idleBlock

/-- The BIP of a lane's payload bytes since its previous marker (R254). -/
def bipOf (bs : List Byte) : Byte := bs.foldl (fun x b => x ^^^ b) 0#8

/-- A CMD block (R258). -/
def cmdBlock (opcode tag len arg : Nat) : Block := ⟨true, [0x33#8, BitVec.ofNat 8 opcode, BitVec.ofNat 8 tag, BitVec.ofNat 8 (len % 8)] ++ leBytes 4 arg⟩

/-- A command: the CMD block and its data blocks (R258). -/
def cmdBlocks (opcode tag arg : Nat) (data : List Byte) : List Block :=
  cmdBlock opcode tag (data.length / 8) arg :: (List.range (data.length / 8)).map fun j => ⟨false, (data.drop (8 * j)).take 8⟩

/-- A downlink TRAIN block (R265). -/
def trainBlock (state bond precode lane : Nat) : Block :=
  ⟨true, [0x2D, state, bond % 2 + 2 * (precode % 2), lane, 0, 0, 0, 0].map (BitVec.ofNat 8)⟩

/-- A CRC block (R252). -/
def crcBlock (crc : Nat) : Block := ⟨true, 0x55#8 :: (leBytes 2 crc ++ List.replicate 5 0#8)⟩

/-! ### A row (R255–R257) -/

/-- The payload of ROW_HEAD (R255). -/
def rowHead (row width dest refresh frame band last : Nat) : List Byte :=
  let w := row % 512 + 512 * (width % 2) + 1024 * (dest % 2)
  let bs := 0x4B#8 :: (leBytes 2 w ++ leBytes 1 refresh ++ leBytes 2 frame ++ leBytes 1 (band % 16 + 16 * (last % 2)))
  bs ++ [bipOf bs]

/-- The stream bytes of a row's codes: code x starts at stream bit w × x (R256); w is 12 or 16. DESIGN CHOICE
(notes/assumptions/49.md): a code counts modulo 2^w. -/
def packCodes (w : Nat) : List Nat → List Byte
  | a :: b :: rest => leBytes (w / 4) (a % 2 ^ w + 2 ^ w * (b % 2 ^ w)) ++ packCodes w rest
  | [a] => leBytes 2 (a % 2 ^ w)
  | [] => []

/-- The CRC-16 of a row over its head and its data blocks (R257). -/
def rowCrc (head : List Byte) (w : Nat) (codes : List Nat) : Nat := crc16 (head ++ packCodes w codes)

/-- The blocks of a row in order (R255). -/
def rowBlocks (head : List Byte) (w : Nat) (codes : List Nat) : List Block :=
  let data := packCodes w codes
  { control := true, payload := head }
    :: ((List.range (data.length / 8)).map fun j => { control := false, payload := (data.drop (8 * j)).take 8 })
    ++ [crcBlock (rowCrc head w codes)]

/-- Block n of the stream of a bonded port goes to lane n mod 2, ROW_HEAD to DN0 (R254); the pixel belongs to the lane that carries
its bit 0 (R275). -/
def pixelLane (w x : Nat) : Nat := (w * x / 64 + 1) % 2

/-- A row as a receiver decodes it (R255–R257, R275): tile row, code width, the codes, and whether its CRC-16 is right. -/
structure SeenRow where
  row : Nat
  width : Nat
  codes : List Nat
  good : Bool
  deriving DecidableEq, Repr

/-- The codes of a row's data bytes (R256). -/
def unpackCodes (w : Nat) (data : List Byte) : List Nat := (List.range 1024).map fun x => ofLeBytes data / 2 ^ (w * x) % 2 ^ w

/-- The row in a run of received blocks, from its ROW_HEAD to its CRC block; none where a block of it is not decoded or HCHK is wrong (R264, R275). -/
def seenRow (bs : List (Option Block)) : Option SeenRow :=
  match bs.dropWhile fun b => match b with | some b => !b.isType 0x4B | none => true with
  | some head :: rest =>
    let w := if bitAt (leAt head.payload 1 2) 9 then 16 else 12
    let n := 16 * w
    let data := rest.take n
    match rest[n]? with
    | some (some c) =>
      if bipOf (head.payload.take 7) = head.payload.getD 7 0#8 && c.isType 0x55 && data.all fun b => match b with | some b => !b.control | none => false then
        let bytes := data.flatMap fun b => match b with | some b => b.payload | none => []
        some { row := leAt head.payload 1 2 % 512, width := w, codes := unpackCodes w bytes
               good := crc16 (head.payload ++ bytes) = leAt c.payload 1 2 }
      else none
    | _ => none
  | _ => none

/-! ### Uplink (R261, R265) -/

/-- An uplink record as received (R261): KIND, TAG, STATUS, INFO, its data bytes, and whether its CRC and its length are right. -/
structure UpRecord where
  kind : Nat
  tag : Nat
  status : Nat
  info : Nat
  data : List Byte
  good : Bool
  deriving DecidableEq, Repr

/-- The data blocks that a kind of record has (R261); a kind that the table does not give has none that is right. -/
def upLens : Nat → List Nat
  | 1 => [8] | 2 => [2] | 3 => [4] | 4 => [0, 1] | 5 => [3] | 6 => [0] | _ => []

/-- The first record in a run of received blocks (R261). DESIGN CHOICE (notes/assumptions/53.md): LEN [2:0] carries the number of data blocks modulo 8, so that
the 8 blocks of a ROWECHO travel as 0. -/
def upRecord (bs : List (Option Block)) : Option UpRecord :=
  match bs.dropWhile fun b => match b with | some b => !b.isType 0x66 | none => true with
  | some head :: rest =>
    let p := head.payload
    let data := (rest.takeWhile fun b => match b with | some b => !b.control | none => false).flatMap fun b =>
      match b with | some b => b.payload | none => []
    let n := data.length / 8
    let crcOk := match rest[n]? with
      | some (some c) => c.isType 0x55 && leAt c.payload 1 2 = crc16 (p ++ data)
      | _ => false
    some { kind := leAt p 1 1, tag := leAt p 2 1, status := leAt p 3 1 / 16, info := leAt p 4 4, data := data
           good := crcOk && leAt p 3 1 % 8 = n % 8 && (upLens (leAt p 1 1)).contains n }
  | _ => none

/-- The blocks of an uplink record as a tile sends them (R261). -/
def upBlocks (kind tag status info : Nat) (data : List Byte) : List Block :=
  let n := data.length / 8
  let head : List Byte := [0x66#8, BitVec.ofNat 8 kind, BitVec.ofNat 8 tag, BitVec.ofNat 8 (n % 8 + 16 * (status % 16))] ++ leBytes 4 info
  ⟨true, head⟩ :: ((List.range n).map fun j => (⟨false, (data.drop (8 * j)).take 8⟩ : Block)) ++ [crcBlock (crc16 (head ++ data))]

/-- A ROWECHO record (R261). -/
def UpRecord.echo (r : UpRecord) : EchoRec :=
  { band := r.tag % 16, refresh := r.tag / 16, rowOk := r.info, crcs := (List.range 32).map fun i => leAt r.data (2 * i) 2 }

/-- A STATUS record (R261). -/
def UpRecord.statusRec (r : UpRecord) : StatusRec :=
  { huskShown := bitAt r.info 0, dn0 := bitAt r.info 1, dn1 := bitAt r.info 2, bonded := bitAt r.info 3, precode := bitAt r.info 4
    huskN := bitAt r.info 5, temp := toSigned 16 (leAt r.data 0 2), vanode := leAt r.data 2 2, err0 := leAt r.data 4 2, err1 := leAt r.data 6 2
    discarded := leAt r.data 8 2 }

/-- An IDENT record (R261). -/
def UpRecord.ident (r : UpRecord) : IdentRec :=
  { part := leAt r.data 0 2, rev := leAt r.data 2 1, caps := leAt r.data 3 1, serial := leAt r.data 8 8, husk := leAt r.data 16 4 }

/-- The forward voltages of a CHAR record (R261). -/
def UpRecord.voltages (r : UpRecord) : List Nat := (List.range 16).map fun i => leAt r.data (2 * i) 2

/-- The uplink TRAIN blocks among received blocks (R265). -/
def upTrains (bs : List (Option Block)) : List TrainBlock :=
  bs.filterMap fun b => match b with
    | some b => if b.isType 0x2D then
        let f := leAt b.payload 2 1
        some { state := leAt b.payload 1 1, dn0 := bitAt f 0, dn1 := bitAt f 1, deskewed := bitAt f 2, accepted := bitAt f 3 }
      else none
    | none => none

end Sys2Proof.Machine
end

