-- ==== Sys2Proof/Machine/Video.lean ====
section
/-!
DEFINITION. Video and object-list input: raw video streams, the object-list parser, gPTP time and the IMU port (R116–R140).
-/

namespace Sys2Proof.Machine

/-! ### Raw video streams (R119–R125) -/

/-- One stream's hidden state. -/
def State.stream (s : State) (n : Nat) : StreamSt := s.vin.streams.getD n {}

def State.modStream (s : State) (n : Nat) (f : StreamSt → StreamSt) : State :=
  { s with vin := { s.vin with streams := s.vin.streams.modify n f } }

/-- A MAC is on. -/
def State.macOn (s : State) (n : Nat) : Bool := n < 2 && s.on .net && s.bitR R.NET_CTRL n

/-- A MAC address as a number, octet 0 lowest. -/
def State.macAddr (s : State) (n : Nat) : Nat := s.regN (R.NET_MAC_LO n) + 2 ^ 32 * s.rd (F.NET_MAC_HI_OCT4_5 n)

/-- 01-80-C2-00-00-0E and the broadcast address, octet 0 lowest. -/
def gptpAddr : Nat := 0x0E0000C28001
def broadcastAddr : Nat := 0xFFFFFFFFFFFF

/-- An enabled multicast address (R403). -/
def State.mcast (s : State) (dst : Nat) : Bool :=
  (List.range 4).any fun k => s.flag (F.NET_MCAST_HI_EN k) && dst == s.regN (R.NET_MCAST_LO k) + 2 ^ 32 * s.rd (F.NET_MCAST_HI_OCT4_5 k)

/-- The lowest-numbered FREE buffer (R122). -/
def State.freeBuf (s : State) (n : Nat) : Option Nat := (List.range 4).find? fun k => s.bufState n k == 0

/-- An AVTP timestamp comes round after 2^32 ns. -/
def ptimeTurn : Nat := 2 ^ 32 * 3 / 5

/-- A frame is over without having become READY: its packets are late from now on (R124), until its timestamp comes round again
(notes/assumptions/38.md). -/
def State.forget (s : State) (n : Nat) (f : FillFrame) : State :=
  s.modStream n fun x => { x with fill := none, gone := (f.ptime, s.now) :: x.gone.filter fun g => s.now < g.2 + ptimeTurn }

/-- The frame that is FILLING is discarded (R124). -/
def State.discardFill (s : State) (n why : Nat) : State :=
  match (s.stream n).fill with
  | none => s
  | some f =>
    let s := match f.buf with
      | some k => s.setBuf n k 0
      | none => s
    ((s.forget n f).bump (F.VIN_STR_CNT0_DISCARD n)).wr (F.VIN_STR_STAT_LASTDISC n) why

/-- The applied fields of a stream (R125). -/
def State.strWidth (s : State) (n : Nat) : Nat := s.app (F.VIN_STR_SIZE_WIDTH n)
def State.strHeight (s : State) (n : Nat) : Nat := s.app (F.VIN_STR_SIZE_HEIGHT n)
def State.strFmt (s : State) (n : Nat) : Nat := s.app (F.VIN_STR_CFG_FORMAT n)
def State.strId (s : State) (n : Nat) : Nat := s.app (F.VIN_STR_IDLO_ID n) + 2 ^ 32 * s.app (F.VIN_STR_IDHI_ID n)
def State.strLine (s : State) (n : Nat) : Nat := lineSize (s.strWidth n) (s.strFmt n)

/-- The stream group takes effect: READY buffers of the old configuration are free again (R125). DESIGN CHOICE (notes/assumptions/49.md): a complete frame of
the old set whose last write is not acknowledged yet becomes READY under the new one. -/
def State.applyStream (s : State) (n : Nat) : State :=
  if s.appliesNow (.stream n) then
    let s := (List.range 4).foldl (fun s k => if s.bufState n k = 2 then s.setBuf n k 0 else s) s
    (s.applyGroup (.stream n)).showReady n
  else s

/-- The enabled stream of a stream_id. -/
def State.streamOf (s : State) (id : Nat) : Option Nat :=
  (List.range 8).find? fun n => s.app (F.VIN_STR_CFG_EN n) = 1 && s.strId n = id

/-- A packet lies in the subset of R119 for its stream, with whole lines that stay below HEIGHT (R124). -/
def State.rvfFits (s : State) (n : Nat) (p : RvfPacket) : Bool :=
  let macs := s.app (F.VIN_STR_CFG_MAC n)
  let line := s.strLine n
  p.version == 0 && p.sv && p.tv && p.progressive && (macs == 2 || macs == p.mac)
  && p.width == s.strWidth n && p.height == s.strHeight n && p.depth == bppOf (s.strFmt n)
  && line != 0 && p.payload.length % line == 0 && p.payload.length / line != 0
  && p.firstLine + p.payload.length / line ≤ s.strHeight n

/-- The lines that a packet carries. -/
def State.rvfLines (s : State) (n : Nat) (p : RvfPacket) : List Nat :=
  (List.range (p.payload.length / s.strLine n)).map fun i => p.firstLine + i

/-- A packet belongs to a frame that is complete and waits for its last acknowledgement: each of its lines is written (R121, R124). -/
def State.rvfWhole (s : State) (n : Nat) (p : RvfPacket) : Bool := (s.stream n).acks.any fun a => a.2 == p.ptime

/-- A packet belongs to a frame that is already READY, CLAIMED or discarded (R124). DESIGN CHOICE (notes/assumptions/49.md): a frame whose READY or
CLAIMED buffer has been freed since is none of these, and a packet of it begins a new frame. -/
def State.rvfLate (s : State) (n : Nat) (p : RvfPacket) : Bool :=
  let st := s.stream n
  st.gone.any (fun g => g.1 == p.ptime && decide (s.now < g.2 + ptimeTurn))
  || (List.range 4).any fun k => 2 ≤ s.bufState n k && st.ptimes.getD k none == some p.ptime

/-- The address of a line in a buffer (R120). -/
def State.lineAddr (s : State) (n k line : Nat) : Nat :=
  64 * s.app (F.VIN_STR_BUF_ADDR n k) + line * 64 * s.app (F.VIN_STR_CFG_PITCH n)

/-- The address of a line of the frame that a buffer holds, which it keeps when the stream is configured anew (R125, R166). -/
def State.heldLine (s : State) (n k line : Nat) : Nat :=
  let p := (s.stream n).places.getD k (0, 0)
  p.1 + line * p.2

/-- The first packet of a new frame: the group's application point (R125), then the lowest FREE buffer (R122). -/
def State.beginFrame (s : State) (n : Nat) (p : RvfPacket) : State :=
  let s := s.applyStream n
  let buf := s.freeBuf n
  let fr : FillFrame := { ptime := p.ptime, since := s.now, buf := buf }
  let s := s.modStream n fun x => { x with fill := some fr }
  match buf with
  | some k =>
    let place := (64 * s.app (F.VIN_STR_BUF_ADDR n k), 64 * s.app (F.VIN_STR_CFG_PITCH n))
    (s.modStream n fun x => { x with places := x.places.set k place }).setBuf n k 1
  | none => (s.bump (F.VIN_STR_CNT0_DISCARD n)).wr (F.VIN_STR_STAT_LASTDISC n) 3

/-- The lines of a packet go into the buffer being filled (R120, R121). -/
def State.takeLines (s : State) (n k : Nat) (f : FillFrame) (p : RvfPacket) : State :=
  let size := s.strLine n
  let s := (s.rvfLines n p).foldl (fun s l =>
    s.setBytes (s.lineAddr n k l) ((p.payload.drop (size * (l - p.firstLine))).take size)) s
  let lines := f.lines ++ s.rvfLines n p
  let whole := (List.range (s.strHeight n)).all fun l => lines.contains l
  if !p.endOfFrame then s.modStream n fun x => { x with fill := some { f with lines := lines } }
  else if whole then s.modStream n fun x => { x with fill := none, acks := x.acks ++ [(k, f.ptime)] }
  else (s.modStream n fun x => { x with fill := some { f with lines := lines } }).discardFill n 1

/-- A packet of the frame in progress (R124). -/
def State.fillPacket (s : State) (n : Nat) (p : RvfPacket) : State :=
  match (s.stream n).fill with
  | none => s
  | some f =>
    match f.buf with
    | none => if p.endOfFrame then s.forget n f else s
    | some k =>
      if (s.rvfLines n p).any f.lines.contains then s.bump (F.VIN_STR_CNT1_DUPL n)
      else s.takeLines n k f p

/-- A gap in the AVTP sequence_num is counted only (R124). -/
def State.noteSeq (s : State) (n : Nat) (p : RvfPacket) : State :=
  let gap := match (s.stream n).seq with
    | some q => p.seqNum % 256 != (q + 1) % 256
    | none => false
  let s := s.modStream n fun x => { x with seq := some (p.seqNum % 256) }
  if gap then s.bump (F.VIN_STR_CNT1_SEQGAP n) else s

/-- The frame in progress gives way to a new one (R124): discarded, or, where it had no buffer, only forgotten. -/
def State.cutFill (s : State) (n : Nat) : State :=
  match (s.stream n).fill with
  | some f => if f.buf.isSome then s.discardFill n 1 else s.forget n f
  | none => s

/-- A packet is of the frame in progress. -/
def State.rvfSame (s : State) (n : Nat) (p : RvfPacket) : Bool := (s.stream n).fill.any fun f => f.ptime == p.ptime

/-- A packet of a known stream (R121, R124). The first packet of a new frame is judged by the set that its arrival applies (R125). DESIGN CHOICE
(notes/assumptions/49.md): one that this set disables or gives another stream_id is dropped as unknown, and the frame being filled is over. -/
def State.rvfKnown (s : State) (n : Nat) (p : RvfPacket) : State :=
  let s := s.noteSeq n p
  if s.rvfSame n p || s.rvfWhole n p || s.rvfLate n p then
    if !s.rvfFits n p then s.bump (F.VIN_STR_CNT1_MALFORMED n)
    else if s.rvfSame n p then s.fillPacket n p
    else if s.rvfWhole n p then s.bump (F.VIN_STR_CNT1_DUPL n)
    else s.bump (F.VIN_STR_CNT1_LATE n)
  else if (s.applyStream n).streamOf p.streamId ≠ some n then ((s.cutFill n).applyStream n).bump F.VIN_DROP_UNKNOWN
  else if !(s.applyStream n).rvfFits n p then s.bump (F.VIN_STR_CNT1_MALFORMED n)
  else ((s.cutFill n).beginFrame n p).fillPacket n p

/-- The address filter lets a frame of AVTP raw video in (R403). -/
def State.rvfAccepts (s : State) (p : RvfPacket) : Bool :=
  s.macOn p.mac && s.macAddr p.mac ≠ 0 && (p.dst == s.macAddr p.mac || p.dst == gptpAddr || s.mcast p.dst)

/-- An RVF packet arrives (R119–R124, R403). DESIGN CHOICE (notes/assumptions/49.md): a MAC that does not accept RVF drops it without any count. -/
def execRvfPacket (p : RvfPacket) (s : State) : Out :=
  if !s.on .vin || 2 ≤ p.mac || !s.rvfAccepts p || !s.bitR R.VIN_CTRL p.mac then .next s else
  match s.streamOf p.streamId with
  | none => .next (s.bump F.VIN_DROP_UNKNOWN)
  | some n => .next (s.rvfKnown n p)

/-- A complete frame becomes READY once its last DRAM write is acknowledged, and an older READY buffer is freed (R121, R122). -/
def execRvfFrameReady (n : Nat) (s : State) : Out :=
  if 8 ≤ n || !s.on .vin then .next s else
  match (s.stream n).acks with
  | [] => .next s
  | (k, t) :: rest =>
    let s := (List.range 4).foldl (fun s j => if s.bufState n j = 2 then s.setBuf n j 0 else s) s
    let s := (s.modStream n fun x => { x with acks := rest, ptimes := x.ptimes.set k (some t) }).setBuf n k 2
    let s := ((s.wr (F.VIN_STR_STAT_NEWEST n) k).wr (F.VIN_STR_PTIME_PTIME n) t).bump (F.VIN_STR_CNT0_FRAMES n)
    .next (s.showReady n)

/-- A frame still FILLING TIMEOUT ms after its first packet is discarded (R124). -/
def execRvfFrameTimeout (n : Nat) (s : State) : Out :=
  match (s.stream n).fill with
  | some f =>
    .next (if n < 8 && f.buf.isSome && s.since f.since (msec (s.app (F.VIN_STR_CFG_TIMEOUT n))) then s.discardFill n 2 else s)
  | none => .next s

/-- The byte range of a buffer of the staged set. -/
def State.stagedBuf (s : State) (n k : Nat) : Nat × Nat :=
  let a := 64 * s.rd (F.VIN_STR_BUF_ADDR n k)
  (a, a + 64 * s.rd (F.VIN_STR_CFG_PITCH n) * s.rd (F.VIN_STR_SIZE_HEIGHT n))

/-- The byte range of a buffer in force. -/
def State.appliedBuf (s : State) (n k : Nat) : Nat × Nat :=
  let a := 64 * s.app (F.VIN_STR_BUF_ADDR n k)
  (a, a + 64 * s.app (F.VIN_STR_CFG_PITCH n) * s.strHeight n)

/-- Two byte ranges share a byte. -/
def overlaps (a b : Nat × Nat) : Bool := a.1 < b.2 && b.1 < a.2

/-- A range lies in the part of DRAM that is not reserved to the device (R125, R143). -/
def inUserDram (a : Nat × Nat) : Bool := 0x81000000 ≤ a.1 && a.2 ≤ 0x90000000

/-- The check of the staged stream group at its arm: 0 passes, else the code of VIN_STRn_STAT.CHECK (R125). DESIGN CHOICE
(notes/assumptions/49.md): the overlap of two of its own buffers refuses it whatever its own EN says. -/
def State.streamCheck (s : State) (n : Nat) : Nat :=
  let w := s.rd (F.VIN_STR_SIZE_WIDTH n)
  let h := s.rd (F.VIN_STR_SIZE_HEIGHT n)
  let others := (List.range 8).filter fun m => m != n && s.app (F.VIN_STR_CFG_EN m) = 1
  let bufs := (List.range 4).map (s.stagedBuf n)
  if w = 0 || 2048 < w || h = 0 || 1024 < h || s.rd (F.VIN_STR_CFG_TIMEOUT n) = 0 then 1
  else if 64 * s.rd (F.VIN_STR_CFG_PITCH n) < lineSize w (s.rd (F.VIN_STR_CFG_FORMAT n)) then 2
  else if !(bufs.all inUserDram) then 3
  else if (List.range 4).any (fun i => (List.range 4).any fun j => i < j && overlaps (s.stagedBuf n i) (s.stagedBuf n j))
    || others.any (fun m => (List.range 4).any fun j => bufs.any fun b => overlaps b (s.appliedBuf m j)) then 4
  else if others.any (fun m => s.strId m == s.rd (F.VIN_STR_IDLO_ID n) + 2 ^ 32 * s.rd (F.VIN_STR_IDHI_ID n))
    then 5
  else if s.rd (F.VIN_STR_CFG_MAC n) = 3 then 6
  else 0

/-! ### Object lists (R126–R131) -/

/-- A list is rejected with a cause (R129). -/
def State.rejectList (s : State) (cause : Nat) : State := (s.bump F.VIN_OLCNT_REJECTED).wr F.VIN_OLSTAT_CAUSE cause

/-- A list arrives for the parser; one that waited is replaced (R131). -/
def State.listArrives (s : State) (ip : Nat) (envOk copy : Bool) (data : List Byte) : State :=
  let x : OlArrived := { ip := ip, envOk := envOk, copy := copy, data := data, at_ := s.localTime }
  match s.vin.checking, s.vin.waiting with
  | none, _ => { s with vin := { s.vin with checking := some x } }
  | some _, none => { s with vin := { s.vin with waiting := some x } }
  | some _, some _ => { s with vin := { s.vin with waiting := some x } }.rejectList 10

/-- A datagram whose envelope fails, while ENV is 1: the list in it is rejected after the time check (R129). -/
def State.listUnproved (s : State) : State :=
  let st := s.rd F.VIN_TIMESTAT_STATE
  if s.on .vin && s.flag F.VIN_CTRL_OL_EN && s.flag F.VIN_OLCFG_ENV then s.rejectList (if st = 1 || st = 2 then 9 else 8) else s

/-- An object record (R128) with its angles and rates converted (R132). -/
def objAt (bs : List Byte) (tMeas i : Nat) : ObjRec :=
  let b := 16 + 20 * i
  let i16 := fun off => toSigned 16 (leAt bs (b + off) 2)
  let qual := leAt bs (b + 3) 1
  { id := leAt bs b 2, cls := leAt bs (b + 2) 1, conf := qual % 16
    dist := if bitAt qual 4 then some (leAt bs (b + 16) 2) else none
    azL := i16 4, azR := i16 6, elT := i16 8, elB := i16 10, rateAz := 10 * i16 12, rateEl := 10 * i16 14
    t := (tMeas : Int) + 1000 * i16 18 }

/-- An object that the parser keeps (R130), but for the repeat of an ID. -/
def objGood (o : ObjRec) : Bool := o.id != 0xFFFF && o.cls ≤ 6 && o.azL ≤ o.azR && o.elB ≤ o.elT

/-- The records of a list in order: those kept, and how many were discarded; an ID that repeats an earlier record goes (R130). -/
def keepObjects (all : List ObjRec) : List ObjRec × Nat :=
  let r := all.foldl (fun (acc : List ObjRec × List Nat × Nat) o =>
    if objGood o && !acc.2.1.contains o.id then (acc.1 ++ [o], o.id :: acc.2.1, acc.2.2)
    else (acc.1, o.id :: acc.2.1, acc.2.2 + 1)) ([], [], 0)
  (r.1, r.2.2)

/-- d of R129: how far a SEQ lies ahead of the last accepted one; 0 while none is kept. -/
def State.seqAhead (s : State) (seq : Nat) : Nat :=
  match s.vin.lastSeq with
  | some q => (seq + 65536 - q) % 65536
  | none => 0

/-- The first failed check of a list in the order of R129, or 0. -/
def State.listCheck (s : State) (x : OlArrived) : Nat :=
  let bs := x.data
  let len := bs.length
  let tMeas := leAt bs 8 8
  let d := s.seqAhead (leAt bs 6 2)
  let st := s.rd F.VIN_TIMESTAT_STATE
  if st != 1 && st != 2 then 8
  else if s.flag F.VIN_OLCFG_ENV && !x.envOk then 9
  else if len < 20 then 2
  else if (s.rd F.VIN_OLIP_IP != 0 && s.rd F.VIN_OLIP_IP != x.ip) || leAt bs 4 2 != s.rd F.VIN_OLSRC_SOURCE then 1
  else if leAt bs 0 2 != 0x4F4C || leAt bs 2 1 != 1 || 64 < leAt bs 3 1 || len != 20 + 20 * leAt bs 3 1 then 2
  else if crc32 (bs.take (len - 4)) != leAt bs (len - 4) 4 then 3
  else if x.copy || (!s.vin.skip && d = 0) then 4
  else if !s.vin.skip && (0x8000 ≤ d || (match s.vin.lastMeas with | some t => tMeas ≤ t | none => false)) then 5
  else if s.localTime + 1000000 < tMeas then 7
  else if tMeas + 1000000 * s.rd F.VIN_OLCFG_MAXAGE < x.at_ then 6
  else 0

/-- A list is accepted: counters, the last SEQ and T_MEAS, the kept objects on their way to GME (R129, R130, R132). -/
def State.acceptList (s : State) (x : OlArrived) : State :=
  let bs := x.data
  let seq := leAt bs 6 2
  let tMeas := leAt bs 8 8
  let d := s.seqAhead seq
  let (objs, dropped) := keepObjects ((List.range (leAt bs 3 1)).map (objAt bs tMeas))
  let s := if 1 < d then s.bumpBy F.VIN_OLCNT2_SEQGAP (d - 1) else s
  let s := (s.bump F.VIN_OLCNT_ACCEPTED).bumpBy F.VIN_OLCNT2_OBJDROP dropped
  let s := (s.wr F.VIN_OLSTAT_SEQ seq).wr F.VIN_OLSTAT_COUNT objs.length
  let s := { s with vin := { s.vin with lastSeq := some seq, lastMeas := some tMeas, skip := false, orderRun := 0 } }
  let l : ObjList := { seq := seq, arrival := x.at_, objs := objs, handed := s.now }
  if s.on .gme then { s with gme := { s.gme with handed := some l, lastArrival := some x.at_ } } else s

/-- The checks of one list end, and the waiting list follows (R129–R131). Four ORDER rejections in a run start a skip. -/
def execObjectListParse (s : State) : Out :=
  match s.vin.checking with
  | none => .next s
  | some x =>
    if !s.on .vin then .next s else
    let c := s.listCheck x
    let s := { s with vin := { s.vin with checking := s.vin.waiting, waiting := none } }
    if c = 0 then .next (s.acceptList x) else
    let run := if c = 5 then s.vin.orderRun + 1 else s.vin.orderRun
    let s := { s with vin := { s.vin with orderRun := if run = 4 then 0 else run, skip := s.vin.skip || run == 4 } }
    .next (s.rejectList c)

/-- A write to VIN_OLCFG: PORT 0 and 48620 and a MAXAGE outside 1–100 are refused; the comparisons are skipped (R129). -/
def State.writeOlcfg (s : State) (data : Word) : State :=
  let d := data.toNat
  let port := bitsOf d 15 0
  let age := bitsOf d 22 16
  if port = 0 || port = 48620 || age = 0 || 100 < age then s
  else { s.store R.VIN_OLCFG data with vin := { s.vin with skip := true } }

def execVinOlcfgWrite (m : Master) (data : Word) (s : State) : Out :=
  s.withBus m R.VIN_OLCFG data fun s => s.writeOlcfg data

/-! ### gPTP time (R133–R135) -/

/-- Local time rebased at this instant, so that a new offset can be slewed in (R134). -/
def State.rebase (s : State) (t : Nat) (slew : Int) : State :=
  { s with gptp := { s.gptp with ns := t, at_ := s.now, slew := slew, ppm := 100 } }

/-- The sync interval that a Sync announces: 31.25 ms to 1 s, else 125 ms (R134). -/
def syncInterval (log : Int) : Nat :=
  if log = -5 then 31250000 else if log = -4 then 62500000 else if log = -3 then 125000000
  else if log = -2 then 250000000 else if log = -1 then 500000000 else if log = 0 then 1000000000 else 125000000

/-- Pixel cycles of a number of nanoseconds. -/
def cyclesOf (ns : Nat) : Nat := ns * 3 / 5

/-- Time in HOLDOVER that counts: past three sync intervals since the last Sync (R134). -/
def State.holdSpan (s : State) : Nat :=
  let quiet := match s.gptp.lastSync with | some t => t + 3 * cyclesOf s.gptp.interval | none => 0
  let start := match s.gptp.holdFrom with | some t => max t quiet | none => s.now
  s.now - start

/-- A Sync of domain 0 has been received on the gPTP port (R133, R134): its offset, the step or the slew, the state. -/
def State.sync (s : State) (x : SyncMsg) : State :=
  let master := x.origin + s.gptp.pdelay
  let off : Int := (s.localTime : Int) - master
  let g : Gptp := { s.gptp with
    holdCount := s.gptp.holdCount + (if s.rd F.VIN_TIMESTAT_STATE = 2 then s.holdSpan else 0)
    interval := syncInterval x.logInterval
    lastSync := some s.now
    good := if off.natAbs ≤ 1000 then s.gptp.good + 1 else 0 }
  let s : State := { s with gptp := g }
  let s := s.wrS F.VIN_TIMESTAT_OFFSET (max off (-32767))
  let s : State := if 10000 < off.natAbs then
      let s := (s.rebase master 0).bump F.VIN_TIMESTAT_STEPS
      { s with vin := { s.vin with lastMeas := none, skip := true } }
    else s.rebase s.localTime (-off)
  if 8 ≤ s.gptp.good then
    let g : Gptp := { s.gptp with holdFrom := none, holdCount := 0 }
    { s with gptp := g }.wr F.VIN_TIMESTAT_STATE 1
  else s

def execSyncMessage (x : SyncMsg) (s : State) : Out :=
  .next (if s.macOn x.mac && s.flag F.VIN_CTRL_GPTP_EN && x.mac = s.rd F.VIN_CTRL_GPTP_PORT && x.domain = 0 then s.sync x else s)

/-- The device answers a Pdelay request (R133). -/
def execPdelayRequest (s : State) : Out :=
  .next (if s.macOn (s.rd F.VIN_CTRL_GPTP_PORT) && s.flag F.VIN_CTRL_GPTP_EN then s.emit .pdelayResponse else s)

/-- Every 1 s the device measures the link delay (R133); the operand is what the exchange gave. -/
def execPdelayInterval (delayNs : Nat) (s : State) : Out :=
  .next (if s.macOn (s.rd F.VIN_CTRL_GPTP_PORT) && s.flag F.VIN_CTRL_GPTP_EN && s.dueSince s.gptp.pdelayAt (sec 1) then
    { s with gptp := { s.gptp with pdelay := delayNs, pdelayAt := some s.now } }.emit .pdelayRequest else s)

/-- No Sync for three sync intervals while LOCKED (R134). -/
def execHoldoverEnter (s : State) : Out :=
  .next (if s.on .net && s.rd F.VIN_TIMESTAT_STATE = 1
      && (match s.gptp.lastSync with | some t => s.since t (3 * cyclesOf s.gptp.interval) | none => true) then
    { s with gptp := { s.gptp with holdFrom := some s.now, holdCount := 0, good := 0 } }.wr F.VIN_TIMESTAT_STATE 2
  else s)

/-- 500 ms of HOLDOVER without Sync (R134). -/
def execNosyncEnter (s : State) : Out :=
  .next (if s.on .net && s.rd F.VIN_TIMESTAT_STATE = 2 && msec 500 ≤ s.gptp.holdCount + s.holdSpan then
    (({ s with gptp := { s.gptp with holdFrom := none, holdCount := 0, good := 0 } }).wr F.VIN_TIMESTAT_STATE 0).raise
      Src.GPTP_LOST
  else s)

/-! ### IMU port (R136–R140) -/

/-- A trigger reaches the port (R136): it starts a transaction, or is counted while one runs. -/
def State.imuStart (s : State) : State :=
  if s.imu.busy.isSome then s.bump F.VIN_IMUSTAT_OVERRUN
  else
    let at_ := s.localTime - 1000 * s.rd F.VIN_IMUTIME_LAT_US
    let cmd := (List.range (s.rd F.VIN_IMUCFG_CMDLEN + 1)).map fun i =>
      BitVec.ofNat 8 (bitsOf (s.rd (F.VIN_IMUCMD_BYTES (i / 4))) (8 * (i % 4) + 7) (8 * (i % 4)))
    { s with imu := { s.imu with busy := some at_ } }.emit (.imuCommand cmd)

/-- A trigger of the selected kind: an edge of I_DRDY, or the internal timer at each PERIOD (R136). -/
def execImuTrigger (t : ImuTrig) (s : State) : Out :=
  let kind := match t with | .rising => 0 | .falling => 1 | .timer => 2
  if !s.on .drv || !s.flag F.VIN_IMUCFG_EN || s.rd F.VIN_IMUCFG_TRIG ≠ kind then .next s
  else if t == .timer then
    .next (if s.since s.imu.timerAt (usec (s.rd F.VIN_IMUTIME_PERIOD)) then
      { s with imu := { s.imu with timerAt := s.now } }.imuStart else s)
  else .next s.imuStart

/-- The signed word at an offset of the response, in the applied byte order (R138). DESIGN CHOICE (notes/assumptions/49.md): bytes beyond
the response, where RSPLEN was lowered after the axis group was applied, are 0. -/
def State.imuWord (s : State) (resp : List Byte) (off : Nat) : Int :=
  let bs := (resp.drop off).take 2
  toSigned 16 (if s.app F.VIN_IMUMAP_BE = 1 then ofBeBytes bs else ofLeBytes bs)

/-- A raw word as mdeg/s (R138). -/
def State.imuRate (s : State) (raw : Int) (neg : Nat) : Int :=
  divRound ((if neg = 1 then -raw else raw) * s.appS F.VIN_IMUSCALE_SCALE) 65536

/-- A sample ahead of a history: its integrals follow by the trapezoid between sample times (R202). -/
def imuPush (t : Nat) (yaw pitch : Int) (h : List ImuPt) : List ImuPt :=
  match h with
  | [] => [{ t := t, yaw := yaw, pitch := pitch, psi2 := 0, theta2 := 0 }]
  | q :: _ =>
    let dt : Int := (t : Int) - q.t
    { t := t, yaw := yaw, pitch := pitch, psi2 := q.psi2 + (q.yaw + yaw) * dt, theta2 := q.theta2 + (q.pitch + pitch) * dt } :: h

/-- A full XQ_IMU, of eight samples, loses its oldest one: GME never gets it (R35). -/
def imuDropOldest (h : List ImuPt) : List ImuPt :=
  (h.take 7).foldr (fun p older => imuPush p.t p.yaw p.pitch older) (h.drop 8)

/-- One accepted sample in GME's history, 512 ms of it kept (R202). -/
def State.gmeImu (s : State) (t : Nat) (yaw pitch : Int) : State :=
  if !s.on .gme then s else
  { s with gme := { s.gme with imu := (imuPush t yaw pitch s.gme.imu).filter fun q => t ≤ q.t + 512000000 } }

/-- The pitch estimate of the control engine takes an accepted sample (R303): θ leaks and takes ω × Δ. -/
def State.pitchStep (s : State) (omega : Int) : State :=
  if !s.on .drv then s else
  let dt := match s.pid.imuAt with | some t => s.now - t | none => 0
  let tc := msec (s.rd F.PID_PITCHCFG_TC_MS)
  let theta := divRound (s.pid.theta * tc) (tc + dt) + divRound (omega * dt * 65536) (sec 1)
  let s := { s with pid := { s.pid with theta := theta, imuAt := some s.now, omega := omega } }
  s.showPitch

/-- An accepted sample: the average of the last AVG + 1, its time, the rates, the state (R139, R140). DESIGN CHOICE (notes/assumptions/49.md): while fewer
have been accepted since the port was turned on, the average is over those. -/
def State.imuAccept (s : State) (t : Nat) (yaw pitch : Int) : State :=
  let k := s.rd F.VIN_IMUCFG_AVG + 1
  let recent := ((t, yaw, pitch) :: s.imu.recent).take k
  let n := recent.length
  let mean := fun (f : Nat × Int × Int → Int) => divRound (recent.foldl (fun acc x => acc + f x) 0) n
  let yawM := mean fun x => x.2.1
  let pitchM := mean fun x => x.2.2
  let tM := divRoundNat (sumNat (recent.map Prod.fst)) n
  let s := { s with imu := { s.imu with recent := recent, acceptedAt := some s.now, run := min 8 (s.imu.run + 1) } }
  let s := if s.rd F.VIN_IMUSTAT_STATE ≠ 2 || 8 ≤ s.imu.run then s.wr F.VIN_IMUSTAT_STATE 1 else s
  let s := (s.wrS F.VIN_IMURATE_YAW (divRound yawM 10)).wrS F.VIN_IMURATE_PITCH (divRound pitchM 10)
  (s.gmeImu tM yawM pitchM).pitchStep pitchM

/-- A sample is discarded, and the held one stays (R138). -/
def State.imuDiscard (s : State) : State :=
  { s with imu := { s.imu with run := 0 } }.bump F.VIN_IMUSTAT_DISCARD

/-- The checks of R138 and what follows from them. -/
def State.imuCheck (s : State) (resp : List Byte) (t : Nat) : State :=
  let y := s.imuWord resp (s.app F.VIN_IMUMAP_YAW_OFS)
  let p := s.imuWord resp (s.app F.VIN_IMUMAP_PITCH_OFS)
  let same := if s.imu.raw == some (y, p) then min 64 (s.imu.same + 1) else 1
  let s := { s with imu := { s.imu with raw := some (y, p), same := same } }
  let status := ((resp.getD (s.app F.VIN_IMUMAP_STAT_OFS) 0) : Byte).toNat
  let mask := s.app F.VIN_IMUMAP_STAT_MASK
  let yaw := s.imuRate y (s.app F.VIN_IMUMAP_YAW_NEG)
  let pitch := s.imuRate p (s.app F.VIN_IMUMAP_PITCH_NEG)
  let stuck := s.flag F.VIN_IMUCFG_STUCKCHK && same = 64
  let s := s.raiseIf stuck Src.IMU_STUCK
  if stuck || (s.app F.VIN_IMUMAP_STAT_EN = 1 && (status &&& mask) != mask) || 327670 < yaw.natAbs || 327670 < pitch.natAbs then s.imuDiscard
  else s.imuAccept t yaw pitch

/-- An IMU transaction completes with the RSPLEN + 1 bytes that the port reads (R136–R138); a full queue drops its oldest sample (R35). -/
def execImuSample (response : List Byte) (queueFull : Bool) (s : State) : Out :=
  match s.imu.busy with
  | none => .next s
  | some t =>
    if !s.on .drv || response.length ≠ s.rd F.VIN_IMUCFG_RSPLEN + 1 then .next s else
    let s := { s with imu := { s.imu with busy := none } }
    let s := s.applyGroup .imu
    let s := if queueFull then { s with gme := { s.gme with imu := imuDropOldest s.gme.imu } }.bump F.VIN_DROP_IMU else s
    .next (s.imuCheck response t)

/-- No accepted sample for 4 × PERIOD (R140). -/
def execImuLost (s : State) : Out :=
  let quiet := match s.imu.acceptedAt with
    | some t => s.since t (usec (4 * s.rd F.VIN_IMUTIME_PERIOD))
    | none => true
  .next (if s.on .drv && s.flag F.VIN_IMUCFG_EN && s.rd F.VIN_IMUSTAT_STATE ≠ 2 && quiet then
    ({ s with imu := { s.imu with run := 0 } }.wr F.VIN_IMUSTAT_STATE 2).raise Src.IMU_LOST else s)

/-- The IMU axis group takes effect at once (R137). -/
def State.applyImu (s : State) : State :=
  { s with armedAt := s.armedAt.filter fun p => p.1 != Group.imu.gen }.applyGroup .imu

/-- A write to VIN_IMUCFG: only EN while EN is 1, the whole otherwise; TRIG 3 and SCKDIV above 95 are refused (R137). Turning the port off makes STATE 0
and applies an armed axis group. DESIGN CHOICE (notes/assumptions/49.md): turning it on makes STATE OK at once, and the 4 × PERIOD of R140 and the
internal timer run from then on. -/
def State.writeImucfg (s : State) (data : Word) : State :=
  let d := data.toNat
  if s.flag F.VIN_IMUCFG_EN then
    let s := s.wr F.VIN_IMUCFG_EN (bitsOf d 0 0)
    if bitAt d 0 then s else ({ s with imu := {} }.wr F.VIN_IMUSTAT_STATE 0).applyImu
  else if bitsOf d 2 1 = 3 || 95 < bitsOf d 22 16 then s
  else
    let s := s.store R.VIN_IMUCFG data
    if bitAt d 0 then
      let i : Imu := { acceptedAt := some s.now, timerAt := s.now }
      { s with imu := i }.wr F.VIN_IMUSTAT_STATE 1
    else s

def execVinImucfgWrite (m : Master) (data : Word) (s : State) : Out :=
  s.withBus m R.VIN_IMUCFG data fun s => s.writeImucfg data

/-- The check of the IMU axis group at its arm (R137). -/
def State.imuFits (s : State) : Bool :=
  let room := s.rd F.VIN_IMUCFG_RSPLEN + 1
  s.rd F.VIN_IMUMAP_YAW_OFS + 2 ≤ room && s.rd F.VIN_IMUMAP_PITCH_OFS + 2 ≤ room && s.rd F.VIN_IMUMAP_STAT_OFS + 2 ≤ room && 0 < s.rdS F.VIN_IMUSCALE_SCALE

end Sys2Proof.Machine
end

