-- ==== Sys2Proof/Machine/Layers.lean ====
section
/-!
DEFINITION. Layers and the sheaf commit: the layer model (R141–R148), arming, check, refusal and disarm of a sheaf (R149–R159,
R184, R193), squashes (R163, R164), and the schedule of a CF (R31, R32, R228).
-/

namespace Sys2Proof.Machine

/-! ### The schedule (R31, R32, R228) -/

/-- Refreshes of a CF. -/
def refreshesOf (tm : Nat) : Nat := match tm with | 2 => 3 | 3 => 1 | _ => 2

/-- Cycles of refresh r of a CF. -/
def refreshLen (tm r : Nat) : Nat :=
  match tm with | 0 => 3000000 | 2 => if r = 2 then 1666666 else 1666667 | _ => 2500000

/-- Cycles of a CF. -/
def cfLen (tm : Nat) : Nat := match tm with | 0 => 6000000 | 3 => 2500000 | _ => 5000000

/-- Cycles of band slots 0–14. -/
def slotLen (tm : Nat) : Nat := match tm with | 0 => 187500 | 2 => 104166 | _ => 156250

/-- The CF rate in Hz. -/
def cfRate (tm : Nat) : Nat := match tm with | 0 => 100 | 3 => 240 | _ => 120

/-- The row pitch P in cycles (R228). -/
def rowPitch (tm : Nat) : Nat := match tm with | 0 => 5600 | 2 => 3000 | _ => 4600

/-- The applied timing mode. -/
def State.tm (s : State) : Nat := s.app F.LAY_TIMING_TM

/-- A sheaf is armed: STATE 2 or 3 (R149, R150). -/
def State.sheafArmed (s : State) : Bool := 2 ≤ s.rd F.LAY_SHEAFSTAT_STATE

/-- The state in force for boundary m is the armed one (R162). -/
def State.armedFor (s : State) (m : Nat) : Bool := s.sheafArmed && s.sheaf.target ≤ m

/-- A field of an RWS register in the armed state (its shadow) or in the applied one (R16). -/
def State.lv (s : State) (armed : Bool) (f : Fld) : Nat := if armed then s.rd f else s.app f

def State.lvS (s : State) (armed : Bool) (f : Fld) : Int := toSigned f.width (s.lv armed f)

/-! ### Layers (R141–R148) -/

/-- A layer as one state gives it; size, format, address and pitch of a symbol come from the device's copy of its descriptor. -/
structure Layer where
  en : Bool
  fmt : Nat
  blend : Nat
  safety : Bool
  src : Nat
  stream : Nat
  z : Nat
  sym : Nat
  addr : Nat
  sw : Nat
  sh : Nat
  pitch : Nat
  solid : Nat
  x : Int
  y : Int
  dw : Nat
  dh : Nat
  desc : Option SymDesc
  deriving DecidableEq, Repr

/-- The device's copy of a layer's descriptor in one state. -/
def State.descOf (s : State) (armed : Bool) (n : Nat) : Option SymDesc :=
  if armed then s.sheaf.descArm.getD n none else s.sheaf.descApp.getD n none

/-- A layer's parameters in one state (R141, R142). -/
def State.layerWith (s : State) (armed : Bool) (n : Nat) (d : Option SymDesc) : Layer :=
  let v := s.lv armed
  let src := v (F.LAY_L_CTRL_SRC n)
  let k : SymDesc := d.getD ⟨0, 0, 0, 0, 0⟩
  let sym := src = 2
  { en := v (F.LAY_L_CTRL_EN n) = 1, blend := v (F.LAY_L_CTRL_BLEND n), safety := v (F.LAY_L_CTRL_SAFETY n) = 1
    src := src, stream := v (F.LAY_L_CTRL_STREAM n), z := v (F.LAY_L_CTRL_Z n), sym := v (F.LAY_L_CTRL_SYM n)
    fmt := if sym then k.fmt else v (F.LAY_L_CTRL_FORMAT n)
    addr := if sym then k.addr else 64 * v (F.LAY_L_ADDR_ADDR n)
    sw := if sym then k.width else v (F.LAY_L_SRCSIZE_SW n)
    sh := if sym then k.height else v (F.LAY_L_SRCSIZE_SH n)
    pitch := if sym then k.pitch else v (F.LAY_L_PITCH_PITCH n)
    solid := v (F.LAY_L_PITCH_SOLID n)
    x := s.lvS armed (F.LAY_L_POS_X n), y := s.lvS armed (F.LAY_L_POS_Y n)
    dw := v (F.LAY_L_DSTSIZE_DW n), dh := v (F.LAY_L_DSTSIZE_DH n), desc := d }

/-- A layer as a checked state gives it. -/
def State.layer (s : State) (armed : Bool) (n : Nat) : Layer := s.layerWith armed n (s.descOf armed n)

/-- The clipped destination rectangle, right and bottom exclusive (R147). -/
def Layer.rect (l : Layer) : Nat × Nat × Nat × Nat :=
  (l.x.toNat, l.y.toNat, (min (l.x + l.dw) 2048).toNat, (min (l.y + l.dh) 1024).toNat)

/-- The clipped rectangle holds a pixel. -/
def Layer.reaches (l : Layer) : Bool := l.rect.1 < l.rect.2.2.1 && l.rect.2.1 < l.rect.2.2.2

/-- The clipped destination pixels. -/
def Layer.area (l : Layer) : Nat := (l.rect.2.2.1 - l.rect.1) * (l.rect.2.2.2 - l.rect.2.1)

/-- A layer needs its scaler (R147). A solid layer has no source to scale. -/
def Layer.scaled (l : Layer) : Bool := l.src != 3 && (l.dw != l.sw || l.dh != l.sh)

/-- The clipped rectangle reaches composition band c (R161). -/
def Layer.inBand (l : Layer) (c : Nat) : Bool := l.reaches && l.rect.2.1 < 32 * c + 32 && 32 * c < l.rect.2.2.2

/-- Palette entry k of layer n in one state (R145). -/
def State.palette (s : State) (armed : Bool) (n k : Nat) : Nat :=
  s.lv armed (if k % 2 = 0 then F.LAY_L_PAL_E0 n (k / 2) else F.LAY_L_PAL_E1 n (k / 2))

/-! ### Marks of BIST on the composer (R112) -/

/-- A target is marked unusable or degraded. -/
def State.bistBad (s : State) (target : Nat) : Bool :=
  let o := s.rd (F.BIST_REC_OUT_OUTCOME target)
  o == 4 || o == 5

/-- The symbol cache is marked unusable (R112, R186). -/
def State.symUnusable (s : State) : Bool := s.bistBad 8

/-- Composing lanes (R171). -/
def State.lanes (s : State) : Nat := if s.flag F.BIST_SPARE_CMP_DEGRADED then 7 else 8

/-! ### Symbols (R144, R182–R184) -/

/-- The descriptor at an index of the shadow symbol table (R144). -/
def State.readDesc (s : State) (i : Nat) : SymDesc :=
  let a := 64 * s.rd F.LAY_SYMTAB_ADDR + 16 * i
  { addr := s.num a 4, width := s.num (a + 4) 2, height := s.num (a + 6) 2, fmt := s.num (a + 8) 1, pitch := s.num (a + 9) 1 }

/-- Every field of a descriptor is in range (R144). DESIGN CHOICE (notes/assumptions/49.md): the reserved bytes 0x0A–0x0F are no field, and the check
ignores them. -/
def SymDesc.ok (d : SymDesc) : Bool :=
  d.addr % 64 == 0 && 1 ≤ d.width && d.width ≤ 2048 && 1 ≤ d.height && d.height ≤ 1024 && d.fmt ≤ 6 && 1 ≤ d.pitch

/-- The DRAM bytes of a buffer with full line pitches (R155). DESIGN CHOICE (notes/assumptions/49.md): a fixed buffer or a symbol takes the whole
pitch of its last line too. -/
def bufferRange (addr pitch height : Nat) : Nat × Nat := (addr, addr + 64 * pitch * height)

/-- A completely loaded entry matches a descriptor (R183, R184). -/
def State.cached (s : State) (d : SymDesc) : Bool := s.comp.cache.any fun e => e.desc == d && e.complete

/-! ### The check (R155–R159) -/

/-- The per-layer checks in the order of R155: the cause, or 0. -/
def State.layerCause (s : State) (n : Nat) (l : Layer) : Nat :=
  let v := s.lv true
  let warn := v (F.LAY_L_STALE_WARN_MS n)
  let wd := v (F.LAY_L_STALE_WITHDRAW_MS n)
  let buf := bufferRange l.addr l.pitch l.sh
  if l.dw = 0 || l.dh = 0 || (l.src = 1 && (l.sw = 0 || l.sh = 0 || l.pitch = 0)) || (l.safety && (warn = 0 || wd = 0)) then 1
  else if (l.src < 2 && v (F.LAY_L_CTRL_FORMAT n) = 7) || 5 ≤ l.blend || (l.safety && wd < warn)
    || (l.src = 0 && s.app (F.VIN_STR_CFG_EN l.stream) ≠ 1)
    || (l.src = 2 && (s.rd F.LAY_SYMCFG_COUNT ≤ l.sym || (match l.desc with
        | some d => !d.ok || (!s.symUnusable && !s.cached d)
        | none => true))) then 2
  else if ((l.src = 1 || l.src = 2) && (!inUserDram buf || 64 * l.pitch < lineSize l.sw l.fmt))
    || (l.src = 0 && (l.sw ≠ s.strWidth l.stream || l.sh ≠ s.strHeight l.stream || l.fmt ≠ s.strFmt l.stream)) then 3
  else if !l.scaled then 0
  else if 16 * l.sw < l.dw || 16 * l.sh < l.dh || 16 * l.dw < l.sw then 4
  else if 16 < ceilDiv (4 * l.sh) l.dh + 1 then 5
  else if s.bitF F.BIST_UNUSABLE_SCALER n then 6
  else 0

/-- B_n: the DRAM bytes that a layer reads per CF (R157). -/
def State.layerBytes (s : State) (l : Layer) : Nat :=
  if !l.en || !l.reaches then 0
  else match l.src with
    | 0 | 1 => l.sh * lineSize l.sw l.fmt
    | 2 => if s.symUnusable then l.sh * lineSize l.sw l.fmt else 0
    | _ => 0

/-- C_comp of a set of layers (R159). -/
def State.compCycles (s : State) (ls : List Layer) : Nat :=
  let area := sumNat ((ls.filter fun l => l.en).map Layer.area)
  let bytes := sumNat (ls.map s.layerBytes) + 4194304
  max (ceilDiv area s.lanes) (ceilDiv (bytes * 600) 8532)

/-- C_comp_act: C_comp of the applied state, with the lanes and the symbol cache of now (R159). -/
def State.compAct (s : State) : Nat := s.compCycles ((List.range 8).map (s.layer false))

/-- MINLEAD in cycles (R159). -/
def minLeadOf (comp compAct : Nat) : Nat := 7200 + 33000 + comp + ceilDiv (max comp compAct) 32 + 60000

/-- The estimated load as a fraction: numerator over 17,064 × 10⁶ (R157). -/
def State.loadNum (s : State) (ls : List Layer) (tm : Nat) : Nat :=
  (sumNat (ls.map s.layerBytes) + 2 * 4194304) * cfRate tm + s.rd F.LAY_LOADCFG_RES_MBPS * 1000000

def loadDen : Nat := 17064000000

/-- A tile port in use runs on one lane: READY or ACTIVE with one lane (R155, R272). -/
def State.oneLane (s : State) : Bool :=
  (List.range 4).any fun p => s.flag (F.LNK_CTRL_EN p)
    && (s.rd (F.LNK_STATE_STATE p) == 7 || s.rd (F.LNK_STATE_STATE p) == 8) && popcount 2 (s.rd (F.LNK_STATE_LANEMAP p)) == 1

/-- Two enabled layers share a Z value. -/
def sharesZ (ls : List Layer) : Bool :=
  let zs := (ls.filter fun l => l.en).map fun l => l.z
  (List.range 8).any fun z => 1 < zs.count z

/-- The global checks in the order of R155: the cause, or 0. -/
def State.globalCause (s : State) (ls : List Layer) (minLead : Nat) : Nat :=
  let tm := s.rd F.LAY_TIMING_TM
  let lead := 600 * s.rd F.LAY_TIMING_LEAD_US
  let excess := 7 * loadDen < 10 * s.loadNum ls tm
  if lead = 0 then 1
  else if sharesZ ls then 7
  else if cfLen tm < lead + 60000 then 8
  else if 2 ≤ tm && s.oneLane then 9
  else if excess && (s.flag F.LAY_LOADCFG_LOADCHK || tm = 3) then 10
  else if lead < minLead || cfLen tm < minLead + 60000 then 11
  else 0

/-- The layers of the shadow set, each with the descriptor that its symbol index names now (R144). -/
def State.shadowLayers (s : State) : List Layer :=
  (List.range 8).map fun n =>
    let src := s.rd (F.LAY_L_CTRL_SRC n)
    let i := s.rd (F.LAY_L_CTRL_SYM n)
    s.layerWith true n (if src = 2 && i < s.rd F.LAY_SYMCFG_COUNT then some (s.readDesc i) else none)

/-! ### Squashes (R163, R164) -/

/-- Composition bands in the order of R161. -/
def bandOrder : List Nat := (List.range 16).flatMap fun c => [c, c + 16]

/-- The first composition band of a frame that is not composed, in the order of R161. -/
def Frame.nextBand (f : Frame) : Option Nat := bandOrder.find? fun c => (f.bands.getD c none).isNone

/-- The frames that the composer may still work on: the shown one and those ahead, earliest first. -/
def State.compFrames (s : State) : List Frame := s.comp.shown.toList ++ s.comp.frames

/-- The band that the composer works on: frame number and band (R160, R164). -/
def State.composing (s : State) : Option (Nat × Nat) :=
  s.compFrames.findSome? fun f => f.nextBand.map fun c => (f.num, c)

/-- The timing mode applied at boundary m, as far as it is known now (R224). -/
def State.frameTm (s : State) (m : Nat) : Nat := s.lv (s.armedFor m) F.LAY_TIMING_TM

/-- The copy of frame m, while the store holds it. -/
def State.copyOf (s : State) (m : Nat) : Option CopySt :=
  match s.scn.copies.getD (m % 2) none with
  | some k => if k.frame = m then some k else none
  | none => none

/-- Composition band c of frame m waits for its fill, or for the refill after a squash. -/
def State.unfilled (s : State) (m c : Nat) : Bool :=
  match s.copyOf m with
  | some k => !k.filled.contains c || k.refill.contains c
  | none => true

/-- The composition band that the store fills now: of the earliest frame whose copy is free for it, the first band written back, in
the order of R161 (R225). -/
def State.fillNext (s : State) : Option (Nat × Nat) :=
  s.compFrames.findSome? fun f =>
    if f.num ≤ s.scn.fillUpTo && s.scn.fillUpTo < f.num + 2 then
      (bandOrder.find? fun c => (f.bands.getD c none).isSome && s.unfilled f.num c).map fun c => (f.num, c)
    else none

/-- SCN_STAT.FILLED and FILLING follow the fill, which begins and ends with what the composer writes (R225, R246). -/
def State.showFill (s : State) : State :=
  if !s.on .scn then s else
  let s := s.wrB F.SCN_STAT_FILLING s.fillNext.isSome
  match s.fillNext with
  | some (m, _) => s.wr F.SCN_STAT_FILLED (match s.copyOf m with
      | some k => (k.filled.filter fun c => !k.refill.contains c).length
      | none => 0)
  | none => match s.copyOf s.scn.fillUpTo with
    | some k => s.wr F.SCN_STAT_FILLED k.filled.length
    | none => s

/-- LAY_COMPSTAT, CMP_STAT and the fill in SCN_STAT follow the composer. -/
def State.showComp (s : State) : State :=
  let ahead := (s.comp.frames.filter fun f => f.nextBand.isNone).length
  let s := (s.wr F.LAY_COMPSTAT_AHEAD ahead).wrB F.LAY_COMPSTAT_BUSY s.composing.isSome
  let s := match s.composing with
    | some (m, c) => ((s.wr F.LAY_COMPSTAT_BAND c).wr F.LAY_COMPSTAT_FRAME m).wr F.CMP_STAT_FB_COMP (m % 3)
    | none => s
  (match s.comp.shown with
  | some f => s.wr F.CMP_STAT_FB_SHOW (f.num % 3)
  | none => s).showFill

/-- The newest READY buffer of a stream, for a claim (R122). -/
def State.readyBuf (s : State) (n : Nat) : Option Nat := (List.range 4).find? fun k => s.bufState n k == 2

/-- A squash in every frame from boundary m on that is not being shown: bands whose test holds and that were composed with the
named state (or with either), or are in progress with it. It answers how many bands it took, and which frames lost all 32. DESIGN CHOICE
(notes/assumptions/49.md): the line windows of every layer start empty again after it (R180). -/
def State.squashWith (s : State) (m : Nat) (armed : Option Bool) (hit : Nat → Bool) : State × Nat × List Nat :=
  let busy := s.composing
  let fits : Bool → Bool := fun b => match armed with | some a => a == b | none => true
  let takes : Frame → Nat → Bool := fun f c =>
    m ≤ f.num && hit c && (match f.bands.getD c none with
      | some b => fits b
      | none => busy == some (f.num, c) && fits (s.armedFor f.num))
  let n := sumNat (s.comp.frames.map fun f => ((List.range 32).filter (takes f)).length)
  let whole := (s.comp.frames.filter fun f => m ≤ f.num && (List.range 32).all (takes f)).map fun f => f.num
  let frames := s.comp.frames.map fun f =>
    { f with bands := (List.range 32).map fun c => if takes f c then none else f.bands.getD c none
             lines := f.lines.filter fun p => !takes f (p.1 / 32) }
  let copies := s.scn.copies.map fun c => c.map fun k =>
    match s.comp.frames.find? fun f => f.num == k.frame with
    | some f => { k with refill := k.refill ++ (k.filled.filter fun c => takes f c && !k.refill.contains c) }
    | none => k
  let windows := if n = 0 then s.comp.windows else []
  ({ s with comp := { s.comp with frames := frames, windows := windows }, scn := { s.scn with copies := copies } }, n, whole)

/-- The layers of frame m are ready or repeat their buffer: the claims of a frame as the composer starts it (R122, R166), for the
state that frame uses. DESIGN CHOICE (notes/assumptions/49.md): a layer that a sheaf has moved to another stream repeats the buffer that it used
last, of the stream before. -/
def State.claimFor (s : State) (m : Nat) (before : List (Option (Nat × Nat))) : List (Option (Nat × Nat)) :=
  let armed := s.armedFor m
  (List.range 8).map fun n =>
    let l := s.layer armed n
    if l.en && l.src = 0 then
      let fits := l.sw = s.strWidth l.stream && l.sh = s.strHeight l.stream && l.fmt = s.strFmt l.stream
      match s.readyBuf l.stream with
      | some k => if fits then some (l.stream, k) else before.getD n none
      | none => before.getD n none
    else none

/-- The CLAIMED buffers of stream n. -/
def State.heldBufs (s : State) (n : Nat) : List Nat := (List.range 4).filter fun k => s.bufState n k = 3

/-- Some frame ahead has claimed the buffer as the newest READY one; else the frames only repeat it (R166). -/
def State.claimedNew (s : State) (n k : Nat) : Bool :=
  s.comp.frames.any fun f => (f.claims.zip f.before).any fun (c, b) => c == some (n, k) && c != b

/-- Room for one more claim on stream n, of which at most two buffers are CLAIMED (R123). DESIGN CHOICE (notes/assumptions/49.md): with two held, those
that the frames only repeat become FREE, and are still read. -/
def State.makeRoom (s : State) (n : Nat) : State :=
  if (s.heldBufs n).length < 2 then s
  else (s.heldBufs n).foldl (fun s k => if s.claimedNew n k then s else s.setBuf n k 0) s

/-- Claims take effect: their buffers are CLAIMED (R122), at most two of a stream (R123). DESIGN CHOICE (notes/assumptions/49.md): a repeated buffer that
has been released already is claimed again straight from FREE where there is room, and is read without a claim otherwise and while it is FILLING. -/
def State.takeClaims (s : State) (claims : List (Option (Nat × Nat))) : State :=
  claims.foldl (fun s c => match c with
    | some (n, k) =>
      if !s.on .vin then s
      else if s.bufState n k = 2 then ((s.makeRoom n).setBuf n k 3).showReady n
      else if s.bufState n k = 0 && (s.heldBufs n).length < 2 then (s.setBuf n k 3).showReady n
      else s
    | none => s) s

/-- The buffers that the layers used last, up to a frame and with it (R166). -/
def Frame.used (f : Frame) : List (Option (Nat × Nat)) :=
  (List.range 8).map fun n => match f.claims.getD n none with | some c => some c | none => f.before.getD n none

/-- The not-ready counter of a layer. -/
def fNotRdy (n : Nat) : Fld := ⟨if n < 4 then R.LAY_NOTRDY0 else R.LAY_NOTRDY1, 8 * (n % 4) + 7, 8 * (n % 4)⟩

/-- A layer with source 0 found no newer READY buffer for a frame, or its stream no longer fits (R166). -/
def State.notReady (s : State) (m n : Nat) : Bool :=
  let l := s.layer (s.armedFor m) n
  l.en && l.src = 0 && (match s.readyBuf l.stream with
    | some _ => !(l.sw = s.strWidth l.stream && l.sh = s.strHeight l.stream && l.fmt = s.strFmt l.stream)
    | none => true)

/-- A layer is composed as withdrawn from this frame on, or no longer (R167). -/
def State.setStale (s : State) (n : Nat) (b : Bool) : State :=
  { s with comp := { s.comp with stale := setBits s.comp.stale n n (b2n b) } }

/-- The stale counts of one layer as a frame starts: frames are counted while SAFETY is 1, and the withdrawal begins in the frame whose count has
reached its limit (R166, R167). DESIGN CHOICE (notes/assumptions/49.md): a withdrawn layer that a sheaf moves to another source, or whose SAFETY it
clears, keeps its flags and stays composed as if disabled until it claims a new buffer. -/
def State.staleStep (s : State) (m n : Nat) (bad : Bool) : State :=
  let armed := s.armedFor m
  let l := s.layer armed n
  let f := cfRate (s.lv armed F.LAY_TIMING_TM)
  let count := if bad && l.safety then s.comp.notReady.getD n 0 + 1 else 0
  let s := { s with comp := { s.comp with notReady := s.comp.notReady.set n count } }
  let s := s.setBitF F.LAY_STALESTAT_REPEATING n bad
  if !bad then
    if l.en && l.src = 0 then (s.setBitF F.LAY_STALESTAT_WARN n false).setStale n false else s
  else if !l.safety then s
  else
    let s := if ceilDiv (s.lv armed (F.LAY_L_STALE_WARN_MS n) * f) 1000 ≤ count then s.setBitF F.LAY_STALESTAT_WARN n true else s
    if ceilDiv (s.lv armed (F.LAY_L_STALE_WITHDRAW_MS n) * f) 1000 ≤ count then s.setStale n true else s

/-- The stale counts of all layers in frame m, from the counts and the withdrawn layers of the frame before it (R167). -/
def State.staleSteps (s : State) (m : Nat) (bads : List Bool) (counts : List Nat) (stale : Nat) : State :=
  let s := { s with comp := { s.comp with notReady := counts, stale := stale } }
  (List.range 8).foldl (fun s n => s.staleStep m n (bads.getD n false)) s

/-- A frame that lost all its bands is dropped: its claims end, and it claims the newest READY buffers afresh (R164). What it repeats is what frame
m − 1 used (R166), and its stale layers follow from the fresh claims and the counts of frame m − 1 (R167); LAY_STALESTAT shows them where it is the
newest frame, and the frames after it count on from them. LAY_NOTRDYn counts the start of a frame only (R166). -/
def State.dropFrame (s : State) (m : Nat) : State :=
  match s.comp.frames.find? fun f => f.num == m with
  | none => s
  | some f =>
    let cleared := s.comp.frames.map fun g => if g.num = m then { g with claims := List.replicate 8 none } else g
    let s := { s with comp := { s.comp with frames := cleared } }.release f.claims
    let before := match s.compFrames.find? fun g => g.num + 1 == m with | some g => g.used | none => f.before
    let bads := (List.range 8).map (s.notReady m)
    let claims := s.claimFor m before
    let s := s.takeClaims claims
    let (s, frames) := s.comp.frames.foldl (fun ((s, gs) : State × List Frame) g =>
      if g.num < m then (s, gs ++ [g])
      else
        let g : Frame := if g.num = m then { f with claims := claims, before := before, lines := [], bads := bads }
          else { g with countsBefore := s.comp.notReady, staleBefore := s.comp.stale }
        let t := s.staleSteps g.num g.bads g.countsBefore g.staleBefore
        (t, gs ++ [{ g with withdrawn := t.comp.stale }])) (s, [])
    let last := if m + 1 = s.comp.nextNum then { f with claims := claims, before := before }.used else s.comp.last
    { s with comp := { s.comp with frames := frames, last := last } }

/-- A squash that is counted at a boundary (R164, notes/assumptions/16.md). The sheaf changes its state in between, so that a dropped frame claims for
the state that it is composed with. DESIGN CHOICE (notes/assumptions/49.md): a frame that loses only some bands keeps the claims of its start, so a
layer that the sheaf newly enables or moves to source 0 contributes nothing in it. -/
def State.squash (s : State) (m : Nat) (armed : Option Bool) (countAt : Nat) (hit : Nat → Bool) (sheaf : State → State) : State :=
  let (s, n, whole) := s.squashWith m armed hit
  let s := whole.foldl State.dropFrame (sheaf s)
  let s := if n = 0 then s else { s with comp := { s.comp with squashDue := s.comp.squashDue ++ [(countAt, n)] } }
  s.showComp

/-- The squashes that fall due at a boundary are counted (R164). -/
def State.countSquashes (s : State) (m : Nat) : State :=
  let due := s.comp.squashDue.filter fun p => p.1 ≤ m
  let s := (s.bumpBy F.LAY_SQUASH_EVENTS due.length).bumpBy F.LAY_SQUASH_BANDS (sumNat (due.map Prod.snd))
  { s with comp := { s.comp with squashDue := s.comp.squashDue.filter fun p => !(p.1 ≤ m) } }

/-- The RWS registers of one layer with its palette. -/
def layerRegs (n : Nat) : List Nat :=
  [R.LAY_L_CTRL n, R.LAY_L_ADDR n, R.LAY_L_SRCSIZE n, R.LAY_L_PITCH n, R.LAY_L_POS n, R.LAY_L_DSTSIZE n, R.LAY_L_STALE n]
  ++ (List.range 128).map (R.LAY_L_PAL n)

/-- A layer counts as changed between the applied and the armed state (R163). -/
def State.layerChanged (s : State) (n : Nat) : Bool :=
  let a := s.layer false n
  let b := s.layer true n
  (a.en || b.en) && ((layerRegs n).any (fun r => s.regN r != s.appReg r)
    || ((a.src = 2 || b.src = 2) && (s.regN R.LAY_SYMTAB != s.appReg R.LAY_SYMTAB || s.regN R.LAY_SYMCFG != s.appReg R.LAY_SYMCFG
      || a.desc != b.desc)))

/-- A composition band that a changed layer reaches in either state (R163). -/
def State.changedBand (s : State) (c : Nat) : Bool :=
  (List.range 8).any fun n => s.layerChanged n
    && ((s.layer false n).inBand c || (s.layer true n).inBand c)

/-! ### Arming and disarming (R149–R153) -/

/-- The first boundary after this instant: the one scheduled next, unless it falls in this very cycle (R150). -/
def State.boundaryAfter (s : State) : Option (Nat × Nat) :=
  match s.cf.next with
  | some (n, t) => if t ≤ s.now then some (n + 1, t + cfLen s.tm) else some (n, t)
  | none => none

/-- The effective deadline of a boundary at time t, for a minimum lead: the latest arm instant (R150). -/
def State.deadline (s : State) (t minLead : Nat) : Int := (t : Int) - max (600 * s.app F.LAY_TIMING_LEAD_US) minLead

/-- The time of boundary n, from the schedule. -/
def State.boundaryTime (s : State) (n : Nat) : Option Nat :=
  match s.cf.next with
  | some (k, t) => if k ≤ n then some (t + (n - k) * cfLen s.tm) else none
  | none => none

/-- The sheaf is armed: CHECKING from now on (R149, R151). -/
def State.armSheaf (s : State) : State :=
  let sh : Sheaf := { s.sheaf with armAt := s.now, tag := s.rd F.LAY_SHEAF_TAG, b0 := s.boundaryAfter }
  { s with sheaf := sh }.wr F.LAY_SHEAFSTAT_STATE 1

/-- The scan store carries every frame from m on in the storage code of its own mode: a copy whose code changes is filled anew (R224,
R245). -/
def State.recode (s : State) (m : Nat) : State :=
  let up : CopySt → CopySt := fun k =>
    let tm := s.lv (s.armedFor k.frame) F.LAY_TIMING_TM
    if k.frame < m then k
    else if (k.tm == 3) == (tm == 3) then { k with tm := tm }
    else { frame := k.frame, tm := tm }
  { s with scn := { s.scn with copies := s.scn.copies.map fun c => c.map up } }

/-- Every band that stands composed counts as composed with the applied state: no sheaf is armed any more, or it has become the applied state (R163,
R165). -/
def State.plainBands (s : State) : State :=
  let plain : Frame → Frame := fun f => { f with bands := f.bands.map fun b => b.map fun _ => false }
  { s with comp := { s.comp with frames := s.comp.frames.map plain } }

/-- The sheaf is withdrawn: bands composed with it are squashed, the squashes of its arm count now (R153, R163, R164). -/
def State.withdrawSheaf (s : State) : State :=
  let m := s.sheaf.target
  let s := (s.squash m (some true) 0 s.changedBand fun s => s.wr F.LAY_SHEAFSTAT_STATE 0).countSquashes m
  ((s.recode m).showComp).plainBands

/-- The effective deadline of the target of the armed sheaf has not passed. DESIGN CHOICE (notes/assumptions/49.md): for the first sheaf after CMP
powers up, too, LEAD_act is the applied value, the one of reset. -/
def State.disarmInTime (s : State) : Bool :=
  match s.boundaryTime s.sheaf.target with
  | some t => (s.now : Int) ≤ s.deadline t s.sheaf.minLead
  | none => false

/-- DISARM: honoured at or before the effective deadline of the target, otherwise refused (R153, R170). -/
def State.disarm (s : State) : State :=
  if s.sheafArmed && s.disarmInTime then s.withdrawSheaf else s.mark F.LAY_SHEAFSTAT_DISARM_REFUSED

/-- A write to LAY_SHEAF (R149–R153): TAG is stored before ARM takes it; ARM and DISARM together are ignored. -/
def State.writeSheaf (s : State) (data : Word) : State :=
  let arm := bitAt data.toNat 0
  let dis := bitAt data.toNat 1
  if arm && dis then s else
  let s := s.wr F.LAY_SHEAF_TAG (bitsOf data.toNat 31 16)
  if arm then (if s.rd F.LAY_SHEAFSTAT_STATE = 0 then s.armSheaf else s.mark F.LAY_SHEAFSTAT_BLOCKED)
  else if dis then s.disarm else s

def execSheafArm (m : Master) (data : Word) (s : State) : Out :=
  s.withBus m R.LAY_SHEAF data fun s => s.writeSheaf data

def execSheafDisarm (m : Master) (data : Word) (s : State) : Out :=
  s.withBus m R.LAY_SHEAF data fun s => s.writeSheaf data

/-! ### The end of the check -/

/-- The sheaf is refused: cause and layer, or GLOBAL (R155). -/
def State.refuseSheaf (s : State) (cause : Nat) (layer : Option Nat) : State :=
  let s := (((s.wr F.LAY_SHEAFSTAT_STATE 0).mark F.LAY_SHEAFSTAT_REFUSED).wr F.LAY_SHEAFSTAT_CAUSE cause).bump F.LAY_SHEAFCNT_REFUSED
  match layer with
  | some n => (s.wr F.LAY_SHEAFSTAT_LAYER n).wr F.LAY_SHEAFSTAT_GLOBAL 0
  | none => s.wr F.LAY_SHEAFSTAT_GLOBAL 1

/-- The sheaf has passed: ARMED or ARMED_LATE with its target; the very first one schedules the first boundary (R150, R154);
changed bands are squashed (R163). -/
def State.passSheaf (s : State) (ls : List Layer) (minLead : Nat) : State :=
  let excess := decide (7 * loadDen < 10 * s.loadNum ls (s.rd F.LAY_TIMING_TM))
  let sh : Sheaf := { s.sheaf with minLead := minLead, overload := excess
                                   first := false, descArm := ls.map fun l => if l.en then l.desc else none }
  let s := { s with sheaf := sh }
  match s.sheaf.b0, s.cf.next with
  | none, none =>
    let t := s.now + max 138000 (max (600 * s.rd F.LAY_TIMING_LEAD_US) minLead)
    let n := match s.comp.frames with | f :: _ => f.num | [] => s.comp.nextNum
    let cf : Cf := { s.cf with next := some (n, t), snap := some (0, t), latch := some (0, t) }
    let s := { s with cf := cf, sheaf := { s.sheaf with target := n } }
    let s := s.squash n (some false) n s.changedBand fun s => s.wr F.LAY_SHEAFSTAT_STATE 2
    ((s.wr F.LAY_TARGET_CF n).recode n).showComp
  | b0, next =>
    let (n, t) := b0.getD (next.getD (0, 0))
    let late := decide (s.deadline t minLead < s.sheaf.armAt)
    let target := if late then n + 1 else n
    let s := { s with sheaf := { s.sheaf with target := target } }
    let s := s.squash target (some false) target s.changedBand fun s => s.wr F.LAY_SHEAFSTAT_STATE (if late then 3 else 2)
    let s := if late then s.mark F.LAY_SHEAFSTAT_LATE else s
    ((s.wr F.LAY_TARGET_CF target).recode target).showComp

/-- The check of the whole shadow set ends (R149, R155). -/
def State.checkSheaf (s : State) : State :=
  let ls := s.shadowLayers
  let bad := (List.range 8).findSome? fun n => match ls[n]? with
    | some l => if l.en && s.layerCause n l ≠ 0 then some (n, s.layerCause n l) else none
    | none => none
  match bad with
  | some (n, c) => s.refuseSheaf c (some n)
  | none =>
    let comp := s.compCycles ls
    let minLead := minLeadOf comp s.compAct
    let c := s.globalCause ls minLead
    let load := min 1000 (ceilDiv (1000 * s.loadNum ls (s.rd F.LAY_TIMING_TM)) loadDen)
    let s := if c = 1 || (7 ≤ c && c ≤ 9) then s else (s.wr F.LAY_LOAD_LOAD load).wr F.LAY_MINLEAD_CYCLES minLead
    if c ≠ 0 then s.refuseSheaf c none else s.passSheaf ls minLead

/-- A dictionary request that armed the sheaf is answered with the outcome of the check (R149, R155). -/
def State.endSheafCheck (s : State) : State :=
  let s := s.checkSheaf
  s.settle .sheaf (if s.sheafArmed then codeOK else codeREFUSED)

def execSheafCheckComplete (s : State) : Out :=
  .next (if s.on .cmp && s.rd F.LAY_SHEAFSTAT_STATE = 1 then s.endSheafCheck else s)

/-! ### Applying the sheaf (R151, R170) -/

/-- Every RWS register of LAY, of the signature regions (R193) and of GME. -/
def sheafRegs : List Nat :=
  [R.LAY_TIMING, R.LAY_LOADCFG, R.LAY_SYMTAB, R.LAY_SYMCFG]
  ++ (List.range 8).flatMap layerRegs
  ++ ((List.range 32).flatMap fun n => [R.CMP_SIG_RECT0 n, R.CMP_SIG_RECT1 n, R.CMP_SIG_EXP n])
  ++ gmeSheafRegs
where
  gmeSheafRegs : List Nat := [R.GME_CTRL, R.GME_STALE, R.GME_PARALLAX, R.GME_IMUUNC]
    ++ (List.range 7).flatMap fun c => [R.GME_CLS_MARGIN c, R.GME_CLS_SHAPE c, R.GME_CLS_TRACK c]

/-- Whether an address is an RWS register of the sheaf. -/
def isSheafReg (a : Nat) : Bool :=
  (regDef a).any fun r => r.fields.any fun f => f.acc == .rws

/-- Regions with an invalid rectangle in the applied state (R190). -/
def State.sigBad (s : State) (n : Nat) : Bool :=
  let x0 := s.app (F.CMP_SIG_RECT0_X0 n)
  let y0 := s.app (F.CMP_SIG_RECT0_Y0 n)
  let x1 := s.app (F.CMP_SIG_RECT1_X1 n)
  let y1 := s.app (F.CMP_SIG_RECT1_Y1 n)
  x1 < x0 || y1 < y0 || 2047 < x1 || 1023 < y1

/-- The armed sheaf is applied: every shadow into force, tag, counters (R151, R158). Bands composed with it now count as composed
with the applied state. -/
def State.applySheaf (s : State) : State :=
  let late := s.rd F.LAY_SHEAFSTAT_STATE = 3
  let s := sheafRegs.foldl State.applyReg s
  let s := (s.wr F.LAY_SHEAFSTAT_APPLIED_TAG s.sheaf.tag).bump F.LAY_SHEAFCNT_APPLIED
  let s := if late then s.bump F.LAY_SHEAFCNT_LATE else s
  let s := if s.sheaf.overload then s.mark F.LAY_SHEAFSTAT_OVERLOAD else s
  let s := s.wr F.LAY_SHEAFSTAT_STATE 0
  let bad := (List.range 32).foldl (fun w n => if s.sigBad n then w + 2 ^ n else w) 0
  let s := s.wr F.CMP_SIGBAD_BADRECT bad
  { s with sheaf := { s.sheaf with descApp := s.sheaf.descArm } }.plainBands

/-- The armed sheaf is refused at its boundary m because a port fell to one lane: the frame of m stays as composed, later frames
are squashed as for a disarm (R170). -/
def State.refuseAtBoundary (s : State) (m : Nat) : State :=
  let s := (s.squash (m + 1) (some true) m s.changedBand fun s => s.refuseSheaf 9 none).recode (m + 1)
  { s with sheaf := { s.sheaf with refusedAt := some m } }.showComp.plainBands

end Sys2Proof.Machine
end

