-- ==== Sys2Proof/Machine/Composer.lean ====
section
/-!
DEFINITION. The composer (R160–R167, R171–R181, R187), the symbol cache (R182–R186), frame capture (R188, R189) and the signature
regions (R190–R192).
-/

namespace Sys2Proof.Machine

/-! ### The withdrawn high beam (R214, R217, R218) -/

/-- A withdrawal is in force in frame m. -/
def Glare.off (g : Glare) (m : Nat) : Bool :=
  match g with
  | .shown => false
  | .withdrawing b => decide (b ≤ m)
  | .withdrawn _ => true
  | .returning w b => decide (w ≤ m) && decide (m < b)

/-- The layers of HB are withdrawn in frame m: by the glare function while its EN is 1, by GME SRAM, or by the beam command (R214, R217, R421). -/
def State.glareOff (s : State) (m : Nat) : Bool :=
  (s.lv (s.armedFor m) F.GME_CTRL_EN = 1 && s.gme.glare.off m) || s.net.hb.off m
  || (s.bistBad 7 && match s.gme.sramFrom with | some b => decide (b ≤ m) | none => false)

/-- The layers that a withdrawn glare function disables in frame m, by bits. -/
def State.hbOff (s : State) (m : Nat) : Nat := if s.glareOff m then s.lv (s.armedFor m) F.GME_CTRL_HB else 0

/-! ### Pixels (R174–R181) -/

/-- Byte k of a cached symbol (R182): its blocks of 1 KiB hold it packed. -/
def State.cacheByte (s : State) (e : SymEntry) (k : Nat) : Nat :=
  (s.byte (0x20880000 + 1024 * e.blocks.getD (k / 1024) 0 + k % 1024)).toNat

/-- The cache entry of a descriptor. -/
def State.symEntry (s : State) (d : SymDesc) : Option SymEntry := s.comp.cache.find? fun e => e.desc == d

/-- The stored pixel (i, j) of a layer as V and α (R174), or none where the layer has no pixel to give. -/
def State.sourcePixel (s : State) (armed : Bool) (n : Nat) (l : Layer) (claim : Option (Nat × Nat)) (i j : Nat) : Option (Nat × Nat) :=
  let pal := s.palette armed n
  let ram : Nat → Nat := fun a => (s.byte a).toNat
  match l.src with
  | 0 => claim.map fun c => toBlend pal l.fmt (rawPixel ram (s.heldLine c.1 c.2 j) l.fmt i)
  | 1 => some (toBlend pal l.fmt (rawPixel ram (l.addr + 64 * l.pitch * j) l.fmt i))
  | 2 => match l.desc with
    | none => none
    | some d =>
      if s.symUnusable then some (toBlend pal l.fmt (rawPixel ram (l.addr + 64 * l.pitch * j) l.fmt i))
      else (s.symEntry d).map fun e => toBlend pal l.fmt (rawPixel (s.cacheByte e) (lineSize d.width d.fmt * j) l.fmt i)
  | _ => some (l.solid, 255)

/-- A source line as it is read: V and α of its pixels (R180). -/
def State.readLine (s : State) (armed : Bool) (n : Nat) (l : Layer) (claim : Option (Nat × Nat)) (j : Nat) : List (Nat × Nat) :=
  (List.range l.sw).map fun i => (s.sourcePixel armed n l claim i j).getD (0, 0)

/-- The source lines of a scaled layer that composition band c needs. -/
def Layer.bandLines (l : Layer) (c : Nat) : List Nat :=
  let ys := ((List.range 32).map fun i => 32 * c + i).filter fun y => l.rect.2.1 ≤ y && y < l.rect.2.2.2
  (ys.flatMap fun (y : Nat) => filterTaps l.sh l.dh ((y : Int) - l.y).toNat).eraseDups

/-- One layer with its index and claim, as a frame composes a band of it, and the source lines in its scaler's line buffer. -/
structure Placed where
  n : Nat
  l : Layer
  claim : Option (Nat × Nat)
  win : List (Nat × List (Nat × Nat)) := []

/-- The lines that the line buffer of a layer's scaler still holds for a frame in the half of the bands that c lies in (R180). -/
def State.keptLines (s : State) (m c n : Nat) : List (Nat × List (Nat × Nat)) :=
  match s.comp.windows.find? fun w => w.layer == n && w.half == c / 16 && w.frame == m with
  | some w => w.lines
  | none => []

/-- The lines of a scaled layer for a band: those kept from the band before, the others read now (R180). -/
def State.fillWindow (s : State) (armed : Bool) (m c : Nat) (p : Placed) : Placed :=
  if !p.l.scaled || (s.sourcePixel armed p.n p.l p.claim 0 0).isNone then p
  else
    let kept := s.keptLines m c p.n
    { p with win := (p.l.bandLines c).map fun j => (j, (kept.lookup j).getD (s.readLine armed p.n p.l p.claim j)) }

/-- A layer's value and opacity at destination index (dx, dy) of its unclipped rectangle: the vertical pass over the lines of the line buffer, then the
horizontal pass on its rounded results (R177–R179). -/
def State.layerPixel (s : State) (armed : Bool) (p : Placed) (dx dy : Nat) : Option (Nat × Nat) :=
  let l := p.l
  if !l.scaled then s.sourcePixel armed p.n l p.claim dx dy
  else match s.sourcePixel armed p.n l p.claim 0 0 with
    | none => none
    | some _ =>
      let src : Nat → Nat → Nat × Nat := fun i j => ((p.win.lookup j).getD []).getD i (0, 0)
      some (filterAt l.sw l.dw dx 65535 (fun i => filterAt l.sh l.dh dy 65535 fun j => (src i j).1),
        filterAt l.sw l.dw dx 255 (fun i => filterAt l.sh l.dh dy 255 fun j => (src i j).2))

/-- The layers that frame f composes, from Z 0 to Z 7: enabled, not withdrawn as stale, not disabled by the withdrawn glare
function (R146, R167, R217). -/
def State.stack (s : State) (f : Frame) : List Placed :=
  let armed := s.armedFor f.num
  let off := f.withdrawn ||| s.hbOff f.num
  let ls := (List.range 8).map fun n => ({ n := n, l := s.layer armed n, claim := f.claims.getD n none } : Placed)
  let ls := ls.filter fun p => p.l.en && !bitAt off p.n
  (List.range 8).flatMap fun z => ls.filter fun p => p.l.z = z

/-- The canvas pixel (x, y) of a frame (R175, R176). -/
def State.composePixel (s : State) (f : Frame) (st : List Placed) (x y : Nat) : Nat :=
  let armed := s.armedFor f.num
  st.foldl (fun d p =>
    let r := p.l.rect
    if r.1 ≤ x && x < r.2.2.1 && r.2.1 ≤ y && y < r.2.2.2 then
      match s.layerPixel armed p ((x : Int) - p.l.x).toNat ((y : Int) - p.l.y).toNat with
      | some (v, a) => blend p.l.blend d v a
      | none => d
    else d) 0

/-- The 2,048 composed values of a line as they stand in DRAM (R187). -/
def State.composedLine (s : State) (m y : Nat) : List Nat := (List.range 2048).map fun x => s.num (composedAddr m y + 2 * x) 2

/-! ### Frames (R160–R167) -/

/-- The composer may work: its domain and DRAM are on, and enough lanes remain. -/
def State.composerOn (s : State) : Bool := s.on .cmp && s.on .mem && !s.bitF F.BIST_UNUSABLE_TARGET 10

/-- At the boundary of a frame its withdrawn layers show in LAY_STALESTAT, and a new one raises LAYER_STALE; a layer that the sheaf of this boundary has
disabled is not withdrawn (R167, R170). -/
def State.showStale (s : State) (f : Frame) : State :=
  (List.range 8).foldl (fun (s : State) n =>
    if !bitAt f.withdrawn n then s.setBitF F.LAY_STALESTAT_WITHDRAWN n false
    else if s.bitF F.LAY_STALESTAT_WITHDRAWN n then s
    else if !(s.layer false n).en then s.setStale n false
    else (s.setBitF F.LAY_STALESTAT_WITHDRAWN n true).raise (Src.LAYER_STALE n)) s

/-- The next frame starts: claims, stale layers, an empty frame (R160, R166, R167). -/
def State.startFrame (s : State) : State :=
  let m := s.comp.nextNum
  let bads := (List.range 8).map (s.notReady m)
  let before := s.comp.last
  let claims := s.claimFor m before
  let s := s.takeClaims claims
  let counts := s.comp.notReady
  let stale := s.comp.stale
  let s := (List.range 8).foldl (fun s n => if bads.getD n false then s.bump (fNotRdy n) else s) s
  let s := s.staleSteps m bads counts stale
  let f : Frame :=
    { num := m, claims := claims, before := before, withdrawn := s.comp.stale, countsBefore := counts, staleBefore := stale,
      bads := bads }
  { s with comp := { s.comp with frames := s.comp.frames ++ [f], nextNum := m + 1, last := f.used } }.showComp

/-- The composer starts the next frame once the last one is written back and a buffer is free: at most two frames ahead (R160,
R187). -/
def execComposeFrameStart (s : State) : Out :=
  .next (if s.composerOn && s.composing.isNone && s.comp.frames.length < 2 then s.startFrame else s)

/-- The frame of a number, with a change. -/
def State.modFrame (s : State) (m : Nat) (g : Frame → Frame) : State :=
  let up : Frame → Frame := fun f => if f.num = m then g f else f
  { s with comp := { s.comp with frames := s.comp.frames.map up, shown := s.comp.shown.map up } }

/-- The lane that the spare lane checks in composition band c, while it may (R173). -/
def State.checkedLane (s : State) (c : Nat) : Option Nat :=
  if s.flag F.CMP_CTRL_CHK_EN && s.rd F.BIST_SPARE_CMP_LANE = 15 && s.lanes = 8 then some (c % 8) else none

/-- The lane check of a band (R173); CMP_STAT.CHK_LANE keeps its lane until the next band begins. -/
def State.laneCheck (s : State) (c : Nat) (differs : Bool) : State :=
  match s.checkedLane c with
  | none => s
  | some k =>
    let s := s.wr F.CMP_STAT_CHK_LANE k
    if differs then ((s.markBit F.CMP_LANECHK_FAIL k).bumpSat F.CMP_LANECHK_COUNT).raise Src.CMP_LANE else s

/-- The windows after a band: the last 16 lines of each scaled layer stay for the next band of this half (R180). -/
def State.keepWindows (s : State) (m c : Nat) (st : List Placed) : State :=
  let new := (st.filter fun p => !p.win.isEmpty).map fun p =>
    ({ layer := p.n, half := c / 16, frame := m, lines := (p.win.mergeSort fun a b => b.1 ≤ a.1).take 16 } : Window)
  let old := s.comp.windows.filter fun w => !new.any fun x => x.layer == w.layer && x.half == w.half
  { s with comp := { s.comp with windows := new ++ old } }

/-- Composition band c of frame f is written back (R162, R175, R180, R187). -/
def State.writeBand (s : State) (f : Frame) (c : Nat) : State :=
  let st := (s.stack f).map (s.fillWindow (s.armedFor f.num) f.num c)
  let lines := (List.range 32).map fun i => (32 * c + i, (List.range 2048).map fun x => s.composePixel f st x (32 * c + i))
  let t := lines.foldl (fun t l => t.setBytes (composedAddr f.num l.1) (l.2.flatMap fun v => leBytes 2 v)) s
  let armed := s.armedFor f.num
  (t.keepWindows f.num c st).modFrame f.num fun g =>
    { g with bands := g.bands.set c (some armed), lines := g.lines.filter (fun p => p.1 / 32 != c) ++ lines }

/-- The band in progress completes (R161, R164, R172): squashed bands before new work, earliest frame first. -/
def execComposeBandComplete (laneDiffers : Bool) (s : State) : Out :=
  match s.composing with
  | none => .next s
  | some (m, c) =>
    match s.compFrames.find? fun f => f.num == m with
    | none => .next s
    | some f => .next (if s.composerOn then ((s.writeBand f c).laneCheck c laneDiffers).showComp else s)

/-! ### Signatures (R190–R192) -/

/-- The CRC of a region over lines of pixels, or none where a line is missing (R191). -/
def sigOver (lines : List (Nat × List Nat)) (x0 y0 x1 y1 : Nat) : Option Nat :=
  let rows := (List.range (y1 + 1 - y0)).map fun i => lines.lookup (y0 + i)
  if rows.all Option.isSome then
    some (crc32 (rows.flatMap fun r => ((r.getD []).drop x0).take (x1 + 1 - x0) |>.flatMap fun v => leBytes 2 v))
  else none

/-- Region n is on: MODE 1 or 2 with a valid rectangle (R190). -/
def State.sigOn (s : State) (n : Nat) : Bool :=
  let m := s.app (F.CMP_SIG_RECT0_MODE n)
  (m == 1 || m == 2) && !s.sigBad n

/-- The write-side and read-side signatures of region n in the frame of number m (R192). -/
def State.sigPair (s : State) (m n : Nat) : Option Nat × Option Nat :=
  let x0 := s.app (F.CMP_SIG_RECT0_X0 n)
  let y0 := s.app (F.CMP_SIG_RECT0_Y0 n)
  let x1 := s.app (F.CMP_SIG_RECT1_X1 n)
  let y1 := s.app (F.CMP_SIG_RECT1_Y1 n)
  let w := match s.comp.shown with
    | some f => if f.num = m then sigOver f.lines x0 y0 x1 y1 else none
    | none => none
  let r := match s.scn.copies.getD (m % 2) none with
    | some k => if k.frame = m && !(k.refill.any fun c => y0 / 32 ≤ c && c ≤ y1 / 32) then sigOver k.lines x0 y0 x1 y1 else none
    | none => none
  (w, r)

/-- What the comparison of one region finds (R192). -/
structure SigResult where
  skip : Bool := false
  readback : Bool := false
  mismatch : Bool := false
  crc : Option Nat := none
  deriving DecidableEq, Repr

/-- Region n at the boundary of frame m, which the sheaf refused at that boundary composed or not (R170, R192). -/
def State.sigResult (s : State) (m n : Nat) (refused : Bool) : SigResult :=
  if !s.sigOn n then {} else
  let (w, r) := s.sigPair m n
  let two := s.app (F.CMP_SIG_RECT0_MODE n) == 2
  match w, r with
  | some a, some b =>
    { skip := two && refused, readback := a != b
      mismatch := two && !refused && a != s.app (F.CMP_SIG_EXP_EXP n), crc := some a }
  | some a, none => { skip := true, crc := some a }
  | none, _ => { skip := true }

/-- The safety island compares the signatures of frame m at its boundary (R192). -/
def State.compareSigs (s : State) (m : Nat) : State :=
  let refused := s.sheaf.refusedAt == some m
  let rs := (List.range 32).map fun n => s.sigResult m n refused
  let bits : (SigResult → Bool) → Nat := fun f => (List.range 32).foldl (fun w n => if f (rs.getD n {}) then w + 2 ^ n else w) 0
  let s := ((s.setN R.CMP_SIGRESULT (bits SigResult.mismatch)).setN R.CMP_SIGRB (bits SigResult.readback)).setN R.CMP_SIGSKIP
    (bits SigResult.skip)
  let s := (List.range 32).foldl (fun s n =>
    if !s.sigOn n then s.setN (R.CMP_SIG_CRC n) 0
    else match (rs.getD n {}).crc with
      | some c => s.setN (R.CMP_SIG_CRC n) c
      | none => s) s
  let s := if rs.any SigResult.mismatch then s.bumpSat F.CMP_SIGCNT_MISMATCH else s
  let s := if rs.any SigResult.readback then s.bumpSat F.CMP_SIGCNT_READBACK else s
  let s := if rs.any SigResult.skip then s.bumpSat F.CMP_SIGCNT_UNCHECKED else s
  (s.raiseIf (rs.any SigResult.readback) Src.SIG_READBACK).raiseIf (rs.any SigResult.mismatch) Src.SIG_MISMATCH

/-! ### The symbol cache (R182–R186) -/

/-- Blocks that no entry holds. DESIGN CHOICE (notes/assumptions/49.md): a load takes the lowest numbered ones (R182). -/
def State.freeBlocks (s : State) : List Nat :=
  let used := s.comp.cache.flatMap fun e => e.blocks
  (List.range 1024).filter fun b => !used.contains b

/-- ENTRIES and FREE follow the cache. -/
def State.showCache (s : State) : State :=
  (s.wr F.CMP_SYMSTAT_ENTRIES s.comp.cache.length).wr F.CMP_SYMSTAT_FREE s.freeBlocks.length

/-- A layer of the applied state, or of a sheaf in progress, uses an entry: by the device's own copies of the descriptors, and by those that the check
is reading (R144, R185). -/
def State.symUsed (s : State) (e : SymEntry) : Bool :=
  let app := (List.range 8).any fun n => let l := s.layer false n; l.en && l.src = 2 && l.desc == some e.desc
  let arm := if s.sheafArmed then (List.range 8).any fun n => let l := s.layer true n; l.en && l.src = 2 && l.desc == some e.desc
    else s.rd F.LAY_SHEAFSTAT_STATE = 1 && s.shadowLayers.any fun l => l.en && l.src = 2 && l.desc == some e.desc
  app || arm

/-- The DRAM bytes from the first to the last pixel of a symbol (R182): lines of the line size at the pitch. -/
def symRange (d : SymDesc) : Nat × Nat := (d.addr, d.addr + 64 * d.pitch * (d.height - 1) + lineSize d.width d.fmt)

/-- LOAD (R182, R183): the result at once, or the copy that begins. DESIGN CHOICE (notes/assumptions/49.md): of several causes the first in the
order 4, 5, 2, 3 is told. -/
def State.symLoad (s : State) (i : Nat) : State :=
  let d := s.readDesc i
  let need := ceilDiv (lineSize d.width d.fmt * d.height) 1024
  let free := s.freeBlocks
  if s.symUnusable then s.wr F.CMP_SYMSTAT_RESULT 8
  else if s.rd F.LAY_SYMCFG_COUNT ≤ i || !d.ok then s.wr F.CMP_SYMSTAT_RESULT 4
  else if !inUserDram (symRange d) then s.wr F.CMP_SYMSTAT_RESULT 5
  else if s.comp.cache.any (fun e => e.desc == d) then s.wr F.CMP_SYMSTAT_RESULT 2
  else if 256 ≤ s.comp.cache.length || free.length < need then s.wr F.CMP_SYMSTAT_RESULT 3
  else
    let e : SymEntry := { index := i, desc := d, blocks := free.take need, complete := false }
    let s := { s with comp := { s.comp with cache := s.comp.cache ++ [e], loading := some s.comp.cache.length } }
    (s.wr F.CMP_SYMSTAT_BUSY 1).showCache

/-- The entries that a test keeps. -/
def State.keepSyms (s : State) (keep : SymEntry → Bool) : State :=
  { s with comp := { s.comp with cache := s.comp.cache.filter keep } }.showCache

/-- EVICT (R185). DESIGN CHOICE (notes/assumptions/49.md): an INDEX at or above the shadow COUNT, or without an entry, is removed like any other and
reports 7. -/
def State.symEvict (s : State) (i : Nat) : State :=
  if s.symUnusable then s.wr F.CMP_SYMSTAT_RESULT 8
  else if s.rd F.LAY_SHEAFSTAT_STATE ≠ 0 || s.comp.cache.any (fun e => e.index == i && s.symUsed e) then s.wr F.CMP_SYMSTAT_RESULT 6
  else (s.keepSyms fun e => e.index != i).wr F.CMP_SYMSTAT_RESULT 7

/-- EVICT_UNUSED (R185). -/
def State.symEvictUnused (s : State) : State :=
  if s.symUnusable then s.wr F.CMP_SYMSTAT_RESULT 8
  else (s.keepSyms s.symUsed).wr F.CMP_SYMSTAT_RESULT 7

/-- A write to CMP_SYMLOAD: ignored as a command while one runs; more than one command bit is result 4. -/
def State.writeSymload (s : State) (data : Word) : State :=
  let d := data.toNat
  let s := s.store R.CMP_SYMLOAD data
  let i := bitsOf d 7 0
  if s.flag F.CMP_SYMSTAT_BUSY then s
  else if 1 < popcount 3 (bitsOf d 10 8) then s.wr F.CMP_SYMSTAT_RESULT 4
  else if bitAt d 8 then s.symLoad i
  else if bitAt d 9 then s.symEvict i
  else if bitAt d 10 then s.symEvictUnused
  else s

def execSymbolLoad (m : Master) (data : Word) (s : State) : Out :=
  s.withBus m R.CMP_SYMLOAD data fun s => s.writeSymload data

def execSymbolEvict (m : Master) (data : Word) (s : State) : Out :=
  s.withBus m R.CMP_SYMLOAD data fun s => s.writeSymload data

def execSymbolEvictUnused (m : Master) (data : Word) (s : State) : Out :=
  s.withBus m R.CMP_SYMLOAD data fun s => s.writeSymload data

/-- A symbol's pixels packed at the line size (R182). -/
def State.symPixels (s : State) (d : SymDesc) : List Byte :=
  (List.range d.height).flatMap fun y => s.bytes (d.addr + 64 * d.pitch * y) (lineSize d.width d.fmt)

/-- The copy ends: the pixels stand in the entry's blocks, and the entry is complete (R182). -/
def State.symDone (s : State) (k : Nat) (e : SymEntry) : State :=
  let px := s.symPixels e.desc
  let s := (List.range e.blocks.length).foldl (fun s b =>
    s.setBytes (0x20880000 + 1024 * e.blocks.getD b 0) ((px.drop (1024 * b)).take 1024)) s
  let cache := s.comp.cache.set k { e with complete := true }
  ({ s with comp := { s.comp with cache := cache, loading := none } }.wr F.CMP_SYMSTAT_BUSY 0).wr F.CMP_SYMSTAT_RESULT 1

/-- The load in progress ends. -/
def State.symLoaded (s : State) : State :=
  match s.comp.loading with
  | none => s
  | some k =>
    match s.comp.cache[k]? with
    | none => s
    | some e => if s.on .cmp && s.on .mem then s.symDone k e else s

/-! ### Capture (R188, R189) -/

/-- A write to CMP_CAPCTRL: START and ABORT (R188, R189). DESIGN CHOICE (notes/assumptions/49.md): with both at 1 and no capture running, the capture
starts and ABORT, which looks at the state before the write, does nothing. -/
def State.writeCapctrl (s : State) (data : Word) : State :=
  let d := data.toNat
  let st := s.rd F.CMP_CAPSTAT_STATE
  let running := st = 1 || st = 2
  let a := 64 * s.rd F.CMP_CAPADDR_ADDR
  let s := if !bitAt d 0 then s
    else if running then s.mark F.CMP_CAPSTAT_REFUSED
    else if !inUserDram (a, a + 4194304) then s.wr F.CMP_CAPSTAT_STATE 5
    else { s with comp := { s.comp with capAddr := a, capAt := s.now } }.wr F.CMP_CAPSTAT_STATE 1
  if bitAt d 1 && running then s.capCut 6 else s

def execCaptureStart (m : Master) (data : Word) (s : State) : Out :=
  s.withBus m R.CMP_CAPCTRL data fun s => s.writeCapctrl data

def execCaptureAbort (m : Master) (data : Word) (s : State) : Out :=
  s.withBus m R.CMP_CAPCTRL data fun s => s.writeCapctrl data

/-- The capture at a boundary: the buffer it copies is released, or a waiting capture begins to copy frame m (R48, R188). -/
def State.capBoundary (s : State) (m : Nat) : State :=
  match s.rd F.CMP_CAPSTAT_STATE with
  | 2 => s.capCut 4
  | 1 => if s.comp.capAt = s.now then s
    else { s with comp := { s.comp with capFrame := some m } }.wr F.CMP_CAPSTAT_STATE 2 |>.wr F.CMP_CAPSTAT_CF m
  | _ => s

/-- The copy completes (R188). -/
def execCaptureComplete (s : State) : Out :=
  match s.comp.capFrame with
  | none => .next s
  | some m =>
    .next (if s.on .cmp && s.rd F.CMP_CAPSTAT_STATE = 2 then
      let s := (s.capCopy m 4194304).wr F.CMP_CAPSTAT_STATE 3
      { s with comp := { s.comp with capFrame := none } }
    else s)

end Sys2Proof.Machine
end

