-- ==== Sys2Proof/Machine/Glare.lean ====
section
/-!
DEFINITION. The glare mask engine: object table (R195–R198), snapshot, prediction and projection (R199–R211), checks (R212, R213),
stale lists and withdrawal (R214–R219), zone records (R221).
-/

namespace Sys2Proof.Machine

/-! ### Object table (R195–R197) -/

/-- The tracks of the table before that a new list leaves out: held from now on, or held already; the most recent record first
(R197). DESIGN CHOICE (notes/assumptions/49.md): the most recent is the one with the latest t_o, ties in the order of the old table. -/
def heldTracks (old : List Track) (ids : List Nat) (arrival : Nat) : List Track :=
  let held := (old.filter fun t => !ids.contains t.rec_.id).map fun t =>
    match t.drop with
    | some _ => t
    | none => { t with drop := some arrival }
  held.mergeSort fun a b => decide (b.rec_.t ≤ a.rec_.t)

/-- The minimum lead in force: of the armed sheaf, else of the applied state with itself (R150, R159). -/
def State.leadNow (s : State) : Nat := if s.sheafArmed then s.sheaf.minLead else minLeadOf s.compAct s.compAct

/-- The first boundary from n on whose deadline this instant meets: the next one after now, or the one after that (R150). -/
def State.boundaryMet (s : State) : Nat :=
  match s.boundaryAfter with
  | some (n, t) => if (s.now : Int) ≤ s.deadline t s.leadNow then n else n + 1
  | none => s.comp.nextNum

/-- A band that some high-beam layer reaches in the state that is in force for frame m (R217). -/
def State.hbBand (s : State) (m c : Nat) : Bool :=
  let armed := s.armedFor m
  (List.range 8).any fun n => bitAt (s.lv armed F.GME_CTRL_HB) n && (s.layer armed n).en && (s.layer armed n).inBand c

/-- The boundary from which the high beam is composed again: after the withdrawal boundary, with the instant at or before its
deadline and the snapshot of its band 0 (R218). -/
def State.returnBoundary (s : State) (w : Nat) : Nat :=
  match s.boundaryAfter with
  | some (n, t) =>
    let meets : Nat → Bool := fun k =>
      let tk := t + (k - n) * cfLen s.tm
      w < k && (s.now : Int) ≤ s.deadline tk s.leadNow && s.now + 138000 ≤ tk
    match (List.range (w + 4 - n + 4)).find? fun i => meets (n + i) with
    | some i => n + i
    | none => max n w + 4
  | none => w + 1

/-- The glare function returns with the first list after a withdrawal (R218, R222). -/
def State.glareReturn (s : State) : State :=
  let back : Nat → State := fun w =>
    let b := s.returnBoundary w
    let s := { s with gme := { s.gme with glare := .returning w b } }
    s.squash b none b (s.hbBand b) id
  match s.gme.glare with
  | .withdrawing w => back w
  | .withdrawn w => back w
  | .shown | .returning _ _ => s

/-- The table of a list is built and usable (R195–R197); a table that no snapshot took is counted as unused (R222). -/
def State.buildTable (s : State) (l : ObjList) : State :=
  let old := match s.gme.table with | some t => t.tracks | none => []
  let objs := l.objs.map fun o => ({ rec_ := o } : Track)
  let held := heldTracks old (l.objs.map fun o => o.id) l.arrival
  let room := 64 - objs.length
  let s := match s.gme.table with
    | some t => if t.snapped then s else s.bump F.GME_CNT0_UNUSED
    | none => s
  let s := s.bumpBy F.GME_CNT1_HELDDROP (held.length - room)
  let t : ObjTable := { usable := s.now, handed := l.handed, seq := l.seq, tracks := objs ++ held.take room }
  { s with gme := { s.gme with handed := none, table := some t } }.glareReturn

def execObjectTableBuild (s : State) : Out :=
  match s.gme.handed with
  | none => .next s
  | some l => .next (if s.on .gme then s.buildTable l else s)

/-! ### Ego rotation (R202) -/

/-- Angle (mdeg) and rate (mdeg/s) between or before samples: p is newer than the time asked for. -/
def imuSeek (rate int2 : ImuPt → Int) (t : Rat) : ImuPt → List ImuPt → Rat × Rat
  | p, [] => ((int2 p : Rat) / 2000000000, rate p)
  | p, q :: rest =>
    if (q.t : Rat) ≤ t then
      let dt : Rat := ((p.t : Int) - q.t : Int)
      let x : Rat := t - q.t
      let dr : Rat := (rate p - rate q : Int)
      (((int2 q : Rat) / 2 + (rate q : Rat) * x + dr * x * x / (2 * dt)) / 1000000000, (rate q : Rat) + dr * x / dt)
    else imuSeek rate int2 t q rest

/-- Ψ or Θ in mdeg and its rate at a time in ns: extrapolated with the newest rate, the oldest value before the history. -/
def imuAt (h : List ImuPt) (rate int2 : ImuPt → Int) (t : Rat) : Rat × Rat :=
  match h with
  | [] => (0, 0)
  | p :: rest =>
    if (p.t : Rat) ≤ t then
      let x : Rat := t - p.t
      ((int2 p : Rat) / 2000000000 + (rate p : Rat) * x / 1000000000, rate p)
    else imuSeek rate int2 t p rest

/-- ε over a horizon h (ns) from t_o (R203). -/
def egoTerm (hist : List ImuPt) (rate int2 : ImuPt → Int) (t : Int) (h : Rat) : Rat :=
  let a := imuAt hist rate int2 t
  let b := imuAt hist rate int2 (t + h)
  a.2 * h / 1000000000 - (b.1 - a.1)

/-! ### Prediction (R196, R200, R203–R205) -/

/-- What one render knows: which GME state and which projection models it uses, the band and its times. -/
structure View where
  /-- The armed GME state rather than the applied one (R201). -/
  armed : Bool
  /-- Tiles whose staged projection model is the one in force (R209). -/
  staged : List Bool
  tk : Int
  /-- T_sw in ns (R204). -/
  sweep : Rat
  imu : Bool
  /-- Growth of the stale-list policy and the retime margin, mdeg. -/
  grow : Rat

/-- A core in angle space: left, right, top, bottom in mdeg. -/
structure Core where
  l : Rat
  r : Rat
  t : Rat
  b : Rat

/-- The parallax correction in mdeg for an offset in mm and a distance in 0.1 m (R196); the error that R196 allows is open. -/
def parallax (ofs : Int) (dist : Nat) : Rat :=
  let mm := 100 * dist
  ((atanMicro ofs mm + clampInt (-990000) 990000 (Config.parallaxError ofs mm) : Int) : Rat) / 1000000

/-- The distance D in 0.1 m (R196 step 2). -/
def State.trackDist (s : State) (v : View) (o : ObjRec) : Nat :=
  match o.dist with
  | some d => d
  | none => 10 * s.lv v.armed (F.GME_CLS_TRACK_DIST_DEF o.cls)

/-- The core of a track (R196 step 3, R203–R205). -/
def State.coreOf (s : State) (v : View) (o : ObjRec) : Core :=
  let c := o.cls
  let f := s.lv v.armed
  let d := s.trackDist v o
  let on := f F.GME_CTRL_PARALLAX = 1 && d ≠ 0
  let daz : Rat := if on then parallax (s.lvS v.armed F.GME_PARALLAX_OFS_X) d else 0
  let del : Rat := if on then parallax (s.lvS v.armed F.GME_PARALLAX_OFS_Y) d else 0
  let h0 : Rat := ((max 0 (v.tk - o.t) : Int) : Rat)
  let h1 : Rat := h0 + v.sweep
  let sec : Rat := 1000000000
  let moveAz : Rat → Rat := fun h => (o.rateAz : Rat) * h / sec
    + (if v.imu then egoTerm s.gme.imu ImuPt.yaw ImuPt.psi2 o.t h else 0)
  let moveEl : Rat → Rat := fun h => (o.rateEl : Rat) * h / sec
    + (if v.imu then egoTerm s.gme.imu ImuPt.pitch ImuPt.theta2 o.t h else 0)
  let u : Rat := (((f (F.GME_CLS_TRACK_RUNC c) + (if v.imu then 0 else f F.GME_IMUUNC_UNC) : Nat)) : Rat) * h1 / sec
  let wh : Rat := (f (F.GME_CLS_MARGIN_MARGIN_H c) : Rat) + u + v.grow
  let wv : Rat := (f (F.GME_CLS_MARGIN_MARGIN_V c) : Rat) + u + v.grow
  let az0 := moveAz h0
  let az1 := moveAz h1
  let el0 := moveEl h0
  let el1 := moveEl h1
  { l := (o.azL : Rat) - daz + min az0 az1 - wh, r := (o.azR : Rat) - daz + max az0 az1 + wh
    t := (o.elT : Rat) - del + max el0 el1 + wv, b := (o.elB : Rat) - del + min el0 el1 - wv }

/-! ### Projection (R206–R208) -/

/-- A field of a tile's model: staged or applied. -/
def State.pm (s : State) (staged : Bool) (f : Fld) : Int := toSigned f.width (if staged then s.rd f else s.app f)

/-- The tile-local position of an angle in 1/16 pixel (R207). -/
def State.project (s : State) (staged : Bool) (t : Nat) (az el : Rat) : Int × Int :=
  let step : Fld → Rat := fun f => ((if staged then s.rd f else s.app f : Nat) : Rat)
  let u : Rat := (az - s.pm staged (F.GME_PM_ORG_AZ_ORG t)) * 256 / step (F.GME_PM_STEP_AZ_STEP t)
  let v : Rat := ((s.pm staged (F.GME_PM_ORG_EL_ORG t) : Rat) - el) * 256 / step (F.GME_PM_STEP_EL_STEP t)
  let i := (clampInt 0 31 (u / 256).floor).toNat
  let j := (clampInt 0 15 (v / 256).floor).toNat
  let fu : Rat := u - 256 * (i : Rat)
  let fv : Rat := v - 256 * (j : Rat)
  let mix : (Nat → Int) → Int := fun p =>
    roundRat (((256 - fu) * (256 - fv) * p (33 * j + i) + fu * (256 - fv) * p (33 * j + i + 1)
      + (256 - fu) * fv * p (33 * (j + 1) + i) + fu * fv * p (33 * (j + 1) + i + 1)) / 65536)
  (mix fun k => s.pm staged (F.GME_PM_P_X t k), mix fun k => s.pm staged (F.GME_PM_P_Y t k))

/-- The shadow rectangle of a core in a tile: the bounding box of its eight points; with UP the top maps at EL_ORG + 1,000 mdeg and
the rectangle is open above (R208). -/
def State.shadowOf (s : State) (v : View) (t : Nat) (c : Core) (cls : Nat) : Shadow :=
  let staged := v.staged.getD t false
  let up := s.lv v.armed (F.GME_CLS_SHAPE_UP cls) = 1
  let top : Rat := if up then (s.pm staged (F.GME_PM_ORG_EL_ORG t) : Rat) + 1000 else c.t
  let mx := (c.l + c.r) / 2
  let my := (top + c.b) / 2
  let pts := [(c.l, top), (mx, top), (c.r, top), (c.l, my), (c.r, my), (c.l, c.b), (mx, c.b), (c.r, c.b)].map
    fun p => s.project staged t p.1 p.2
  let xs := pts.map Prod.fst
  let ys := pts.map Prod.snd
  let lo : List Int → Int := fun l => l.foldl min (l.headD 0)
  let hi : List Int → Int := fun l => l.foldl max (l.headD 0)
  { tile := t, x0 := lo xs, x1 := hi xs, y0 := if up then none else some (lo ys), y1 := hi ys
    depth := s.lv v.armed (F.GME_CLS_SHAPE_DEPTH cls), soft := s.lv v.armed (F.GME_CLS_SHAPE_SOFT cls) }

/-- The mask code of one shadow at a tile-local pixel (R211); distances in 1/16 pixel. -/
def Shadow.code (h : Shadow) (x y : Nat) : Nat :=
  let xc : Int := 16 * x + 8
  let yc : Int := 16 * y + 8
  let dx := max 0 (max (h.x0 - xc) (xc - h.x1))
  let dy := max 0 (max (match h.y0 with | some y0 => y0 - yc | none => 0) (yc - h.y1))
  let d := (max dx dy).toNat
  if h.soft = 0 then (if d = 0 then h.depth else 255)
  else (divRound (((h.depth * 16 * h.soft + (255 - h.depth) * min d (16 * h.soft) : Nat)) : Int) (16 * h.soft)).toNat

/-- The mask code at a pixel of a tile: the minimum over all shadows, 255 where none reaches (R211). -/
def maskCode (m : Mask) (t x y : Nat) : Nat :=
  match m with
  | .unity => 255
  | .level k => k
  | .drawn hs => hs.foldl (fun c h => if h.tile = t then min c (h.code x y) else c) 255

/-- The canvas rectangle of a core rectangle within its tile, in whole pixels (R221). -/
def Shadow.zoneBox (h : Shadow) : Option (Nat × Nat × Nat × Nat) :=
  let x0 := max 0 (h.x0 / 16)
  let x1 := min 1023 (h.x1 / 16)
  let y0 := max 0 (match h.y0 with | some y => y / 16 | none => 0)
  let y1 := min 511 (h.y1 / 16)
  if x1 < x0 || y1 < y0 then none
  else
    let ox := 1024 * (h.tile % 2)
    let oy := 512 * (h.tile / 2)
    some (x0.toNat + ox, y0.toNat + oy, x1.toNat + ox, y1.toNat + oy)

/-- The rectangle around two. -/
def joinBox (a b : Option (Nat × Nat × Nat × Nat)) : Option (Nat × Nat × Nat × Nat) :=
  match a, b with
  | some p, some q => some (min p.1 q.1, min p.2.1 q.2.1, max p.2.2.1 q.2.2.1, max p.2.2.2 q.2.2.2)
  | some p, none => some p
  | none, q => q

/-! ### Snapshot (R199–R201, R215–R219) -/

/-- The start of band k of a refresh that starts at a time (R32). -/
def State.bandStart (s : State) (ref k : Nat) : Nat := ref + k * slotLen s.tm

/-- The frame that runs in the refresh that starts at a time. -/
def State.frameAt (s : State) (ref : Nat) : Nat :=
  match s.cf.next with
  | some (n, t) => if t ≤ ref then n else s.cf.cur.getD n
  | none => s.cf.cur.getD 0

/-- A change of the timing mode is to come: by an armed sheaf or by the TM2 fallback (R219, R273). -/
def State.retimeAhead (s : State) : Bool :=
  (s.sheafArmed && s.rd F.LAY_TIMING_TM != s.tm) || s.cf.fallback

/-- The retime hold of a change between modes in cycles: one refresh of the old mode, two to or from TM3 (R168). -/
def holdLen (old new : Nat) : Nat := (if old = 3 || new = 3 then 2 else 1) * refreshLen old 0

/-- The boundary at which the armed sheaf acts, and its time. -/
def State.targetTime (s : State) : Option Nat :=
  match s.cf.next with
  | some (n, t) => if s.sheafArmed then some (t + (s.sheaf.target - n) * cfLen s.tm) else none
  | none => none

/-- The refresh that starts at a time is the last one before a time. -/
def State.lastBefore (s : State) (ref t : Nat) : Bool := ref < t && t ≤ ref + refreshLen s.tm 0

/-- The hold that follows the refresh starting at a time, if it is the last before a boundary that changes the mode (R204, R219). -/
def State.holdAfter (s : State) (ref : Nat) : Nat :=
  if s.targetTime.any (s.lastBefore ref) && s.rd F.LAY_TIMING_TM != s.tm then holdLen s.tm (s.rd F.LAY_TIMING_TM)
  else if s.cf.fallback && s.cf.next.any (fun b => s.lastBefore ref b.2) then holdLen 2 1
  else 0

/-- T_sw of a band in ns (R204). -/
def State.sweepOf (s : State) (ref k : Nat) : Rat :=
  let slot := if k = 15 then refreshLen s.tm 0 - 15 * slotLen s.tm else slotLen s.tm
  ((refreshLen s.tm 0 + slot + s.holdAfter ref : Nat) : Rat) * 5 / 3

/-- The stale-list age at a prediction time in ns, none before the first list (R215). -/
def State.listAge (s : State) (tk : Int) : Option Int := s.gme.lastArrival.map fun a => tk - a

/-- Growth in mdeg (R216, R217): frozen at its 200 ms value beyond. -/
def State.growth (s : State) (armed : Bool) (age : Option Int) : Rat :=
  let ms : Int := match age with | some a => min a 200000000 | none => 200000000
  if ms ≤ 50000000 then 0 else (s.lv armed F.GME_STALE_GROW_RATE : Rat) * ((ms - 50000000 : Int) : Rat) / 1000000000

/-- The view of the render of band k of the refresh that starts at a time (R200, R201, R204, R209). -/
def State.viewOf (s : State) (ref k : Nat) : View :=
  let m := s.frameAt ref
  let armed := s.armedFor m
  let sk := s.bandStart ref k
  let tk : Int := s.localTime + nsOf (sk - s.now)
  let grow := s.growth armed (s.listAge tk) + (if s.retimeAhead then (s.lv armed F.GME_STALE_RETIME_MARGIN : Rat) else 0)
  { armed := armed
    staged := (List.range 4).map fun t => s.now < ref && (match s.armedAt.lookup (R.GME_PM_GEN t) with
      | some a => decide (a + 138000 ≤ ref)
      | none => false)
    tk := tk, sweep := s.sweepOf ref k, grow := grow
    imu := s.lv armed F.GME_CTRL_IMU_USE = 1 && s.rd F.VIN_IMUSTAT_STATE = 1 }

/-- A track is in the render: held tracks for HOLD_MS; class enabled; confidence (R196 step 1, R197). -/
def State.admits (s : State) (v : View) (t : Track) : Bool :=
  let c := t.rec_.cls
  (match t.drop with
    | some a => v.tk - a ≤ 1000000 * (s.lv v.armed (F.GME_CLS_TRACK_HOLD_MS c) : Int)
    | none => true)
  && s.lv v.armed (F.GME_CLS_SHAPE_EN c) = 1 && s.lv v.armed (F.GME_CLS_SHAPE_MINCONF c) ≤ t.rec_.conf

/-- The shadows of one track in the four tiles, and its part of the zone records. -/
def State.drawTrack (s : State) (v : View) (ref : Nat) (t : Track) : List Shadow × ZonePart :=
  let o := t.rec_
  let core := s.coreOf v o
  let hs := (List.range 4).map fun k => s.shadowOf v k core o.cls
  (hs, { id := o.id, cls := o.cls, prio := s.lv v.armed (F.GME_CLS_SHAPE_PRIO o.cls), dist := s.trackDist v o, ref := ref
         box := hs.foldl (fun b h => joinBox b h.zoneBox) none })

/-- The withdrawal begins at this snapshot (R217): its boundary, the squash of the high-beam bands, GLARE_STALE. -/
def State.glareWithdraw (s : State) : State :=
  let b := s.boundaryMet
  let s := { s with gme := { s.gme with glare := .withdrawing b } }
  (s.squash b none b (s.hbBand b) id).raise Src.GLARE_STALE

/-- The connection of KIND 1 is enabled, and HB_ALLOW counts as 0 (R421). -/
def State.hbForbidden (s : State) : Bool :=
  (List.range 8).any fun c => s.flag (F.NET_ENV_CFG_EN c) && s.rd (F.NET_ENV_CFG_KIND c) == 1 && !s.flag (F.NET_ENV_STAT_HB_ALLOW c)

/-- The island's task requests the withdrawal of the layers of HB while HB_ALLOW is 0, and their return once it is 1 (R421). -/
def State.hbSync (s : State) : State :=
  let off : State := 
    let b := s.boundaryMet
    let s := { s with net := { s.net with hb := .withdrawing b } }
    s.squash b none b (s.hbBand b) id
  let back : Nat → State := fun w =>
    let b := s.returnBoundary w
    let s := { s with net := { s.net with hb := .returning w b } }
    s.squash b none b (s.hbBand b) id
  match s.net.hb, s.hbForbidden with
  | .shown, true => off
  | .returning _ _, true => off
  | .withdrawing w, false => back w
  | .withdrawn w, false => back w
  | _, _ => s

/-- GME_STAT.STATE reads 6 while GME SRAM is marked unusable (R214). -/
def State.showSram (s : State) : State := if s.on .gme && s.bistBad 7 then s.wr F.GME_STAT_STATE 6 else s

/-- GME SRAM has been marked unusable (R214): the high-beam layers go as in R217. -/
def State.gmeSramBad (s : State) : State :=
  let b := if s.cf.next.isSome then s.boundaryMet else 0
  let s := { s with gme := { s.gme with sramFrom := some b } }
  (s.squash b none b (s.hbBand b) id).showSram

/-- GME_STAT at a snapshot. -/
def State.showGme (s : State) (v : View) (age : Option Int) : State :=
  let st := if s.bistBad 7 then 6
    else if s.lv v.armed F.GME_CTRL_EN ≠ 1 then 0
    else match s.gme.glare with
      | .withdrawing _ => 3
      | .withdrawn _ => 4
      | .returning _ _ => 5
      | .shown => if (match age with | some a => decide (50000000 < a) | none => true) then 2 else 1
  let tracks := match s.gme.table with | some t => t.tracks | none => []
  let held := (tracks.filter fun t => t.drop.isSome).length
  let ms := match age with | some a => min 4095 (divRoundNat a.toNat 1000000) | none => 4095
  let s := (s.wr F.GME_STAT_STATE st).wrB F.GME_STAT_IMU_OK v.imu
  ((s.wr F.GME_STAT_OBJ (tracks.length - held)).wr F.GME_STAT_HELD held).wr F.GME_STAT_AGE ms

/-- The render of one band from the newest table (R199, R214, R217): a unity mask while the function is off or withdrawn. -/
def State.renderBand (s : State) (v : View) (ref k : Nat) : State :=
  let m := s.frameAt ref
  let off := s.lv v.armed F.GME_CTRL_EN ≠ 1 || s.bistBad 7 || (match s.gme.glare with
    | .withdrawing b => decide (b ≤ m)
    | .withdrawn _ => true
    | .shown | .returning _ _ => false)
  let base : Render := { band := k, ref := ref, snapAt := s.now, unity := off }
  match s.gme.table with
  | none => { s with gme := { s.gme with renders := s.gme.renders ++ [base] } }
  | some t =>
    if off then
      let g : Gme := { s.gme with renders := s.gme.renders ++ [base], table := some { t with snapped := true } }
      { s with gme := g }
    else
      let drawn := (t.tracks.filter (s.admits v)).map (s.drawTrack v ref)
      let dropped := (t.tracks.filter fun x => x.drop.isNone && !s.admits v x).length
      let s := if t.rendered then s else (s.bump F.GME_CNT0_USED).bumpBy F.GME_CNT1_CONFDROP dropped
      let r : Render := { base with shadows := drawn.flatMap Prod.fst, zones := drawn.map Prod.snd, seq := t.seq, handed := t.handed }
      let g : Gme := { s.gme with renders := s.gme.renders ++ [r], table := some { t with snapped := true, rendered := true }
                                  zoneAcc := s.gme.zoneAcc ++ drawn.map Prod.snd }
      { s with gme := g }

/-- One snapshot with GME on. -/
def State.takeSnapshot (s : State) (ref k : Nat) : State :=
  let v := s.viewOf ref k
  let age := s.listAge v.tk
  let stale := match age with | some a => decide (200000000 < a) | none => true
  let active := s.lv v.armed F.GME_CTRL_EN = 1 && !s.bistBad 7
  let s := if active && stale && s.gme.glare == .shown then s.glareWithdraw else s
  (s.renderBand v ref k).showGme v age

/-- The band after band k of a refresh: the next one, or band 0 of the next refresh (R199). -/
def State.bandAfter (s : State) (ref k : Nat) : Nat × Nat := if k < 15 then (k + 1, ref) else (0, nextRef)
where
  nextRef : Nat :=
    match s.cf.next with
    | some (_, t) =>
      let n := ref + refreshLen s.tm (if s.cf.refStart = ref then s.cf.refresh else 0)
      if ref < t && t ≤ n + 1 then t else n
    | none => ref + refreshLen s.tm 0

/-- At S_k the next snapshot is taken, with GME on; the schedule goes on without it (R199, R477). -/
def execGmeSnapshot (s : State) : Out :=
  match s.cf.snap with
  | none => .next s
  | some (k, ref) =>
    if s.now + 138000 < s.bandStart ref k then .next s else
    let s := if s.on .gme then s.takeSnapshot ref k else s
    .next { s with cf := { s.cf with snap := some (s.bandAfter ref k) } }

/-! ### The end of a render (R199, R212, R213) -/

/-- The mask buffer of a band: the codes of its 32 rows in the four tiles (R199, R211). -/
def Render.buffer (r : Render) : List Nat :=
  let m : Mask := if r.unity then .unity else .drawn r.shadows
  (List.range 4).flatMap fun t => (List.range 32).flatMap fun y => (List.range 1024).map fun x => maskCode m t x (32 * r.band + y)

/-- The oldest render in progress is complete; its unit writes a CRC of the finished band (R212), whose kind the manual does not give
(notes/assumptions/6.md). -/
def State.finishRender (s : State) (bad : Bool) : State :=
  let up : Render → Render := fun r => { r with done := true, bad := bad, crc := some (Config.maskCrc r.buffer) }
  match s.gme.renders.findIdx? fun r => !r.done with
  | none => s
  | some i => { s with gme := { s.gme with renders := s.gme.renders.modify i up } }

/-- The check of the mapped points, the ECC of the memories and the end of the render (R212, R213). DESIGN CHOICE (notes/assumptions/49.md): the refresh
count that picks the checked band is SCN_REFCNT as it stands when the render completes, also for a render that completes before its refresh starts. -/
def execGmeRenderComplete (pointsDiffer : Bool) (ecc : GmeEcc) (s : State) : Out :=
  match s.gme.renders.find? fun r => !r.done with
  | none => .next s
  | some r =>
    if !s.on .gme then .next s else
    let checked := s.lv (s.armedFor (s.frameAt r.ref)) F.GME_CTRL_CHK_EN = 1 && r.band = s.regN R.SCN_REFCNT % 16
    let s := if checked && pointsDiffer then (s.bumpSat F.GME_FAULT_CHECK).raise Src.GME_CHECK else s
    let s := match ecc with
      | .none => s
      | .corrected => s.bumpSat F.GME_FAULT_ECC_CORR
      | .uncorrectable => (s.bumpSat F.GME_FAULT_ECC_UNC).raise Src.GME_MEM
    .next (s.finishRender (ecc == .uncorrectable))

/-! ### Zone records (R221) -/

/-- One object's zone over the parts of a refresh; outside every tile it keeps the box it had (R221, R222). -/
def mergeZone (parts last : List ZonePart) (id : Nat) : Option ZonePart :=
  let mine := parts.filter fun p => p.id = id
  match mine with
  | [] => none
  | p :: _ =>
    let box := mine.foldl (fun b q => joinBox b q.box) none
    let box := match box with
      | some b => some b
      | none => (last.find? fun (q : ZonePart) => q.id == id).bind ZonePart.box
    box.map fun b => { p with box := some b }

/-- PRIO, then D, then ID (R221). -/
def zoneLe (a b : ZonePart) : Bool :=
  a.prio < b.prio || (a.prio == b.prio && (a.dist < b.dist || (a.dist == b.dist && a.id ≤ b.id)))

/-- The zone records of the refresh that started at a time are published (R221). -/
def State.publishZones (s : State) (ref : Nat) : State :=
  let parts := s.gme.zoneAcc.filter fun p => p.ref = ref
  let ids := (parts.map fun p => p.id).eraseDups
  let zs := (ids.filterMap (mergeZone parts s.gme.zoneLast)).mergeSort zoneLe
  let words : Nat → Nat × Nat := fun i =>
    match zs[i]? with
    | some z =>
      let b := z.box.getD (0, 0, 0, 0)
      (b.1 + 2 ^ 16 * b.2.1 + 2 ^ 31, b.2.2.1 + 2 ^ 16 * b.2.2.2 + 2 ^ 28 * z.cls)
    | none => (0, 0)
  let changed := (List.range 16).any fun i => s.regN (R.GME_ZONE_A i) != (words i).1 || s.regN (R.GME_ZONE_B i) != (words i).2
  let s := (List.range 16).foldl (fun s i => (s.setN (R.GME_ZONE_A i) (words i).1).setN (R.GME_ZONE_B i) (words i).2) s
  let s := if changed then s.bump F.GME_ZONESEQ_SEQ else s
  { s with gme := { s.gme with zoneAcc := s.gme.zoneAcc.filter (fun p => ref < p.ref), zoneLast := zs } }

/-! ### Arming a projection model (R209) -/

/-- The check of a staged model: 0 passes, 1 a zero step, 2 a fold with its point (R209). DESIGN CHOICE (notes/assumptions/49.md): the folding point
is the later one of a pair of neighbours, and the lowest such k. -/
def State.projCheck (s : State) (t : Nat) : Nat × Nat :=
  let px : Nat → Int := fun k => s.rdS (F.GME_PM_P_X t k)
  let py : Nat → Int := fun k => s.rdS (F.GME_PM_P_Y t k)
  if s.rd (F.GME_PM_STEP_AZ_STEP t) = 0 || s.rd (F.GME_PM_STEP_EL_STEP t) = 0 then (1, 0)
  else match (List.range 561).find? fun k => (k % 33 ≠ 0 && px k ≤ px (k - 1)) || (33 ≤ k && py k ≤ py (k - 33)) with
    | some k => (2, k)
    | none => (0, 0)

end Sys2Proof.Machine
end

