-- ==== Sys2Proof/Machine/Pads.lean ====
section
/-!
DEFINITION. The level of each ball that the device drives: in reset and until firmware first configures its port (R58, R87), while its pad group is
held later (R85), and under the logic.
-/

namespace Sys2Proof.Machine

/-- A ball that the device drives. -/
inductive Ball where
  | tileLane (port lane : Nat) | huskN (tile : Nat) | buckGate (channel : Nat) (high : Bool) | switchGate (path : Nat) (high : Bool)
  | lampFail | chain (n : Nat) | ethLane (mac : Nat) | ethReset (mac : Nat) | ethMdc | ethMdio | canTx (bus : Nat) | canStb (bus : Nat)
  | imuCs | imuSck | imuMosi | flashCs | flashReset | flashIo | hostMiso | tdo | pwrEn | avsPwm
  deriving DecidableEq, Repr

/-- What stands at a ball. -/
inductive PadLevel where
  | low
  | high
  | highZ
  /-- Electrical idle: driver off, terminated. -/
  | idle
  /-- Driver off, receiver on. -/
  | listening
  /-- No pad supply: the pad drives nothing (R53). -/
  | unpowered
  /-- The signal of the port's logic. -/
  | signal
  deriving DecidableEq, Repr

/-- The level of a Bool. -/
def PadLevel.ofBool (b : Bool) : PadLevel := if b then .high else .low

/-- The pad group of a ball (R85); the system balls have none (R88). -/
def Ball.group : Ball → Option Nat
  | .tileLane p _ => some (portPads p)
  | .huskN n => some (portPads n)
  | .ethLane _ | .ethReset _ | .ethMdc | .ethMdio => some 2
  | .canTx _ | .canStb _ => some 3
  | .chain _ => some 4
  | .buckGate _ _ => some 5
  | .imuCs | .imuSck | .imuMosi => some 6
  | .flashCs | .flashReset | .flashIo => some 7
  | .hostMiso => some 8
  | .switchGate _ _ => some 9
  | .tdo => some 10
  | .lampFail | .pwrEn | .avsPwm => none

/-- The state of a held ball: that of R58 from power-on until the group's first release, that of R85 later. -/
def Ball.heldLevel (first : Bool) : Ball → PadLevel
  | .tileLane _ _ | .ethLane _ => .idle
  | .huskN _ => if first then .highZ else .low
  | .chain _ => if first then .listening else .idle
  | .canTx _ | .canStb _ | .imuCs => .high
  | .flashCs => if first then .highZ else .high
  | .ethMdio | .flashIo | .hostMiso | .tdo => .highZ
  | .buckGate _ _ | .switchGate _ _ | .ethReset _ | .ethMdc | .imuSck | .imuMosi | .flashReset => .low
  | .lampFail | .pwrEn | .avsPwm => .signal

/-- A downlink lane carries symbols (R265, R269, R271, R359): from DN_LOCK on in training, then while it is in use; else it is at electrical idle. -/
def State.laneDriven (s : State) (p lane : Nat) : Bool :=
  let st := s.rd (F.LNK_STATE_STATE p)
  s.on (portDom p) && !s.bitF F.SAF_OUTCMD_LANEIDLE p
  && (if 3 ≤ st && st ≤ 6 then lane = 0 || (lane = 1 && (s.link.getD p {}).bonded) else (st = 7 || st = 8) && bitAt (s.rd (F.LNK_STATE_LANEMAP p)) lane)

/-- The pad supply of a ball (R49) falls with PWR_EN: only VDD_AON, VDDIO_3V3 and VDDA_SENSE stay (R53). -/
def Ball.supplyFalls : Ball → Bool
  | .tileLane _ _ | .ethLane _ | .buckGate _ _ | .switchGate _ _ | .imuCs | .imuSck | .imuMosi | .flashCs | .flashReset | .flashIo | .hostMiso => true
  | .huskN _ | .lampFail | .chain _ | .ethReset _ | .ethMdc | .ethMdio | .canTx _ | .canStb _ | .tdo | .pwrEn | .avsPwm => false

/-- What the logic drives onto a ball. TDO follows the TEST controller once MGMT is on (R58, R87). While Cn_EN is 1, Cn_STB is low (R405); DESIGN CHOICE
(notes/assumptions/49.md): it is high while Cn_EN is 0. -/
def State.logicLevel (s : State) : Ball → PadLevel
  | .huskN n => .ofBool (s.huskDriven n)
  | .switchGate p high => .ofBool (if high then s.sw.hi.getD p false else s.sw.lo.getD p false)
  | .buckGate n _ => if 1 ≤ s.rd (F.BUCK_STAT_STATE n) && s.rd (F.BUCK_STAT_STATE n) ≤ 3 then .signal else .low
  | .lampFail => .ofBool s.lampFailPad
  | .pwrEn => .ofBool s.pwr.pwrEn
  | .tileLane p l => if s.laneDriven p l then .signal else .idle
  | .avsPwm => if s.cal.avs.isSome then .signal else .highZ
  | .tdo => if s.on .mgmt then .signal else .highZ
  | .canStb b => .ofBool !(s.bitR R.NET_CTRL (6 + b))
  | .chain _ | .ethLane _ | .ethReset _ | .ethMdc | .ethMdio | .canTx _ | .imuCs | .imuSck | .imuMosi | .flashCs | .flashReset
  | .flashIo | .hostMiso => .signal

/-- A held ball that the hardware Husk path drives all the same: the buck gates and the switches of a channel that it runs (R58, R97). -/
def State.sequenced (s : State) : Ball → Bool
  | .buckGate n _ => (s.hwN n).active
  | .switchGate p _ => (s.hwN p).active
  | _ => false

/-- The level of a ball with VDD_AON valid, or absent: LAMP_FAIL is then asserted, because its transistor is off (R58, R62). A pad that was held when its
domain powered down loses that state with its pad supply (R53, R85). DESIGN CHOICE (notes/assumptions/49.md): the states of R58 stand from a reset on, before
the rails are up too. -/
def State.pad (s : State) (aonValid : Bool) (b : Ball) : PadLevel :=
  if !aonValid then (if b == .lampFail then .high else .highZ) else
  match b.group with
  | some g =>
    if !s.pwr.pwrEn && b.supplyFalls && !bitAt s.pwr.padFirst g then .unpowered
    else if s.held g && !s.sequenced b then b.heldLevel (bitAt s.pwr.padFirst g) else s.logicLevel b
  | none => s.logicLevel b

end Sys2Proof.Machine
end

