-- ==== Sys2Proof/Machine/Wire.lean ====
section
/-!
DEFINITION. The Mersar lanes of the four ports: what the link sends (R248, R251, R254–R258, R265, R271), and what the Glean receivers and the echo
bookkeeping take from it (R262, R268, R275–R278).
-/

namespace Sys2Proof.Machine

/-! ### Ports -/

/-- A port's hidden state. -/
def State.port (s : State) (p : Nat) : LinkSt := s.link.getD p {}

def State.modPort (s : State) (p : Nat) (f : LinkSt → LinkSt) : State := { s with link := s.link.modify p f }

/-- The lanes in use of a port. -/
def State.lanesOf (s : State) (p : Nat) : List Nat := bitList 2 (s.rd (F.LNK_STATE_LANEMAP p))

/-! ### What the lanes carry (R248, R251, R253, R254) -/

/-- The lanes of a port that carry symbols. -/
def State.txLanes (s : State) (p : Nat) : List Nat := [0, 1].filter (s.laneDriven p)

/-- A lane after idle blocks: what its scrambler, its precoder and its BIP hold is a free value (notes/assumptions/53.md). -/
def TxLane.idled (t : TxLane) (v : Nat) : TxLane :=
  { t with reg := (List.range 58).map (bitAt v), y := v / 2 ^ 58 % 4, bip := BitVec.ofNat 8 (v / 2 ^ 60) }

/-- One block on a lane, or its AM: the lane after it, and the level indices of its 33 symbols (R248, R250, R251, R254). -/
def TxLane.put (pre : Bool) (lane : Nat) (t : TxLane) (b : Option Block) : TxLane × List Nat :=
  let x := (b.getD (amBlock lane t.bip.toNat)).scrambled t.reg
  let gs := x.1.symbols
  let ys := if pre then precode t.y gs else gs
  ({ t with reg := x.2, y := ys.getLastD t.y, bip := if b.isNone then 0#8 else t.bip ^^^ bipOf x.1.payload }, ys)

/-- A transfer on one lane. -/
def TxLane.transfer (pre : Bool) (lane : Nat) (bs : List (Option Block)) (t : TxLane) : TxLane :=
  let r := bs.foldl (fun (a : TxLane × List (List Nat)) b =>
    let n := TxLane.put pre lane a.1 b
    (n.1, n.2 :: a.2)) (t, [])
  { r.1 with before := (t.reg, t.y), levels := r.2.reverse.flatten }

/-- Block times of a bonded lane until its next AM: one every 4,096 blocks of 33 ns since AM framing began (R254). -/
def LinkSt.amIn (l : LinkSt) (now : Nat) : Option Nat :=
  l.amAt.map fun t => (4096 - ceilDiv ((now - t) * 10) 198 % 4096) % 4096

/-- The blocks of a stream on each lane: block n on lane n mod 2 of a bonded port, filled up with an IDLE so that the next head falls on DN0, and an AM at its
block time, which delays the rest on both lanes (R254); in single-lane framing the stream itself. -/
def LinkSt.framed (l : LinkSt) (now : Nat) (bs : List Block) (lane : Nat) : List (Option Block) :=
  match l.amIn now with
  | none => bs.map some
  | some i =>
    let bs := if bs.length % 2 = 1 then bs ++ [idleBlock] else bs
    let mine := (List.range (bs.length / 2)).map fun j => bs[2 * j + lane]?
    if i < mine.length then mine.take i ++ [none] ++ mine.drop i else mine

/-- The blocks of one lane that fit between two instants (R247, R248). -/
def blocksIn (start now : Nat) : Nat := (now - start) * 10 / 198

/-- A port sends a run of blocks on its lanes, after the idle stretch since its last transfer: a COMMA at least every 32 blocks in single-lane framing,
an AM every 4,096 blocks of each lane in bonded framing, else IDLE (R253, R254). -/
def State.sendBlocks (s : State) (p : Nat) (bs : List Block) : State :=
  let lanes := s.txLanes p
  s.modPort p fun l =>
    let go : Nat → TxLane → TxLane := fun i t =>
      if lanes.contains i then TxLane.transfer l.precoding i (l.framed s.now bs i) (t.idled (Config.laneIdle p i s.now)) else { t with levels := [] }
    let blocks := if l.amAt.isSome then (bs.length + 1) / 2 else bs.length
    { l with tx := l.tx.mapIdx go, stretch := (blocksIn l.txEnd s.now, l.amIn l.txEnd), txEnd := s.now + ceilDiv (blocks * 198) 10 }

/-- DN_LOCK begins: TRAIN and COMMA in single-lane framing on each lane, with precoding on and index 0 before the first symbol (R248, R265). -/
def State.beginTraining (s : State) (p : Nat) : State :=
  let lanes := s.txLanes p
  let bond := b2n (s.port p).bonded
  let pre := s.rd (F.LNK_CTRL_PRECODE p)
  s.modPort p fun l =>
    let go : Nat → TxLane → TxLane := fun i t =>
      if lanes.contains i then
        TxLane.transfer true i [some (trainBlock 3 bond pre i), some commaBlock] { t.idled (Config.laneIdle p i s.now) with y := 0 }
      else { t with levels := [] }
    { l with precoding := true, amAt := none, tx := l.tx.mapIdx go }

/-- A port is to be sent rows: ACTIVE since before this refresh, LIGHT set, lanes in use, not stopped by R278 and not idled by the
island (R265, R268, R359). In STANDBY no beam is sent (R77), only rows into an unlocked Husk store (R260). -/
def State.wantsRows (s : State) (p : Nat) : Bool :=
  s.on (portDom p) && s.rd (F.LNK_STATE_STATE p) = 8 && s.flag (F.LNK_CTRL_LIGHT p) && !(s.port p).fresh && !(s.port p).muted
  && !s.bitF F.SAF_OUTCMD_LANEIDLE p && s.rd (F.LNK_STATE_LANEMAP p) ≠ 0
  && (s.mode != .standby || s.flag (F.LNK_HUSK_UNLOCKED p)) && !s.boot.badPorts.contains p

/-- The lanes in use carry a row within the row pitch of the applied mode: TM2 needs both, and so do the 16-bit codes of TM3 (R228, R229, R272). -/
def State.rowFits (s : State) (p : Nat) : Bool :=
  s.rd (F.LNK_STATE_LANEMAP p) = 3 || (s.tm ≠ 2 && (s.tm ≠ 3 || s.flag (F.LNK_STATE_WIDTH12 p)))

/-- A port is sent rows (R229). -/
def State.carries (s : State) (p : Nat) : Bool := s.wantsRows p && s.rowFits p

/-- The code width of a port's rows (R238, R272). -/
def State.portWidth (s : State) (p : Nat) : Nat := if s.tm = 3 && !s.flag (F.LNK_STATE_WIDTH12 p) then 16 else 12

/-- The counts of one refresh at a port, newest first. -/
def LinkSt.tallyFor (l : LinkSt) (refresh : Nat) : RefTally :=
  (l.tally.find? fun t => t.refresh == refresh).getD { refresh := refresh }

def LinkSt.setTally (l : LinkSt) (t : RefTally) : LinkSt :=
  { l with tally := (t :: l.tally.filter fun u => u.refresh != t.refresh).take 4 }

/-- The row joins the band whose echo is expected (R262). -/
def LinkSt.expect (l : LinkSt) (band refresh r crc : Nat) : LinkSt :=
  if l.echoes.any fun e => e.band = band && e.refresh = refresh && e.got.isNone then
    { l with echoes := l.echoes.map fun e =>
        if e.band = band && e.refresh = refresh && e.got.isNone then { e with rows := e.rows ++ [(r, crc)] } else e }
  else { l with echoes := l.echoes ++ [{ band := band, refresh := refresh, rows := [(r, crc)] }] }

/-- Codes on the 12-bit scale (R349). -/
def code12 (w c : Nat) : Nat := if w = 16 then c / 16 else c

/-- The codes of watched pixels that lie in a row (R349). -/
def LinkSt.watchRow (l : LinkSt) (w y : Nat) (codes : List Nat) : LinkSt :=
  { l with watch := l.watch.map fun q => if q.2.1 = y then (q.1, q.2.1, some (code12 w (codes.getD q.1 0))) else q }

/-- A region as the Glean group holds it in force (R276): its rectangle while it is on. -/
def State.gleanRect (s : State) (p r : Nat) : Option (Nat × Nat × Nat × Nat) :=
  let x0 := s.app (F.LNK_GR_RECT0_X0 p r)
  let y0 := s.app (F.LNK_GR_RECT0_Y0 p r)
  let x1 := s.app (F.LNK_GR_RECT1_X1 p r)
  let y1 := s.app (F.LNK_GR_RECT1_Y1 p r)
  if s.app (F.LNK_GR_RECT0_EN p r) = 1 && x0 ≤ x1 && y0 ≤ y1 then some (x0, y0, x1, y1) else none

/-- One row of a region at one lane (R277). -/
def GleanAcc.take (a : GleanAcc) (codes : List Nat) : GleanAcc :=
  { a with max := codes.foldl Nat.max a.max, rows := a.rows + 1
           crc := codes.foldl (fun r c => crc32Spec.byte (crc32Spec.byte r (c % 256)) (c / 256 % 256)) a.crc }

/-- The accumulators of a port with one row of a region added. -/
def LinkSt.gleanRow (l : LinkSt) (region lane : Nat) (codes : List Nat) : LinkSt :=
  if l.glean.any fun a => a.region = region && a.lane = lane then
    { l with glean := l.glean.map fun a => if a.region = region && a.lane = lane then a.take codes else a }
  else { l with glean := l.glean ++ [({ region := region, lane := lane } : GleanAcc).take codes] }

/-- The codes of a lane in a column range, in x order. -/
def laneCodes (lanes : List Nat) (w lane x0 x1 : Nat) (codes : List Nat) : List Nat :=
  ((List.range (x1 + 1 - x0)).map (x0 + ·)).filterMap fun x =>
    if lanes.length = 2 && pixelLane w x ≠ lane then none else some (codes.getD x 0)

/-- The blocks that a Glean receiver finds on its lane in the last transfer: from its levels, which it decodes and descrambles in step with the
transmitter (R248, R251, R275). -/
def LinkSt.gleanBlocks (l : LinkSt) (lane : Nat) (levels : List Nat) : List (Option Block) :=
  let t := l.tx.getD lane {}
  receivedAll t.before.1 (lineBlocksOf (if l.precoding then unprecode t.before.2 levels else levels))

/-- An AM as a receiver reads it (R254). -/
def isAm (b : Option Block) : Bool := match b with | some b => b.isType 0xA5 && b.bypasses | none => false

/-- DN1 aligned to DN0 by their first AMs: a skew of up to 32 symbols, which is less than a block, shifts a lane by one block at most (R254). -/
def alignLanes (a b : List (Option Block)) : List (Option Block) × List (Option Block) :=
  match a.findIdx? isAm, b.findIdx? isAm with
  | some i, some j => if j = i + 1 then (a, b.drop 1) else if i = j + 1 then (a.drop 1, b) else (a, b)
  | _, _ => (a, b)

/-- The block stream of a port from its lanes: aligned by their AMs, which fall out, the lanes alternate from DN0 on (R254). -/
def mergeLanes (lanes : List (List (Option Block))) : List (Option Block) :=
  let noAm : List (Option Block) → List (Option Block) := fun bs => bs.filter fun b => !isAm b
  match lanes with
  | [a, b] =>
    let (a, b) := alignLanes a b
    let (a, b) := (noAm a, noAm b)
    (List.range (max a.length b.length)).flatMap fun j => [a.getD j none, b.getD j none]
  | [a] => noAm a
  | _ => []

/-- The Glean receiver of a lane is block-locked (R253, R254, R275). -/
def State.gleanLocked (s : State) (p lane : Nat) : Bool :=
  s.flag (if lane = 0 then F.LNK_GLSTAT_LOCK0 p else F.LNK_GLSTAT_LOCK1 p) && (s.port p).lockFrom.getD lane 0 ≤ s.now

/-- The row that the Glean receivers of a port decode from their pads, or none, as before lock (R275). A pad that carried what its lane was sent gives the row that was
sent (Sys2Proof.Laws.unprecode_precode, Sys2Proof.Laws.descramble_scramble). -/
def State.gleanSees (s : State) (p y w : Nat) (codes : List Nat) (bad : List GleanSeen) : Option SeenRow :=
  let lanes := s.lanesOf p
  let l := s.port p
  if !lanes.all (s.gleanLocked p) then none
  else if bad.any fun b => b.port = p && lanes.contains b.lane then
    seenRow (mergeLanes (lanes.map fun lane => l.gleanBlocks lane (match bad.find? fun b => b.port = p && b.lane = lane with
      | some b => b.levels
      | none => (l.tx.getD lane {}).levels)))
  else some { row := y, width := w, codes := codes, good := true }

/-- The Glean receivers of a port take a row: a row that they decode goes into every region that holds it, lane by lane, and its CRC-16 is checked; one
that they do not decode is missing in its regions (R275, R277, R278). DESIGN CHOICE (notes/assumptions/53.md): a mismatch counts once for the row, since
two receivers of a port form its codes together. -/
def State.gleanTake (s : State) (p y w : Nat) (codes : List Nat) (bad : List GleanSeen) : State :=
  let s := s.modPort p fun l => { l with gleanPrev := l.glean }
  match s.gleanSees p y w codes bad with
  | none => s
  | some r =>
    let lanes := s.lanesOf p
    let s := if r.good then s else (s.bumpSat (F.LNK_GLSTAT_ROWCRC p)).raise (Src.GLEAN_ROWCRC p)
    lanes.foldl (fun s lane => (List.range 32).foldl (fun s n =>
      match s.gleanRect p n with
      | some (x0, y0, x1, y1) =>
        if y0 ≤ r.row && r.row ≤ y1 then s.modPort p fun l => l.gleanRow n lane (laneCodes lanes r.width lane x0 x1 r.codes) else s
      | none => s) s) s

/-- A refresh in which a port is sent no rows under R229 is exempt at that port (R368). -/
def State.exemptPort (s : State) (p : Nat) : State :=
  let x := (p, s.regN R.SCN_REFCNT % 256)
  if s.saf.exempt.contains x then s else { s with saf := { s.saf with exempt := (x :: s.saf.exempt).take 16 } }

/-- A row leaves on a port (R255–R257), in single-lane framing with a COMMA behind it (R253). In TM3 a port
on one lane sends the 12-bit code of its V9 (R272); with the Husk store
unlocked its rows carry DEST 1 (R260). -/
def State.sendRow (s : State) (p band r : Nat) (codes : List Nat) (bad : List GleanSeen) : State :=
  if !s.wantsRows p then s
  else if !s.rowFits p then s.exemptPort p
  else
  let w := s.portWidth p
  let y := 32 * band + r
  let codes := if s.tm = 3 && w = 12 then codes.map (outputCode 0) else codes
  let ref := s.regN R.SCN_REFCNT % 256
  let dest := b2n (s.flag (F.LNK_HUSK_UNLOCKED p))
  let head := rowHead y (b2n (w = 16)) dest ref (s.cf.cur.getD 0) band (b2n (y = 511))
  let crc := rowCrc head w codes
  let s := (s.emit (.tileRow p dest head codes w crc)).bump (F.LNK_ROWCNT_ROWS p)
  let s := s.sendBlocks p (rowBlocks head w codes ++ if (s.lanesOf p).length = 2 then [] else [commaBlock])
  let s := s.modPort p fun l =>
    let t := l.tallyFor ref
    let l := ((l.expect band ref r crc).setTally { t with rows := t.rows + 1 }).watchRow w y codes
    { l with rowAt := some (s.now, y) }
  let s := { s with scn := { s.scn with sent := s.scn.sent ||| 2 ^ p } }
  s.gleanTake p y w codes bad

end Sys2Proof.Machine
end

