-- ==== Sys2Proof/Machine/Scan.lean ====
section
/-!
DEFINITION. Scan-out: the scan store and its fill (R223–R227), rows in time (R228–R231), the per-pixel stages (R232–R239), events,
underrun and light sums (R240–R243), characterization slots (R244).
-/

namespace Sys2Proof.Machine

/-! ### The scan store (R223–R226) -/

/-- The address of a pixel pair of canvas line y in copy c (R223): tile t, band k, tile row r, pair p. -/
def scanAddr (c x y : Nat) : Nat :=
  let t := x / 1024 + 2 * (y / 512)
  let row := y % 512
  0x20000000 + 0x60000 * (row / 32) + 0x30000 * c + 0xC000 * t + 0x600 * (row % 32) + 3 * (x % 1024 / 2)

/-- The storage code of a canvas pixel in copy c. -/
def State.scanCode (s : State) (c x y : Nat) : Nat :=
  let w := s.num (scanAddr c x y) 3
  if x % 2 = 0 then w % 4096 else w / 4096

/-- One canvas line of storage codes written into copy c. -/
def State.setScanLine (s : State) (c y : Nat) (codes : List Nat) : State :=
  let half : Nat → List Byte := fun h => packCodes 12 ((codes.drop (1024 * h)).take 1024)
  (s.setBytes (scanAddr c 0 y) (half 0)).setBytes (scanAddr c 1024 y) (half 1)

/-- Composition band c of frame m is filled: 32 lines converted under R224, with their 16-bit values kept for the read side. -/
def State.fillBand (s : State) (m c : Nat) : State :=
  let tm := s.frameTm m
  let old : CopySt := (s.copyOf m).getD { frame := m, tm := tm }
  let lines := (List.range 32).map fun i => (32 * c + i, s.composedLine m (32 * c + i))
  let t := lines.foldl (fun t l => t.setScanLine (m % 2) l.1 (l.2.map (storeCode tm))) s
  let k : CopySt := { frame := m, tm := tm, filled := old.filled.filter (· ≠ c) ++ [c]
                      refill := old.refill.filter (· ≠ c), lines := old.lines.filter (fun p => p.1 / 32 ≠ c) ++ lines }
  { t with scn := { t.scn with copies := t.scn.copies.set (m % 2) (some k) } }.showFill

def execScanFillBandComplete (s : State) : Out :=
  match s.fillNext with
  | none => .next s
  | some (m, c) => .next (if s.on .scn && s.on .mem then s.fillBand m c else s)

/-- Frame m is completely filled. -/
def State.filledWhole (s : State) (m : Nat) : Bool :=
  match s.copyOf m with
  | some k => (List.range 32).all fun c => k.filled.contains c && !k.refill.contains c
  | none => false

/-- The fill pointer F of canvas line y of frame m (R226): within the band being filled, as far as the fill has come. -/
def State.fillPtr (s : State) (m filled y : Nat) : Nat :=
  let c := y / 32
  if s.fillNext == some (m, c) then min 2048 (filled - 2048 * (y % 32))
  else match s.copyOf m with
    | some k => if k.filled.contains c then 2048 else 0
    | none => 0

/-! ### The stages (R232–R238) -/

/-- What one row is computed with. -/
structure RowView where
  /-- The frame shown. -/
  m : Nat
  /-- The storage mode of its copy, and the applied mode. -/
  code : Nat
  tm : Nat
  shift : Int
  x : RowInput

/-- F of a source line for this row: an uncorrectable error leaves the pixel and the rest of its line unfilled (R227). -/
def State.rowPtr (s : State) (v : RowView) (y : Nat) : Nat :=
  v.x.ecc.foldl (fun f e => match e with
    | .uncorrectable line x => if line = y then min f x else f
    | .corrected => f) (s.fillPtr v.m v.x.filled y)

/-- The working value that stands for pixel (x, y): from the store, or from the composed frame where the band is being filled. -/
def State.storedValue (s : State) (v : RowView) (x y : Nat) : Nat :=
  if s.fillNext == some (v.m, y / 32) then
    storeValue v.code (storeCode v.code (s.num (composedAddr v.m y + 2 * x) 2))
  else storeValue v.code (s.scanCode (v.m % 2) x y)

/-- V(x, i) with the replacement of R241; 0 beyond the canvas (R232). -/
def State.workingValue (s : State) (v : RowView) (x : Nat) (i : Int) : Nat :=
  if i < 0 || 1023 < i then 0 else
  let y := i.toNat
  let f := s.rowPtr v y
  if x < f then s.storedValue v x y else if f = 0 then 0 else s.storedValue v (f - 1) y

/-- The source lines of output line y: the first one and the fraction (R232). -/
def RowView.source (v : RowView) (y : Nat) : Int × Nat :=
  let q : Int := 16 * (y : Int) - v.shift
  (q / 16, (q % 16).toNat)

/-- V5 (R232). -/
def State.v5 (s : State) (v : RowView) (x y : Nat) : Nat :=
  let (i, f) := v.source y
  levelMix f (s.workingValue v x i) (s.workingValue v x (i + 1))

/-- The lowest ceiling of the enabled zones that contain an output pixel (R235). -/
def ceilAt (zs : List Zone) (x y : Nat) : Option Nat :=
  zs.foldl (fun c z =>
    if z.en && z.x0 ≤ x && x ≤ z.x1 && z.y0 ≤ y && y ≤ z.y1 then
      match c with | some k => some (min k z.ceil) | none => some z.ceil
    else c) none

/-- The gain entry of a tile pixel in the latched band; 128 while gain is off or no maps act (R236, R239). -/
def State.gainAt (s : State) (t x y : Nat) : Nat :=
  match s.scn.bandMaps.getD t none with
  | some m => if bitAt s.scn.bandCtrl 0 then (m.gain.getD (1024 * (y % 32) + x) 128#8).toNat else 128
  | none => 128

/-- A defect entry (R338): the dead pixel, and its neighbours with their weights. -/
structure Defect where
  x : Nat
  y : Nat
  nbrs : List (Nat × Nat)
  deriving DecidableEq, Repr

/-- An entry from its 64 bits (R338); a slot of weight 0 is unused. -/
def defectOf (w : Nat) : Defect :=
  let slots := [(bitsOf w 21 19, bitsOf w 29 22), (bitsOf w 32 30, bitsOf w 40 33), (bitsOf w 43 41, bitsOf w 51 44),
    (bitsOf w 54 52, bitsOf w 62 55)]
  { x := bitsOf w 9 0, y := bitsOf w 18 10, nbrs := slots.filter fun p => p.2 ≠ 0 }

/-- The position that a neighbour code names, as an offset from the dead pixel (R338). -/
def nbrOffset : Nat → Int × Int
  | 0 => (-1, -1) | 1 => (0, -1) | 2 => (1, -1) | 3 => (-1, 0)
  | 4 => (1, 0) | 5 => (-1, 1) | 6 => (0, 1) | _ => (1, 1)

/-- The pixel of a neighbour slot. -/
def Defect.nbr (d : Defect) (pos : Nat) : Int × Int := ((d.x : Int) + (nbrOffset pos).1, (d.y : Int) + (nbrOffset pos).2)

/-- The bytes of the entries of a defect map that lie in a band, by its band index (R338). -/
def State.bandDefects (s : State) (base count k : Nat) : List Byte :=
  let lo := min count (s.num (base + 4 * k) 4)
  let hi := if k = 15 then count else min count (s.num (base + 4 * (k + 1)) 4)
  s.bytes (base + 64 + 8 * lo) (8 * (hi - lo))

/-- The entries that act on the latched band of a tile (R237, R239, R340). -/
def State.defectsOf (s : State) (t : Nat) : List Defect :=
  match s.scn.bandMaps.getD t none with
  | some m => if bitAt s.scn.bandCtrl 1 then
      (List.range (m.defs.length / 8)).map fun i => defectOf (ofLeBytes ((m.defs.drop (8 * i)).take 8)) else []
  | none => []

/-! ### Prefetch of the maps (R239, R340) -/

/-- The map group that a band is prefetched with: the applied one, and for band 0 the armed one, which the coming refresh start applies (DESIGN CHOICE,
notes/assumptions/49.md: an arm or a disarm between the prefetch of band 0 and that refresh start leaves band 0 as it was prefetched). -/
def State.mapGroup (s : State) (t k : Nat) : Nat × Nat × Nat :=
  if k = 0 && s.armed (.map t) then (s.rd (F.CAL_MAP_GAIN_ADDR t), s.rd (F.CAL_MAP_DEF_ADDR t), s.rd (F.CAL_MAP_DEFCNT_COUNT t))
  else (s.app (F.CAL_MAP_GAIN_ADDR t), s.app (F.CAL_MAP_DEF_ADDR t), s.app (F.CAL_MAP_DEFCNT_COUNT t))

/-- The maps of a tile for band k as DRAM holds them; a group outside the window of R336 has never been armed, and holds none. -/
def State.fetchMaps (s : State) (t k : Nat) : TileMaps :=
  let g := s.mapGroup t k
  if g.1 < 0x81000 then { group := g, gain := [], defs := [] }
  else { group := g, gain := s.bytes (4096 * g.1 + 32768 * k) 32768
         defs := if g.2.2 = 0 then [] else s.bandDefects (4096 * g.2.1) g.2.2 k }

/-- What a refresh has prefetched, with one more band; band 0 begins with the band index (R340). -/
def State.readOn (s : State) (k : Nat) (r : MapRead) (m : TileMaps) : MapRead :=
  if k = 0 then { group := m.group, bands := 1, gain := m.gain
                  defs := (if m.group.2.2 = 0 then [] else s.bytes (4096 * m.group.2.1) 64) ++ m.defs }
  else if r.group = m.group && r.bands = k then { r with bands := k + 1, gain := r.gain ++ m.gain, defs := r.defs ++ m.defs }
  else r

/-- The maps of band k are prefetched into the staging area of two bands (R239): from s_(k − 1), for band 0 from the blanking before. -/
def State.prefetch (s : State) (k : Nat) : State :=
  if !s.on .mem then s else
  let tiles := (List.range 4).map fun t => s.fetchMaps t k
  let reads := (s.scn.mapRead.zip tiles).map fun p => s.readOn k p.1 p.2
  { s with scn := { s.scn with staged := ((k, tiles) :: s.scn.staged.filter fun p => p.1 ≠ k).take 2, mapRead := reads } }

/-- The CRC of the bytes that the refresh has prefetched differs from the group's (R340). DESIGN CHOICE (notes/assumptions/49.md): a refresh that did
not prefetch all 16 bands from the applied group is not compared. -/
def State.mapDiffers (s : State) (t : Nat) : Bool :=
  let r := s.scn.mapRead.getD t {}
  s.on .mgmt && 0x81000 ≤ r.group.1 && r.bands = 16 && !bitAt s.scn.mapBad t
    && r.group = (s.app (F.CAL_MAP_GAIN_ADDR t), s.app (F.CAL_MAP_DEF_ADDR t), s.app (F.CAL_MAP_DEFCNT_COUNT t))
    && crc32 (r.gain ++ r.defs) ≠ s.appReg (R.CAL_MAP_CRC t)

/-- The last band of a refresh is prefetched: the tiles whose CRC differs are known, and the next refresh's band 0 is prefetched (R239, R340). -/
def State.mapsBlank (s : State) : State :=
  { s with scn := { s.scn with mapDiff := ofBits ((List.range 4).map s.mapDiffers) } }.prefetch 0

/-- A tile's maps are suspended for a band; band 0 belongs to the refresh to come, which a differing CRC of this one suspends and a newly armed group
restores where the band was prefetched from it (R340). -/
def State.mapsOff (s : State) (t k : Nat) (m : TileMaps) : Bool :=
  if k = 0 then (bitAt s.scn.mapBad t || bitAt s.scn.mapDiff t) && !(s.armed (.map t) && m.group = s.mapGroup t 0) else bitAt s.scn.mapBad t

/-- The canvas position of a tile pixel. -/
def canvasX (t x : Nat) : Nat := 1024 * (t % 2) + x
def canvasY (t y : Nat) : Nat := 512 * (t / 2) + y

/-- V6 (R234). -/
def State.v6 (s : State) (v : RowView) (t x y : Nat) : Nat :=
  maskMul (s.v5 v (canvasX t x) (canvasY t y)) (maskCode s.gme.mask t x y)

/-- V7 (R235). -/
def State.v7 (s : State) (v : RowView) (t x y : Nat) : Nat :=
  match ceilAt s.scn.zones (canvasX t x) (canvasY t y) with
  | some c => min (s.v6 v t x y) c
  | none => s.v6 v t x y

/-- V8 (R236). -/
def State.v8 (s : State) (v : RowView) (t x y : Nat) : Nat := min 65535 (gainMul (s.v7 v t x y) (s.gainAt t x y))

/-- C(n), the cap on redistributed light (R237). -/
def State.capAt (s : State) (t x y : Nat) : Nat :=
  match ceilAt s.scn.zones (canvasX t x) (canvasY t y) with
  | some c => gainMul c (s.gainAt t x y)
  | none => 65535

/-- V9 under the entries of the band (R237). DESIGN CHOICE (notes/assumptions/49.md): a value above 65,535 stays as it is, and its code is cut to its
width on the line (R238). -/
def State.v9 (s : State) (v : RowView) (ds : List Defect) (t x y : Nat) : Nat :=
  if ds.any fun d => d.x = x && d.y = y then 0 else
  let extra := sumNat (ds.flatMap fun d => (d.nbrs.filter fun n => d.nbr n.1 = ((x : Int), (y : Int))).map fun n =>
    defectShare (s.v8 v t d.x d.y) n.2)
  if extra = 0 then s.v8 v t x y else min (s.v8 v t x y + extra) (s.capAt t x y)

/-! ### One row -/

/-- What a row of the refresh that starts at a time is computed with. -/
def State.rowView (s : State) (ref : Nat) (x : RowInput) : RowView :=
  let m := s.frameAt ref
  { m := m, code := (match s.copyOf m with | some k => k.tm | none => s.tm), tm := s.tm, shift := s.rdS F.SCN_LEVSTAT_APPLIED, x := x }

/-- The source lines of tile row y of tile t that were short, with their F: those with an unfilled pixel in the tile's columns. A line of
weight 0 is not read (R232, R241). -/
def State.shortLines (s : State) (v : RowView) (t y : Nat) : List (Nat × Nat) :=
  let (i, f) := v.source (canvasY t y)
  let lines := (if f = 0 then [i] else [i, i + 1]).filter fun (l : Int) => 0 ≤ l && l ≤ 1023
  (lines.map fun l => (l.toNat, s.rowPtr v l.toNat)).filter fun p => p.2 < 1024 * (t % 2) + 1024

/-- A replaced source pixel lies in a signature region that is on (R241). -/
def State.touchesSig (s : State) (t line f : Nat) : Bool :=
  (List.range 32).any fun n => s.sigOn n
    && s.app (F.CMP_SIG_RECT0_Y0 n) ≤ line && line ≤ s.app (F.CMP_SIG_RECT1_Y1 n)
    && max (max f (1024 * (t % 2))) (s.app (F.CMP_SIG_RECT0_X0 n)) ≤ min (1024 * (t % 2) + 1023) (s.app (F.CMP_SIG_RECT1_X1 n))

/-- An underrun of one tile row (R241). -/
def State.underrun (s : State) (t : Nat) (short : List (Nat × Nat)) : State :=
  match short with
  | [] => s
  | (line, f) :: _ =>
    let s := (s.mark F.SCN_EVSTAT_UNDERRUN).bump F.SCN_UNDCNT_ROWS
    let s := { s with scn := { s.scn with under := s.scn.under ||| 2 ^ t } }
    let s := if s.flag F.SCN_UNDINFO_VALID then s
      else ((s.wr F.SCN_UNDINFO_LINE line).wr F.SCN_UNDINFO_FILLED f).mark F.SCN_UNDINFO_VALID
    if short.any fun p => s.touchesSig t p.1 p.2 then
      ((s.mark F.SCN_EVSTAT_UNDERRUN_SAFE).bump F.SCN_UNDCNT_SAFE).raise Src.SCN_UNDERRUN
    else s

/-- The ECC errors of a row's reads (R227). -/
def State.noteEcc (s : State) (es : List ScanEcc) : State :=
  es.foldl (fun s e => match e with
    | .corrected => s.bumpSat F.SCN_ECC_CORR
    | .uncorrectable _ _ => (s.bumpSat F.SCN_ECC_UNC).raise Src.SCN_MEM) s

/-- V9 of the 1,024 pixels of a tile row, and how many the clamp lowered. -/
def State.tileRow (s : State) (v : RowView) (t y : Nat) : List Nat × Nat :=
  let ds := s.defectsOf t
  ((List.range 1024).map fun x => s.v9 v ds t x y,
    ((List.range 1024).filter fun x => s.v7 v t x y < s.v6 v t x y).length)

/-- Row r of band k is computed for the four tiles (R230–R241); row 0 of band 0 begins the light sums of its refresh (R243, R244). -/
def State.computeRow (s : State) (ref k r : Nat) (x : RowInput) : State :=
  let s := if k = 0 && r = 0 then { s with scn := { s.scn with light := List.replicate 4 (0, 0), under := 0 } } else s
  let v := s.rowView ref x
  let y := 32 * k + r
  let rows := (List.range 4).map fun t => s.tileRow v t y
  let shorts := (List.range 4).map fun t => s.shortLines v t y
  let s := (List.range 4).foldl (fun s t => s.underrun t (shorts.getD t [])) (s.noteEcc x.ecc)
  let light := (List.range 4).map fun t =>
    let o := s.scn.light.getD t (0, 0)
    let n := rows.getD t ([], 0)
    (o.1 + sumNat n.1, o.2 + n.2)
  let codes := rows.map fun q => q.1.map (outputCode v.tm)
  { s with scn := { s.scn with light := light, row := some (k, r, codes) } }

/-! ### The latch (R199, R213, R214, R230, R233, R235, R239) -/

/-- The mask of a band at its latch, with what an incomplete or faulty render does. -/
def State.latchMask (s : State) (ref k : Nat) : State :=
  let set : State → Mask → State := fun s m => { s with gme := { s.gme with mask := m } }
  let on := s.on .gme && s.lv (s.armedFor (s.frameAt ref)) F.GME_CTRL_EN = 1 && !s.bistBad 7
  if !on then set s .unity else
  match s.gme.renders.find? fun r => r.band = k && r.ref = ref with
  | some r =>
    if r.unity then set s .unity
    else if r.done && !r.bad then
      let lat := divRoundNat (s.now - r.handed) 600
      let s := if r.handed = 0 then s else s.wr F.GME_LISTSEQ_SEQ r.seq
      let s := if s.gme.latched == some r.handed || r.handed = 0 then s
        else (s.wr F.GME_LAT_LAST (min lat 65535)).wr F.GME_LAT_MAX (max (s.rd F.GME_LAT_MAX) (min lat 65535))
      let g : Gme := { s.gme with mask := .drawn r.shadows, latched := some r.handed }
      { s with gme := g }
    else ((set s (.level (s.lv (s.armedFor (s.frameAt ref)) F.GME_CTRL_OVR_LEVEL))).bumpSat F.GME_FAULT_OVERRUN).raise Src.GME_OVERRUN
  | none => ((set s (.level (s.lv (s.armedFor (s.frameAt ref)) F.GME_CTRL_OVR_LEVEL))).bumpSat F.GME_FAULT_OVERRUN).raise Src.GME_OVERRUN

/-- The levelling shift of a band (R233). -/
def State.latchShift (s : State) : State :=
  let word := (s.scn.pitch.find? fun (p : Int × Nat) => p.2 < s.now).map Prod.fst
  let req : Int := if s.flag F.SCN_LEVCFG_SRC then word.getD 0 else s.rdS F.SCN_LEVFIX_SHIFT
  let lim := clampInt (s.rdS F.SCN_LEVLIM_MIN) (s.rdS F.SCN_LEVLIM_MAX) req
  let cur := s.rdS F.SCN_LEVSTAT_APPLIED
  let slew : Int := s.rd F.SCN_LEVCFG_SLEW
  let new := if slew = 0 then lim else clampInt (cur - slew) (cur + slew) lim
  let newer := s.scn.pitch.filter fun (p : Int × Nat) => s.now ≤ p.2
  let kept := match s.scn.pitch.find? fun (p : Int × Nat) => p.2 < s.now with | some p => [p] | none => []
  let s := { s with scn := { s.scn with pitch := newer ++ kept } }
  (s.wrS F.SCN_LEVSTAT_REQUEST req).wrS F.SCN_LEVSTAT_APPLIED new

/-- The zones of a table in the read-only mirror (R235, R246). -/
def State.showZones (s : State) (zs : List Zone) : State :=
  (List.range 32).foldl (fun s n =>
    let z := zs.getD n {}
    (((s.setN (R.SCN_CLAMP_RECT0 n) (z.x0 + 2 ^ 16 * z.y0 + 2 ^ 31 * b2n z.en)).setN (R.SCN_CLAMP_RECT1 n) (z.x1 + 2 ^ 16 * z.y1)).wr
      (F.SCN_CLAMP_CEIL_CEIL n) z.ceil)) s

/-- The newest complete clamp table that arrived before this latch comes into force (R235, R245). -/
def State.latchTable (s : State) : State :=
  match s.scn.tables.find? fun (p : ClampTable × Nat) => p.2 < s.now with
  | none => s
  | some p =>
    let scn : Scn := { s.scn with zones := p.1.zones, tables := s.scn.tables.filter fun (q : ClampTable × Nat) => s.now ≤ q.2 }
    ({ s with scn := scn }.wr F.SCN_CLAMPSTAT_SEQ p.1.seq).showZones p.1.zones

/-- The maps that act on a band at its latch, where they are complete, and SCN_CTRL as it acts on the band (R239, R340). Band 0 takes the SCN_CTRL that
the coming refresh start puts into force. A first band 0 with no blanking before it is prefetched here. DESIGN CHOICE (notes/assumptions/49.md) for
both. -/
def State.latchMaps (s : State) (k : Nat) (ready : Bool) : State :=
  let s := if s.scn.staged.any fun p => p.1 = k then s else s.prefetch k
  let tiles := (s.scn.staged.lookup k).getD []
  let maps := (List.range 4).map fun t =>
    match tiles[t]? with
    | some m => if ready && !s.mapsOff t k m && !m.gain.isEmpty then some m else none
    | none => none
  { s with scn := { s.scn with bandMaps := maps, bandCtrl := if k = 0 then s.regN R.SCN_CTRL % 8 else s.scn.ctrl } }

/-- Row 0 of a latched band is computed; a band whose maps are late counts (R230, R239). The sources of its
reads, of its maps and of its underruns are raised in this order (R401). -/
def State.firstRow (s : State) (ref k : Nat) (ready : Bool) (x : RowInput) : State :=
  let s := s.noteEcc x.ecc
  let s := if ready then s else ((s.bump F.SCN_UNDCNT_MAPLATE).mark F.SCN_EVSTAT_MAPLATE).raise Src.SCN_MAPLATE
  s.computeRow ref k 0 { x with ecc := [] }

/-- At L_k scan-out latches the mask, the shift and the clamp table, and computes row 0 (R230); before the first completely filled frame
it computes none (R245). Inside a retime hold no row is computed and no event raised: row 0 waits for the end of the hold (R231). -/
def State.latchBand (s : State) (ref k : Nat) (ready : Bool) (x : RowInput) : State :=
  let s := (((s.latchMask ref k).latchShift).latchTable).latchMaps k ready
  let s := { s with gme := { s.gme with renders := s.gme.renders.filter fun r => !(r.ref < ref || (r.ref = ref && r.band ≤ k)) } }
  if !s.scn.rows || s.cf.hold.isSome then { s with scn := { s.scn with held := some (ready, x) } }
  else s.firstRow ref k ready x

def execMaskLatch (mapsReady : Bool) (x : RowInput) (s : State) : Out :=
  match s.cf.latch with
  | none => .next s
  | some (k, ref) =>
    if s.now + 6000 < s.bandStart ref k then .next s else
    let t := if s.on .scn then s.latchBand ref k mapsReady x else s
    .next { t with cf := { t.cf with latch := some (s.bandAfter ref k) } }

/-! ### Row slots (R228, R240, R242) -/

/-- LINE_MATCH (Tassel) of the row slot of tile row y (R240, R242). -/
def State.lineMatch (s : State) (y : Nat) : State :=
  if s.flag F.SCN_TASSEL_EN && s.rd F.SCN_TASSEL_LINE % 512 = y && (!s.flag F.SCN_TASSEL_FIRST || s.cf.refresh = 0) then
    (s.mark F.SCN_EVSTAT_LINE_MATCH).setN R.SCN_TASSELTIME (s.localTime % 2 ^ 32)
  else s

/-- Row slot r of band k begins: the row computed before leaves on every port that carries rows, and the next is computed. DESIGN CHOICE
(notes/assumptions/49.md): before the first filled frame, while no rows are sent (R245), no LINE_MATCH is raised (R240). -/
def State.rowSlot (s : State) (k r : Nat) (x : RowInput) (bad : List GleanSeen) : State :=
  if !s.scn.rows then s else
  let s := match s.scn.row with
    | some (k', r', rows) =>
      if k' = k && r' = r then (List.range 4).foldl (fun (s : State) p => s.sendRow p k r (rows.getD p []) bad) s else s
    | none => s
  let s := s.lineMatch (32 * k + r)
  if r < 31 then s.computeRow s.cf.refStart k (r + 1) x else s

def execRowSlotStart (x : RowInput) (gleanBad : List GleanSeen) (s : State) : Out :=
  match s.cf.row with
  | none => .next s
  | some (k, r) =>
    if s.now < s.bandStart s.cf.refStart k + r * rowPitch s.tm then .next s else
    let t := if s.on .scn then s.rowSlot k r x gleanBad else s
    .next { t with cf := { t.cf with row := if r < 31 then some (k, r + 1) else none } }

/-! ### Blanking (R225, R240, R243) -/

/-- The light-sum records of the refresh (R243): registers, control engine and ledger. -/
def State.publishLight (s : State) : State :=
  let s := (List.range 4).foldl (fun s t =>
    let none_ := !bitAt s.scn.sent t
    let l := s.scn.light.getD t (0, 0)
    let sum := if none_ then 0 else l.1
    let s := ((s.setN (R.SCN_LIGHT_LO t) (sum % 2 ^ 32)).wr (F.SCN_LIGHT_HI_SUM_HI t) (sum / 2 ^ 32)).wrB (F.SCN_LIGHT_HI_NOROWS t) none_
    if s.on .drv then
      { s with pid := { s.pid with light := s.pid.light.set t { sum := sum, clamped := l.2, noRows := none_, at_ := s.now } } }
    else s) s
  s.wr F.SCN_CLAMPCNT_PIXELS (sumNat (s.scn.light.map Prod.snd))

/-- FRAME_DONE: the copy of the frame shown is free for the frame two later (R225, R240). -/
def State.frameDone (s : State) : State :=
  match s.cf.cur with
  | none => s
  | some m => { s.mark F.SCN_EVSTAT_FRAME_DONE with scn := { s.scn with fillUpTo := max s.scn.fillUpTo (m + 2) } }

/-- The vertical blanking begins at s_15 + 32 × P (R240). -/
def State.blankStart (s : State) : State :=
  let s := s.mark F.SCN_EVSTAT_BLANK_START
  let s := s.publishLight.mapsBlank
  if s.cf.refresh + 1 = refreshesOf s.tm then s.frameDone.showFill else s

/-- The start of the vertical blanking of the refresh in progress. -/
def State.blankTime (s : State) : Nat := s.bandStart s.cf.refStart 15 + 32 * rowPitch s.tm

def execBlankStart (s : State) : Out :=
  if !s.cf.blank || s.now < s.blankTime then .next s else
  let t := if s.on .scn then s.blankStart else s
  .next { t with cf := { t.cf with blank := false } }

/-! ### Clamp tables (R235, R371) -/

/-- The words of a clamp table that its transfer check covers: SEQ, then three words of each zone (notes/assumptions/17.md). -/
def ClampTable.words (t : ClampTable) : List Byte :=
  leBytes 4 t.seq ++ (List.range 32).flatMap fun n =>
    let z := t.zones.getD n {}
    leBytes 4 (z.x0 + 2 ^ 16 * z.y0 + 2 ^ 31 * b2n z.en) ++ leBytes 4 (z.x1 + 2 ^ 16 * z.y1) ++ leBytes 4 z.ceil

/-- The table of the island arrives, or what became of it on the way; a table that fails its check is discarded (R235). -/
def execClampTableReceive (corrupt : Option ClampTable) (s : State) : Out :=
  match s.saf.clampOut with
  | [] => .next s
  | t :: rest =>
    let s := { s with saf := { s.saf with clampOut := rest } }
    if !s.on .scn then .next s else
    let t := corrupt.getD t
    if crc16 t.words = t.check then .next { s with scn := { s.scn with tables := (t, s.now) :: s.scn.tables } }
    else .next ((s.bump F.SCN_CLAMPSTAT_DISCARDED).raise Src.SCN_CLAMP)

end Sys2Proof.Machine
end

