-- ==== Sys2Proof/Machine/Link.lean ====
section
/-!
DEFINITION. The Mersar tile link: training and identity (R265–R267), light (R268), loss and return (R269, R270), lane loss
(R271–R274), commands (R258–R260), uplink records (R261–R263), Glean records (R275–R278).
-/

namespace Sys2Proof.Machine

/-! ### Training (R265, R266) -/

/-- A port enters a state; leaving READY and ACTIVE clears LIGHT and FULLREF (R268). -/
def State.setPort (s : State) (p st : Nat) : State :=
  let old := s.rd (F.LNK_STATE_STATE p)
  let up := old = 7 || old = 8
  let s := s.wr (F.LNK_STATE_STATE p) st
  let s := if up && st ≠ 7 && st ≠ 8 then (s.wr (F.LNK_CTRL_LIGHT p) 0).wr (F.LNK_STATE_FULLREF p) 0 else s
  s.modPort p fun l => { l with since := s.now, tally := if st = 8 then l.tally else [] }

/-- The lanes in use of a port, with the locks of their Glean receivers; the others are at electrical idle, and with fewer than two there are no AMs. A change
shows in the Glean records of the refresh (R271, R277). The Glean receiver of a lane that is taken into use locks after four COMMAs or two AMs
(R253, R254); DESIGN CHOICE (notes/assumptions/53.md): those of its first idle stretch. -/
def State.setLanes (s : State) (p map : Nat) : State :=
  let old := s.rd (F.LNK_STATE_LANEMAP p)
  let change := old ≠ map
  let lockAt := s.now + ceilDiv (lockBlocks (map == 3) * 198) 10
  let s := ((s.wr (F.LNK_STATE_LANEMAP p) map).wrB (F.LNK_GLSTAT_LOCK0 p) (bitAt map 0)).wrB (F.LNK_GLSTAT_LOCK1 p) (bitAt map 1)
  s.modPort p fun l => { l with laneChg := l.laneChg || change, lockFrom := l.lockFrom.mapIdx fun i t => if bitAt map i && !bitAt old i then lockAt else t
                                amAt := if map = 3 then l.amAt else none
                                tx := l.tx.mapIdx fun i t => if bitAt map i then t else { t with levels := [] } }

/-- Training starts in DETECT (R265). -/
def State.train (s : State) (p : Nat) (retry : Bool) : State :=
  if !s.on (portDom p) || !s.flag (F.LNK_CTRL_EN p) then s else
  let lost := s.rd (F.LNK_STATE_STATE p) = 9
  let s := ((s.setPort p 1).setLanes p 0).wr (F.LNK_STATE_WIDTH12 p) 0
  let s := s.bumpSat (F.LNK_STATE_TRAINCNT p)
  s.modPort p fun l => { l with trainedAt := some s.now, retried := retry, bonded := s.flag (F.LNK_CTRL_BOND p), locked := 0
                                wasLost := l.wasLost || lost, muted := false, fresh := false, echoes := [], precoding := true
                                upLocked := false, upLostAt := none, echoState := 0 }

/-- The port is off: EN 0 (R265). -/
def State.portOff (s : State) (p : Nat) : State :=
  ((s.setPort p 0).setLanes p 0).modPort p fun l => { l with echoes := [], muted := false, fresh := false }

/-- A training passes to a state, and the device sends what that state asks for; DESKEW, with AM framing, is for two lanes (R265). -/
def State.trainStep (s : State) (p st : Nat) : State :=
  let st := if st = 4 && !(s.port p).bonded then 5 else st
  let s := s.setPort p st
  match st with
  | 3 => s.beginTraining p
  | 4 => (s.modPort p fun l => { l with amAt := some s.now }).sendBlocks p [idleBlock, idleBlock]
  | 5 => (s.emit (.tileCmd p 0x02 0 0 [])).sendBlocks p (cmdBlocks 0x02 0 0 [])
  | 6 =>
    let bond := b2n (s.port p).bonded
    let pre := s.rd (F.LNK_CTRL_PRECODE p)
    s.sendBlocks p ((s.txLanes p).map fun i => trainBlock 6 bond pre i)
  | _ => s

/-- The LOSTCAUSE of a difference from the expected identity, or 0 (R264, R267). -/
def State.identCause (s : State) (p : Nat) (x : IdentRec) : Nat :=
  let serial := s.regN (R.LNK_EXPSER_LO p) + 2 ^ 32 * s.regN (R.LNK_EXPSER_HI p)
  let husk := s.regN (R.LNK_EXPHUSK p)
  if x.part ≠ 0x0512 || x.rev = 0 || x.caps % 8 ≠ 7 then 6
  else if serial ≠ 0 && x.serial ≠ serial then 7
  else if husk ≠ 0 && x.husk ≠ husk then 8
  else 0

/-- The identity of the tile found last (R261). -/
def State.tileIdentity (s : State) (p : Nat) : IdentRec :=
  { part := s.rd (F.LNK_IDPART_PART p), rev := s.rd (F.LNK_IDPART_REV p), caps := s.rd (F.LNK_IDPART_CAPS p)
    serial := s.regN (R.LNK_IDSER_LO p) + 2 ^ 32 * s.regN (R.LNK_IDSER_HI p), husk := s.regN (R.LNK_IDHUSK p) }

/-- An enabled port that is OFF trains when its domain is up; in PREPARE on the path to RUN so does, once, every port that is not READY
or ACTIVE with a matching identity (R102 step 11, R265, R266). -/
def State.mayTrain (s : State) (p : Nat) : Bool :=
  let st := s.rd (F.LNK_STATE_STATE p)
  s.testsOver && s.stepDue 11 && (st = 0 || (match s.pwr.prep with
    | some q => s.mode == .prepare && (9 ≤ st || (s.portUp p && s.identCause p (s.tileIdentity p) ≠ 0))
      && (match (s.port p).trainedAt with | some t => decide (t < q.since) | none => true)
    | none => false))

/-- Step 11 of R102 is done: every enabled port whose domain has come up has been trained. -/
def State.linksOver (s : State) : Bool :=
  s.testsOver && (List.range 4).all fun p => !s.flag (F.LNK_CTRL_EN p) || s.bitF F.PWR_DOMSTAT_FAILED (portDom p).num
    || (s.on (portDom p) && !s.mayTrain p && !s.training p)

def execLinkTrainStart (p : Nat) (s : State) : Out := .next (if p < 4 && s.mayTrain p then s.train p false else s)

def execUplinkSignalDetect (p : Nat) (s : State) : Out :=
  .next (if p < 4 && s.on (portDom p) && s.rd (F.LNK_STATE_STATE p) = 1 then s.trainStep p 2 else s)

/-- What the uplink receiver finds on its line (R250–R252). -/
def State.upBlocks (s : State) (p : Nat) (line : List LineBlock) : List (Option Block) := receivedAll (s.port p).upReg line

/-- The uplink receiver takes a line: its descrambler goes on, and header errors are counted (R251, R252). -/
def State.hearLine (s : State) (p : Nat) (line : List LineBlock) : State :=
  (s.bumpBy (F.LNK_UPCNT_HDRERR p) (headerErrors (s.upBlocks p line))).modPort p fun l => { l with upReg := receiverAfter l.upReg line }

/-- Block lock on the uplink, once the line brings four COMMAs at its boundary (R253). -/
def execUplinkBlockLock (p : Nat) (line : List LineBlock) (s : State) : Out :=
  if 4 ≤ p || !s.on (portDom p) then .next s else
  let t := s.hearLine p line
  if !commaLocked (s.upBlocks p line) then .next t else
  let t := t.modPort p fun l => { l with upLocked := true, upLostAt := none }
  .next (if t.rd (F.LNK_STATE_STATE p) = 2 then t.trainStep p 3 else t)

/-- What a port on one lane does in the applied mode: in TM3 its rows carry WIDTH 0, in TM2 the device falls back to TM1 (R272, R273). -/
def State.oneLaneMode (s : State) (p : Nat) : State :=
  if s.tm = 3 then s.wr (F.LNK_STATE_WIDTH12 p) 1
  else if s.tm = 2 then { s with cf := { s.cf with fallback := true } }
  else s

/-- Training is complete: READY with its lanes, which carry IDLE with the precoding that PARAM told the tile (R248, R265, R270). -/
def State.portReady (s : State) (p : Nat) : State :=
  let l := s.port p
  let s := (s.setPort p 7).setLanes p (if l.bonded then 3 else 1)
  let s := if l.wasLost then s.mark (F.LNK_EVENTS_RETURNED p) else s
  let s := s.modPort p fun l => { l with wasLost := false, precoding := s.flag (F.LNK_CTRL_PRECODE p) }
  (if l.bonded then s else s.oneLaneMode p).sendBlocks p (idleStretch 32)

/-! ### Loss (R269) -/

/-- A READY or ACTIVE port is lost (R269); in PREPARE it is trained once more at once (R266); a full characterization of its tile
ends (R358). -/
def State.losePort (s : State) (p cause : Nat) : State :=
  if !s.portUp p then s else
  let s := ((s.setPort p 9).setLanes p 0).wr (F.LNK_STATE_LOSTCAUSE p) cause
  let s := ((s.mark (F.LNK_EVENTS_LOST p)).wr (F.LNK_HUSK_UNLOCKED p) 0).raise (Src.TILE_LOST p)
  let s := s.modPort p fun l => { l with echoes := [], fresh := false, muted := false }
  let s := match s.cal.full with
    | some r => if r.tile = p then s.endFull 3 else s
    | none => s
  if s.mode == .prepare then (s.train p true).modPort p fun l => { l with wasLost := true } else s

/-- An uplink TRAIN block (R265); from a READY or ACTIVE port it says that the tile has restarted (R269). -/
def State.takeTrain (s : State) (p : Nat) (b : TrainBlock) : State :=
  let s := s.modPort p fun l => { l with echoState := b.state }
  match s.rd (F.LNK_STATE_STATE p) with
  | 3 =>
    let got := (s.port p).locked ||| (b2n b.dn0 + 2 * b2n b.dn1)
    let s := s.modPort p fun l => { l with locked := got }
    if bitAt got 0 && (!(s.port p).bonded || bitAt got 1) then s.trainStep p 4 else s
  | 4 => if b.deskewed then s.trainStep p 5 else s
  | 6 => if b.accepted then s.portReady p else s
  | 7 => s.losePort p 5
  | 8 => s.losePort p 5
  | _ => s

def execUplinkTrainReceive (p : Nat) (line : List LineBlock) (s : State) : Out :=
  .next (if p < 4 && s.on (portDom p) then (upTrains (s.upBlocks p line)).foldl (fun t b => t.takeTrain p b) (s.hearLine p line) else s)

/-- The timeout of each training state in ms (R265). -/
def trainLimit : Nat → Nat
  | 1 => 5 | 2 => 3 | 3 => 6 | _ => 2

/-- A training fails in a state: the retry of PREPARE, FAILED, or LOST (R266). -/
def State.trainFail (s : State) (p st : Nat) : State :=
  let s := s.wr (F.LNK_STATE_TRAINFAIL p) st
  if s.mode == .prepare then
    if (s.port p).retried then ((s.setPort p 11).setLanes p 0).wr (F.LNK_STATE_LOSTCAUSE p) 4 else s.train p true
  else ((s.setPort p 9).setLanes p 0).wr (F.LNK_STATE_LOSTCAUSE p) 4

/-- A state times out; a bonded training whose DN1 alone has not locked goes on with DN0 (R265, R266). -/
def execTrainStateTimeout (p : Nat) (s : State) : Out :=
  let st := s.rd (F.LNK_STATE_STATE p)
  if 4 ≤ p || !s.on (portDom p) || st < 1 || 6 < st || !s.since (s.port p).since (msec (trainLimit st)) then .next s
  else if st = 3 && (s.port p).bonded && bitAt (s.port p).locked 0 then
    let s := (s.modPort p fun l => { l with bonded := false }).raise (Src.LANE_DEGRADE p)
    .next (s.trainStep p 5)
  else .next (s.trainFail p st)

/-! ### Uplink records: fate and identity (R261, R267, R35) -/

/-- The record that an uplink brings to a port. -/
def State.upRecord (s : State) (p : Nat) (u : UpArrival) : Option UpRecord := Machine.upRecord (s.upBlocks p u.line)

/-- A record of one kind arrives at a port whose domain is on: dropped and counted for its CRC or length (R261), or at a full queue (R35); else it does what
its kind does. -/
def State.takeRecord (s : State) (p kind : Nat) (u : UpArrival) (k : UpRecord → State → State) : State :=
  if 4 ≤ p || !s.on (portDom p) then s else
  let t := s.hearLine p u.line
  match s.upRecord p u with
  | none => t
  | some r =>
    if !r.good then t.bump (F.LNK_UPCNT_BADREC p)
    else if r.kind ≠ kind then t
    else if u.full then (t.bump (F.LNK_UPCNT_DROP p)).raise (Src.UPLINK_DROP p)
    else k r t

/-- The firmware command in flight ends with an answer (R258, R261). -/
def State.answerCmd (s : State) (p tag status : Nat) : State :=
  let s := ((s.wr (F.LNK_CMDRESP_TAG p) tag).wr (F.LNK_CMDRESP_STATUS p) status).mark (F.LNK_CMDRESP_VALID p)
  (s.wr (F.LNK_CMD_BUSY p) 0).modPort p fun l => { l with cmd := none }

/-- The identity of the tile found (R261). -/
def State.setIdentity (s : State) (p : Nat) (x : IdentRec) : State :=
  let s := ((s.wr (F.LNK_IDPART_PART p) x.part).wr (F.LNK_IDPART_REV p) x.rev).wr (F.LNK_IDPART_CAPS p) x.caps
  ((s.setN (R.LNK_IDSER_LO p) (x.serial % 2 ^ 32)).setN (R.LNK_IDSER_HI p) (x.serial / 2 ^ 32)).setN (R.LNK_IDHUSK p) x.husk

/-- An IDENT record: the identity check of training, or the answer to a firmware command (R258, R267). -/
def State.takeIdent (s : State) (p tag : Nat) (x : IdentRec) : State :=
  match s.rd (F.LNK_STATE_STATE p) with
  | 5 =>
    let s := s.setIdentity p x
    let c := s.identCause p x
    if c = 0 then s.trainStep p 6
    else ((((s.setPort p 10).setLanes p 0).wr (F.LNK_STATE_LOSTCAUSE p) c).mark (F.LNK_EVENTS_FOREIGN p)).raise (Src.TILE_FOREIGN p)
  | _ =>
    match (s.port p).cmd with
    | some c => if c.opcode = 0x02 && c.tag = tag then (s.setIdentity p x).answerCmd p c.tag 0 else s
    | none => s

def execIdentRecord (p : Nat) (full : Bool) (line : List LineBlock) (s : State) : Out :=
  .next (s.takeRecord p 5 ⟨line, full⟩ fun r s => s.takeIdent p r.tag r.ident)

/-! ### LNK_CTRL (R265, R268, R274) -/

/-- READY with LIGHT becomes ACTIVE; rows follow from the next refresh start (R265). -/
def State.lightUp (s : State) (p : Nat) : State :=
  if s.rd (F.LNK_STATE_STATE p) = 7 && s.flag (F.LNK_CTRL_LIGHT p) then
    (s.setPort p 8).modPort p fun l => { l with fresh := true }
  else s

/-- A write to LNK_CTRL: EN starts training, in PREPARE not before step 11 (R102), or turns the port off, RETRAIN is honoured in STANDBY and while LOST, LIGHT acts while the
port is READY or ACTIVE (R265, R268, R274). -/
def State.writeLnkCtrl (s : State) (p : Nat) (data : Word) : State :=
  let d := data.toNat
  let was := s.flag (F.LNK_CTRL_EN p)
  let s := s.store (R.LNK_CTRL p) data
  let s := if s.portUp p then s else s.wr (F.LNK_CTRL_LIGHT p) 0
  let s := if was && !bitAt d 0 then s.portOff p
    else if !was && bitAt d 0 then (if s.testsOver && s.stepDue 11 then s.train p false else s)
    else if bitAt d 4 && bitAt d 0 && (s.mode == .standby || s.rd (F.LNK_STATE_STATE p) = 9) then s.train p false
    else s
  s.lightUp p

def execLinkEnable (m : Master) (p : Nat) (data : Word) (s : State) : Out :=
  if 4 ≤ p then .next s else s.withBus m (R.LNK_CTRL p) data fun s => s.writeLnkCtrl p data

def execLightSet (m : Master) (p : Nat) (data : Word) (s : State) : Out :=
  if 4 ≤ p then .next s else s.withBus m (R.LNK_CTRL p) data fun s => s.writeLnkCtrl p data

def execRetrain (m : Master) (p : Nat) (data : Word) (s : State) : Out :=
  if 4 ≤ p then .next s else s.withBus m (R.LNK_CTRL p) data fun s => s.writeLnkCtrl p data

/-- A LOST port retrains every RETRY_MS while EN is 1 (R266). -/
def execLostRetry (p : Nat) (s : State) : Out :=
  let ms := s.rd (F.LNK_CTRL_RETRY_MS p)
  .next (if p < 4 && s.rd (F.LNK_STATE_STATE p) = 9 && ms ≠ 0 && s.since (s.port p).since (msec ms) then s.train p false else s)

/-! ### Lanes (R269, R271–R273, R278) -/

/-- Pixel cycles of one row transfer on the lanes in use (R228). -/
def State.rowTransfer (s : State) (p : Nat) : Nat :=
  let blocks := if s.portWidth p = 16 then 258 else 194
  ceilDiv (blocks * 66 * 3) (10 * max 1 (s.lanesOf p).length)

/-- When the row in flight on a port has been sent, if that is still to come. -/
def State.rowEnd (s : State) (p : Nat) : Option Nat :=
  match (s.port p).rowAt with
  | some (t, _) => if t + s.rowTransfer p ≤ s.now then none else some (t + s.rowTransfer p)
  | none => none

/-- The row in flight at the loss of a lane is not decoded by Glean: the accumulators stand as before it (R271, R277). -/
def State.cutRow (s : State) (p : Nat) : State :=
  if (s.rowEnd p).isNone then s else
  s.modPort p fun l => { l with rowAt := none, glean := l.glean.map fun (a : GleanAcc) =>
    if a.emitted then a else
      (l.gleanPrev.find? fun b => b.region = a.region && b.lane = a.lane).getD { region := a.region, lane := a.lane } }

/-- A bonded port drops a lane: the lane is at electrical idle, four COMMAs follow on the other, and single-lane framing goes on (R271, R272); the last lane
is the loss of the port (R269). -/
def State.dropLane (s : State) (p lane : Nat) : State :=
  if !s.portUp p || !bitAt (s.rd (F.LNK_STATE_LANEMAP p)) lane then s
  else if (s.lanesOf p).length < 2 then s.losePort p 3
  else
    let s := (s.cutRow p).setLanes p (3 - 2 ^ lane)
    let s := (s.mark (F.LNK_EVENTS_LANE_DEGRADED p)).oneLaneMode p
    (s.sendBlocks p (List.replicate 4 commaBlock)).raise (Src.LANE_DEGRADE p)

/-- Lanes that a tile reports lost: the last lanes in use are the loss of the port (R269, R271). -/
def State.lanesLost (s : State) (p : Nat) (dn0 dn1 : Bool) : State :=
  let map := s.rd (F.LNK_STATE_LANEMAP p)
  let l0 := dn0 && bitAt map 0
  let l1 := dn1 && bitAt map 1
  if !l0 && !l1 then s
  else if (l0 || !bitAt map 0) && (l1 || !bitAt map 1) then s.losePort p 3
  else s.dropLane p (if l0 then 0 else 1)

/-- An ALERT: lost lanes, and an over-temperature of the tile (R271, R331). -/
def execAlertRecord (p : Nat) (full : Bool) (before record after : List LineBlock) (s : State) : Out :=
  .next (s.takeRecord p 6 ⟨before ++ record ++ after, full⟩ fun r s =>
    let s := s.lanesLost p (bitAt r.info 0) (bitAt r.info 1)
    if bitAt r.info 2 then
      (s.mark (F.LNK_EVENTS_OVERTEMP p)).orderlyStop 3 (s.rdS F.THM_HOT_TEMP) (s.rdS F.THM_HOT_RATE)
    else s)

/-- The uplink receiver loses block lock on a line with too many invalid headers (R253); a port that has been without it for 1 ms is lost (R269). -/
def State.loseUplock (s : State) (p : Nat) (line : List LineBlock) : State :=
  let t := s.hearLine p line
  let t := if (s.port p).upLocked && lockLost ((s.upBlocks p line).map Option.isNone) then
    t.modPort p fun l => { l with upLocked := false, upLostAt := some s.now } else t
  match (t.port p).upLostAt with
  | some a => if a + msec 1 ≤ s.now then t.losePort p 1 else t
  | none => t

def execUplinkLockLoss (p : Nat) (line : List LineBlock) (s : State) : Out :=
  .next (if p < 4 && s.on (portDom p) then s.loseUplock p line else s)

/-- A header as a Glean receiver finds it is invalid (R250). -/
def badHeader (h : Nat) : Bool := h ≠ 1 && h ≠ 2

/-- The Glean receivers of a port, on the headers that DN0 and DN1 have carried lately: one that loses lock on a lane in use drops the lane; where it was the
last lane, or both fail at once, the port stops rows (R253, R278, R279). -/
def execGleanLockLoss (p : Nat) (headers : List Nat × List Nat) (s : State) : Out :=
  if 4 ≤ p || !s.portUp p then .next s else
  let map := s.rd (F.LNK_STATE_LANEMAP p)
  let l0 := bitAt map 0 && lockLost (headers.1.map badHeader)
  let l1 := bitAt map 1 && lockLost (headers.2.map badHeader)
  if !l0 && !l1 then .next s
  else if (l0 || !bitAt map 0) && (l1 || !bitAt map 1) then
    let s := if l0 then s.wr (F.LNK_GLSTAT_LOCK0 p) 0 else s
    let s := if l1 then s.wr (F.LNK_GLSTAT_LOCK1 p) 0 else s
    .next ((s.modPort p fun l => { l with muted := true }).raise (Src.GLEAN_LOCK p))
  else .next (s.dropLane p (if l0 then 0 else 1))

/-! ### Commands (R258–R260) -/

/-- The device accepts a firmware command in this state and mode (R258, R259). -/
def State.acceptsCmd (s : State) (p opcode : Nat) : Bool :=
  let st := s.rd (F.LNK_STATE_STATE p)
  match opcode with
  | 0x01 | 0x10 | 0x11 => s.portUp p
  | 0x02 => 5 ≤ st && st ≤ 8
  | 0x30 => s.portUp p && s.mode == .standby && !s.demand
  | 0x31 => s.portUp p && s.flag (F.LNK_HUSK_UNLOCKED p)
  | 0x40 => s.mode != .run
  | _ => false

/-- A SAMPLE is in flight: its CHAR record is due within 200 µs (R258, R264). -/
def State.sampling (s : State) (p : Nat) : Bool :=
  match (s.port p).sample with
  | some x => decide (s.now < x.since + usec 200)
  | none => false

/-- A trim of a tile is going on: its two records come within 1.2 ms and the delay of the link (R344). -/
def State.trimRuns (s : State) (t : Nat) : Bool :=
  match s.cal.trims.getD t none with | some r => decide (s.now < r.since + usec 1400) | none => false

/-- A trim of a tile may begin: in STANDBY while its last one is over; in RUN while TRIM_RUN is 1, one tile at a time, and once per 10 s for each (R345). -/
def State.trimAllowed (s : State) (t : Nat) : Bool :=
  match s.mode with
  | .standby => !s.trimRuns t
  | .run => s.flag F.CAL_CTRL_TRIM_RUN && !(List.range 4).any s.trimRuns
      && (match s.cal.trimFrom.getD t none with | some e => s.since e (sec 10) | none => true)
  | _ => false

/-- A trim of a tile begins (R344). -/
def State.beginTrim (s : State) (t : Nat) : State :=
  { s with cal := { s.cal with trims := s.cal.trims.set t (some { tile := t, since := s.now }), trimFrom := s.cal.trimFrom.set t (some s.now) } }

/-- A firmware command is sent, behind the row in flight. TILE_RESET has no answer: the tile and the port train again (R258, R265). -/
def State.sendCmd (s : State) (p opcode tag arg : Nat) : State :=
  let at_ := (s.rowEnd p).getD s.now
  let s := (s.emit (.tileCmd p opcode tag arg [])).sendBlocks p (cmdBlocks opcode tag arg [])
  if opcode = 0x40 then (s.wr (F.LNK_HUSK_UNLOCKED p) 0).train p false
  else
    let s := (s.wr (F.LNK_CMD_BUSY p) 1).modPort p fun l => { l with cmd := some ⟨opcode, tag, arg, at_⟩ }
    let s := if opcode = 0x31 then s.wr (F.LNK_HUSK_UNLOCKED p) 0 else s
    if opcode = 0x10 && arg = Config.trimCommand then s.beginTrim p else s

/-- A requested trim waits while a SAMPLE of its tile is in flight (R358). -/
def State.holdTrim (s : State) (p tag : Nat) : State := (s.wr (F.LNK_CMD_BUSY p) 1).modPort p fun l => { l with trimWait := some tag }

/-- The trim that waited for the CHAR record is sent, or has no port any more, or may not run now (R345). -/
def State.releaseTrim (s : State) (p : Nat) : State :=
  match (s.port p).trimWait with
  | none => s
  | some tag =>
    let s := s.modPort p fun l => { l with trimWait := none }
    if s.sampling p then s.holdTrim p tag
    else if s.portUp p && s.trimAllowed p then s.sendCmd p 0x10 tag Config.trimCommand
    else s.answerCmd p tag 14

/-- A write to LNK_CMD: GO sends the command, is refused with status 14, or is ignored while one is in flight (R258, R259, R279). DESIGN CHOICE
(notes/assumptions/49.md): the command of a trim that may not run (R345) is refused in the same way. -/
def State.writeLnkCmd (s : State) (p : Nat) (data : Word) : State :=
  let d := data.toNat
  let s := s.store (R.LNK_CMD p) data
  let trim := bitsOf d 7 0 = 0x10 && s.regN (R.LNK_CMDARG p) = Config.trimCommand
  if !bitAt d 16 || s.flag (F.LNK_CMD_BUSY p) then s
  else if s.acceptsCmd p (bitsOf d 7 0) && trim && s.sampling p then s.holdTrim p (bitsOf d 15 8)
  else if s.acceptsCmd p (bitsOf d 7 0) && (!trim || s.trimAllowed p) then s.sendCmd p (bitsOf d 7 0) (bitsOf d 15 8) (s.regN (R.LNK_CMDARG p))
  else s.answerCmd p (bitsOf d 15 8) 14

def execPing (m : Master) (p : Nat) (data : Word) (s : State) : Out :=
  if 4 ≤ p then .next s else s.withBus m (R.LNK_CMD p) data fun s => s.writeLnkCmd p data

def execIdent (m : Master) (p : Nat) (data : Word) (s : State) : Out :=
  if 4 ≤ p then .next s else s.withBus m (R.LNK_CMD p) data fun s => s.writeLnkCmd p data

def execRegWrite (m : Master) (p : Nat) (data : Word) (s : State) : Out :=
  if 4 ≤ p then .next s else s.withBus m (R.LNK_CMD p) data fun s => s.writeLnkCmd p data

def execRegRead (m : Master) (p : Nat) (data : Word) (s : State) : Out :=
  if 4 ≤ p then .next s else s.withBus m (R.LNK_CMD p) data fun s => s.writeLnkCmd p data

def execHuskUnlock (m : Master) (p : Nat) (data : Word) (s : State) : Out :=
  if 4 ≤ p then .next s else s.withBus m (R.LNK_CMD p) data fun s => s.writeLnkCmd p data

def execHuskCommit (m : Master) (p : Nat) (data : Word) (s : State) : Out :=
  if 4 ≤ p then .next s else s.withBus m (R.LNK_CMD p) data fun s => s.writeLnkCmd p data

def execTileReset (m : Master) (p : Nat) (data : Word) (s : State) : Out :=
  if 4 ≤ p then .next s else s.withBus m (R.LNK_CMD p) data fun s => s.writeLnkCmd p data

/-- What the answer to a Husk command does: the unlock opens the store; the commit of a pattern records its CRC and the efficiency it
was written for (R260, R355). -/
def State.huskAnswer (s : State) (p : Nat) (c : LinkCmd) (status : Nat) : State :=
  if status ≠ 0 then s
  else if c.opcode = 0x30 then s.wr (F.LNK_HUSK_UNLOCKED p) 1
  else if c.opcode = 0x31 then
    let s := s.setN (R.LNK_EXPHUSK p) c.arg
    { s with kept := Sparse.set resetWord s.kept (R.LNK_EXPHUSK p) (BitVec.ofNat 32 c.arg)
             cal := { s.cal with huskA := s.cal.huskA.set p (some (s.rd (F.CAL_EFF_MEDIAN p))) } }
  else s

/-- A RESPONSE record answers the command in flight (R261). -/
def State.takeResponse (s : State) (p tag status value : Nat) : State :=
  match (s.port p).cmd with
  | some c =>
    if c.tag = tag && c.opcode ≠ 0x02 then ((s.setN (R.LNK_CMDVAL p) value).answerCmd p tag status).huskAnswer p c status else s
  | none => s

def execResponseRecord (p : Nat) (full : Bool) (before record after : List LineBlock) (s : State) : Out :=
  .next (s.takeRecord p 4 ⟨before ++ record ++ after, full⟩ fun r s => s.takeResponse p r.tag r.status r.info)

/-- A firmware command without an answer after 100 µs ends with status 15 (R258). -/
def execCommandTimeout (p : Nat) (s : State) : Out :=
  match (s.port p).cmd with
  | some c => .next (if p < 4 && s.since c.since (usec 100) then s.answerCmd p c.tag 15 else s)
  | none => .next s

/-! ### Echoes (R262, R268, R269) -/

/-- The rows of a band whose echo does not match what was sent (R262). -/
def EchoDue.mismatches (e : EchoDue) (x : EchoRec) : Nat :=
  (e.rows.filter fun r => !bitAt x.rowOk r.1 || x.crcs.getD r.1 0 ≠ r.2).length

/-- The expected band that an echo answers. -/
def LinkSt.echoFor (l : LinkSt) (x : EchoRec) : Option EchoDue :=
  l.echoes.find? fun e => e.got.isNone && e.band = x.band && e.refresh % 16 = x.refresh % 16

/-- A band's echo is settled; settled bands are kept as far as R269 looks back. -/
def LinkSt.settle (l : LinkSt) (band refresh : Nat) (came : Bool) : LinkSt :=
  let es := l.echoes.map fun e => if e.got.isNone && e.band = band && e.refresh = refresh then { e with got := some came } else e
  { l with echoes := es.drop (es.length - 12) }

/-- Four bands in a row have gone without their echo (R269). -/
def LinkSt.silent (l : LinkSt) : Bool :=
  (List.range (l.echoes.length - 3)).any fun i => ((l.echoes.drop i).take 4).all fun e => e.got == some false

/-- A ROWECHO record (R262, R268). -/
def State.takeEcho (s : State) (p : Nat) (x : EchoRec) : State :=
  match (s.port p).echoFor x with
  | none => s
  | some e =>
    let n := e.mismatches x
    let t := (s.port p).tallyFor e.refresh
    let t' : RefTally := { t with mism := t.mism + n, matched := if n = 0 then t.matched + 1 else t.matched }
    let s := s.modPort p fun l => (l.settle e.band e.refresh true).setTally t'
    let s := s.bumpBy (F.LNK_ECHOCNT_MISMATCH p) n
    let lim := s.rd (F.LNK_CTRL_ECHO_LIM p)
    let s := if t.mism ≤ lim && lim < t'.mism then (s.mark (F.LNK_EVENTS_ECHO_LIMIT p)).raise (Src.ROW_ECHO p) else s
    if s.rd (F.LNK_STATE_STATE p) = 8 && t'.matched = 16 && t'.rows = 512 then s.wr (F.LNK_STATE_FULLREF p) 1 else s

def execRowechoRecord (p : Nat) (full : Bool) (line : List LineBlock) (s : State) : Out :=
  .next (s.takeRecord p 1 ⟨line, full⟩ fun r s => s.takeEcho p r.echo)

/-- The bands whose echo is due and has not come are missing; four in a row lose the port (R262, R269). -/
def execEchoDeadline (p : Nat) (s : State) : Out :=
  if 4 ≤ p || !s.on (portDom p) then .next s else
  let late := (s.port p).echoes.filter fun e => e.got.isNone && (match e.due with | some t => decide (t ≤ s.now) | none => false)
  let s := late.foldl (fun (s : State) e =>
    (s.modPort p fun l => l.settle e.band e.refresh false).bumpBy (F.LNK_ECHOCNT_MISSING p) e.rows.length) s
  .next (if !late.isEmpty && (s.port p).silent then s.losePort p 2 else s)

/-- Band slot k begins: the echoes of earlier bands fall due at its end (R262). -/
def State.setEchoDue (s : State) (k slotEnd : Nat) : State :=
  let ref := s.regN R.SCN_REFCNT % 256
  (List.range 4).foldl (fun s p => s.modPort p fun l => { l with echoes := l.echoes.map fun e =>
    if e.due.isNone && !(e.band = k && e.refresh = ref) then { e with due := some slotEnd } else e }) s

/-! ### STATUS (R261, R263, R271, R331) -/

/-- A STATUS record: what the tile reports, its temperature to the thermal monitor, and lanes that it no longer holds locked. -/
def State.takeStatus (s : State) (p : Nat) (x : StatusRec) : State :=
  let s := (s.wrS (F.LNK_TILESTAT_TEMP p) x.temp).wr (F.LNK_TILESTAT_VANODE p) x.vanode
  let s := (s.wrB (F.LNK_HUSK_SHOWN p) x.huskShown).bumpBy (F.LNK_ERRCNT_DN0 p) x.err0
  let s := s.bumpBy (F.LNK_ERRCNT_DN1 p) x.err1
  let s := (s.wrS (F.THM_TILE_TEMP p) x.temp).wr (F.THM_TILE_VALID p) 1
  let s := { s with thm := { s.thm with tileAt := s.thm.tileAt.set p (some s.now) } }
  let s := s.tileLevels p
  if !s.portUp p || s.bitF F.SAF_OUTCMD_LANEIDLE p then s
  else s.lanesLost p (!x.dn0) (!x.dn1)

def execStatusRecord (p : Nat) (full : Bool) (line : List LineBlock) (s : State) : Out :=
  .next (s.takeRecord p 2 ⟨line, full⟩ fun r s => s.takeStatus p r.statusRec)

/-! ### Glean records (R277, R35) -/

/-- In a characterization each batch slot counts as a refresh of its tile for the Glean receivers: the record is due once in a slot, from its middle on, the
slot before the first batch included, and rows that no slot has sent are dark (R375; DESIGN CHOICE, notes/assumptions/22.md). -/
def State.gleanSlot (s : State) (p : Nat) : Bool :=
  match s.cal.full with
  | some r => r.tile = p && s.since r.since (r.batch * 87890 + 43945)
  | none => false

/-- The record of a region and lane at the end of the region's last row slot. -/
def State.gleanRecord (s : State) (p r lane : Nat) (y0 y1 : Nat) (queueFull : Bool) : State :=
  let l := s.port p
  let a := (l.glean.find? fun a => a.region = r && a.lane = lane).getD { region := r, lane := lane }
  let ref := s.regN R.SCN_REFCNT % 256
  let x : GleanRec := { port := p, lane := lane, region := r, refresh := ref, wide := s.portWidth p = 16, max := a.max
                        crc := crc32Spec.result a.crc, partialRows := a.rows < y1 + 1 - y0 && !s.gleanSlot p, laneChg := l.laneChg }
  let m := R.LNK_GRES_M p r lane
  let c := R.LNK_GRES_C p r lane
  let s := s.setN m (x.max % 65536 + 2 ^ 16 * b2n x.wide + 2 ^ 17 * b2n x.partialRows + 2 ^ 18 * b2n x.laneChg + 2 ^ 19 + 2 ^ 24 * ref)
  let s := s.setN c x.crc
  let s := s.modPort p fun l =>
    { l with glean := (l.glean.filter fun b => !(b.region = r && b.lane = lane)) ++ [{ a with emitted := true }] }
  if queueFull then { s with saf := { s.saf with overflow := (p, ref) :: s.saf.overflow } }.raise (Src.GLEAN_OVERFLOW p)
  else { s with saf := { s.saf with inbox := s.saf.inbox ++ [x] } }

/-- The record is due once the row slot of the region's last row has ended, once in a refresh, from each active lane, whether or
not its rows were sent (R277). -/
def State.gleanDue (s : State) (p r lane y1 : Nat) : Bool :=
  s.on .scn && (s.gleanSlot p || (s.cf.hold.isNone && s.cf.cur.isSome
    && decide (s.bandStart s.cf.refStart (y1 / 32) + (y1 % 32 + 1) * rowPitch s.tm ≤ s.now)))
  && bitAt (s.rd (F.LNK_STATE_LANEMAP p)) lane
  && !((s.port p).glean.any fun a => a.region = r && a.lane = lane && a.emitted)

def execGleanRecord (p region lane : Nat) (queueFull : Bool) (s : State) : Out :=
  if 4 ≤ p || 32 ≤ region || 2 ≤ lane || !s.on (portDom p) then .next s else
  match s.gleanRect p region with
  | some (_, y0, _, y1) => .next (if s.gleanDue p region lane y1 then s.gleanRecord p region lane y0 y1 queueFull else s)
  | none => .next s

end Sys2Proof.Machine
end

