-- ==== Sys2Proof/Machine/Chains.lean ====
section
/-!
DEFINITION. Satellite node chains (R280–R293): frames, the update cycle, enumeration, losses and changes.
-/

namespace Sys2Proof.Machine

/-! ### Frames (R281–R284) -/

/-- The frame just sent is expected back from a node by the time of R284. -/
def State.satExpect (s : State) (c cmd kind first len turn : Nat) : State :=
  let sent := (s.chain c).idleAt - 4 * satBit
  let o : SatOut := { cmd := cmd, kind := kind, first := first, until_ := sent + satLen len + 480 * turn + usec 10 }
  s.modChain c fun k => { k with out := some o }

/-- Enumerated nodes of a chain. -/
def State.satCount (s : State) (c : Nat) : Nat := s.rd (F.SAT_CH_STAT_COUNT c)

/-- A COLLECT for the 32 addresses from FIRST (R283); it turns at the last of them or at the last node. -/
def State.satCollect (s : State) (c kind first : Nat) (busy : Bool) : State :=
  let n := s.satCount c
  let turn := if n = 0 then 512 else min (first + 31) n
  let payload := BitVec.ofNat 8 kind :: List.replicate 128 0xFF#8
  (s.satSend c 0x20 0xFFFF first payload busy).satExpect c 0x20 kind first 129 turn

/-! ### Values (R286, R287, R290) -/

/-- A value of the dictionary's node object of node a, counted from 0, with its default (R440). -/
def State.nodeObj (s : State) (c a sub dflt : Nat) : Nat :=
  match s.dict.objs.lookup (0x9000 + 0x200 * c + a, sub) with
  | some bs => ofLeBytes bs
  | none => dflt

/-- The identity of a node agrees with its object; a node that differs is left unconfigured (R290, R440). -/
def State.nodeFits (s : State) (c a : Nat) : Bool :=
  let t := s.nodeObj c a 1 0xFFFF
  let r := s.nodeObj c a 2 0xFF
  (t = 0xFFFF || t = s.rd (F.SAT_NID_TYPE c a)) && (r = 0xFF || r = s.rd (F.SAT_NID_REV c a))

/-- The setting in a node object's sub 3 + i: register and value, where it is valid (R440). -/
def State.nodeSetting (s : State) (c a i : Nat) : Option (Nat × Nat) :=
  let v := s.nodeObj c a (3 + i) 0
  if bitAt v 24 then some (bitsOf v 7 0, bitsOf v 23 8) else none

/-- The writes of sub 3 + i to the enumerated nodes: one broadcast for a setting that every node has in common, else one for each node whose identity
fits (R290). -/
def State.subWrites (s : State) (c i : Nat) : List (Nat × Nat × Nat) :=
  let n := s.satCount c
  let same := (List.range n).all fun a => s.nodeFits c a && s.nodeSetting c a i = s.nodeSetting c 0 i
  match s.nodeSetting c 0 i with
  | some (r, v) => if same && n ≠ 0 then [(0xFFFF, r, v)] else each n
  | none => each n
where
  each (n : Nat) : List (Nat × Nat × Nat) :=
    (List.range n).filterMap fun a => if s.nodeFits c a then (s.nodeSetting c a i).map fun q => (a + 1, q.1, q.2) else none

/-- What firmware replays to the nodes of a chain, in sub order (R290, R440). -/
def State.nodeWrites (s : State) (c : Nat) : List (Nat × Nat × Nat) := (List.range 8).flatMap fun i => s.subWrites c i

/-- Firmware sets LIGHT as its object has it, once the nodes are compared and configured (R290). -/
def State.satConfigured (s : State) (c : Nat) : State :=
  if !(s.chain c).todo.isEmpty || !s.firmwareUp || s.rd (F.SAT_CH_STAT_STATE c) ≠ 2 then s
  else
    let s := s.modChain c fun k => { k with configured := true }
    if s.owns .mgmt 12 && bitAt (Sparse.get resetWord s.kept (R.SAT_CH_CTRL c)).toNat 2 then s.wr (F.SAT_CH_CTRL_LIGHT c) 1 else s

/-- How many nodes a STREAM can carry before LATCH (R286). -/
def satFit (ofsUs : Nat) : Nat := (5 * ofsUs - 110) / 48

/-- One channel as STREAM sends it (R287). -/
def satScale (v scale : Nat) : Nat := (v * scale + 16384) / 32768

/-- The payload of STREAM: the applied values of the nodes that fit, scaled (R286, R287, R290). -/
def State.satStream (s : State) (c : Nat) : List Byte :=
  let scale := s.rd (F.SAT_CH_SCALE_SCALE c)
  (List.range (min (s.satCount c) (satFit (s.rd F.SAT_LATCHOFS_OFS_US)))).flatMap fun a =>
    let v : Fld → List Byte := fun f => leBytes 2 (if s.nodeFits c a then satScale (s.app f) scale else 0)
    v (F.SAT_VAL_W0_CH0 c a) ++ v (F.SAT_VAL_W0_CH1 c a) ++ v (F.SAT_VAL_W1_CH2 c a)

/-! ### The update cycle (R285, R292) -/

/-- The chains run in RUN and in HUSK (R72). DESIGN CHOICE (notes/assumptions/49.md): a chain sends no COLLECT and no CENSUS of the update cycle during
its enumeration (R285). -/
def State.satRuns (s : State) (c : Nat) : Bool :=
  s.on .drv && (s.mode == .run || s.mode == .husk) && s.flag (F.SAT_CH_CTRL_EN c) && (s.chain c).enum.isNone

/-- One chain at the period start: STREAM with the applied table while it is lit; OFF in DARK (R285, R287, R292). -/
def State.satPeriod (s : State) (busy c : Nat) : State :=
  if s.mode == .dark then
    if s.flag (F.SAT_CH_CTRL_EN c) then s.satSend c 0x03 0xFFFF 0 [] (bitAt busy c) else s
  else if s.satRuns c && s.flag (F.SAT_CH_CTRL_LIGHT c) then
    let s := s.applyGroup (.satVal c)
    (s.satSend c 0x01 0xFFFF 1 (s.satStream c) (bitAt busy c)).modChain c fun k => { k with lit := true }
  else s.modChain c fun k => { k with lit := false }

/-- COLLECT and CENSUS wait for the LATCH of the new period (R285). -/
def State.satRestart (s : State) (c : Nat) : State := s.modChain c fun k => { k with collectDue := false, censused := false }

def execSatPeriodStart (busy : Nat) (s : State) : Out :=
  let due := match s.sat.period with
    | some t => s.since t (usec (s.rd F.SAT_PERIOD_PERIOD_US))
    | none => true
  if !s.on .drv || !due then .next s else
  let s := { s with sat := { s.sat with period := some s.now, latched := false } }
  .next ((List.range 4).foldl (fun s c => (s.satRestart c).satPeriod busy c) s)

/-- At OFS_US each lit chain sends LATCH; the COLLECT of every running chain comes next (R285). No LATCH is sent in DARK (R293). -/
def State.satLatch (s : State) (busy c : Nat) : State :=
  if !s.satRuns c then s else
  let s := if (s.chain c).lit && s.flag (F.SAT_CH_CTRL_LIGHT c) then s.satSend c 0x02 0xFFFF 0 [] (bitAt busy c) else s
  s.modChain c fun k => { k with collectDue := true }

def execSatLatchSend (busy : Nat) (s : State) : Out :=
  match s.sat.period with
  | none => .next s
  | some t =>
    if !s.on .drv || s.sat.latched || !s.since t (usec (s.rd F.SAT_LATCHOFS_OFS_US)) then .next s else
    let s := (List.range 4).foldl (fun s c => s.satLatch busy c) s
    .next { s with sat := { s.sat with latched := true } }

/-- The next 32 addresses in rotation over the enumerated nodes (R285). -/
def execSatCollectSend (c : Nat) (busy : Bool) (s : State) : Out :=
  if 4 ≤ c || !s.satRuns c || !(s.chain c).collectDue || (s.chain c).out.isSome then .next s else
  let groups := max 1 (ceilDiv (s.satCount c) 32)
  let g := (s.chain c).rot % groups
  let s := s.modChain c fun k => { k with collectDue := false, rot := (g + 1) % groups }
  .next (s.satCollect c 0 (32 * g + 1) busy)

/-- CENSUS, once CENSUS_MS has passed, after the LATCH and the COLLECT of the period, once in it (R285). -/
def execSatCensusSend (c : Nat) (busy : Bool) (s : State) : Out :=
  if 4 ≤ c || !s.satRuns c || s.sat.period.isNone || !s.sat.latched || (s.chain c).collectDue || (s.chain c).censused || (s.chain c).out.isSome
    || !s.since (s.chain c).censusAt (msec (s.rd (F.SAT_CH_CTRL_CENSUS_MS c))) then .next s else
  let turn := if s.satCount c = 0 then 512 else s.satCount c
  let s := s.modChain c fun k => { k with censusAt := s.now, censused := true }
  .next ((s.satSend c 0x21 0xFFFF 0 (List.replicate 6 0#8) busy).satExpect c 0x21 0 0 6 turn)

/-! ### Enumeration (R288) -/

/-- An attempt begins: LIGHT cleared, RESET_ADDR, ENUM with NEXT 1. -/
def State.beginEnum (s : State) (c : Nat) (repeated busy : Bool) : State :=
  let s := (s.wr (F.SAT_CH_CTRL_LIGHT c) 0).wr (F.SAT_CH_STAT_STATE c) 1
  let s := s.modChain c fun k =>
    { k with enum := some repeated, enumAt := some s.now, out := none, lit := false, collectDue := false, lost := 0, todo := []
             configured := false }
  ((s.satSend c 0x10 0xFFFF 0 [] busy).satSend c 0x11 0xFFFF 0 (leBytes 2 1) false).satExpect c 0x11 0 0 2 512

/-- An attempt fails: it is repeated once; the second failure is FAILED and SAT_CHAIN. -/
def State.failEnum (s : State) (c : Nat) (busy : Bool) : State :=
  let s := s.bump (F.SAT_CH_ERRCNT_ENUMFAIL c)
  match (s.chain c).enum with
  | some false => s.beginEnum c true busy
  | _ => ((s.wr (F.SAT_CH_STAT_STATE c) 3).modChain c fun k => { k with enum := none, out := none }).raise (Src.SAT_CHAIN c)

/-- The chain has changed (R289): CHANGED and SAT_CHAIN; with AUTOENUM it enumerates again (R288). -/
def State.satChanged (s : State) (c : Nat) (busy : Bool) : State :=
  let s := ((s.mark (F.SAT_CH_EVENTS_CHANGED c)).modChain c fun k => { k with lost := 0 }).raise (Src.SAT_CHAIN c)
  if s.flag (F.SAT_CH_CTRL_AUTOENUM c) then s.beginEnum c false busy else s

/-- OVERSIZE shows nodes that STREAM cannot carry before LATCH (R286). -/
def State.showOversize (s : State) (c : Nat) : State :=
  s.wrB (F.SAT_CH_STAT_OVERSIZE c) (satFit (s.rd F.SAT_LATCHOFS_OFS_US) < s.satCount c)

/-- The attempt has succeeded (R288); firmware compares the identities and begins its replay (R290). -/
def State.endEnum (s : State) (c : Nat) : State :=
  let s := (s.wr (F.SAT_CH_STAT_STATE c) 2).mark (F.SAT_CH_EVENTS_ENUMERATED c)
  ((s.showOversize c).modChain c fun k => { k with enum := none, rot := 0, censusAt := s.now, todo := s.nodeWrites c }).satConfigured c

/-- The identity group from FIRST on, or the end of the enumeration. -/
def State.enumGroup (s : State) (c first : Nat) (busy : Bool) : State :=
  if first ≤ s.satCount c then s.satCollect c 1 first busy else s.endEnum c

/-- A word as firmware writes it to a register: LIGHT of a chain stays 0 until its nodes are configured (R290). -/
def State.firmwareWord (s : State) (a : Nat) (data : Word) : Word :=
  let off := a % 0x10000
  let c := (off - 0x100) / 0x40
  if blockOf a = 12 && 0x100 ≤ off && off < 0x200 && off % 0x40 = 0 && !(s.chain c).configured then
    BitVec.ofNat 32 (setBits data.toNat 2 2 0)
  else data

/-- A write to SAT_CHn_CTRL: a CENSUS_MS out of range refuses it; EN 0 switches the chain off; ENUM enumerates (R288). -/
def State.writeSatCtrl (s : State) (c : Nat) (data : Word) (busy : Bool) : State :=
  let ms := bitsOf data.toNat 25 16
  if ms < 10 || 1000 < ms then s else
  let s := s.store (R.SAT_CH_CTRL c) data
  if !bitAt data.toNat 0 then
    (s.wr (F.SAT_CH_STAT_STATE c) 0).modChain c fun k =>
      { k with out := none, enum := none, lit := false, collectDue := false, todo := [], configured := false }
  else if bitAt data.toNat 3 && (s.chain c).enum.isNone then s.beginEnum c false busy
  else s

/-- Step 12 of PREPARE, on the path to RUN, enumerates each enabled chain once (R102, R288). -/
def State.enumDue (s : State) (c : Nat) : Bool :=
  s.on .drv && s.flag (F.SAT_CH_CTRL_EN c) && (s.chain c).enum.isNone
  && (match s.pwr.prep with
    | some p => p.toRun && s.linksOver && (match (s.chain c).enumAt with | some t => decide (t < p.since) | none => true)
    | none => false)

def execSatEnumerate (w : Option (Master × Word)) (c : SatLine) (s : State) : Out :=
  if 4 ≤ c.chain then .next s else
  match w with
  | some (m, data) =>
    let word := if m == .mgmt then s.firmwareWord (R.SAT_CH_CTRL c.chain) data else data
    s.withBus m (R.SAT_CH_CTRL c.chain) data fun s => s.writeSatCtrl c.chain word c.busy
  | none => .next (if s.enumDue c.chain then s.beginEnum c.chain false c.busy else s)

/-! ### Returns (R284, R288, R289, R293) -/

/-- A frame is lost (R284); two lost CENSUS frames in a row are a change (R289), and a lost frame of an enumeration fails it (R288). -/
def State.satLost (s : State) (c : Nat) (o : SatOut) (busy : Bool) : State :=
  let s := (s.bump (F.SAT_CH_ERRCNT_LOST c)).modChain c fun k => { k with out := none }
  if (s.chain c).enum.isSome then s.failEnum c busy
  else if o.cmd = 0x21 then
    let s := s.modChain c fun k => { k with lost := k.lost + 1 }
    if 2 ≤ (s.chain c).lost then s.satChanged c busy else s
  else s

/-- Slot i of a COLLECT payload. -/
def satSlot (payload : List Byte) (i : Nat) : Nat := ofLeBytes ((payload.drop (1 + 4 * i)).take 4)

/-- The status slots of a COLLECT (R283, R293); a slot that no node has filled alerts nobody. -/
def State.satStatus (s : State) (c first : Nat) (payload : List Byte) : State :=
  let mine := (List.range 32).filter fun i => first + i ≤ 512
  let s := mine.foldl (fun s i => s.setN (R.SAT_NST c (first + i - 1)) (satSlot payload i)) s
  let bad := mine.any fun i => satSlot payload i ≠ 0xFFFFFFFF && bitsOf (satSlot payload i) 20 16 ≠ 0
  if bad then (s.mark (F.SAT_CH_EVENTS_NODEALERT c)).raise (Src.SAT_NODE c) else s

/-- The identity slots of an enumeration; a node that is missing within COUNT has left the chain, which fails the attempt (R288, R293). -/
def State.satIdentity (s : State) (c first : Nat) (payload : List Byte) (busy : Bool) : State :=
  let mine := (List.range 32).filter fun i => first + i ≤ 512
  let s := mine.foldl (fun s i => s.setN (R.SAT_NID c (first + i - 1)) (satSlot payload i)) s
  if mine.any fun i => first + i ≤ s.satCount c && satSlot payload i = 0xFFFFFFFF then (s.mark (F.SAT_CH_EVENTS_CHANGED c)).failEnum c busy
  else s.enumGroup c (first + 32) busy

/-- A returned ENUM (R288): NEXT − 1 is COUNT, the node that turned it LAST; without END, or at odds with itself, it fails. -/
def State.satEnumerated (s : State) (c turned : Nat) (f : SatFrame) (busy : Bool) : State :=
  let next := ofLeBytes (f.payload.take 2)
  if !f.ended || next < 2 || 513 < next || next - 1 ≠ turned then s.failEnum c busy
  else
    let s := s.resetRegs (R.SAT_NID c 0) (R.SAT_NID c 512)
    (s.wr (F.SAT_CH_STAT_COUNT c) (next - 1)).enumGroup c 1 busy

/-- A returned CENSUS (R289). -/
def State.satCensus (s : State) (c : Nat) (f : SatFrame) (busy : Bool) : State :=
  let n := s.satCount c
  if f.unaddr || ofLeBytes (f.payload.take 2) ≠ n || ofLeBytes ((f.payload.drop 2).take 2) ≠ n then s.satChanged c busy
  else s.modChain c fun k => { k with lost := 0 }

/-- A turned frame in time and good. -/
def State.satTake (s : State) (c turned : Nat) (o : SatOut) (f : SatFrame) (busy : Bool) : State :=
  let s := s.modChain c fun k => { k with out := none }
  match o.cmd with
  | 0x11 => s.satEnumerated c turned f busy
  | 0x20 => if o.kind = 1 then s.satIdentity c o.first f.payload busy else s.satStatus c o.first f.payload
  | 0x21 => s.satCensus c f busy
  | 0x30 => (s.modChain c fun k => { k with todo := k.todo.drop 1 }).satConfigured c
  | _ => s

/-- A turned frame comes back on the line of a chain: levels in half bit times, and the address of the node that turned it (notes/assumptions/53.md: the frame
layout gives it no place). Late, damaged or with a wrong CMD it is lost (R284). The line then stays idle for 4 tb, whatever came (R281). -/
def execSatReturnFrame (c : Nat) (x : SatArrival) (s : State) : Out :=
  let s := if s.on .drv then s.modChain c fun k => { k with idleAt := max k.idleAt (s.now + 4 * satBit) } else s
  match (s.chain c).out with
  | none => .next s
  | some o =>
    .next (if !s.on .drv then s
      else match satDecode x.line with
        | some f => if f.cmd = o.cmd && s.now ≤ o.until_ then s.satTake c x.turned o f x.busy else s.satLost c o x.busy
        | none => s.satLost c o x.busy)

def execSatReturnTimeout (c : SatLine) (s : State) : Out :=
  match (s.chain c.chain).out with
  | none => .next s
  | some o => .next (if s.on .drv && o.until_ < s.now then s.satLost c.chain o c.busy else s)

/-! ### Firmware's writes (R286, R290) -/

/-- Firmware configures an enumerated chain, one NODE_WRITE at a time (R283, R290): a broadcast is not turned, a node's own write is done when it comes back,
and is sent again where it is lost (DESIGN CHOICE, notes/assumptions/53.md). A write that is not the next of them is none of firmware's. -/
def execSatNodeWrite (c : SatLine) (node reg value : Nat) (s : State) : Out :=
  let busy := c.busy
  let c := c.chain
  if 4 ≤ c || !s.on .drv || !s.firmwareUp || !s.flag (F.SAT_CH_CTRL_EN c) || (s.chain c).out.isSome || s.rd (F.SAT_CH_STAT_STATE c) ≠ 2
    || (s.chain c).configured then .next s else
  match (s.chain c).todo with
  | [] => .next (s.satConfigured c)
  | next :: rest =>
    if next ≠ (node, reg, value) then .next s else
    let t := s.satSend c 0x30 node 0 (leBytes 1 reg ++ leBytes 2 value) busy
    .next (if node = 0xFFFF then (t.modChain c fun k => { k with todo := rest }).satConfigured c else t.satExpect c 0x30 0 0 3 node)

/-- The timing rules of R286, with n the node count of the largest enabled chain. -/
def State.satTimingOk (s : State) (period ofs : Nat) : Bool :=
  let n := ((List.range 4).map fun c => if s.flag (F.SAT_CH_CTRL_EN c) then s.satCount c else 0).foldl max 0
  2000 ≤ period && period ≤ 100000 && ofs + 1400 ≤ period && 110 + 48 * n ≤ 5 * ofs

/-- A write to SAT_PERIOD or SAT_LATCHOFS (R286). -/
def State.writeSatTiming (s : State) (latch : Bool) (data : Word) : State :=
  let v := bitsOf data.toNat 16 0
  if latch then
    (if s.satTimingOk (s.rd F.SAT_PERIOD_PERIOD_US) v then (List.range 4).foldl State.showOversize (s.wr F.SAT_LATCHOFS_OFS_US v) else s)
  else if s.satTimingOk v (s.rd F.SAT_LATCHOFS_OFS_US) then s.wr F.SAT_PERIOD_PERIOD_US v else s

def execSatTimingWrite (m : Master) (latch : Bool) (data : Word) (s : State) : Out :=
  s.withBus m (if latch then R.SAT_LATCHOFS else R.SAT_PERIOD) data fun s => s.writeSatTiming latch data

end Sys2Proof.Machine
end

