-- ==== Sys2Proof/Machine/Faults.lean ====
section
/-!
DEFINITION. Fault collection and reaction: the commands of that chapter (R386–R402).
-/

namespace Sys2Proof.Machine

/-- The domain of the block that raises a source; a powered-down block's line delivers no event (R401). LINK_MEM comes from the
half of the link buffers that holds the failing word (R38). -/
def srcDom (src addr : Nat) : Dom :=
  if src = Src.LINK_MEM then (if 0x20B40000 ≤ addr then .lnkb else .lnka)
  else blockDom (blockOf (srcAddr src)) (srcAddr src % 0x10000)

/-- A source's error line delivers an event (R386, R387). The address is that of the access or failing word for the sources that
R396 names, and the block's window for every other. -/
def execSourceRaise (src addr : Nat) (s : State) : Out :=
  if !s.on (srcDom src addr) then .next s else
  .next (s.raiseAt src (if src = Src.BUS_ACCESS || src = Src.DORMANT_ACCESS || src = Src.LINK_MEM then addr else srcAddr src))

/-- A grace timer has expired: the source escalates with the class it started with (R390). -/
def execGraceExpiry (src : Nat) (s : State) : Out :=
  match s.brm.timers.find? fun t => t.src = src with
  | some t => .next (if t.due ≤ s.now then s.escalate src t.cls t.addr else s)
  | none => .next s

/-- One source is handled: its timer stops, and a HANDLED record is written (R392). A source not latched, already escalated or
already handled is left alone, and one whose timer has expired escalates (R401). -/
def State.handle (s : State) (base src : Nat) : State :=
  if s.latched src && !s.escalated src && !s.handled src then
    match s.brm.timers.find? fun t => t.src == src && decide (t.due ≤ s.now) with
    | some t => s.escalate src t.cls t.addr
    | none =>
    let s := { s with brm := { s.brm with timers := s.brm.timers.filter fun t => t.src != src } }
    (s.srcSet base src true).record src (s.forceClass src) .handled (s.addrOf src)
  else s

/-- A write to BRM_HANDLEDw: honoured for INFO and DEGRADE, ignored and counted for HUSK and DARK (R392), and ignored while the
collector is powered down (R83). -/
def State.handleByFirmware (s : State) (src : Nat) : State :=
  if !s.on .safe then s else
  if s.forceClass src ≤ 1 then s.handle (R.BRM_HANDLED 0) src
  else (s.bumpSat F.BRM_BLOCKED_COUNT).wr F.BRM_BLOCKED_LAST src

/-- The sources that a write to word w names with 1, lowest first. -/
def namedSources (w : Nat) (data : Word) : List Nat := (bitList 32 data.toNat).map fun b => 32 * w + b

def execSourceHandle (m : Master) (w : Nat) (data : Word) (s : State) : Out :=
  s.withBus m (R.BRM_HANDLED (w % 8)) data fun s => (namedSources (w % 8) data).foldl State.handleByFirmware s

def execSourceShandle (m : Master) (w : Nat) (data : Word) (s : State) : Out :=
  s.withBus m (R.BRM_SHANDLED (w % 8)) data fun s =>
    (namedSources (w % 8) data).foldl (fun s k => s.handle (R.BRM_SHANDLED 0) k) s

/-- One source is dropped: latch, handled and escalated state, timer and pending request, with a CLEARED record. BRM_SELF stays
until SAFE powers down (R393). -/
def State.dropSrc (s : State) (src : Nat) : State :=
  if !s.latched src || src = Src.BRM_SELF then s else
  let addr := s.addrOf src
  let s := ((s.srcSet (R.BRM_STAT 0) src false).setHandled src false).srcSet (R.BRM_ESC 0) src false
  let s := { s with brm := { s.brm with timers := s.brm.timers.filter (fun t => t.src != src)
                                        pend := s.brm.pend.filter (fun (p : Nat × Nat) => p.1 != src)
                                        addrs := s.brm.addrs.filter (fun (p : Nat × Nat) => p.1 != src) } }
  s.record src (s.forceClass src) .cleared addr

/-- A source is cleared by a write (R393). One that is raised in this cycle keeps its latch: an event that set it is all that there is, and before an event
that found it set the source is dropped and raised anew (R17, R401). -/
def State.clearSrc (s : State) (src : Nat) : State :=
  if !s.latched src || src = Src.BRM_SELF then s else
  match s.eventsNow.lookup src with
  | none => s.dropSrc src
  | some (_, true) => s
  | some (addr, false) =>
    (((s.dropSrc src).srcSet (R.BRM_STAT 0) src true).noteEvent src addr true).recordRaised src addr

def execSourceClear (m : Master) (w : Nat) (data : Word) (s : State) : Out :=
  s.withBus m (R.BRM_STAT (w % 8)) data fun s => (namedSources (w % 8) data).foldl State.clearSrc s

/-- Every count is cleared (R393). -/
def State.clearCounts (s : State) : State := s.resetRegs (R.BRM_CNT 0) (R.BRM_CNT 64)

def execCountClear (m : Master) (data : Word) (s : State) : Out :=
  s.withBus m R.BRM_CTRL data fun s => if bitAt data.toNat 0 then s.clearCounts else s

/-- A class word that R389 lets in: no class below its default, no fixed or reserved source changed. -/
def classFits (r : Nat) (data : Word) : Bool :=
  (List.range 16).all fun i =>
    let c := bitsOf data.toNat (2 * i + 1) (2 * i)
    let d := srcDefaultClass (16 * r + i)
    if srcFixed (16 * r + i) then c == d else d ≤ c

/-- The grace that a source of class HUSK or DARK has, else 0. -/
def State.slowGrace (s : State) (k : Nat) : Nat := if 2 ≤ s.cfgClass k then s.cfgGrace k else 0

/-- Whether a write has given some source of class HUSK or DARK a grace other than 0, so that it voids the confirmation (R389). -/
def State.gaveGrace (s t : State) : Bool := (List.range 256).any fun k => t.slowGrace k != 0 && t.slowGrace k != s.slowGrace k

/-- A write to BRM_CLASSr: in Commissioning, where R389 lets it in. -/
def State.writeClass (s : State) (r : Nat) (data : Word) : State :=
  if s.flag F.PWR_MODE_COMM && classFits r data && data.toNat ≠ s.regN (R.BRM_CLASS r) then
    let t := s.setReg (R.BRM_CLASS r) data
    if s.gaveGrace t then t.voidConfirm else t
  else s

def execClassWrite (m : Master) (r : Nat) (data : Word) (s : State) : Out :=
  s.withBus m (R.BRM_CLASS (r % 16)) data fun s => s.writeClass (r % 16) data

/-- A grace word that R389 lets in: 0 for every fixed or reserved source. -/
def graceFits (r : Nat) (data : Word) : Bool :=
  (List.range 4).all fun i => !srcFixed (4 * r + i) || bitsOf data.toNat (8 * i + 7) (8 * i) == 0

/-- A write to BRM_GRACEr: in Commissioning, where R389 lets it in; a grace given to a HUSK or DARK source voids the
confirmation. -/
def State.writeGrace (s : State) (r : Nat) (data : Word) : State :=
  if s.flag F.PWR_MODE_COMM && graceFits r data && data.toNat ≠ s.regN (R.BRM_GRACE r) then
    let t := s.setReg (R.BRM_GRACE r) data
    if s.gaveGrace t then t.voidConfirm else t
  else s

def execGraceWrite (m : Master) (r : Nat) (data : Word) (s : State) : Out :=
  s.withBus m (R.BRM_GRACE (r % 64)) data fun s => s.writeGrace (r % 64) data

/-- The 1 ms scan of every word's parity: an error in a word of the configuration or of the state acts by hardwire (R394). -/
def State.parityScan (s : State) (bad : Option (Nat × Bool)) : State :=
  match bad with
  | none => s
  | some (word, config) =>
    let s := if s.flag F.BRM_SELFSTAT_PAR_CFG || s.flag F.BRM_SELFSTAT_PAR_STATE then s else s.wr F.BRM_SELFSTAT_WORD word
    s.brambleSelf (if config then F.BRM_SELFSTAT_PAR_CFG else F.BRM_SELFSTAT_PAR_STATE)

def execParityScan (bad : Option (Nat × Bool)) (s : State) : Out :=
  .next (if s.on .safe then s.periodic .parity (msec 1) fun s => s.parityScan bad else s)

/-- The two copies of the logic disagree (R394). -/
def execBrambleCompareMismatch (s : State) : Out :=
  .next (if s.on .safe then s.brambleSelf F.BRM_SELFSTAT_COMPARE else s)

/-- Once every second in PREPARE, RUN and HUSK the island raises BRM_TEST (R395). -/
def execBrmSelfTest (s : State) : Out :=
  let ok := s.flag F.SAF_STATE_READY && (s.mode == .prepare || s.mode == .run || s.mode == .husk)
  .next (if ok then s.periodic .selfTest (sec 1) fun s =>
    { s with brm := { s.brm with test := some { count := s.srcCount Src.BRM_TEST, seq := s.rd F.BRM_LOGSTAT_SEQ, at_ := s.now } } }.raise
      Src.BRM_TEST
  else s)

/-- The log holds a RAISED record of source 255 with a SEQ later than a given one (R395). -/
def State.testRecorded (s : State) (seq : Nat) : Bool :=
  let newest := s.rd F.BRM_LOGSTAT_SEQ
  (List.range 64).any fun e =>
    let w := s.regN (R.BRM_LOG_W e 0)
    let q := bitsOf w 31 16
    bitsOf w 7 0 == Src.BRM_TEST && bitsOf w 12 10 == RecKind.raised.num
      && 1 ≤ (q + 65536 - seq) % 65536 && (q + 65536 - seq) % 65536 ≤ (newest + 65536 - seq) % 65536

/-- The check of R395 and the clear through CLRTEST. -/
def execBrmTestCheck (s : State) : Out :=
  match s.brm.test with
  | none => .next s
  | some t =>
    let good := s.latched Src.BRM_TEST && (t.count < s.srcCount Src.BRM_TEST || (t.count == 255 && s.srcCount Src.BRM_TEST == 255)) && s.testRecorded t.seq
    let s := { s with brm := { s.brm with test := none } }
    let s := if good then s else s.brambleSelf F.BRM_SELFSTAT_TEST
    .next (s.dropSrc Src.BRM_TEST)

/-- NEXT advances the read index of the coded-message port, unless it is empty (R397). -/
def State.msgNext (s : State) (data : Word) : State :=
  if bitAt data.toNat 6 && !s.flag F.BRM_MSGCTRL_EMPTY then
    let s := s.bump F.BRM_MSGCTRL_RD
    s.wrB F.BRM_MSGCTRL_EMPTY (s.rd F.BRM_MSGCTRL_RD == s.rd F.BRM_LOGSTAT_NEXT)
  else s

def execMsgNext (m : Master) (data : Word) (s : State) : Out :=
  s.withBus m R.BRM_MSGCTRL data fun s => s.msgNext data

/-- A write to BRM_INJECT by the island (R395, R402). A raise in the cycle of the clear comes after it (R401). -/
def State.inject (s : State) (data : Word) : State :=
  let s := if bitAt data.toNat 1 then s.clearSrc Src.BRM_TEST else s
  if bitAt data.toNat 0 then s.raise Src.BRM_TEST else s

/-- The management watchdog, after 500 ms without service, only reports (R388). -/
def execMgmtWatchdog (s : State) : Out :=
  .next (s.raiseIf (s.on .mgmt) Src.MGMT_WDOG)

end Sys2Proof.Machine
end

