-- ==== Sys2Proof/Machine/Mailbox.lean ====
section
/-!
DEFINITION. Mailboxes (R452–R464), locks (R465–R468) and check-value units (R469–R473).
-/

namespace Sys2Proof.Machine

/-! ### Channels (R453–R459) -/

/-- Sender and receiver of a channel, as master numbers (R453). -/
def State.sender (s : State) (n : Nat) : Nat := s.rd (F.MBX_CH_CFG_SENDER n)
def State.receiver (s : State) (n : Nat) : Nat := s.rd (F.MBX_CH_CFG_RECEIVER n)

/-- NEW: a message waits that the receiver's read pointer does not name (R457). -/
def State.showNew (s : State) (n : Nat) : State :=
  s.wrB (F.MBX_CH_STAT_NEW n) (s.flag (F.MBX_CH_STAT_FULL n) && s.rd (F.MBX_CH_STAT_SEQ n) != s.mbx.rdseq.getD n 0)

/-- RDSEQ of a channel set. -/
def State.setRdseq (s : State) (n v : Nat) : State := { s with mbx := { s.mbx with rdseq := s.mbx.rdseq.set n v } }.showNew n

/-- A change of the mailboxes' own record. -/
def State.modMbx (s : State) (f : Mbx → Mbx) : State := { s with mbx := f s.mbx }

/-- The doorbell event of a post at its receiver, which masters 0 and 1 have (R456). -/
def State.ringBell (s : State) (n : Nat) : State :=
  if s.receiver n < 2 then s.modMbx fun m => { m with bells := m.bells.modify (s.receiver n) (· + 1) } else s

/-- A good post (R455); over a message that still waits it is a collision (R459). -/
def State.post (s : State) (n len : Nat) : State :=
  let full := s.flag (F.MBX_CH_STAT_FULL n)
  let s := s.modMbx fun m => { m with door := m.door.set n (some (s.now, s.rd (F.MBX_CH_STAT_SEQ n), full)) }
  let s := if full then ((s.mark (F.MBX_CH_STAT_COLLIDE n)).bump (F.MBX_CH_CNT_COLLIDES n)).raise Src.MBX_COLLIDE else s
  let s := (List.range 16).foldl (fun s k => s.setReg (R.MBX_CH_RX n k) (s.reg (R.MBX_CH_TX n k))) s
  let s := (s.wr (F.MBX_CH_STAT_SEQ n) (s.rd (F.MBX_CH_STAT_SEQ n) % 65535 + 1)).wr (F.MBX_CH_STAT_LEN n) len
  ((((s.wr (F.MBX_CH_STAT_FULL n) 1).wr (F.MBX_CH_STAT_ACKED n) 0).bump (F.MBX_CH_CNT_POSTS n)).showNew n).ringBell n

/-- The post of channel n that has come in this very cycle: the SEQ before it, and whether a message waited then. -/
def State.doorNow (s : State) (n : Nat) : Option (Nat × Bool) :=
  match s.mbx.door.getD n none with
  | some (t, seq, full) => if t = s.now then some (seq, full) else none
  | none => none

/-- The unacknowledged message of a channel is withdrawn, and its staging buffer cleared: its sender has been reset (R462). -/
def State.withdraw (s : State) (n : Nat) : State :=
  let s := if s.flag (F.MBX_CH_STAT_FULL n) then (s.wr (F.MBX_CH_STAT_FULL n) 0).mark (F.MBX_CH_STAT_SENDER_RESET n) else s
  ((List.range 16).foldl (fun s k => s.setN (R.MBX_CH_TX n k) 0) s).showNew n

/-- A write to MBX_CHn_DOOR by the sender: a post, or DOORERR for a bad length or a disabled channel (R455). In the cycle of an
endpoint reset of the sender the message is posted, then withdrawn (R464). -/
def State.writeDoor (s : State) (n : Nat) (data : Word) : State :=
  let len := bitsOf data.toNat 6 0
  if len = 0 || 64 < len || !s.flag (F.MBX_CH_CFG_EN n) then s.mark (F.MBX_CH_STAT_DOORERR n)
  else if s.mbx.epAt.getD (s.sender n) none = some s.now then (s.post n len).withdraw n
  else s.post n len

/-- A write to MBX_CHn_SEEN by the receiver (R457); in the cycle of a post it takes the SEQ before it (R464). -/
def State.writeSeen (s : State) (n : Nat) (data : Word) : State :=
  if !bitAt data.toNat 0 then s
  else match s.doorNow n with
    | some (seq, full) => if full then s.setRdseq n seq else s
    | none => if s.flag (F.MBX_CH_STAT_FULL n) then s.setRdseq n (s.rd (F.MBX_CH_STAT_SEQ n)) else s

/-- A write to MBX_CHn_ACK by the receiver: the matching one empties the channel, any other is stale (R458). -/
def State.writeAck (s : State) (n : Nat) (data : Word) : State :=
  let seq := bitsOf data.toNat 31 16
  if s.flag (F.MBX_CH_STAT_FULL n) && seq == s.rd (F.MBX_CH_STAT_SEQ n) then
    let s := (s.wr (F.MBX_CH_ACK_CODE n) (bitsOf data.toNat 7 0)).wr (F.MBX_CH_ACK_SEQ n) seq
    ((s.wr (F.MBX_CH_STAT_FULL n) 0).wr (F.MBX_CH_STAT_ACKED n) 1).showNew n
  else (s.mark (F.MBX_CH_STAT_STALE n)).bump (F.MBX_CH_CNT_STALECNT n)

/-- A message over a channel that firmware and the island serve by themselves: a waiting one is seen and acknowledged first, the new one is posted, seen and
acknowledged. Its words and its length are free values (notes/assumptions/50.md). -/
def State.exchange (s : State) (n : Nat) : State :=
  let take : State → State := fun s =>
    if s.flag (F.MBX_CH_STAT_FULL n) then
      (s.setRdseq n (s.rd (F.MBX_CH_STAT_SEQ n))).writeAck n (BitVec.ofNat 32 (2 ^ 16 * s.rd (F.MBX_CH_STAT_SEQ n))) else s
  let s := (List.range 16).foldl (fun s k => let (v, s) := s.draw; s.setN (R.MBX_CH_TX n k) (v % 2 ^ 32)) (take s)
  let (v, s) := s.draw
  take (s.post n (v % 64 + 1))

/-- What firmware hands to the island passes over secure channel 8, and the answer over channel 12 (R362, R416, R453). -/
def State.passSecure (s : State) : State := (s.exchange 8).exchange 12

/-- A write to MBX_CHn_CFG: applied while EN is 0 with two different masters among 0–2, else ignored with CFGREF (R453). -/
def State.writeMbxCfg (s : State) (n : Nat) (data : Word) : State :=
  let a := bitsOf data.toNat 2 0
  let b := bitsOf data.toNat 6 4
  if s.flag (F.MBX_CH_CFG_EN n) || 2 < a || 2 < b || a == b then s.mark (F.MBX_CH_STAT_CFGREF n)
  else s.store (R.MBX_CH_CFG n) data

/-- The cause of R42 that a write into the window of channel n meets there (R453, R454): offset within the window. -/
def State.mbxError (s : State) (m : Master) (n off : Nat) : Option Nat :=
  let ends := m.num = s.sender n || m.num = s.receiver n
  if 0x40 ≤ off && off < 0xC0 then
    if 8 ≤ n && !ends then some 2 else if off < 0x80 && m.num ≠ s.sender n then some 3 else none
  else if off = 0x04 then (if m.num = s.sender n then none else some 3)
  else if off = 0x0C || off = 0x10 then (if m.num = s.receiver n then none else some 3)
  else if off = 0x00 then (if m == .island then some 3 else none)
  else none

/-- A permitted write into the window of channel n; the W1C bits of STAT answer the two endpoints (R454). -/
def State.mbxStore (s : State) (m : Master) (n off : Nat) (data : Word) : State :=
  let a := R.MBX_CH_CFG n + off
  match off with
  | 0x00 => s.writeMbxCfg n data
  | 0x04 => s.writeDoor n data
  | 0x08 =>
    if m.num = s.sender n || m.num = s.receiver n then s.store a data else s
  | 0x0C => s.writeAck n data
  | 0x10 => s.writeSeen n data
  | _ => s.store a data

/-- A write to one register of channel n by bus. -/
def State.mbxWrite (s : State) (m : Master) (n off : Nat) (data : Word) : Out :=
  let a := R.MBX_CH_CFG n + off
  match s.regError m 4 true a with
  | some c => .next (s.captureError m true a c)
  | none =>
    match s.mbxError m n off with
    | some c => .next (s.captureError m true a c)
    | none => if reservedSet a data then .fault .reservedBit else .next (s.mbxStore m n off data)

def execMbxDoor (m : Master) (n : Nat) (data : Word) (s : State) : Out := if 16 ≤ n then .next s else s.mbxWrite m n 0x04 data
def execMbxSeen (m : Master) (n : Nat) (data : Word) (s : State) : Out := if 16 ≤ n then .next s else s.mbxWrite m n 0x10 data
def execMbxAck (m : Master) (n : Nat) (data : Word) (s : State) : Out := if 16 ≤ n then .next s else s.mbxWrite m n 0x0C data
def execMbxCfgWrite (m : Master) (n : Nat) (data : Word) (s : State) : Out := if 16 ≤ n then .next s else s.mbxWrite m n 0x00 data

/-! ### Locks (R465–R467) -/

/-- A free lock. -/
def State.freeLock (s : State) (k : Nat) : State := s.setN (R.SEM_LOCK k) 0

/-- The owner code of a lock: 0 free, else the master number plus 1. -/
def State.lockOwner (s : State) (k : Nat) : Nat := s.rd (F.SEM_LOCK_OWNER k)

/-- The owner code that a lock lost by a release in this very cycle, 0 without one. -/
def State.releasedNow (s : State) (k : Nat) : Nat :=
  match s.mbx.released.getD k none with
  | some (t, o) => if t = s.now then o else 0
  | none => 0

/-- A lock is released by a write: who held it is kept for the reads of this cycle (R466, R467). -/
def State.releaseLock (s : State) (k : Nat) : State :=
  (s.modMbx fun m => { m with released := m.released.set k (some (s.now, s.lockOwner k)) }).freeLock k

/-- A read of SEM_LOCKk acquires a free lock, or returns its holder (R465); in the cycle of a release it reads the old owner's code (R466). -/
def State.readLock (s : State) (m : Master) (k : Nat) : State :=
  let o := if s.lockOwner k = 0 then s.releasedNow k else s.lockOwner k
  if o = 0 then (s.wr (F.SEM_LOCK_OWNER k) (m.num + 1)).emit (.lockRead m k (m.num + 1) true)
  else s.emit (.lockRead m k o false)

def execLockAcquire (m : Master) (k : Nat) (s : State) : Out :=
  if 32 ≤ k then .next s else
  match s.regError m 4 false (R.SEM_LOCK k) with
  | some c => .next (s.readFailed m (R.SEM_LOCK k) c)
  | none => .next (s.readLock m k)

/-- A write to SEM_LOCKk: RELEASE by the holder, FORCE by the island. A release in the cycle of the holder's endpoint reset counts as the release (R467). -/
def State.writeLock (s : State) (m : Master) (k : Nat) (data : Word) : State :=
  let mine := s.lockOwner k = m.num + 1
  let late := s.mbx.resetFreed.getD k none = some (s.now, m.num)
  let s := if !bitAt data.toNat 0 then s
    else if mine then s.releaseLock k
    else if late then
      (s.modMbx fun x => { x with resetFreed := x.resetFreed.set k none }).wr F.SEM_STAT_RESETREL ((s.rd F.SEM_STAT_RESETREL + 255) % 256)
    else s.bump F.SEM_STAT_BADREL
  if bitAt data.toNat 1 && m == .island then (s.releaseLock k).bump F.SEM_STAT_FORCED else s

def execLockRelease (m : Master) (k : Nat) (data : Word) (s : State) : Out :=
  if 32 ≤ k then .next s else s.withBus m (R.SEM_LOCK k) data fun s => s.writeLock m k data

def execLockForce (m : Master) (k : Nat) (data : Word) (s : State) : Out :=
  if 32 ≤ k then .next s else s.withBus m (R.SEM_LOCK k) data fun s => s.writeLock m k data

/-! ### Endpoint resets (R461, R462) -/

/-- The count of a master's endpoint resets. -/
def epCount : Nat → Fld
  | 0 => F.MBX_EPCNT_M0
  | 1 => F.MBX_EPCNT_M1
  | _ => F.MBX_EPCNT_M2

/-- One channel at the endpoint reset of a master: its receiver sees the message anew; its sender's unacknowledged message is withdrawn. -/
def State.resetChannel (s : State) (m n : Nat) : State :=
  let s := if s.sender n = m then s.withdraw n else s
  if s.receiver n = m then s.setRdseq n 0 else s

/-- An endpoint reset of master m reaches MBX and SEM (R461, R462, R467). -/
def State.endpointReset (s : State) (m : Nat) : State :=
  if !s.on .mgmt then s else
  let s := (s.bump (epCount m)).modMbx fun x => { x with epAt := x.epAt.set m (some s.now) }
  let s := (List.range 16).foldl (fun s n => s.resetChannel m n) s
  (List.range 32).foldl (fun s k =>
    if s.lockOwner k = m + 1 then
      ((s.releaseLock k).modMbx fun x => { x with resetFreed := x.resetFreed.set k (some (s.now, m)) }).bump F.SEM_STAT_RESETREL
    else s) s

/-- A write to MBX_EPRST: the endpoint reset of master 2, which master 2 alone writes (R461). -/
def State.writeEprst (s : State) (m : Master) (data : Word) : State :=
  if bitAt data.toNat 2 && m == .hspi then s.endpointReset 2 else s

def execMbxEprst (m : Master) (data : Word) (s : State) : Out := s.withBus m R.MBX_EPRST data fun s => s.writeEprst m data

/-- A reset of the management processor core outside a device reset (R461). -/
def execMgmtCoreReset (s : State) : Out := .next (s.endpointReset 1)

/-! ### Check-value units (R469–R473, R476) -/

/-- A unit's hidden state. -/
def State.cvuN (s : State) (n : Nat) : CvuSt := s.cvu.getD n {}

def State.modCvu (s : State) (n : Nat) (f : CvuSt → CvuSt) : State := { s with cvu := s.cvu.modify n f }

/-- The computation that a unit has loaded. -/
def CvuSt.spec (c : CvuSt) : CrcSpec := ⟨c.width, c.poly, 0, c.xorOut, c.refIn, c.refOut⟩

/-- The register of a unit loaded; RESULT follows (R469, R471). -/
def State.setCrc (s : State) (n reg : Nat) : State :=
  (s.setN (R.CVU_RAW n) reg).setN (R.CVU_RESULT n) ((s.cvuN n).spec.result reg)

/-- START (R470): refused for a polynomial beyond the width. -/
def State.cvuStart (s : State) (n : Nat) : State :=
  let f := s.rd (F.CVU_CFG_WIDTH n)
  let w := if f = 0 then 32 else f
  let poly := s.regN (R.CVU_POLY n)
  if 2 ^ w ≤ poly then s.mark (F.CVU_STAT_CFGERR n)
  else
    let s := s.modCvu n fun c => { c with width := w, poly := poly, xorOut := s.regN (R.CVU_XOROUT n)
                                          refIn := s.flag (F.CVU_CFG_REFIN n), refOut := s.flag (F.CVU_CFG_REFOUT n), first := true }
    (s.setCrc n (s.regN (R.CVU_INIT n) % 2 ^ w)).wr (F.CVU_STAT_COUNT n) 0

/-- Bytes are fed: the unit takes them one a cycle from now on (R471). -/
def State.cvuFeed (s : State) (n : Nat) (bs : List Byte) : State :=
  (s.modCvu n fun c => { c with feeding := bs }).wr (F.CVU_STAT_BUSY n) 1

/-- INC (R473). -/
def State.cvuInc (s : State) (n : Nat) (data : Word) : State :=
  if bitAt data.toNat 8 then s.wr (F.CVU_ALIVE_VALUE n) ((s.rd (F.CVU_ALIVE_VALUE n) + 1) % 2 ^ s.rd (F.CVU_ACFG_AWIDTH n)) else s

/-- A received alive value (R473). -/
def State.cvuCheck (s : State) (n : Nat) (data : Word) : State :=
  let r := bitsOf data.toNat 7 0
  let w := 2 ^ s.rd (F.CVU_ACFG_AWIDTH n)
  let d := (r + 256 - s.rd (F.CVU_ACHK_LAST n)) % w
  let s := if bitAt data.toNat 24 then s.unmark (F.CVU_ACHK_JUMP n) else s
  let first := (s.cvuN n).first
  let s := (s.wr (F.CVU_ACHK_LAST n) r).wr (F.CVU_ACHK_VALID n) 1
  if first then (s.modCvu n fun c => { c with first := false }).wr (F.CVU_ACHK_DELTA n) 0
  else
    let lim := s.rd (F.CVU_ACFG_MAXDELTA n)
    let s := s.wr (F.CVU_ACHK_DELTA n) d
    let s := if d = 0 then s.bumpSat (F.CVU_ACHK_STUCKRUN n) else s.wr (F.CVU_ACHK_STUCKRUN n) 0
    if lim ≠ 0 && lim < d then s.mark (F.CVU_ACHK_JUMP n) else s

/-- A write to CVU_ACFG: ignored with CFGERR for a width other than 1–8 (R476). -/
def State.cvuAcfg (s : State) (n : Nat) (data : Word) : State :=
  let w := bitsOf data.toNat 3 0
  if w = 0 || 8 < w then s.mark (F.CVU_STAT_CFGERR n)
  else
    let s := if w = s.rd (F.CVU_ACFG_AWIDTH n) then s else s.modCvu n fun c => { c with first := true }
    s.store (R.CVU_ACFG n) data

/-- A write that a unit takes now. -/
def State.cvuTake (s : State) (n off : Nat) (data : Word) : State :=
  let d := data.toNat
  match off with
  | 0x10 => if bitAt d 0 then s.cvuStart n else s
  | 0x14 => s.cvuFeed n (leBytes 1 d)
  | 0x18 => s.cvuFeed n (leBytes 2 d)
  | 0x1C => s.cvuFeed n (leBytes 4 d)
  | 0x24 => s.setCrc n (d % 2 ^ (s.cvuN n).width)
  | 0x30 => s.cvuAcfg n data
  | 0x34 => s.cvuInc n data
  | 0x38 => s.cvuCheck n data
  | _ => s.store (R.CVU_CFG n + off) data

/-- A write that waits until the bytes being taken have been taken (R471). -/
def cvuWaits (off : Nat) (data : Word) : Bool := off = 0x14 || off = 0x18 || off = 0x1C || off = 0x24 || (off = 0x10 && bitAt data.toNat 0)

/-- A write that reaches a unit: taken, or held off while bytes are being taken; a master that is held off writes nothing further before (R471). -/
def State.cvuReach (s : State) (m : Master) (n off : Nat) (data : Word) : State :=
  let c := s.cvuN n
  if (cvuWaits off data && !c.feeding.isEmpty) || c.held.any (fun h => h.1 == m) then s.modCvu n fun c => { c with held := c.held ++ [(m, off, data)] }
  else s.cvuTake n off data

/-- A write into the window of unit n: while LOCKED only the holder of its lock is served (R472). -/
def State.writeCvu (s : State) (m : Master) (n off : Nat) (data : Word) : State :=
  if s.flag (F.CVU_CFG_LOCKED n) && s.lockOwner (28 + n) != m.num + 1 then s.mark (F.CVU_STAT_DENIED n)
  else s.cvuReach m n off data

/-- The register and RESULT once the bytes fed have been taken (R469, R471). -/
def State.cvuTaken (s : State) (n : Nat) : State :=
  let c := s.cvuN n
  s.setCrc n (c.feeding.foldl (fun r b => c.spec.byte r b.toNat) (s.regN (R.CVU_RAW n)))

/-- The bytes fed have been taken; the writes held off proceed in order (R471). -/
def State.cvuFed (s : State) (n : Nat) : State :=
  let c := s.cvuN n
  let s := s.cvuTaken n
  let s := (s.wr (F.CVU_STAT_COUNT n) (satNat 24 (s.rd (F.CVU_STAT_COUNT n) + c.feeding.length))).wr (F.CVU_STAT_BUSY n) 0
  let s := s.modCvu n fun c => { c with feeding := [], held := [] }
  c.held.foldl (fun (s : State) (w : Master × Nat × Word) => s.cvuReach w.1 n w.2.1 w.2.2) s

/-- The unit as a read finds it that is held off: every byte fed before it has been taken, those of writes that were held off too (R471). -/
def State.cvuDrained (s : State) (n : Nat) : State :=
  (List.range ((s.cvuN n).held.length + 1)).foldl (fun s _ => if (s.cvuN n).feeding.isEmpty then s else s.cvuFed n) s

def execCvuFeedComplete (n : Nat) (s : State) : Out :=
  .next (if s.on .mgmt && n < 4 && !(s.cvuN n).feeding.isEmpty then s.cvuFed n else s)

def execCvuStart (m : Master) (n : Nat) (data : Word) (s : State) : Out :=
  if 4 ≤ n then .next s else s.withBus m (R.CVU_CTRL n) data fun s => s.writeCvu m n 0x10 data

def execCvuDin8 (m : Master) (n : Nat) (data : Word) (s : State) : Out :=
  if 4 ≤ n then .next s else s.withBus m (R.CVU_DIN8 n) data fun s => s.writeCvu m n 0x14 data

def execCvuDin16 (m : Master) (n : Nat) (data : Word) (s : State) : Out :=
  if 4 ≤ n then .next s else s.withBus m (R.CVU_DIN16 n) data fun s => s.writeCvu m n 0x18 data

def execCvuDin32 (m : Master) (n : Nat) (data : Word) (s : State) : Out :=
  if 4 ≤ n then .next s else s.withBus m (R.CVU_DIN32 n) data fun s => s.writeCvu m n 0x1C data

def execCvuRawWrite (m : Master) (n : Nat) (data : Word) (s : State) : Out :=
  if 4 ≤ n then .next s else s.withBus m (R.CVU_RAW n) data fun s => s.writeCvu m n 0x24 data

def execCvuAliveInc (m : Master) (n : Nat) (data : Word) (s : State) : Out :=
  if 4 ≤ n then .next s else s.withBus m (R.CVU_ALIVE n) data fun s => s.writeCvu m n 0x34 data

def execCvuAchkWrite (m : Master) (n : Nat) (data : Word) (s : State) : Out :=
  if 4 ≤ n then .next s else s.withBus m (R.CVU_ACHK n) data fun s => s.writeCvu m n 0x38 data

def execCvuAcfgWrite (m : Master) (n : Nat) (data : Word) (s : State) : Out :=
  if 4 ≤ n then .next s else s.withBus m (R.CVU_ACFG n) data fun s => s.writeCvu m n 0x30 data

end Sys2Proof.Machine
end

