-- ==== Sys2Proof/Machine/Stores.lean ====
section
/-!
DEFINITION. What firmware keeps in flash: sectors and slots (R341, R342), the stores that wait to be programmed (R327), and the
fault log (R399).
-/

namespace Sys2Proof.Machine

/-- The flash window of the memory map (R38). -/
def flashBase : Nat := 0x60000000

/-- M_t (R341). -/
def mapRegion (t : Nat) : Nat := 0x02200000 + 0x700000 * t

/-- The two slots of a map by its MAP_ID (R341), and of the dictionary store, MAP_ID 0x70 (R433): flash offsets. -/
def slotsOf (id : Nat) : Nat × Nat :=
  let t := id % 16
  match id / 16 with
  | 1 => (mapRegion t, mapRegion t + 0x090000)
  | 2 => (mapRegion t + 0x120000, mapRegion t + 0x1B0000)
  | 3 => (mapRegion t + 0x240000, mapRegion t + 0x350000)
  | 4 => (mapRegion t + 0x460000, mapRegion t + 0x570000)
  | 5 => (0x01800000, 0x01801000)
  | _ => (0x01400000, 0x01480000)

/-- Payload bytes of one sector (R341). -/
def sectorPayload : Nat := 4080

/-- The sectors that a payload needs. -/
def sectorsFor (bytes : Nat) : Nat := max 1 (ceilDiv bytes sectorPayload)

/-- One sector: 4,080 payload bytes, MAP_ID, SEQ, INDEX and the CRC over bytes 0–4,091 (R341). A last sector is filled up with 0. -/
def sectorBytes (payload : List Byte) (mapId seq index : Nat) : List Byte :=
  let p := (payload.drop (sectorPayload * index)).take sectorPayload
  let body := p ++ List.replicate (sectorPayload - p.length) 0 ++ leBytes 4 mapId ++ leBytes 4 seq ++ leBytes 4 index
  body ++ leBytes 4 (crc32 body)

/-- A sector in flash is good: MAP_ID, SEQ, INDEX and CRC (R342). -/
def State.sectorGood (s : State) (at_ mapId seq index : Nat) : Bool :=
  let a := flashBase + at_
  s.num (a + 4080) 4 == mapId && s.num (a + 4084) 4 == seq && s.num (a + 4088) 4 == index
    && s.num (a + 4092) 4 == crc32 (s.bytes a 4092)

/-- The sectors that the version in a slot needs (R341): a defect map and the dictionary store name their own length (notes/assumptions/14.md). -/
def State.slotSectors (s : State) (base mapId : Nat) : Nat :=
  match mapId / 16 with
  | 1 => 129
  | 2 => min 130 (sectorsFor (68 + 8 * s.num (flashBase + base) 4))
  | 3 | 4 => sectorsFor 1048576
  | 7 => min 129 (sectorsFor (s.num (flashBase + base) 4))
  | _ => 1

/-- The SEQ of a valid slot: every sector it needs is good, with one common SEQ (R342). -/
def State.validSlot (s : State) (base mapId : Nat) : Option Nat :=
  let seq := s.num (flashBase + base + 4084) 4
  if (List.range (s.slotSectors base mapId)).all fun i => s.sectorGood (base + 4096 * i) mapId seq i then some seq else none

/-- The newest valid slot of a map: its flash offset and SEQ (R342). -/
def State.newestSlot (s : State) (mapId : Nat) : Option (Nat × Nat) :=
  let (a, b) := slotsOf mapId
  match s.validSlot a mapId, s.validSlot b mapId with
  | some x, some y => if x < y then some (b, y) else some (a, x)
  | some x, none => some (a, x)
  | none, some y => some (b, y)
  | none, none => none

/-- The slot that a new version goes into, and its SEQ: not the newest valid one, one higher (R342). -/
def State.nextSlot (s : State) (mapId : Nat) : Nat × Nat :=
  let (a, b) := slotsOf mapId
  match s.newestSlot mapId with
  | some (at_, seq) => (if at_ = a then b else a, (seq + 1) % 2 ^ 32)
  | none => (a, 1)

/-- The payload of a slot in flash. -/
def State.slotPayload (s : State) (base bytes : Nat) : List Byte :=
  ((List.range (sectorsFor bytes)).flatMap fun i => s.bytes (flashBase + base + 4096 * i) sectorPayload).take bytes

/-- A store with the slot and the SEQ that it takes when its first sector is programmed (R342); the log's job has its own. -/
def State.placeJob (s : State) (j : FlashJob) : FlashJob :=
  if j.index ≠ 0 || j.mapId / 16 = 6 then j
  else
    let slot := s.nextSlot j.mapId
    { j with base := slot.1, seq := slot.2 }

/-- A store waits for the flash writer; a store of the same map that has not begun is replaced by the newer one. -/
def State.queueStore (s : State) (kind : StoreKind) (mapId : Nat) (payload : List Byte) : State :=
  let job : FlashJob := s.placeJob { kind := kind, base := 0, mapId := mapId, seq := 0, payload := payload }
  let begun := if s.flash.prog.isSome then 1 else 0
  let waiting := (s.flash.jobs.drop begun).filter fun (j : FlashJob) => j.mapId != mapId || j.index != 0
  { s with flash := { s.flash with jobs := s.flash.jobs.take begun ++ waiting ++ [job] } }

/-- The bytes of a stored object: index, subindex, length, value, in the layout of R379 (notes/assumptions/14.md). -/
def entryBytes (index sub : Nat) (value : List Byte) : List Byte :=
  leBytes 2 index ++ leBytes 1 sub ++ leBytes 2 value.length ++ value

/-- The payload of a core supply plan: the setpoint in mV (notes/assumptions/14.md). -/
def planPayload (mv : Nat) : List Byte := leBytes 4 mv

/-! ### The safety parameters as objects (R362, R379) -/

/-- SLP_CEIL as its 4,096 bytes. -/
def SafParams.ceilBytes (p : SafParams) : List Byte :=
  (List.range 2048).flatMap fun x => leBytes 2 (Sparse.get (fun _ => 0) p.slpCeil x)

/-- Every safety parameter in ascending order of index and subindex, in stored form. -/
def SafParams.entries (p : SafParams) : List (Nat × Nat × List Byte) :=
  [(0x5000, 1, leBytes 2 p.darkLc), (0x5000, 2, leBytes 1 p.funcEn), (0x5001, 0, p.ceilBytes),
    (0x5002, 1, leBytes 2 p.sldXmin), (0x5002, 2, leBytes 2 p.sldXmax)]
  ++ ((List.range 16).flatMap fun z =>
    let q := p.zones.getD z {}
    [(0x5010 + z, 1, leBytes 1 (b2n q.en)), (0x5010 + z, 2, leBytes 2 q.x0), (0x5010 + z, 3, leBytes 2 q.y0),
      (0x5010 + z, 4, leBytes 2 q.x1), (0x5010 + z, 5, leBytes 2 q.y1), (0x5010 + z, 6, leBytes 2 q.ceil)])
  ++ (List.range 7).map (fun k => (0x5020, k + 1, leBytes 2 (p.glareCeil.getD k 0)))
  ++ [(0x5020, 8, leBytes 1 (b2n p.glareEn)), (0x5030, 1, leBytes 2 p.huskImin), (0x5030, 2, leBytes 1 p.huskSettle),
    (0x5030, 3, leBytes 1 (b2n p.lfPulse))]

/-- A static zone with one of its subs written. -/
def SafZone.set (z : SafZone) (sub v : Nat) : SafZone :=
  match sub with
  | 1 => { z with en := v ≠ 0 }
  | 2 => { z with x0 := v }
  | 3 => { z with y0 := v }
  | 4 => { z with x1 := v }
  | 5 => { z with y1 := v }
  | _ => { z with ceil := v }

/-- SLP_CEIL from its 4,096 bytes, in canonical form. -/
def ceilFrom (bs : List Byte) : List (Nat × Nat) :=
  (List.range 2048).filterMap fun x =>
    let v := (bs.getD (2 * x) 0).toNat + 256 * (bs.getD (2 * x + 1) 0).toNat
    if v = 0 then none else some (x, v)

/-- The parameters with one of them written. -/
def SafParams.set (p : SafParams) (index sub : Nat) (bs : List Byte) : SafParams :=
  let v := ofLeBytes bs
  match index, sub with
  | 0x5000, 1 => { p with darkLc := v }
  | 0x5000, _ => { p with funcEn := v }
  | 0x5001, _ => { p with slpCeil := ceilFrom bs }
  | 0x5002, 1 => { p with sldXmin := v }
  | 0x5002, _ => { p with sldXmax := v }
  | 0x5020, 8 => { p with glareEn := v ≠ 0 }
  | 0x5020, k => { p with glareCeil := p.glareCeil.set (k - 1) v }
  | 0x5030, 1 => { p with huskImin := v }
  | 0x5030, 2 => { p with huskSettle := v }
  | 0x5030, _ => { p with lfPulse := v ≠ 0 }
  | i, k => { p with zones := p.zones.modify (i - 0x5010) fun z => z.set k v }

/-- The check value (R379). -/
def SafParams.check (p : SafParams) : Nat := crc32 (p.entries.flatMap fun e => entryBytes e.1 e.2.1 e.2.2)

/-! ### The retained registers (R433, R434) -/

/-- The retained value of a register entry. -/
def State.keptWord (s : State) (a : Nat) : Word := Sparse.get resetWord s.kept a

/-- A field as firmware knows it: of the register while its domain is on, of the retained value while it is off. -/
def State.known (s : State) (d : Dom) (f : Fld) : Nat :=
  if s.on d then s.rd f else bitsOf (s.keptWord f.addr).toNat f.hi f.lo

/-! ### The dictionary store (R433) -/

/-- The payload of the dictionary store (R433, notes/assumptions/14.md): its length, how many register entries it holds, these, and the objects. -/
def dictPayload (kept : List (Nat × Word)) (objs : List ((Nat × Nat) × List Byte)) (p : SafParams) (confirmed : Nat) : List Byte :=
  let body := leBytes 4 kept.length ++ kept.flatMap (fun e => leBytes 4 e.1 ++ leBytes 4 e.2.toNat)
    ++ objs.flatMap (fun e => entryBytes e.1.1 e.1.2 e.2)
    ++ p.entries.flatMap (fun e => entryBytes e.1 e.2.1 e.2.2) ++ entryBytes 0x5FFF 1 (leBytes 4 confirmed)
  leBytes 4 (4 + body.length) ++ body

/-- The objects of a payload, up to a number of them: index, subindex, length and value each. -/
def entriesOf : Nat → List Byte → List ((Nat × Nat) × List Byte)
  | 0, _ => []
  | n + 1, bs =>
    if bs.length < 5 then []
    else
      let len := ofLeBytes ((bs.drop 3).take 2)
      ((ofLeBytes (bs.take 2), (bs.getD 2 0).toNat), (bs.drop 5).take len) :: entriesOf n (bs.drop (5 + len))

/-- What a dictionary store holds: the register entries, the objects, the safety parameters and the confirmed value. -/
structure DictStore where
  kept : List (Nat × Word) := []
  objs : List ((Nat × Nat) × List Byte) := []
  params : SafParams := {}
  confirmed : Nat := 0
  deriving DecidableEq, Repr

/-- A payload of the dictionary store, read back. -/
def dictRead (bs : List Byte) : DictStore :=
  let n := ofLeBytes ((bs.drop 4).take 4)
  let es := entriesOf bs.length (bs.drop (8 + 8 * n))
  let own : (Nat × Nat) × List Byte → Bool := fun e => 0x5000 ≤ e.1.1 && e.1.1 ≤ 0x5FFF
  { kept := (List.range n).map fun i =>
      (ofLeBytes ((bs.drop (8 + 8 * i)).take 4), BitVec.ofNat 32 (ofLeBytes ((bs.drop (12 + 8 * i)).take 4)))
    objs := es.filter fun e => !own e
    params := es.foldl (fun (p : SafParams) e => if own e && e.1.1 ≠ 0x5FFF then p.set e.1.1 e.1.2 e.2 else p) {}
    confirmed := ofLeBytes ((es.lookup (0x5FFF, 1)).getD []) }

/-- The newest valid dictionary store in flash: its SEQ and what it holds (R342, R433). -/
def State.dictStored (s : State) : Option (Nat × DictStore) :=
  (s.newestSlot 0x70).map fun x => (x.2, dictRead (s.slotPayload x.1 (s.num (flashBase + x.1) 4)))

/-- The store is not valid in flash although one was made (R381, R450). -/
def State.storeCorrupt (s : State) : Bool := s.saf.stored.isSome && (s.newestSlot 0x70).isNone

/-- The safety parameters and the confirmed value as the store gives them: the defaults without a valid one (R381, R433, R450). -/
def State.storedParams (s : State) : SafParams × Nat :=
  match s.dictStored with
  | some (_, d) => (d.params, d.confirmed)
  | none => ({}, 0)

/-- The dictionary store is to be programmed with these values (R327, R342, R433). -/
def State.queueDict (s : State) (kept : List (Nat × Word)) (objs : List ((Nat × Nat) × List Byte)) (p : SafParams) (confirmed : Nat) : State :=
  let payload := dictPayload kept objs p confirmed
  (s.queueStore (.dictionary kept objs p confirmed) 0x70 payload).wr F.ODX_STORE_STATE 1

/-- The store just queued is the commissioning store of R380, which no load defers (R449). -/
def State.urgentStore (s : State) : State :=
  let jobs := s.flash.jobs.mapIdx fun i (j : FlashJob) => if i + 1 = s.flash.jobs.length then { j with urgent := true } else j
  { s with flash := { s.flash with jobs := jobs } }

/-- The retained values are handed to the flash writer, if one of them has changed since the last store (R433). -/
def State.queueRetained (s : State) : State :=
  let s := { s with dict := { s.dict with storeDue := false } }
  if s.retainedChanged then s.queueDict s.kept s.retainedObjs s.saf.params (s.regN R.SAF_CONFVAL) else s

/-! ### Envelope connections (R416, R435) -/

/-- A number that a firmware-held object holds. -/
def State.objN (s : State) (index sub dflt : Nat) : Nat :=
  match s.dict.objs.lookup (index, sub) with
  | some bs => ofLeBytes bs
  | none => dflt

/-- The four configuration words of connection c as the objects 0x1400 + c give them (R424, R435). -/
def State.envWords (s : State) (c : Nat) : List (Nat × Nat) :=
  let v := fun sub d => s.objN (0x1400 + c) sub d
  [(R.NET_ENV_CFG c, v 1 0 + 2 * v 2 0 + 8 * v 3 0 + 64 * v 4 1 + 128 * v 5 3 + 2048 * v 6 0 + 65536 * v 7 0), (R.NET_ENV_ADDR c, v 8 0),
    (R.NET_ENV_ID c, v 9 0 + 65536 * v 10 100), (R.NET_ENV_SEED c, v 11 0)]

/-- The timer and checks of connection c start anew (R420, R423): WAITING while it is enabled. -/
def State.restartEnv (s : State) (c : Nat) : State :=
  let e : EnvSt := { since := s.now }
  let s := { s with net := { s.net with env := s.net.env.set c e } }.setN (R.NET_ENV_STAT c) 0
  if s.flag (F.NET_ENV_CFG_EN c) then s.wr (F.NET_ENV_STAT_STATE c) 1 else s

/-- A connection takes its configuration from its object; a changed one starts anew (R416, R423). -/
def State.loadEnv (s : State) (c : Nat) : State :=
  if !s.on .net then s else
  let ws := s.envWords c
  if ws.all fun w => s.regN w.1 == w.2 then s
  else (ws.foldl (fun s w => s.setN w.1 w.2) s).restartEnv c

/-- Every connection takes its configuration. -/
def State.loadEnvs (s : State) : State := (List.range 8).foldl State.loadEnv s

end Sys2Proof.Machine
end

