-- ==== Sys2Proof/Machine/Startup.lean ====
section
/-!
DEFINITION. Start-up, boot, built-in self-test and test access: the commands of "Start-up, boot and built-in self-test"
(R96–R115).
-/

namespace Sys2Proof.Machine

/-! ### The hardware Husk path (R96–R98) -/

/-- A channel fails a step: it stops with its switches open, and HWHUSK_FAIL is raised (R98). -/
def State.hwFail (s : State) (n : Nat) : State :=
  (((s.buckOff n 0).openPath n).setHw n .failed).raise (Src.HWHUSK_FAIL n)

/-- The sequencer may run: PREPARE with lamp demand, not entered through RECOVER, its domains on, its pads held (R96, R97). -/
def State.hwMayRun (s : State) : Bool :=
  s.mode == .prepare && s.demand && s.on .safe && s.on .drv
  && (match s.pwr.prep with | some p => p.toRun && !p.fromHusk | none => false)
  && s.bitF F.PWR_PADHOLD_GROUP 5 && s.bitF F.PWR_PADHOLD_GROUP 9

/-- Step 1 of R96 begins: the low-side switch closes. DESIGN CHOICE (notes/assumptions/49.md): lamp demand that comes back during a ramp-down lets the
ramp-down end, and the channel then starts again from idle. -/
def execHwhuskStart (ch : Nat) (s : State) : Out :=
  .next (if ch < 4 && s.hwMayRun && s.hwN ch == .idle then
    ((s.setHw ch (.lowside s.now)).followPath ch).wr F.BIST_HUSKPATH_STRAP s.pwr.strap else s)

/-- Step 2 of R96 begins once step 1 has passed: the high-side switch closes, while Bn_FB reads below 1.0 V (R323). Gates whose pads firmware has released
follow the logic (R97). -/
def State.hwHighside (s : State) (ch : Nat) : State :=
  if s.rd (F.BUCK_MEAS0_VOUT ch) < 1000 then (s.setHw ch (.highside s.now)).followPath ch else s.setHw ch .lowGood

/-- Step 1 of R96: Wn_LR reads 0.2 V or less within 100 µs, or the channel fails. -/
def execHwhuskLowsideCheck (ch lrMv : Nat) (s : State) : Out :=
  match s.hwN ch with
  | .lowside t =>
    .next (if t + usec 100 < s.now then s.hwFail ch
      else if lrMv ≤ 200 then s.hwHighside ch
      else if s.since t (usec 100) then s.hwFail ch else s)
  | .lowGood => .next (s.hwHighside ch)
  | _ => .next s

/-- Step 2 of R96 ends with the charge pump on level or after 400 µs; step 3 starts the ramp from 0 A (R307), unless firmware has released the BUCK pads
(R97). -/
def execHwhuskHighsideOn (ch : Nat) (pumpReady : Bool) (s : State) : Out :=
  match s.hwN ch with
  | .highside t =>
    .next (if pumpReady || s.since t (usec 400) then
      let s := s.setHw ch (.ramping s.now)
      if !s.held 5 then s else
      let s := (s.buckOff ch 1).modBuck ch fun b => { b with ofs := s.rdS (F.CAL_BOFS_CS ch), ofsIn := s.rdS (F.CAL_BOFS_II ch) }
      { s with saf := { s.saf with huskFrom := s.saf.huskFrom.set ch (some s.now) } }
    else s)
  | _ => .next s

/-- The time of a ramp of 2 A/ms over a current in mA (R96). -/
def rampTime (mA : Nat) : Nat := usec mA / 2

/-- Step 4 of R96: at the end of the ramp Wn_HR lies within 0.2 V of Bn_FB. -/
def execHwhuskRampEnd (ch hrMv fbMv : Nat) (s : State) : Out :=
  match s.hwN ch with
  | .ramping t =>
    let ref := strapRef s.pwr.strap
    .next (if !s.since t (rampTime ref) then s
      else if max hrMv fbMv - min hrMv fbMv ≤ 200 then
        let s := s.setHw ch .running
        if s.held 5 then (s.modBuck ch fun b => { b with iApp := 1000 * ref }).wr (F.BUCK_MEAS1_REFAPP ch) ref else s
      else s.hwFail ch)
  | _ => .next s

/-- The ramp-down at 2 A/ms has ended: the switches open and the channel is off (R96, "Meeting cases"). -/
def execHwhuskRampdownEnd (ch : Nat) (s : State) : Out :=
  match s.hwN ch with
  | .rampdown _ _ => .next (if s.hwApp ch = 0 then s.seqDone ch else s)
  | _ => .next s

/-! ### Secure boot (R104–R107) -/

/-- The flash window (R38) and the two slots in it (R104). -/
def slotBase : Slot → Nat
  | .a => 0x60100000
  | .b => 0x60300000

/-- The fields of an image header (R104). -/
structure Header where
  magic : Nat
  hdrVer : Nat
  imageVer : Nat
  rollback : Nat
  mgmtLen : Nat
  safeLen : Nat
  mgmtEntry : Nat
  keySlot : Nat
  mgmtHash : List Byte
  safeHash : List Byte
  signature : List Byte
  pubkey : List Byte
  signed : List Byte
  deriving DecidableEq, Repr

/-- The header at an address (R104). -/
def State.header (s : State) (a : Nat) : Header :=
  { magic := s.num a 4, hdrVer := s.num (a + 4) 4, imageVer := s.num (a + 8) 4, rollback := s.num (a + 0x0C) 4
    mgmtLen := s.num (a + 0x10) 4, safeLen := s.num (a + 0x14) 4, mgmtEntry := s.num (a + 0x18) 4, keySlot := s.num (a + 0x1C) 1
    mgmtHash := s.bytes (a + 0x40) 32, safeHash := s.bytes (a + 0x60) 32, signature := s.bytes (a + 0x80) 64
    pubkey := s.bytes (a + 0xC0) 64, signed := s.bytes a 0x80 }

/-- The key checks of R105: the slot exists and is not revoked, and the hash of PUBKEY is the fused one. -/
def Header.keyOk (h : Header) : Bool :=
  h.keySlot < 3 && !Config.keyRevoked h.keySlot && Config.sha256 h.pubkey == Config.keyHash h.keySlot

/-- SIGNATURE verifies over bytes 0x00–0x7F (R104, R105). -/
def Header.sigOk (h : Header) : Bool := Config.ecdsaVerify h.pubkey h.signature h.signed

/-- The first look at a slot: 7 for a read error, 2 for MAGIC or HDR_VER, 0 when the slot remains (R105). -/
def State.slotHead (s : State) (sl : Slot) (readErr : Bool) : Nat :=
  let h := s.header (slotBase sl)
  if readErr then 7 else if h.magic ≠ 0x32534C50 || h.hdrVer ≠ 1 then 2 else 0

/-- The payload lengths lie in the ranges of R104. -/
def Header.lengthsOk (h : Header) : Bool := 1 ≤ h.mgmtLen && h.mgmtLen ≤ 917504 && 1 ≤ h.safeLen && h.safeLen ≤ 393216

/-- The full check of an image at an address: 1 valid, 3 key, 4 signature, 5 rollback, 6 payload hash (R105, BIST_BOOT). The ranges of R104 count with
the check that reads the field: ROLLBACK with 5, the lengths with 6 (notes/assumptions/50.md). -/
def State.imageCheck (s : State) (a : Nat) : Nat :=
  let h := s.header a
  if !h.keyOk then 3
  else if !h.sigOk then 4
  else if h.rollback < s.boot.rollback || 63 < h.rollback then 5
  else if !h.lengthsOk || Config.sha256 (s.bytes (a + 0x100) h.mgmtLen) != h.mgmtHash
    || Config.sha256 (s.bytes (a + 0x100 + h.mgmtLen) h.safeLen) != h.safeHash then 6
  else 1

/-- The staging area of R106. -/
def stagingBase : Nat := 0x80000000

/-- The secure mailbox channel of R106: the first of channels 8–15, for which R453 names boot (notes/assumptions/50.md). -/
def bootChannel : Nat := 8

/-- The boot ROM rings the channel (R106): a post as any other, whose length is open (notes/assumptions/5.md). -/
def State.ringBoot (s : State) : State :=
  let (v, s) := s.draw
  s.post bootChannel (v % 64 + 1)

/-- The header and the SAFE payload are copied to the staging area, the header first, while DRAM is on; then the boot ROM rings the island (R106). -/
def State.stage (s : State) (a : Nat) (sl : Slot) : State :=
  if s.on .mem && !s.bistFailed 4 then
    let h := s.header a
    let s := s.setBytes stagingBase (s.bytes a 0x100)
    let s := s.setBytes (stagingBase + 0x100) (s.bytes (a + 0x100 + h.mgmtLen) h.safeLen)
    { s with boot := { s.boot with staged := some { slot := sl } } }.ringBoot
  else s

/-- Firmware starts from an image: version, DONE, staging; the boot code releases QSPI and TEST (R86, R105, R106). -/
def State.startImage (s : State) (a : Nat) (sl : Slot) : State :=
  let s := (s.setN R.BIST_BOOTVER (s.header a).imageVer).wr F.BIST_BOOT_DONE 1
  let h := s.header a
  let s := { s with boot := { s.boot with runRollback := h.rollback, entry := h.mgmtEntry } }
  (s.releasePads 0x480#32).stage a sl

/-- Record the result of one slot in BIST_BOOT. -/
def State.slotResult (s : State) (sl : Slot) (r : Nat) : State :=
  match sl with
  | .a => s.wr F.BIST_BOOT_FAIL_A r
  | .b => s.wr F.BIST_BOOT_FAIL_B r

/-- The boot ROM may run: a PREPARE from DORMANT with steps 5 and 6 done, firmware not yet started, targets 2 and 3 good (R102, R112). -/
def State.mayBoot (s : State) : Bool :=
  s.mode == .prepare && (match s.pwr.prep with | some p => p.cold | none => false) && s.on .mgmt && !s.flag F.BIST_BOOT_DONE
    && s.testedAll [2, 3, 4] && !s.bistFailed 2 && !s.bistFailed 3

/-- The boot ROM checks a slot in full and boots it when it is valid; otherwise it tells so. -/
def State.trySlot (s : State) (sl : Slot) (fallback : Bool) : State × Bool :=
  let r := s.imageCheck (slotBase sl)
  let s := s.slotResult sl r
  if r = 1 then
    (((s.wr F.BIST_BOOT_SLOT (match sl with | .a => 0 | .b => 1)).wrB F.BIST_BOOT_FALLBACK fallback).startImage
      (slotBase sl) sl, true)
  else (s, false)

/-- The boot ROM enters recovery and releases HSPI (R86, R107). -/
def State.enterRecovery (s : State) : State := { s.releasePads 0x580#32 with boot := { (s.releasePads 0x580#32).boot with recovery := true } }

/-- The boot ROM: both headers, the preferred slot, the other slot, recovery (R105, R107, R112 "Step 4"). -/
def State.secureBoot (s : State) (readErrA readErrB : Bool) : State :=
  if !s.mayBoot then s else
  let s := s.wr F.BIST_BOOT_ROLLBACK s.boot.rollback
  let ha := s.slotHead .a readErrA
  let hb := s.slotHead .b readErrB
  let s := (s.slotResult .a ha).slotResult .b hb
  let preferA := decide ((s.header (slotBase .b)).imageVer ≤ (s.header (slotBase .a)).imageVer)
  match ha == 0, hb == 0, preferA with
    | true, true, true =>
      let (s, ok) := s.trySlot .a false
      if ok then s else
        let (s, ok) := s.trySlot .b true
        if ok then s else s.enterRecovery
    | true, true, false =>
      let (s, ok) := s.trySlot .b false
      if ok then s else
        let (s, ok) := s.trySlot .a true
        if ok then s else s.enterRecovery
    | true, false, _ =>
      let (s, ok) := s.trySlot .a true
      if ok then s else s.enterRecovery
    | false, true, _ =>
      let (s, ok) := s.trySlot .b true
      if ok then s else s.enterRecovery
    | false, false, _ => s.enterRecovery

/-- The island starts its functions: READY and FUNC, the stored parameters and their check value, STRAP_FAULT (R68, R381). -/
def State.startIsland (s : State) : State :=
  let (p, v) := s.storedParams
  let s := { s with saf := { s.saf with params := p, checkDue := some s.now, loading := true, lastTask := s.now } }
  let s := ((s.wr F.SAF_STATE_READY 1).wr F.SAF_STATE_FUNC p.funcEn).setN R.SAF_CONFVAL v
  let s := if s.pwr.strapBad && !s.pwr.strapTold then
      { s with pwr := { s.pwr with strapTold := true } }.raise Src.STRAP_FAULT else s
  let s := if s.firmwareUp then s.loadEnvs else s
  if s.flag F.PWR_RUNGATE_PERMIT then s else s.closeGate

/-- The staged image is good in the island's own eyes: key, signature, SAFE hash (R106). -/
def State.stagedOk (s : State) : Bool :=
  let h := s.header stagingBase
  h.keyOk && h.sigOk && Config.sha256 (s.bytes (stagingBase + 0x100) h.safeLen) == h.safeHash

/-- The island's ROM verifies the staged image and copies it into SAFE SRAM; a mismatch leaves DENY at 2 (R106). In PREPARE it follows the tests of
targets 0 and 1 (R102); with one of them failed the island does not start its functions (R112). -/
def State.verifyImage (s : State) : State :=
  if s.mode == .prepare && !(match s.pwr.prep with | some p => p.cold → s.testedAll [0, 1] | none => true) then s
  else if !s.on .safe || !s.on .mem || s.boot.staged.isNone || s.flag F.SAF_STATE_READY then s
  else if s.bistFailed 0 || s.bistFailed 1 then s.closeGate
  else if s.stagedOk then
    let s := s.setBytes 0x20A80000 (s.bytes (stagingBase + 0x100) (s.header stagingBase).safeLen)
    { s with boot := { s.boot with safeImage := some true } }.startIsland
  else { s with boot := { s.boot with safeImage := some false } }.closeGate

/-- Recovery, in which the boot ROM stays until an image is good, whatever becomes of the mode: an image that host software wrote into DRAM is
checked under R105 and run (R107). -/
def State.recoveryLoad (s : State) (base : Nat) : State :=
  let h := s.header base
  if s.boot.recovery && s.on .mgmt && !s.flag F.BIST_BOOT_DONE && s.on .mem && h.magic = 0x32534C50 && h.hdrVer = 1 && s.imageCheck base = 1 then
    (s.wr F.BIST_BOOT_RECOVERY 1).startImage base .a else s

/-! ### Built-in self-test (R109–R112) -/

/-- The slices of each target's test (R109). -/
def targetSlices (target : Nat) : Nat := [2, 4, 3, 1, 1, 6, 2, 2, 2, 1, 1].getD target 1

/-- What a tested memory held is lost (R110). DESIGN CHOICE (notes/assumptions/49.md): its bytes are 0 after the test. -/
def State.clobber (s : State) (target : Nat) : State :=
  match target with
  | 0 => s.clearMem 0x20A80000 0x20B00000
  | 2 => s.clearMem 0x20980000 0x20A80000
  | 3 => s.clearMem 0x20B80000 0x20BC0000
  | 5 => s.clearMem 0x20000000 0x20600000
  | 6 => s.clearMem 0x20600000 0x20780000
  | 7 => s.clearMem 0x20780000 0x20880000
  | 8 => s.clearMem 0x20880000 0x20980000
  | 9 => s.clearMem 0x20B00000 0x20B80000
  | _ => s

/-- A target's outcome rises to at least a given one. -/
def State.outcome (s : State) (target o : Nat) : State :=
  s.wr (F.BIST_REC_OUT_OUTCOME target) (max o (s.rd (F.BIST_REC_OUT_OUTCOME target)))

/-- A target is unusable (R112). -/
def State.unusable (s : State) (target : Nat) : State :=
  (s.outcome target 5).setBitF F.BIST_UNUSABLE_TARGET target true

/-- Failing rows found, saturating. -/
def State.failRows (s : State) (target n : Nat) : State :=
  s.wr (F.BIST_REC_COV_FAIL_ROWS target) (min 255 (s.rd (F.BIST_REC_COV_FAIL_ROWS target) + n))

/-- One more scan-store bank without spares: the spare bank takes its place, or SCN is unusable (R112). Bank 16 is the spare
bank itself; DESIGN CHOICE (notes/assumptions/49.md): when it is the first to fail the outcome is 3 too. -/
def State.bankOut (s : State) (bank : Nat) : State :=
  if s.boot.badBanks.contains bank then s else
  let s := { s with boot := { s.boot with badBanks := bank :: s.boot.badBanks } }
  if s.rd F.BIST_SPARE_SCN_BANK ≠ 31 then s.unusable 5
  else if bank = 16 then (s.wr F.BIST_SPARE_SCN_BANK 16).outcome 5 3
  else ((s.wr F.BIST_SPARE_SCN_BANK bank).outcome 5 3).raiseFound Src.BIST_FAIL

/-- One more composer lane has failed: eight lanes remain, or seven, or too few (R112). Lane 8 is the spare lane; DESIGN CHOICE
(notes/assumptions/49.md): when it is the first to fail the outcome is 3 too. -/
def State.laneOut (s : State) (lane : Nat) : State :=
  if s.boot.badLanes.contains lane then s else
  let s := { s with boot := { s.boot with badLanes := lane :: s.boot.badLanes } }
  match s.boot.badLanes.length with
  | 1 => (s.wr F.BIST_SPARE_CMP_LANE (min lane 8)).outcome 10 3
  | 2 => (s.wr F.BIST_SPARE_CMP_DEGRADED 1).outcome 10 4
  | _ => s.unusable 10

/-- The link buffers of a port fail: the port cannot carry light (R112). -/
def State.portOut (s : State) (port : Nat) : State :=
  { s with boot := { s.boot with badPorts := port :: s.boot.badPorts.filter fun p => p ≠ port } }.unusable 9

/-- What a finding does (R112). -/
def State.finding (s : State) (target : Nat) (f : SliceFinding) : State :=
  match f with
  | .pass => s
  | .repaired rows =>
    let s := (s.failRows target rows).wr (F.BIST_REC_COV_REPAIRED target) (min 255 (s.rd (F.BIST_REC_COV_REPAIRED target) + rows))
    s.bumpBy F.BIST_SPARE_ROWS_USED rows
  | .bankExhausted bank rows => (s.failRows target rows).bankOut bank
  | .laneFails lane => s.laneOut lane
  | .macroFails k => (s.setBitF F.BIST_UNUSABLE_SCALER k true).outcome target 4
  | .linkFails port rows => (s.failRows target rows).portOut port
  | .fails rows =>
    let s := s.failRows target rows
    match target with
    | 7 => (s.outcome 7 4).raiseFound Src.BIST_FAIL
    | 8 => s.outcome 8 4
    | 9 => (List.range 4).foldl State.portOut s
    | _ => s.unusable target

/-- A finding that rows have to be tested again for (R112). -/
def SliceFinding.retest : SliceFinding → Bool
  | .repaired _ | .bankExhausted _ _ => true
  | .pass | .laneFails _ | .macroFails _ | .linkFails _ _ | .fails _ => false

/-- The record of a target starts anew with a run, and so does what its last run had marked. -/
def State.newRecord (s : State) (target : Nat) : State :=
  let s := ((s.setN (R.BIST_REC_OUT target) 0).setN (R.BIST_REC_COV target) 0).setBitF F.BIST_UNUSABLE_TARGET target false
  match target with
  | 5 => { s.wr F.BIST_SPARE_SCN_BANK 31 with boot := { s.boot with badBanks := [] } }
  | 6 => s.wr F.BIST_UNUSABLE_SCALER 0
  | 9 => { s with boot := { s.boot with badPorts := [] } }
  | 10 => { (s.wr F.BIST_SPARE_CMP_LANE 15).wr F.BIST_SPARE_CMP_DEGRADED 0 with boot := { s.boot with badLanes := [] } }
  | _ => s

/-- The BIST run that a slice belongs to: the one in progress, or one that PREPARE begins with this slice (R102). -/
def State.bistNow (s : State) (target : Nat) : Option (BistRun × State) :=
  match s.boot.bist.find? fun b => b.target = target with
  | some b => some (b, s)
  | none => if s.bistDue.contains target then some ({ target := target }, s.newRecord target) else none

/-- A slice may end now: it took at most 5 ms, and it began after the one before it, of target 1 after at least 1 ms of the island's checks (R109, R110). -/
def State.sliceFits (s : State) (b : BistRun) (duration : Nat) : Bool :=
  duration ≤ 500 && match b.endAt with
    | some t => t + usec (10 * duration) + (if b.target = 1 then msec 1 else 0) ≤ s.now
    | none => true

/-- The runs in progress with one of them replaced. -/
def State.setRun (s : State) (target : Nat) (b : Option BistRun) : State :=
  { s with boot := { s.boot with bist := b.toList ++ s.boot.bist.filter fun x => x.target ≠ target } }

/-- A run is over: no slice of it is in progress. -/
def State.endRun (s : State) (target : Nat) : State :=
  let s := s.setRun target none
  let s := (s.wrB F.BIST_STATUS_RUNNING (!s.boot.bist.isEmpty)).mark F.BIST_STATUS_DONE
  { s with pwr := { s.pwr with prep := s.pwr.prep.map fun p => { p with tested := target :: p.tested } } }

/-- The slice that has ended was the last: its repairs have passed their re-test (R112), and the record is complete. -/
def State.passRun (s : State) (b : BistRun) : State :=
  let s := s.outcome b.target (if b.repaired then 2 else 1)
  let s := if b.repaired && s.rd (F.BIST_REC_OUT_OUTCOME b.target) = 2 then s.raiseFound Src.MEM_REPAIR else s
  (s.wr (F.BIST_REC_COV_COVERAGE b.target) (targetCoverage b.target)).endRun b.target

/-- A slice ends: record, repair, degradation, and the end of the run (R109–R112). -/
def State.bistSlice (s : State) (target : Nat) (r : SliceResult) : State :=
  match s.bistNow target with
  | none => s
  | some (b, t) =>
    if !s.sliceFits b r.duration then s else
    let s := t.clobber target
    let s := (s.bumpBy (F.BIST_REC_OUT_SLICES target) 1).bumpBy (F.BIST_REC_OUT_DURATION target) r.duration
    let s := (s.finding target r.finding).wr F.BIST_STATUS_TARGET target
    let b := { b with slice := b.slice + 1, endAt := some s.now, extra := b.extra + b2n r.finding.retest
                      repaired := b.repaired || (match r.finding with | .repaired _ => true | _ => false) }
    if b.abort then (s.abortTest b).endRun target
    else if targetSlices target + b.extra ≤ b.slice then s.passRun b
    else (s.setRun target (some b)).wr F.BIST_STATUS_RUNNING 1 |>.wr F.BIST_STATUS_SLICE b.slice

/-- A START in BIST_CTRL is honoured in STANDBY, without lamp demand, for targets 4–10 with their domains on, while no run is
in progress (R109). -/
def State.mayTest (s : State) (target : Nat) : Bool :=
  s.mode == .standby && !s.demand && 4 ≤ target && target ≤ 10 && (targetDoms target).all s.on && s.boot.bist.isEmpty

/-- A write to BIST_CTRL: TARGET, REFUSED cleared by 1, START, ABORT (R109). -/
def State.writeBistCtrl (s : State) (data : Word) : State :=
  let d := data.toNat
  let target := bitsOf d 3 0
  let s := s.store R.BIST_CTRL data
  let s := if bitAt d 8 then
      if s.mayTest target then
        let s := (((s.newRecord target).wr F.BIST_STATUS_TARGET target).wr F.BIST_STATUS_RUNNING 1).wr F.BIST_STATUS_SLICE 0
        s.setRun target (some { target := target, standby := true, endAt := some s.now })
      else s.mark F.BIST_CTRL_REFUSED
    else s
  if bitAt d 9 then
    { s with boot := { s.boot with bist := s.boot.bist.map fun b => if b.standby then { b with abort := true } else b } }
  else s

def execBistStart (m : Master) (data : Word) (s : State) : Out :=
  s.withBus m R.BIST_CTRL data fun s => s.writeBistCtrl data

def execBistAbort (m : Master) (data : Word) (s : State) : Out :=
  s.withBus m R.BIST_CTRL data fun s => s.writeBistCtrl data

/-! ### Test access (R113–R115) -/

/-- Steps 1 to 6 of R114: slices aborted, keys and memories cleared, MEM off, processors in reset, DARK; then the flags. DESIGN CHOICE
(notes/assumptions/49.md): AVS_PWM is high-impedance from then on, as in a reset (R54), and CAL_AVSSTAT.SETPT keeps the last setpoint. -/
def State.zeroize (s : State) : State :=
  let s := s.endTests
  let s := { s with boot := { s.boot with keyCleared := true } }
  let s := ((s.clearMem 0x20A80000 0x20B00000).clearMem 0x20980000 0x20A80000).clearMem 0x20B80000 0x20BC0000
  let ep := s.regN R.MBX_EPCNT
  let s := { s with onoth := {}, recs := {}, dict := s.dict.cold, kept := s.dict.storedKept, cal := s.cal.cold
                    brm := { s.brm with flashWait := [] }
                    flash := { logSector := s.flash.logSector, logSeq := s.flash.logSeq, logRecs := s.flash.logRecs } }
  let s := { ((s.resetBlock 17).resetBlock 18).setN R.MBX_EPCNT ep with mbx := {}, cvu := List.replicate 4 {} }
  let s := ((s.powerOff .mem).endpointReset 0).endpointReset 1
  let s := s.wr F.SAF_STATE_READY 0
  let s := s.enterDark 0x00
  ((s.wr F.BIST_TESTSTAT_ZEROIZED 1).wr F.BIST_TESTSTAT_TESTONLY 1).syncPads

/-- TEST_UNLOCK: honoured in STANDBY without lamp demand, otherwise counted (R113, R114). -/
def execTestUnlock (s : State) : Out :=
  .next (if !s.on .mgmt then s
    else if s.mode == .standby && !s.demand then s.zeroize
    else s.bumpSat F.BIST_TESTSTAT_REFUSED)

/-- IDCODE and BYPASS are available at all times that the TEST controller has power (R113). -/
def State.tap (s : State) (i : TapInstr) : State := { s with boot := { s.boot with tap := i } }

def execIdcode (s : State) : Out :=
  .next (if s.on .mgmt then (s.tap .idcode).emit (.tdo .idcode Config.idcode) else s)

def execBypass (s : State) : Out := .next (if s.on .mgmt then s.tap .bypass else s)

/-- Every other instruction is enabled only after TEST_UNLOCK (R113, R114). -/
def State.gatedTap (s : State) (i : TapInstr) : State :=
  if s.on .mgmt && s.flag F.BIST_TESTSTAT_TESTONLY then s.tap i else s

def execExtest (s : State) : Out := .next (s.gatedTap .extest)

def execSamplePreload (s : State) : Out := .next (s.gatedTap .samplePreload)

def execCaifelScanInstruction (op : Nat) (s : State) : Out := .next (s.gatedTap (.scan op))

end Sys2Proof.Machine
end

