-- ==== Sys2Proof/Machine/Safety.lean ====
section
/-!
DEFINITION. The safety functions, the fallback beam and the output checks (R359–R381, R384).
-/

namespace Sys2Proof.Machine

/-! ### The three limits (R363–R366) -/

/-- A safety function is switched on: 0 SLP, 1 SLD, 2 SLI (R362). -/
def SafParams.func (p : SafParams) (n : Nat) : Bool := bitAt p.funcEn n

/-- A canvas column lies outside the aim window while SLD is on (R364). -/
def SafParams.outside (p : SafParams) (x : Nat) : Bool := p.func 1 && !(p.sldXmin ≤ x && x ≤ p.sldXmax)

/-- c_eff(x), the effective ceiling of a canvas column (R363, R364). -/
def SafParams.ceilOf (p : SafParams) (x : Nat) : Nat :=
  if p.outside x then 1024 else if p.func 0 then Sparse.get (fun _ => 0) p.slpCeil x else 0

/-- How many of its rows a tile's column keeps dark (R367). -/
def SafParams.darkRows (p : SafParams) (t x : Nat) : Nat := min 512 (p.ceilOf (canvasX t x) - canvasY t 0)

/-- C_max, the working-scale ceiling with the allowance for the largest gain entry (R366). -/
def ceilMax (lw : Nat) : Nat := min 65535 ((lw * 639 + 256) / 512)

/-- The limit that a record is held to: by its WIDTH (R366). -/
def RegionPlan.limit (q : RegionPlan) (wide : Bool) : Nat := if wide then q.limit16 else q.limit12

/-- A record violates its region (R369). -/
def RegionPlan.violated (q : RegionPlan) (x : GleanRec) : Bool := q.use != .off && decide (q.limit x.wide < x.max)

/-! ### The clamp table (R371, R375) -/

/-- The static zones as zones of a clamp table; none while SLI is off (R362, R371). -/
def SafParams.staticZones (p : SafParams) : List Zone :=
  p.zones.map fun z =>
    if p.func 2 && z.en then { en := true, x0 := z.x0, y0 := z.y0, x1 := z.x1, y1 := z.y1, ceil := ceilWorking z.ceil } else {}

/-- GME zone record i as a zone, when it is valid (R221, R371). -/
def State.glareZone (s : State) (i : Nat) : Zone :=
  let a := s.regN (R.GME_ZONE_A i)
  let b := s.regN (R.GME_ZONE_B i)
  if bitAt a 31 then
    { en := true, x0 := bitsOf a 10 0, y0 := bitsOf a 25 16, x1 := bitsOf b 10 0, y1 := bitsOf b 25 16
      ceil := ceilWorking (s.saf.params.glareCeil.getD (bitsOf b 30 28) 0) }
  else {}

/-- Glare zones are clamped and checked (R362, R371). -/
def State.glareOn (s : State) : Bool := s.saf.params.glareEn && s.saf.params.func 2

/-- The table of this refresh (R371). -/
def State.clampZones (s : State) : List Zone :=
  s.saf.params.staticZones ++ (List.range 16).map fun i => if s.glareOn then s.glareZone i else {}

/-- A table is sent through XQ_CLAMP with the next sequence number, which is never 0 (R371). -/
def State.sendTable (s : State) (zones : List Zone) (glare : Bool) : State :=
  let seq := s.rd F.SAF_CLAMP_SEQ % 65535 + 1
  let t : ClampTable := { seq := seq, zones := zones }
  let t := { t with check := crc16 t.words }
  let s := { s with saf := { s.saf with table := t, clampOut := s.saf.clampOut ++ [t] } }
  ((s.wr F.SAF_CLAMP_SEQ seq).wr F.SAF_CLAMP_ZONES (zones.filter Zone.en).length).wrB F.SAF_CLAMP_GLARE glare

/-- The table of a characterization: one zone over the whole canvas at the working-scale value of CODE (R375). -/
def guardZones (code : Nat) : List Zone :=
  { en := true, x1 := 2047, y1 := 1023, ceil := ceilWorking code } :: List.replicate 31 {}

/-! ### The Glean region plan (R367) -/

/-- The staircase region of a segment of a tile. -/
def SafParams.staircase (p : SafParams) (t seg : Nat) : RegionPlan :=
  let cols := (List.range 64).map fun i => 64 * seg + i
  let rows := (cols.map (p.darkRows t)).foldl min 512
  if rows = 0 then {} else
  { use := .staircase seg, x0 := 64 * seg, y0 := 0, x1 := 64 * seg + 63, y1 := rows - 1
    limit12 := p.darkLc, limit16 := p.darkLc * 16 + 15, outside := cols.all fun x => p.outside (canvasX t x) }

/-- The sweep region of a column of a tile. -/
def SafParams.sweepCol (p : SafParams) (t x : Nat) : RegionPlan :=
  let rows := p.darkRows t x
  if rows = 0 then {} else
  { use := .sweep x, x0 := x, y0 := 0, x1 := x, y1 := rows - 1
    limit12 := p.darkLc, limit16 := p.darkLc * 16 + 15, outside := p.outside (canvasX t x) }

/-- The part of zone z that lies in a tile. -/
def pieceOf (t z : Nat) (q : Zone) : Option RegionPlan :=
  let xb := canvasX t 0
  let yb := canvasY t 0
  let x0 := max q.x0 xb
  let y0 := max q.y0 yb
  let x1 := min q.x1 (xb + 1023)
  let y1 := min q.y1 (yb + 511)
  if q.en && x0 ≤ x1 && y0 ≤ y1 then
    let m := ceilMax q.ceil
    some { use := .piece z, x0 := x0 - xb, y0 := y0 - yb, x1 := x1 - xb, y1 := y1 - yb
           limit12 := (m * 4095 + 32767) / 65535, limit16 := m }
  else none

/-- The pieces of a tile. -/
def piecesOf (t : Nat) (zones : List Zone) : List RegionPlan :=
  (List.range zones.length).filterMap fun z => pieceOf t z (zones.getD z {})

/-- The zones that the pieces are cut from: of the table just sent in RUN, else the static ones (R367, R371). -/
def State.planZones (s : State) : List Zone := if s.mode == .run then s.saf.table.zones else s.saf.params.staticZones

/-- The pieces checked in this plan, and where the next turn starts: 12 at most, in turn, those to check again first (R367, R369). -/
def State.choosePieces (s : State) (t : Nat) : List RegionPlan × Nat :=
  let all_ := piecesOf t s.planZones
  if all_.length ≤ 12 then (all_, 0) else
  let again := (all_.filter fun q => s.saf.pieceAgain.any fun a => a.1 = t && q.use == .piece a.2).take 12
  let rest := all_.filter fun q => !again.contains q
  let at_ := s.saf.pieceNext.getD t 0 % max 1 rest.length
  let n := 12 - again.length
  (again ++ ((rest.drop at_ ++ rest.take at_).take n), at_ + n)

/-- The columns of the sweep in this plan: those held for one more refresh, else the four in turn (R367, R369). -/
def State.sweepGroup (s : State) (t : Nat) : Nat :=
  match s.saf.sweepHold.find? fun h => h.1 = t with
  | some h => h.2 / 4
  | none => s.saf.sweep.getD t 0 / 4

/-- The 32 regions of a port's next plan; in a characterization one region over the whole tile with the limit CODE (R367, R375). A port
that is not enabled is checked nowhere. -/
def State.planRegions (s : State) (p : Nat) : List RegionPlan :=
  match s.cal.full with
  | some f =>
    let whole : RegionPlan := { use := .fullTile, x1 := 1023, y1 := 511, limit12 := f.code, limit16 := f.code * 16 + 15 }
    (if f.tile = p then [whole] else [{}]) ++ List.replicate 31 {}
  | none =>
    if !s.flag (F.LNK_CTRL_EN p) then List.replicate 32 {} else
    let q := s.saf.params
    let g := s.sweepGroup p
    let pieces := (s.choosePieces p).1
    (List.range 16).map (q.staircase p) ++ (List.range 4).map (fun i => q.sweepCol p (4 * g + i))
      ++ pieces ++ List.replicate (12 - pieces.length) {}

/-- The rectangles of a plan in the registers of a port. -/
def State.writeRegions (s : State) (p : Nat) (qs : List RegionPlan) : State :=
  (List.range 32).foldl (fun s r =>
    let q := qs.getD r {}
    let en := b2n (q.use != .off)
    (s.setN (R.LNK_GR_RECT0 p r) (q.x0 + 2 ^ 16 * q.y0 + 2 ^ 31 * en)).setN (R.LNK_GR_RECT1 p r) (q.x1 + 2 ^ 16 * q.y1)) s

/-- The sweep and the turn of the pieces of a tile move on (R367, R369). -/
def State.advancePlan (s : State) (p : Nat) : State :=
  let held := s.saf.sweepHold.any fun h => h.1 = p
  let col := s.saf.sweep.getD p 0
  { s with saf := { s.saf with
      sweep := if held then s.saf.sweep else s.saf.sweep.set p ((col + 4) % 1024)
      sweepHold := (s.saf.sweepHold.filter fun h => h.1 = p).drop 1 ++ s.saf.sweepHold.filter fun h => h.1 ≠ p
      pieceNext := s.saf.pieceNext.set p (s.choosePieces p).2
      pieceAgain := s.saf.pieceAgain.filter fun a => a.1 ≠ p } }

/-- One port's regions are written and armed; a port whose group still waits keeps its plan (R367). -/
def State.armRegions (s : State) (p : Nat) : State × List RegionPlan :=
  if !s.on (portDom p) || s.armed (.glean p) then (s, [])
  else
    let qs := s.planRegions p
    (((s.writeRegions p qs).armNext (.glean p)).advancePlan p, qs)

/-- The plan of the refresh after the one that has just begun (R367). -/
def State.armPlan (s : State) : State :=
  let r := (List.range 4).foldl (fun (a : State × List (List RegionPlan)) p =>
    let x := a.1.armRegions p
    (x.1, a.2 ++ [x.2])) (s, [])
  let s := r.1
  let g : GleanPlan := { refresh := (s.regN R.SCN_REFCNT + 1) % 256, ports := r.2 }
  { s with saf := { s.saf with plans := g :: s.saf.plans.take 3 } }

/-- What the island does at a refresh start (R367, R371). -/
def State.islandRefresh (s : State) : State :=
  if !s.on .safe || !s.flag F.SAF_STATE_READY then s else
  let now := s.regN R.SCN_REFCNT % 256
  let run := s.mode == .run
  let s := { s with saf := { s.saf with plans := s.saf.plans.map fun (g : GleanPlan) => if g.refresh = now then { g with run := run } else g } }
  let s := if run then s.sendTable s.clampZones s.glareOn else s
  s.armPlan

/-! ### Violations (R368–R370, R384) -/

/-- The plan of a refresh. -/
def State.planFor (s : State) (refresh : Nat) : Option GleanPlan := s.saf.plans.find? fun g => g.refresh == refresh

def GleanPlan.region (g : GleanPlan) (p r : Nat) : RegionPlan := (g.ports.getD p []).getD r {}

/-- The function that a violation counts for: 1 SLP, 2 SLD, 3 SLI (R369). -/
def RegionPlan.func (q : RegionPlan) : Nat :=
  match q.use with
  | .piece _ => 3
  | _ => if q.outside then 2 else 1

/-- The count of confirmed violations of a function. -/
def violField : Nat → Fld
  | 1 => F.SAF_VIOLCNT_SLP
  | 2 => F.SAF_VIOLCNT_SLD
  | _ => F.SAF_VIOLCNT_SLI

/-- A violation is confirmed: HUSK is requested, and the cause is held, from the third one of the drive cycle on for good (R369, R370). -/
def State.confirmViolation (s : State) (func : Nat) (x : GleanRec) : State :=
  let n := s.saf.violN.getD (func - 1) 0 + 1
  let s := (s.bump (violField func)).setN R.SAF_LASTVIOL (func + 2 ^ 2 * x.port + 2 ^ 4 * x.region + 2 ^ 16 * x.max)
  let s := (s.wr F.SAF_LASTREF_REFRESH x.refresh).setBitF F.SAF_VIOL_HELD (func - 1) true
  let s := if 3 ≤ n then s.setBitF F.SAF_VIOL_LOCKED (func - 1) true else s
  let s := { s with saf := { s.saf with violAt := s.saf.violAt.set (func - 1) (some s.now), violN := s.saf.violN.set (func - 1) n } }
  ((s.wr F.SAF_OUTCMD_HUSKREQ 1).requestHusk 0x0A).raise Src.SAF_LIMIT

/-- Another record of the same port, refresh and region of a plan that violates. -/
def State.seenBad (s : State) (g : GleanPlan) (p r refresh : Nat) : Bool :=
  s.saf.seen.any fun y => y.port = p && y.region = r && y.refresh = refresh && (g.region p r).violated y

/-- The staircase region over a sweep column violates in the same refresh (R384). -/
def State.staircaseToo (s : State) (g : GleanPlan) (q : RegionPlan) (x : GleanRec) : Bool :=
  match q.use with
  | .sweep col => s.seenBad g x.port (col / 64) x.refresh
  | _ => false

/-- A retime hold follows the refresh of a record (R369). -/
def State.holdFollows (s : State) (refresh : Nat) : Bool :=
  s.regN R.SCN_REFCNT % 256 = refresh && (s.cf.hold.isSome || s.holdAfter s.cf.refStart ≠ 0)

/-- The refreshes within which a second violation of a use confirms the first: the next one, and for what is checked in turn up to the first
plan that could still be armed (R367, R369). -/
def confirmSpan : RegionUse → Nat
  | .sweep _ => 3
  | .piece _ => 3
  | _ => 1

/-- A use is checked in a refresh of a port, as its plan has it. -/
def State.usePlanned (s : State) (p : Nat) (u : RegionUse) (refresh : Nat) : Bool :=
  match s.planFor refresh with
  | some g => (g.ports.getD p []).any fun q => q.use == u
  | none => false

/-- A violation of the same use came in the refresh before in which that use was checked (R369). -/
def State.violatedBefore (s : State) (q : RegionPlan) (x : GleanRec) : Bool :=
  s.saf.first.any fun v =>
    let gap := (x.refresh + 256 - v.refresh) % 256
    v.port = x.port && v.use == q.use && 1 ≤ gap && gap ≤ confirmSpan q.use
      && !(List.range (gap - 1)).any fun i => s.usePlanned x.port q.use ((v.refresh + 1 + i) % 256)

/-- Unconfirmed violations of a port within the last 1 s (R369). -/
def State.singlesOf (s : State) (p : Nat) : Nat := (s.saf.singles.filter fun v => v.1 = p && s.now < v.2 + sec 1).length

/-- A first violation waits for its confirmation: what is checked in turn is checked again (R369). -/
def State.holdFirst (s : State) (q : RegionPlan) (x : GleanRec) (count : Bool) : State :=
  let v : Viol := { port := x.port, region := x.region, use := q.use, refresh := x.refresh, at_ := s.now }
  let saf : Saf := { s.saf with
    first := v :: s.saf.first.filter fun w => !(w.port = x.port && w.use == q.use)
    singles := if count then (x.port, s.now) :: s.saf.singles.filter (fun w => s.now < w.2 + sec 1) else s.saf.singles
    sweepHold := match q.use with
      | .sweep col => if s.saf.sweepHold.any fun h => h.1 = x.port && h.2 / 4 = col / 4 then s.saf.sweepHold else s.saf.sweepHold ++ [(x.port, col)]
      | _ => s.saf.sweepHold
    pieceAgain := match q.use with
      | .piece z => (x.port, z) :: s.saf.pieceAgain
      | _ => s.saf.pieceAgain }
  let s := { s with saf := saf }
  if count then s.bump F.SAF_VIOLCNT_SINGLE else s

/-- A violation: unconfirmed, or confirmed by one of the three grounds of R369. A sweep column is not counted beside its staircase segment,
and its confirmation follows on its own (R384). In a characterization it ends the run (R375). -/
def State.violation (s : State) (g : GleanPlan) (q : RegionPlan) (x : GleanRec) : State :=
  if q.use == .fullTile then (s.bump F.SAF_VIOLCNT_SINGLE).endFull 3
  else
    let twice := s.staircaseToo g q x
    if s.violatedBefore q x || s.holdFollows x.refresh || 3 ≤ s.singlesOf x.port then
      let seg := match q.use with | .staircase k => some k | .sweep col => some (col / 64) | _ => none
      let told := match seg with | some k => s.saf.segConf.contains (x.port, x.refresh, k) | none => false
      let s := { s with saf := { s.saf with first := s.saf.first.filter fun w => !(w.port = x.port && w.use == q.use) } }
      let s := match seg with
        | some k => { s with saf := { s.saf with segConf := ((x.port, x.refresh, k) :: s.saf.segConf).take 64 } }
        | none => s
      if twice && told then s else s.confirmViolation q.func x
    else s.holdFirst q x (!twice)

/-- The second record of a confirmed violation is the larger: SAF_LASTVIOL takes its MAX (R368, R369). -/
def State.raiseMax (s : State) (x : GleanRec) : State :=
  if s.rd F.SAF_LASTVIOL_TILE = x.port && s.rd F.SAF_LASTVIOL_REGION = x.region && s.rd F.SAF_LASTREF_REFRESH = x.refresh
    && s.rd F.SAF_LASTVIOL_MAX < x.max then s.wr F.SAF_LASTVIOL_MAX x.max else s

/-- In a characterization HUSK_N of the tile rises after a refresh that was clean in the records of every lane (R375, notes/assumptions/22.md). -/
def State.guardClean (s : State) (x : GleanRec) : State :=
  let recs := s.saf.seen.filter fun y => y.port = x.port && y.region = x.region && y.refresh = x.refresh
  if s.saf.forcedLow || !(s.lanesOf x.port).all fun l => recs.any fun y => y.lane = l then s
  else (s.setBitF F.SAF_OUTCMD_HUSKN_HI x.port true).syncPads

/-- One record is judged against the plan of its refresh; a region is judged once, by the larger of its records (R367, R368). -/
def State.judgeRecord (s : State) (x : GleanRec) : State :=
  match s.planFor x.refresh with
  | none => s
  | some g =>
    let q := g.region x.port x.region
    let told := s.seenBad g x.port x.region x.refresh
    let others := s.saf.seen.filter fun y => !(y.port = x.port && y.lane = x.lane && y.region = x.region && y.refresh = x.refresh)
    let s := { s with saf := { s.saf with seen := others ++ [x] } }
    if q.violated x then (if told then s.raiseMax x else s.violation g q x)
    else if q.use == .fullTile && !told then s.guardClean x
    else s

/-- The records of a region in a refresh. -/
def State.recordsOf (s : State) (p r refresh : Nat) : List GleanRec :=
  s.saf.seen.filter fun y => y.port = p && y.region = r && y.refresh = refresh

/-- A region is unchecked in a refresh (R368). -/
def State.uncheckedIn (s : State) (p r refresh : Nat) (sent : Bool) : Bool :=
  let recs := s.recordsOf p r refresh
  let lanes := s.lanesOf p
  !sent || lanes.isEmpty || lanes.any (fun l => !recs.any fun y => y.lane = l)
    || recs.any (fun y => y.partialRows || y.laneChg) || s.saf.overflow.contains (p, refresh)

/-- The judgement of one port over a complete refresh, with rows sent: which regions in use are unchecked, and whether all are clean (R368, R372). -/
def State.closePort (s : State) (g : GleanPlan) (p : Nat) : State :=
  let sent := ((s.port p).tallyFor g.refresh).rows ≠ 0
  let used := (List.range 32).filter fun r => (g.region p r).use != .off
  let before := s.saf.unchecked.filter fun u => u.1 = p
  let s := { s with saf := { s.saf with unchecked := s.saf.unchecked.filter fun u => u.1 ≠ p } }
  if !sent && (s.saf.exempt.contains (p, g.refresh) || !g.run) then { s with saf := { s.saf with clean := s.saf.clean.set p false } }
  else
    let bad := used.filter fun r => s.uncheckedIn p r g.refresh sent
    let hit := used.filter fun r => s.seenBad g p r g.refresh
    let ok := used.filter fun r => !bad.contains r && !hit.contains r
    let s := s.bumpBy F.SAF_UNCHK_COUNT bad.length
    let s := { s with saf := { s.saf with
      unchecked := s.saf.unchecked ++ bad.map fun r => (p, r)
      clean := s.saf.clean.set p (sent && bad.isEmpty && hit.isEmpty)
      first := s.saf.first.filter fun v => !(v.port = p && v.refresh ≠ g.refresh && ok.any fun r => (g.region p r).use == v.use) } }
    (bad.filter fun r => before.contains (p, r)).foldl (fun s _ => s.raise (Src.SAF_UNCHECKED p)) s

/-- A refresh that is over is closed (R368). A violation that it checked again without another one is confirmed by none any more (R369). -/
def State.closeRefresh (s : State) (g : GleanPlan) : State :=
  let s := (List.range 4).foldl (fun s p => s.closePort g p) s
  let held : Viol → Bool := fun v =>
    let gap := (g.refresh + 256 - v.refresh) % 256
    !(1 ≤ gap && gap ≤ confirmSpan v.use && s.usePlanned v.port v.use g.refresh)
  { s with saf := { s.saf with
      first := s.saf.first.filter held
      plans := s.saf.plans.filter fun h => h.refresh ≠ g.refresh
      seen := s.saf.seen.filter fun y => y.refresh ≠ g.refresh
      overflow := s.saf.overflow.filter fun y => y.2 ≠ g.refresh
      exempt := s.saf.exempt.filter fun y => y.2 ≠ g.refresh } }

/-- Every refresh before the one in progress is closed, the oldest first. -/
def State.closeRefreshes (s : State) : State :=
  let now := s.regN R.SCN_REFCNT % 256
  let late := s.saf.plans.filter fun g => g.refresh ≠ now && g.refresh ≠ (now + 1) % 256
  late.reverse.foldl State.closeRefresh s

/-- 1 s after a function's last confirmed violation its cause is released, unless it is locked (R370). -/
def execViolationRelease (func : Nat) (s : State) : Out :=
  match s.saf.violAt.getD (func - 1) none with
  | some t =>
    .next (if 1 ≤ func && func ≤ 3 && s.since t (sec 1) && !s.bitF F.SAF_VIOL_LOCKED (func - 1) then
      let s := { s with saf := { s.saf with violAt := s.saf.violAt.set (func - 1) none } }
      let s := s.setBitF F.SAF_VIOL_HELD (func - 1) false
      if s.rd F.SAF_VIOL_HELD = 0 then s.wr F.SAF_OUTCMD_HUSKREQ 0 else s
    else s)
  | none => .next s

/-! ### HUSK_N and the Husk monitor (R372–R375) -/

/-- Both switches of a path are closed and the check of R310 passes. -/
def State.pathGood (s : State) (n : Nat) : Bool := s.pathClosed n && !s.bitF F.SAF_SWSTAT_PATHBAD n

/-- Tn_HUSK_N may be raised in RUN (R372). -/
def State.mayRaise (s : State) (n : Nat) : Bool :=
  let seq := s.rd F.SAF_CLAMP_SEQ
  s.mode == .run && s.flag (F.LNK_STATE_FULLREF n) && s.flag (F.LNK_CTRL_LIGHT n) && seq ≠ 0 && s.rd F.SCN_CLAMPSTAT_SEQ = seq
    && s.pathGood n && s.rd F.SAF_VIOL_HELD = 0 && s.saf.clean.getD n false && !s.saf.forcedLow

/-- The island raises what it may raise; a line falls only when RUN ends, or by hardwire (R372). -/
def State.raiseHusk (s : State) : State :=
  ((List.range 4).foldl (fun s n => if s.mayRaise n then s.setBitF F.SAF_OUTCMD_HUSKN_HI n true else s) s).syncPads

/-- The guard of a characterization begins: switches closed, the table and the region of R375, which act from the next batch slot on. -/
def State.guardOn (s : State) (tile code : Nat) : State :=
  let s := (s.setBitF F.SAF_SWCTL_HCLOSE tile true).setBitF F.SAF_SWCTL_LCLOSE tile true
  let s := s.followSw.wr F.SAF_STATE_CHAR 1
  let s := s.sendTable (guardZones code) false
  let qs := s.planRegions tile
  let s := (Group.glean tile).members.foldl State.applyReg (s.writeRegions tile qs)
  let ports := (List.range 4).map fun p => if p = tile then qs else []
  let g : GleanPlan := { refresh := s.regN R.SCN_REFCNT % 256, ports := ports }
  { s with saf := { s.saf with plans := g :: s.saf.plans.take 3 } }

/-- Husk is not held on a tile (R374). -/
def State.huskLost (s : State) (n : Nat) : Bool :=
  let st := s.rd (F.BUCK_STAT_STATE n)
  (s.huskPad n && !s.bitF F.SAF_OUTCMD_LANEIDLE n) || (st ≠ 1 && st ≠ 3)
    || s.rd (F.BUCK_MEAS0_IAVG n) < s.saf.params.huskImin || !s.pathGood n

/-- One tile at one check of the Husk monitor: 0 off, 1 settling, 2 held, 3 failing (R374). -/
def State.monitorTile (s : State) (n : Nat) : State :=
  let show_ : State → Nat → Nat → State := fun s st fails =>
    { s with saf := { s.saf with huskFails := s.saf.huskFails.set n fails } }.wr ⟨R.SAF_HUSKMON, 2 * n + 1, 2 * n⟩ st
  let on := (s.mode == .prepare || s.mode == .husk) && s.demand
  match s.saf.huskFrom.getD n none with
  | none => show_ s 0 0
  | some t =>
    if !on then show_ s 0 0
    else if !s.since t (msec s.saf.params.huskSettle) then show_ s 1 0
    else if !s.huskLost n then show_ s 2 0
    else show_ s 3 (s.saf.huskFails.getD n 0 + 1)

/-- The Husk monitor; 16 consecutive failing checks of a tile request DARK (R374). -/
def State.huskMonitor (s : State) : State :=
  let s := (List.range 4).foldl State.monitorTile s
  let lost := (List.range 4).filter fun n => 16 ≤ s.saf.huskFails.getD n 0
  if lost.isEmpty then s
  else lost.foldl (fun s n => s.raise (Src.HUSK_FAIL n)) ((s.wr F.SAF_OUTCMD_DARKREQ 1).requestDark 0x0D)

/-- One safety task: records, closed refreshes, at every second task the Husk monitor, HUSK_N (R360). -/
def State.safetyTask (s : State) : State :=
  let s := s.bump F.SAF_STATE_TASKS
  let batch := s.saf.inbox.mergeSort fun a b => a.region ≤ b.region
  let s := { s with saf := { s.saf with inbox := [], lastTask := s.now } }
  let s := (batch.foldl State.judgeRecord s).closeRefreshes
  let s := if s.rd F.SAF_STATE_TASKS % 2 = 0 then s.huskMonitor else s
  s.raiseHusk.hbSync

def execSafetyTask (s : State) : Out :=
  .next (if s.on .safe && s.flag F.SAF_STATE_READY then s.periodic .task (usec 500) State.safetyTask else s)

/-- SAFE hardware: a line commanded low whose pad has read high for 20 µs idles the port's lanes until the drive cycle ends (R373). -/
def execHusknMismatch (tile : Nat) (s : State) : Out :=
  if 4 ≤ tile || !s.on .safe || s.huskDriven tile then .next s else
  let s := { s with saf := { s.saf with idled := s.saf.idled ||| 2 ^ tile, stuck := (tile, true) :: s.saf.stuck.filter fun p => p.1 ≠ tile } }
  let s := (s.setBitF F.SAF_OUTRB_HUSKN_MIS tile true).setBitF F.SAF_OUTCMD_LANEIDLE tile true
  .next ((s.setBitF F.SAF_HUSKMON_LANEPATH tile true).raise (Src.HUSKN_STUCK tile)).syncPads

/-! ### Lockstep, watchdog and SAFE SRAM (R361) -/

/-- An event of R361 acts by hardwire: HUSK_N low, HUSK requested, SAF_LOCKSTEP; the island restarts once, and a second event in the drive
cycle requests DARK. -/
def State.islandFault (s : State) (count : Fld) : State :=
  let second := s.rd F.SAF_STATE_RESTARTS ≠ 0
  let s := if second then s.bump count else (s.bump count).bump F.SAF_STATE_RESTARTS
  let s := { s with saf := { s.saf with forcedLow := true, pulse := none } }.syncPads
  let s := (s.raise Src.SAF_LOCKSTEP).requestHusk 0x08
  let s := s.wr F.SAF_STATE_READY 0
  let s := if s.flag F.PWR_RUNGATE_PERMIT then s.closeGate else s
  if second then
    ({ s with saf := { s.saf with restart := none } }.wr F.SAF_OUTCMD_DARKREQ 1).requestDark 0x14
  else { s with saf := { s.saf with restart := some s.now } }.endpointReset 0

def execLockstepMismatch (s : State) : Out := .next (if s.on .safe then s.islandFault F.SAF_LOCKSTEP_MISMATCH else s)

def execSafeSramUncorrectable (s : State) : Out := .next (if s.on .safe then s.islandFault F.SAF_LOCKSTEP_SRAM_UNC else s)

/-- The watchdog expects a completed task every 2 ms (R360, R361). -/
def execSafeWatchdogExpire (s : State) : Out :=
  .next (if s.on .safe && s.flag F.SAF_STATE_READY && s.since s.saf.lastTask (msec 2) then s.islandFault F.SAF_LOCKSTEP_WDOG else s)

/-- What of the island's work the restart loses: everything outside the part of SAFE SRAM that it keeps (R361). -/
def State.restartLoss (s : State) : State :=
  { s with saf := { s.saf with restart := none, inbox := [], plans := [], first := [], singles := [], seen := [], unchecked := [], overflow := []
                               exempt := [], sweepHold := [], pieceAgain := [], segConf := [], clean := [false, false, false, false]
                               forcedLow := s.selfActed } }

/-- The copies that the island kept over its restart and finds damaged are reloaded from the dictionary store (R361, R433). -/
def State.reloadCopies (s : State) (k : KeptCopies) : State :=
  let (p, v) := s.storedParams
  let s := if k.params then s else { s with saf := { s.saf with params := p } }.wr F.SAF_STATE_FUNC p.funcEn
  let s := if k.confirm then s else (s.setN R.SAF_CONFVAL v).wr F.SAF_STATE_CONF 0
  if k.envs then s else s.loadEnvs

/-- The restart ends: the staged image is verified and copied again, each damaged copy is reloaded, the check value is computed anew before PERMIT can be
set again, and the first task runs (R361). -/
def execIslandRestartComplete (k : KeptCopies) (s : State) : Out :=
  if s.saf.restart.isNone || !s.on .safe then .next s
  else if !s.on .mem || s.boot.staged.isNone || !s.stagedOk then
    .next { s with boot := { s.boot with safeImage := some false }, saf := { s.saf with restart := none } }.closeGate
  else
    let s := s.setBytes 0x20A80000 (s.bytes (stagingBase + 0x100) (s.header stagingBase).safeLen)
    let s := s.restartLoss.wr F.SAF_STATE_READY 1
    let s := s.reloadCopies k
    let s := { s with saf := { s.saf with checkDue := some s.now, loading := s.saf.loading || !(k.params && k.confirm) } }
    .next (if s.flag F.PWR_RUNGATE_PERMIT then s else s.closeGate).safetyTask

/-! ### Output tests (R376) -/

/-- Every 200 ms the next of the five outputs is pulsed; a pulse is skipped while a mode transition is in progress, on a line that is low, and
on LAMP_FAIL while LF_PULSE is 0 or the output is asserted (R376). -/
def State.outputTest (s : State) : State :=
  let k := s.saf.outNext
  let out : TestedOutput := if k < 4 then .huskN k else .lampFail
  let may := !s.flag F.PWR_MODE_BUSY && s.saf.pulse.isNone
    && (if k < 4 then s.huskDriven k else s.saf.params.lfPulse && !s.lampFail)
  let s := { s with saf := { s.saf with outNext := (k + 1) % 5, pulse := if may then some { out := out, since := s.now } else s.saf.pulse } }
  s.syncPads

def execOutputTestDue (s : State) : Out :=
  .next (if s.on .safe && s.flag F.SAF_STATE_READY then s.periodic .output (msec 200) State.outputTest else s)

/-- What a test shows of its line: a read-back that was wrong during the pulse stayed at the level before it, and one that was wrong after it stayed
at the level of the pulse (R61, R62, R376). -/
def State.lineSeen (s : State) (out : TestedOutput) (pulse during after : Bool) : State :=
  let stuck : Option Bool := if !during then some (!pulse) else if !after then some pulse else none
  match out with
  | .huskN n => { s with saf := { s.saf with stuck := s.saf.stuck.filter (fun x => x.1 != n) ++ (stuck.map fun l => (n, l)).toList } }
  | .lampFail => { s with saf := { s.saf with lfStuck := stuck } }

/-- The test of one output is done: `pulse` is the level that it drove, `during` and `after` say whether the read-back was right in its time. -/
def State.outputTested (s : State) (out : TestedOutput) (pulse during after : Bool) : State :=
  let k := match out with | .huskN n => n | .lampFail => 4
  let s := (((s.wr F.SAF_PULSE_LAST k).bump F.SAF_PULSE_COUNT).lineSeen out pulse during after).syncPads
  if during && after then s
  else
    let s := s.setBitF F.SAF_PULSE_FAIL k true
    match out with
    | .huskN n => s.raise (Src.SAF_PULSE_HUSKN n)
    | .lampFail => s.raise Src.SAF_PULSE_LAMPFAIL

/-- The pulse is over after 150 µs: `during` and `after` say whether the read-back was right in its time. A line that HUSK or the hardwired low
took down meanwhile is not judged (R376, R384). -/
def execOutputTestPulseEnd (during after : Bool) (s : State) : Out :=
  match s.saf.pulse with
  | none => .next s
  | some p =>
    if !s.since p.since (usec 150) then .next s else
    let s := { s with saf := { s.saf with pulse := none } }.syncPads
    let judged := match p.out with
      | .huskN n => s.bitF F.SAF_OUTCMD_HUSKN_HI n && !s.saf.forcedLow
      | .lampFail => !s.lampFail
    .next (if judged then s.outputTested p.out (p.out == .lampFail) during after else s)

/-- The start-up round of step 12 of PREPARE: every HUSK_N line is driven high for 150 µs, and LAMP_FAIL tested as in service; then the island sets
PERMIT or DENY (R376, R381). Read-backs come as during and after the test; the masks have a bit for each HUSK_N line whose read-back was right. -/
def State.startupRound (s : State) (husk : Nat × Nat) (lampFail : Bool × Bool) : State :=
  if s.mode != .prepare || !s.on .safe || !s.flag F.SAF_STATE_READY || s.saf.round.isSome || !s.linksOver then s else
  let s := (List.range 4).foldl (fun s n => s.outputTested (.huskN n) true (bitAt husk.1 n) (bitAt husk.2 n)) s
  let s := if s.saf.params.lfPulse && !s.lampFail then s.outputTested .lampFail true lampFail.1 lampFail.2 else s
  { s with saf := { s.saf with round := some (husk.1 % 16 = 15 && husk.2 % 16 = 15) } }.judgeGate

/-! ### Safety parameters and their confirmation (R362, R379–R381) -/

/-- The size of a safety parameter and the range of its value: index and subindex, bytes, least, greatest (R362). -/
def paramTable : List ((Nat × Nat) × Nat × Nat × Nat) :=
  [((0x5000, 1), 2, 0, 255), ((0x5000, 2), 1, 0, 7), ((0x5001, 0), 4096, 0, 1024), ((0x5002, 1), 2, 0, 2047), ((0x5002, 2), 2, 0, 2047)]
  ++ ((List.range 16).flatMap fun z =>
    [((0x5010 + z, 1), 1, 0, 1), ((0x5010 + z, 2), 2, 0, 2047), ((0x5010 + z, 3), 2, 0, 1023), ((0x5010 + z, 4), 2, 0, 2047),
      ((0x5010 + z, 5), 2, 0, 1023), ((0x5010 + z, 6), 2, 0, 4095)])
  ++ (List.range 7).map (fun k => ((0x5020, k + 1), 2, 0, 4095))
  ++ [((0x5020, 8), 1, 0, 1), ((0x5030, 1), 2, 1, 6000), ((0x5030, 2), 1, 5, 100), ((0x5030, 3), 1, 0, 1)]

/-- The row of a safety parameter. -/
def paramRow (index sub : Nat) : Option (Nat × Nat × Nat) := (paramTable.find? fun r => r.1 == (index, sub)).map Prod.snd

/-- The value of a safety parameter in stored form. -/
def SafParams.value (p : SafParams) (index sub : Nat) : List Byte :=
  match p.entries.find? fun e => e.1 = index && e.2.1 = sub with
  | some e => e.2.2
  | none => []

/-- The island's answer to a parameter: its length and its range (R362, R425). -/
def paramCode (index sub : Nat) (bs : List Byte) : Nat :=
  match paramRow index sub with
  | none => if (paramTable.any fun r => r.1.1 = index) then codeNOSUB else codeNOOBJECT
  | some (size, lo, hi) =>
    if bs.length ≠ size then codeLENGTH
    else
      let vs := if size = 4096 then (ceilFrom bs).map Prod.snd else [ofLeBytes bs]
      if vs.all fun v => lo ≤ v && v ≤ hi then codeOK else codeRANGE

/-- The island takes a parameter; a change voids the confirmation and asks for a new check value (R379, R380). -/
def State.takeParam (s : State) (index sub : Nat) (bs : List Byte) : State :=
  if s.saf.params.value index sub = bs then s
  else
    let p := s.saf.params.set index sub bs
    let s := { s with saf := { s.saf with params := p, checkDue := some s.now, loading := false } }
    (s.wr F.SAF_STATE_FUNC p.funcEn).voidConfirm

/-- The island runs and can answer. -/
def State.islandUp (s : State) : Bool := s.on .safe && s.flag F.SAF_STATE_READY

/-- The service of a write to a safety parameter, in the order of R428; an accepted one passes over the secure channels (R362, R453). -/
def State.paramService (s : State) (index sub : Nat) (bs : List Byte) : Nat × State :=
  let c := paramCode index sub bs
  if c = codeNOOBJECT || c = codeNOSUB then (c, s)
  else if !s.flag F.PWR_MODE_COMM || !s.islandUp then (codeMODE, s)
  else if bitAt s.dict.sealed 0 then (codeSEALED, s)
  else if c ≠ codeOK then (c, s)
  else (codeOK, (s.takeParam index sub bs).passSecure)

def execSafetyParamWrite (w : ParamWrite) (s : State) : Out :=
  .next (if !s.firmwareUp then s else
    let r := s.paramService w.index w.sub w.value
    r.2.answer w.index w.sub r.1)

/-- The check value is computed and shown; after a load it decides the confirmation (R379, R381). -/
def State.showCheck (s : State) : State :=
  let chk := s.saf.params.check
  let load := s.saf.loading
  let s := { s.setN R.SAF_CONFCHK chk with saf := { s.saf with checkDue := none, loading := false } }
  let s := if load then
      s.wr F.SAF_STATE_CONF (if s.storeCorrupt then 2 else if s.saf.stored.isSome && s.regN R.SAF_CONFVAL = chk then 1 else 0)
    else s
  if s.mode == .prepare then s.judgeGate else if s.flag F.PWR_RUNGATE_PERMIT then s else s.closeGate

def execCheckValueComputed (s : State) : Out :=
  .next (if s.islandUp && s.saf.checkDue.isSome then s.showCheck else s)

/-- The aim window and every enabled static zone are in order (R380 step 5). -/
def SafParams.inOrder (p : SafParams) : Bool :=
  p.sldXmin ≤ p.sldXmax && p.zones.all fun z => !z.en || (z.x0 ≤ z.x1 && z.y0 ≤ z.y1)

/-- Step 5 of R380: the written value against the island's own check value; a match stores the parameters with it. -/
def State.confirm (s : State) (value : Nat) : Nat × State :=
  let p := s.saf.params
  if !p.inOrder || value ≠ p.check then (codeREFUSED, s)
  else
    let s := (s.setN R.SAF_CONFVAL value).wr F.SAF_STATE_CONF 1
    let s := (s.queueDict s.dict.storedKept s.dict.storedObjs p value).urgentStore
    (codeOK, if s.flag F.PWR_RUNGATE_PERMIT then s else s.closeGate)

/-- The service of a write to 0x5FFF sub 1 (R380, R428); an accepted one passes over the secure channels (R362, R453). -/
def State.confirmService (s : State) (value : Nat) : Nat × State :=
  if !s.flag F.PWR_MODE_COMM || !s.islandUp then (codeMODE, s)
  else
    let r := s.confirm value
    (r.1, if r.1 = codeOK then r.2.passSecure else r.2)

def execConfirmWrite (value : Nat) (s : State) : Out :=
  .next (if !s.firmwareUp then s else
    let r := s.confirmService value
    r.2.answer 0x5FFF 1 r.1)

end Sys2Proof.Machine
end

