-- ==== Sys2Proof/Machine/Calib.lean ====
section
/-!
DEFINITION. Calibration, ageing and repair maps (R336–R358), with the characterization slots of R244.
-/

namespace Sys2Proof.Machine

/-! ### Map groups and their check (R336–R340) -/

/-- Bytes of a gain map (R337). -/
def gainBytes : Nat := 524288

/-- The bytes that the applied maps of a tile occupy, as ranges; none while no group has been applied. -/
def State.appliedRanges (s : State) (t : Nat) : List (Nat × Nat) :=
  let g := 4096 * s.app (F.CAL_MAP_GAIN_ADDR t)
  let n := s.app (F.CAL_MAP_DEFCNT_COUNT t)
  let d := 4096 * s.app (F.CAL_MAP_DEF_ADDR t)
  if g < 0x81000000 then [] else (g, g + gainBytes) :: (if n = 0 then [] else [(d, d + 64 + 8 * n)])

/-- Two ranges share a byte. -/
def overlap (a b : Nat × Nat) : Bool := a.1 < b.2 && b.1 < a.2

/-- A range lies inside the window of R336. -/
def inWindow (a : Nat × Nat) : Bool := 0x81000000 ≤ a.1 && a.2 ≤ 0x90000000

/-- The entries of a defect map in memory. -/
def State.defectWords (s : State) (base n : Nat) : List Nat := (List.range n).map fun i => s.num (base + 64 + 8 * i) 8

/-- Pixel position of an entry in the order of R338. -/
def Defect.key (d : Defect) : Nat := 1024 * d.y + d.x

/-- The band index agrees with the entries, which are sorted with each dead pixel listed once (code 4). -/
def indexGood (index : List Nat) (ds : List Defect) : Bool :=
  ((List.range 16).all fun k => index.getD k 0 = (ds.filter fun d => d.y / 32 < k).length)
  && ((ds.zip (ds.drop 1)).all fun p => p.1.key < p.2.key)

/-- Every neighbour lies inside the tile and the dead pixel's band (code 5). -/
def Defect.nbrsInside (d : Defect) : Bool :=
  d.nbrs.all fun n =>
    let q := d.nbr n.1
    0 ≤ q.1 && q.1 ≤ 1023 && 0 ≤ q.2 && q.2 ≤ 511 && q.2 / 32 = (d.y : Int) / 32

/-- No neighbour is dead, and the weights sum to at most 320 (code 6). -/
def Defect.nbrsAlive (d : Defect) (ds : List Defect) : Bool :=
  sumNat (d.nbrs.map Prod.snd) ≤ 320 && d.nbrs.all fun n => !ds.any fun e => ((e.x : Int), (e.y : Int)) = d.nbr n.1

/-- The bytes that the staged maps of a tile would occupy, armed or not (R339); a map that lies below the window has not been staged. -/
def State.stagedRanges (s : State) (t : Nat) : List (Nat × Nat) :=
  let g := 4096 * s.rd (F.CAL_MAP_GAIN_ADDR t)
  let n := s.rd (F.CAL_MAP_DEFCNT_COUNT t)
  let d := 4096 * s.rd (F.CAL_MAP_DEF_ADDR t)
  (if g < 0x81000000 then [] else [(g, g + gainBytes)]) ++ (if n = 0 || d < 0x81000000 then [] else [(d, d + 64 + 8 * n)])

/-- The check of a staged map group: 0 passes, else the code of R339. -/
def State.mapCheck (s : State) (t : Nat) : Nat :=
  let g := 4096 * s.rd (F.CAL_MAP_GAIN_ADDR t)
  let n := s.rd (F.CAL_MAP_DEFCNT_COUNT t)
  let d := 4096 * s.rd (F.CAL_MAP_DEF_ADDR t)
  let gr := (g, g + gainBytes)
  let dr := (d, d + 64 + 8 * n)
  let staged := if n = 0 then [gr] else [gr, dr]
  let used := (List.range 4).flatMap s.appliedRanges ++ ((List.range 4).filter fun u => u ≠ t).flatMap s.stagedRanges
  if !staged.all inWindow then 1
  else if (n ≠ 0 && overlap gr dr) || staged.any (fun r => used.any (overlap r)) then 2
  else if 65536 < n then 3
  else
    let ds := (s.defectWords d n).map defectOf
    let index := (List.range 16).map fun k => s.num (d + 4 * k) 4
    if n = 0 then 0
    else if !indexGood index ds then 4
    else if !ds.all Defect.nbrsInside then 5
    else if !ds.all (fun e => e.nbrsAlive ds) then 6
    else if (List.range 512).any fun y => 256 < (ds.filter fun e => e.y = y).length then 7
    else 0

/-- The CRC-32 over the gain map and the whole defect map (R340); 0 in DEFCNT leaves the defect map out. -/
def State.mapCrc (s : State) (gain defs n : Nat) : Nat :=
  crc32 (s.bytes gain gainBytes ++ if n = 0 then [] else s.bytes defs (64 + 8 * n))

/-- The generation of a map group is written: the check begins (R339). -/
def State.beginMapCheck (s : State) (t : Nat) (data : Word) (gain : Option (List (Nat × Nat))) (defs : Option (List Nat)) : State :=
  let c : Cal := { s.cal with checks := s.cal.checks.set t (some { since := s.now, data := data, gain := gain, defs := defs }) }
  ({ s with cal := c }.wr (F.CAL_MAP_STAT_CHECKING t) 1).wr (F.CAL_MAP_STAT_CHECK t) 0

/-- At the end of a refresh whose prefetched bytes had another CRC the tile's maps are suspended (R340). -/
def State.compareMap (s : State) (t : Nat) : State :=
  if !bitAt s.scn.mapDiff t then s
  else
    let scn : Scn := { s.scn with mapBad := s.scn.mapBad ||| 2 ^ t, mapDiff := s.scn.mapDiff - 2 ^ t }
    ({ s with scn := scn }.mark (F.CAL_MAP_STAT_CRCFAIL t)).raise (Src.CAL_MAPCRC t)

/-! ### Firmware's buffers and the flash (R336, R341, R342) -/

/-- Firmware's two buffers of a tile: gain map, then defect map 1 MiB above (notes/assumptions/18.md). -/
def mapBuffer (t b : Nat) : Nat := 0x8E000000 + 0x400000 * t + 0x200000 * b

/-- The buffer that the applied group does not use. -/
def State.freeBuffer (s : State) (t : Nat) : Nat := if 4096 * s.app (F.CAL_MAP_GAIN_ADDR t) = mapBuffer t 0 then 1 else 0

/-- The bytes of a gain map from its listed entries. -/
def gainMapBytes (g : List (Nat × Nat)) : List Byte := (List.range gainBytes).map fun i => BitVec.ofNat 8 (Sparse.get (fun _ => 128) g i)

/-- The bytes of a defect map: the band index and the entries (R338). -/
def defectMapBytes (defs : List Nat) : List Byte :=
  ((List.range 16).flatMap fun k => leBytes 4 (defs.filter fun w => (defectOf w).y / 32 < k).length) ++ defs.flatMap (leBytes 8)

/-- Maps are placed in the free buffer of a tile, and the group is staged and its generation written (R336, R339). -/
def State.placeMaps (s : State) (t : Nat) (gain defs : List Byte) (count : Nat) (g : Option (List (Nat × Nat))) (d : Option (List Nat)) : State :=
  let b := mapBuffer t (s.freeBuffer t)
  let s := s.setBytes b gain
  let s := if count = 0 then s else s.setBytes (b + 0x100000) defs
  let s := ((s.wr (F.CAL_MAP_GAIN_ADDR t) (b / 4096)).wr (F.CAL_MAP_DEF_ADDR t) (b / 4096 + 0x100)).wr (F.CAL_MAP_DEFCNT_COUNT t) count
  let s := { s with cal := { s.cal with mapsWait := s.cal.mapsWait.set t none } }
  s.beginMapCheck t (BitVec.ofNat 32 ((s.rd (Group.map t).fApplied + 1) % 256)) g d

/-- Firmware stages maps that it has planned; they wait while the group is armed or checked, while CAL has another owner, and while DRAM is
off. -/
def State.stageMaps (s : State) (t : Nat) (g : List (Nat × Nat)) (defs : List Nat) : State :=
  if !s.on .mem || s.armed (.map t) || (s.cal.checks.getD t none).isSome || s.bitR R.SYS_BLKOWN 1 then
    { s with cal := { s.cal with mapsWait := s.cal.mapsWait.set t (some (g, defs)) } }
  else s.placeMaps t (gainMapBytes g) (defectMapBytes defs) defs.length none none

/-- Maps that wait are staged as soon as nothing is in their way. -/
def State.retryMaps (s : State) (t : Nat) : State :=
  match s.cal.mapsWait.getD t none with
  | some (g, defs) => if s.firmwareUp then s.stageMaps t g defs else s
  | none => s

/-- At a refresh start an armed map group is applied with the CRC of its check, and its maps apply again (R336, R340). Maps that waited for it are staged. -/
def State.applyMap (s : State) (t : Nat) : State :=
  if !s.appliesNow (.map t) then s.retryMaps t
  else
    let s := (s.applyGroup (.map t)).applyReg (R.CAL_MAP_CRC t)
    { s with scn := { s.scn with mapBad := s.scn.mapBad &&& (15 - 2 ^ t) } }.retryMaps t

/-- The payload of a forward-voltage map: one U16 per pixel, 65,535 where there is no value (R439, notes/assumptions/14.md). -/
def voltagePayload (m : List (Nat × Nat)) : List Byte := (List.range gainBytes).flatMap fun i => leBytes 2 (Sparse.get (fun _ => 65535) m i)

/-- The payload of a defect map in flash: DEFCNT before the map (notes/assumptions/14.md). -/
def defectPayload (defs : List Nat) : List Byte := leBytes 4 defs.length ++ defectMapBytes defs

def State.storeVoltage (s : State) (kind t : Nat) (m : List (Nat × Nat)) : State :=
  s.queueStore (.map (16 * kind + t)) (16 * kind + t) (voltagePayload m)

def State.storeGain (s : State) (t : Nat) (g : List (Nat × Nat)) : State :=
  s.queueStore (.map (0x10 + t)) (0x10 + t) (gainMapBytes g)

def State.storeDefects (s : State) (t : Nat) (defs : List Nat) : State :=
  s.queueStore (.map (0x20 + t)) (0x20 + t) (defectPayload defs)

/-- A commissioning map that has passed its check is the tile's from now on, and stored (R341, R439). -/
def State.takeMaps (s : State) (t : Nat) (c : MapCheck) : State :=
  let s := match c.gain with
    | some g => { s with cal := { s.cal with g0 := s.cal.g0.set t g } }.storeGain t g
    | none => s
  match c.defs with
  | some d => { s with cal := { s.cal with defs := s.cal.defs.set t d } }.storeDefects t d
  | none => s

/-- The check ends: the group is armed with its CRC, or the arm is refused; a request that waits is answered (R339, R340, R439). -/
def State.endMapCheck (s : State) (t : Nat) (c : MapCheck) : State :=
  let code := s.mapCheck t
  let s := ({ s with cal := { s.cal with checks := s.cal.checks.set t none } }.wr (F.CAL_MAP_STAT_CHECKING t) 0).wr (F.CAL_MAP_STAT_CHECK t) code
  if code = 0 then
    let crc := s.mapCrc (4096 * s.rd (F.CAL_MAP_GAIN_ADDR t)) (4096 * s.rd (F.CAL_MAP_DEF_ADDR t)) (s.rd (F.CAL_MAP_DEFCNT_COUNT t))
    (((s.setN (R.CAL_MAP_CRC t) crc).armGroup (.map t) c.data).takeMaps t c).settle (.map t) codeOK
  else (s.settle (.map t) codeREFUSED).retryMaps t

def execMapGroupCheckComplete (t : Nat) (s : State) : Out :=
  match s.cal.checks.getD t none with
  | some c => .next (if s.on .mgmt then s.endMapCheck t c else s)
  | none => .next s

/-- The newest payload of a map in flash: CAL_EVENTS.STORE when a slot is invalid, CAL_STORE when neither is valid (R342). -/
def State.loadMap (s : State) (id : Nat) : State × Option (List Byte) :=
  let (a, b) := slotsOf id
  let s := if (s.validSlot a id).isNone || (s.validSlot b id).isNone then s.mark F.CAL_EVENTS_STORE else s
  match s.newestSlot id with
  | some (base, _) => (s, some (s.slotPayload base (sectorPayload * s.slotSectors base id)))
  | none => (s.raise Src.CAL_STORE, none)

/-- The values of a forward-voltage payload. -/
def voltageFrom (bs : List Byte) : List (Nat × Nat) :=
  (List.range gainBytes).filterMap fun i =>
    let v := ofLeBytes ((bs.drop (2 * i)).take 2)
    if v = 65535 then none else some (i, v)

/-- The entries of a gain payload that differ from 128. -/
def gainFrom (bs : List Byte) : List (Nat × Nat) :=
  (List.range gainBytes).filterMap fun i => let v := (bs.getD i 128#8).toNat; if v = 128 then none else some (i, v)

/-- The entries of a defect payload. -/
def defectsFrom (bs : List Byte) : List Nat :=
  (List.range (ofLeBytes (bs.take 4))).map fun i => ofLeBytes ((bs.drop (68 + 8 * i)).take 8)

/-! ### Agreement (R343) -/

/-- A pair that disagrees is discarded: its counter, and the event (R343). -/
def State.discard (s : State) (count : Fld) : State := (s.bump count).mark F.CAL_EVENTS_DISCARD

/-- The absolute difference of two rationals. -/
def ratDist (a b : Rat) : Rat := if a ≤ b then b - a else a - b

/-! ### Trims of the sense channel (R344, R345) -/

/-- Mean of eight readings. -/
def mean8 (l : List Nat) : Rat := ((sumNat (l.take 8) : Nat) : Rat) / 8

/-- GAIN and OFS (in 100 µV) from one CHAR record of a trim; with equal means the quotient is open and a free value stands for it
(R344, notes/assumptions/5.md). -/
def State.trimOf (s : State) (t : Nat) (rec_ : List Nat) : (Rat × Rat) × State :=
  let lo : Rat := mean8 rec_
  let hi : Rat := mean8 (rec_.drop 8)
  let refLo : Rat := 10 * (s.rd (F.CAL_TRIM_REF_VREF_LO t) : Nat)
  let refHi : Rat := 10 * (s.rd (F.CAL_TRIM_REF_VREF_HI t) : Nat)
  let (v, s') := s.draw
  let (g, s) : Rat × State := if hi = lo then ((v : Rat) / 65536, s') else ((refHi - refLo) / (hi - lo), s)
  let (w, s'') := s.draw
  if g = 0 then ((g, (w : Rat)), s'') else ((g, lo - refLo / g), s)

/-- The two results of a trim are compared with TOL_TRIM, applied to GAIN and to OFS × GAIN (R343, R344, notes/assumptions/19.md). -/
def State.finishTrim (s : State) (t : Nat) (r1 r2 : List Nat) : State :=
  let (a, s) := s.trimOf t r1
  let (b, s) := s.trimOf t r2
  let tol : Rat := (s.rd F.CAL_TOL_TOL_TRIM : Nat) / 10000
  let full : Rat := 10 * (s.rd (F.CAL_TRIM_REF_VREF_HI t) : Nat)
  let cal : Cal := { s.cal with trims := s.cal.trims.set t none
                                trimTemp := s.cal.trimTemp.set t (some (s.rdS (F.LNK_TILESTAT_TEMP t))) }
  let s := { s with cal := cal }
  if ratDist a.1 b.1 ≤ tol && ratDist (a.1 * a.2) (b.1 * b.2) ≤ tol * full then
    let gain := roundRat ((a.1 + b.1) / 2 * 65536)
    let ofs := roundRat ((a.2 + b.2) / 2 * 100)
    ((s.wr (F.CAL_TRIM_GAIN_GAIN t) (ofSigned 32 (satSigned 32 gain))).wr (F.CAL_TRIM_OFS_OFS t) (ofSigned 32 (satSigned 32 ofs))).bump
      (F.CAL_TRIM_STAT_DONE t)
  else s.discard (F.CAL_TRIM_STAT_DISCARD t)

/-- A CHAR record of a trim (R344). -/
def State.takeTrim (s : State) (r : TrimRun) (vf : List Nat) : State :=
  match r.recs with
  | [first] => s.finishTrim r.tile first vf
  | _ => { s with cal := { s.cal with trims := s.cal.trims.set r.tile (some { r with recs := [vf] }) } }

/-- A forward voltage in 100 µV: (raw − OFS) × GAIN, both signed (R9, R344). -/
def State.trimmed (s : State) (t raw : Nat) : Rat :=
  ((raw : Rat) - (s.rdS (F.CAL_TRIM_OFS_OFS t) : Rat) / 100) * (s.rdS (F.CAL_TRIM_GAIN_GAIN t) : Rat) / 65536

/-- The trim of a tile is due: TRIM_S after its last one, or a temperature that has moved by more than 20 K (R345). -/
def State.trimDue (s : State) (t : Nat) : Bool :=
  let period := s.rd F.CAL_TRIMPER_TRIM_S
  let moved := match s.cal.trimTemp.getD t none with
    | some x => decide (320 < (s.rdS (F.LNK_TILESTAT_TEMP t) - x).natAbs)
    | none => false
  moved || (period ≠ 0 && (match s.cal.trimFrom.getD t none with | some e => s.since e (sec period) | none => true))

/-- Firmware starts a due trim in RUN; at a high load it is deferred (R345, R449). A requested one that waited for a CHAR record is sent first (R358). -/
def execTrimDue (t : Nat) (s : State) : Out :=
  if t < 4 && (s.port t).trimWait.isSome then .next (s.releaseTrim t)
  else if 4 ≤ t || s.sampling t || !s.on .mgmt || s.mode != .run || !s.portUp t || !s.trimDue t || !s.trimAllowed t || s.flag (F.LNK_CMD_BUSY t) then .next s
  else if s.dict.deferring then .next s.countDeferred
  else .next (s.sendCmd t 0x10 0 Config.trimCommand)

/-! ### Buck offsets (R346) -/

/-- Two readings that agree within 50 µV set an offset to their mean; others are discarded (R343, R346). -/
def State.setOffset (s : State) (f : Fld) (r : Int × Int) : State :=
  if (r.1 - r.2).natAbs ≤ 50 then s.wrS f (divRound (r.1 + r.2) 2) else s.mark F.CAL_EVENTS_DISCARD

/-- The offset trim of a channel: after 10 ms in STATE 0, and then every 1 s. The operands are the two readings, in µV, of CSP − CSN and of
IIP − IIN (R346). -/
def execBuckOffsetTrim (ch : Nat) (cs ii : Int × Int) (s : State) : Out :=
  let from_ := (s.buckN ch).offSince
  let due := match s.cal.offAt.getD ch none with
    | some t => if t < from_ then s.since from_ (msec 10) else s.since t (sec 1)
    | none => s.since from_ (msec 10)
  if 4 ≤ ch || !s.on .drv || s.rd (F.BUCK_STAT_STATE ch) ≠ 0 || !due then .next s
  else
    let s := { s with cal := { s.cal with offAt := s.cal.offAt.set ch (some s.now) } }
    .next ((s.setOffset (F.CAL_BOFS_CS ch) cs).setOffset (F.CAL_BOFS_II ch) ii)

/-! ### log2 (R350) -/

/-! ### From measurements to maps (R351–R355) -/

/-- Efficiency of a pixel from its voltages in 100 µV: η = 1 − KV × ΔV (R351). -/
def State.eta (s : State) (t : Nat) (base age : Nat) : Rat :=
  1 - (s.rd (F.CAL_AGE_KV t) : Rat) / 65536 * (((age : Int) - base : Int) : Rat) / 10

/-- The pixels of a tile that have both a baseline and an ageing value, with their η; every other pixel has η = 1 (notes/assumptions/21.md). -/
def State.etas (s : State) (t : Nat) : List (Nat × Rat) :=
  let age := s.cal.age.getD t []
  (s.cal.base.getD t []).filterMap fun p => (age.lookup p.1).map fun v => (p.1, s.eta t p.2 v)

/-- The dead pixels of a list of entries, by pixel index. -/
def deadOf (defs : List Nat) : List Nat := defs.map fun w => (defectOf w).key

/-- The median of a list with extra ones: the mean of the two middle values for an even number (R351, notes/assumptions/21.md). -/
def medianOf (l : List Rat) (ones : Nat) : Rat :=
  let below := (l.filter fun x => x < 1).mergeSort fun a b => a ≤ b
  let above := (l.filter fun x => !(x < 1)).mergeSort fun a b => a ≤ b
  let at_ : Nat → Rat := fun i =>
    if i < below.length then below.getD i 1
    else if i < below.length + ones then 1
    else above.getD (i - below.length - ones) 1
  let n := l.length + ones
  if n = 0 then 1 else (at_ ((n - 1) / 2) + at_ (n / 2)) / 2

/-- A_t (R351). -/
def medianEff (es : List (Nat × Rat)) (dead : List Nat) : Rat :=
  let alive := es.filter fun p => !dead.contains p.1
  medianOf (alive.map Prod.snd) (gainBytes - dead.length - alive.length)

/-- Pixels that become dead: an agreed voltage outside VF_MIN–VF_MAX, or η below EFF_MIN (R353). -/
def State.newDead (s : State) (t : Nat) (es : List (Nat × Rat)) : List Nat :=
  let lo := 10 * s.rd F.CAL_DEFLIM_VF_MIN
  let hi := 10 * s.rd F.CAL_DEFLIM_VF_MAX
  let lim : Rat := (s.rd F.CAL_EFFMIN_EFF_MIN : Nat) / 65536
  ((s.cal.age.getD t []).filter fun p => p.2 < lo || hi < p.2).map Prod.fst
    ++ (es.filter fun p => p.2 < lim).map Prod.fst

/-- The weights of n neighbours: 64 each for four, and for fewer raised together to a sum of 256 as far as 8 bits hold it; the first
neighbours take the remainder (R353, notes/assumptions/21.md). -/
def nbrWeights (n : Nat) : List Nat := (List.range n).map fun i => min 255 (256 / n + b2n (decide (i < 256 % n)))

/-- Firmware's entry for a dead pixel: its side neighbours that lie in the tile and the band and are alive (R353). -/
def deadEntry (dead : List Nat) (p : Nat) : Nat :=
  let d : Defect := { x := p % 1024, y := p / 1024, nbrs := [] }
  let ok := [1, 3, 4, 6].filter fun c =>
    let q := d.nbr c
    0 ≤ q.1 && q.1 ≤ 1023 && 0 ≤ q.2 && q.2 ≤ 511 && q.2 / 32 = (d.y : Int) / 32 && !dead.contains (1024 * q.2 + q.1).toNat
  let ws := nbrWeights ok.length
  let slot : Nat → Nat := fun i => (ok.getD i 0 + 8 * ws.getD i 0) * 2 ^ (19 + 11 * i)
  d.x + 2 ^ 10 * d.y + slot 0 + slot 1 + slot 2 + slot 3

/-- The defect entries with new dead pixels: an old entry is kept as it was written while its neighbours live (R353). -/
def mergeDefects (defs new : List Nat) : List Nat :=
  let fresh := (new.filter fun p => !(deadOf defs).contains p).eraseDups
  let dead := deadOf defs ++ fresh
  let old := defs.map fun w =>
    let d := defectOf w
    if d.nbrs.any fun n => fresh.contains (1024 * (d.nbr n.1).2 + (d.nbr n.1).1).toNat then deadEntry dead d.key else w
  (old ++ fresh.map (deadEntry dead)).mergeSort fun a b => (defectOf a).key ≤ (defectOf b).key

/-- A defect map that exceeds 65,536 entries or 256 in a row (R353). -/
def defectsFull (defs : List Nat) : Bool :=
  65536 < defs.length || (List.range 512).any fun y => 256 < (defs.filter fun w => (defectOf w).y = y).length

/-- The new gain entry before its limits, none where η is 0 (R352). -/
def gainEntry (g0 : Nat) (a eta : Rat) : Option Int :=
  if eta = 0 then none else some (roundRat (512 * ((384 + g0 : Nat) : Rat) / 512 * a / eta) - 384)

/-- The gain map of a tile and its pixels limited at 255 (R352); a quotient by 0 is open and takes a free value. -/
def State.gainPlan (s : State) (t : Nat) (es : List (Nat × Rat)) (a : Rat) (open_ : Nat) : List (Nat × Nat) × Nat :=
  let g0 := s.cal.g0.getD t []
  let vs := (List.range gainBytes).map fun i =>
    (gainEntry (Sparse.get (fun _ => 128) g0 i) a ((es.lookup i).getD 1)).getD (open_ % 256 : Nat)
  let entries := vs.mapIdx fun i v => (i, (clampInt 0 255 v).toNat)
  (entries.filter fun e => e.2 ≠ 128, (vs.filter fun v => 255 < v).length)

/-- SCALE, signed as every Q format (R9), and the photometric headroom of a tile (R354). -/
def State.photometry (s : State) (t : Nat) (a : Rat) : State :=
  let (v, s') := s.draw
  let s := if a = 0 then s'.setN (R.CAL_PHOT t) v else s.wrS (F.CAL_PHOT_SCALE t) (roundRat (65536 / a))
  let need := s.rd (F.CAL_HEAD_INEED0 t)
  if need = 0 then s
  else
    let ilim := if s.on .drv then s.app (F.BUCK_ILIM_ILIM t) else bitsOf (s.keptWord (R.BUCK_ILIM t)).toNat 13 0
    let h : Rat := (ilim : Rat) * a / (need : Rat) - 1
    let s := s.wrS (F.CAL_HEAD_HEAD t) (roundRat (1000 * h))
    s.raiseIf (decide (h < (s.rd F.CAL_EFFMIN_HEAD_WARN : Rat) / 65536)) (Src.CAL_HEADROOM t)

/-- The Husk pattern is stale when A_t has moved by more than 5 % (R355). -/
def State.huskStale (s : State) (t : Nat) (a : Rat) : State :=
  match s.cal.huskA.getD t none with
  | some k =>
    let k : Rat := (k : Rat) / 65536
    if k < 20 * ratDist a k then s.mark F.CAL_EVENTS_HUSK_STALE else s
  | none => s

/-- Firmware plans a tile's maps anew (R351–R355). -/
def State.replan (s : State) (t : Nat) : State :=
  let es := s.etas t
  let old := s.cal.defs.getD t []
  let new := mergeDefects old (s.newDead t es)
  let full := defectsFull new
  let defs := if full then old else new
  let s := if full then (s.mark (F.CAL_MAP_STAT_FULL t)).raise (Src.CAL_DEFFULL t) else s
  let a := medianEff es (deadOf defs)
  let (v, s') := s.draw
  let s := if es.any fun p => p.2 = 0 then s' else s
  let (g, sat) := s.gainPlan t es a v
  let s := (s.wr (F.CAL_EFF_MEDIAN t) (min 65535 (roundRat (65536 * a)).toNat)).wr (F.CAL_AGE_SAT t) sat
  let s := { s with cal := { s.cal with defs := s.cal.defs.set t defs } }
  let s := if defs = old then s else s.storeDefects t defs
  ((s.stageMaps t g defs).photometry t a).huskStale t a

/-- The maps of a tile are planned anew, unless the load defers it: that start counts once, and the plan follows when the load has fallen (R351, R449). -/
def State.planTile (s : State) (t : Nat) : State :=
  if s.dict.deferring then { s with cal := { s.cal with planDue := s.cal.planDue.set t true } }.countDeferred
  else { s with cal := { s.cal with planDue := s.cal.planDue.set t false } }.replan t

/-- The plans that the load has deferred resume (R449). -/
def State.resumePlans (s : State) : State :=
  (List.range 4).foldl (fun s t => if s.cal.planDue.getD t false then s.planTile t else s) s

/-- No sweep of a tile has ended, or the CHAR record of its last batch may still come. -/
def State.sweepOpen (s : State) (t : Nat) : Bool := s.sampling t || !s.cal.swept.getD t false

/-- A sweep whose last batch has been named is complete once its last CHAR record has come or is lost: the ageing map that reads give is that of this
sweep, it is stored, and the maps are planned (R349, R351, R439). -/
def State.planSwept (s : State) (t : Nat) : State :=
  if s.sweepOpen t then s
  else
    let age := s.cal.age.getD t []
    let c : Cal := { s.cal with swept := s.cal.swept.set t false, ageDone := s.cal.ageDone.set t age }
    (({ s with cal := c }.bump (F.CAL_EFF_SWEEPS t)).storeVoltage 4 t age).planTile t

/-! ### Sparse characterization (R244, R349, R350) -/

/-- The 16 pixels of a batch, x and y (R347). -/
def batchPixels (b : Nat) : List (Nat × Nat) := (List.range 16).map fun j => (64 * j + b % 64, b / 64 % 512)

/-- The batches of one pass. -/
def batches : Nat := 32768

/-- The index of a pixel. -/
def pixelIndex (p : Nat × Nat) : Nat := 1024 * p.2 + p.1

/-- The payload of a SAMPLE: indices of 20 bits from bit 0 (R258). -/
def samplePayload (ps : List (Nat × Nat)) : List Byte :=
  leBytes 40 ((List.range ps.length).foldl (fun w i => w + pixelIndex (ps.getD i (0, 0)) * 2 ^ (20 * i)) 0)

/-- The link sends a SAMPLE on a port for pixels with the codes that they were sending (R258, R349). -/
def State.sendSample (s : State) (p : Nat) (ps : List (Nat × Nat)) (codes : List Nat) : State :=
  let tag := (s.port p).sampleTag
  let s := (s.emit (.tileCmd p 0x20 tag (ps.length - 1) (samplePayload ps))).sendBlocks p (cmdBlocks 0x20 tag (ps.length - 1) (samplePayload ps))
  s.modPort p fun l => { l with sample := some { tag := tag, pixels := ps, codes := codes, since := s.now }
                                sampleTag := (tag + 1) % 256, sampleAt := some s.now }

/-- Firmware supplies a tile's list: sparse characterization is on, and no load defers a refill (R349, R449). -/
def State.listReady (s : State) : Bool := s.on .mgmt && s.flag F.CAL_CTRL_SPARSE_EN && !s.dict.deferring

/-- At each refresh start the pixels of the coming slot are watched (R349). -/
def State.watchBatch (s : State) (p : Nat) : State :=
  let b := (s.cal.batch.getD p (0, false)).1
  let ps := if s.listReady then batchPixels b else []
  s.modPort p fun l => { l with watch := ps.map fun q => (q.1, q.2, none) }

/-- The list of a tile moves on: each batch is named twice; after the last one the sweep ends (R349). -/
def State.nextBatch (s : State) (p : Nat) : State :=
  let q := s.cal.batch.getD p (0, false)
  let b := if q.2 then ((q.1 + 1) % batches, false) else (q.1, true)
  let swept := q.2 && q.1 + 1 = batches
  let c : Cal := { s.cal with batch := s.cal.batch.set p b, first := if q.2 then s.cal.first else s.cal.first.set p [] }
  { s with cal := { c with swept := if swept then c.swept.set p true else c.swept } }

/-- The characterization slot of one port: a request, or a skip (R244). DESIGN CHOICE (notes/assumptions/49.md): a request that the link cannot send, on a port
lost since its rows or with a SAMPLE in flight (R258), counts as skipped. -/
def State.charPort (s : State) (p : Nat) : State :=
  let s := (if s.sampling p then s else s.releaseTrim p).planSwept p
  let list := s.listReady && !(s.port p).watch.isEmpty
  let skip := bitAt s.scn.under p || !bitAt s.scn.sent p || !list || !s.on (portDom p) || !s.portUp p || s.sampling p
  let s := if s.flag F.CAL_CTRL_SPARSE_EN && s.dict.deferring then s.countDeferred else s
  let s := if skip then s.bump F.SCN_CHARSTAT_SKIPPED
    else
      let w := (s.port p).watch
      (s.sendSample p (w.map fun q => (q.1, q.2.1)) (w.map fun q => q.2.2.getD 0)).bump F.SCN_CHARSTAT_SENT
  if list then s.nextBatch p else s

/-- At BLANK_START + 1,000 cycles of every refresh, while CHAR_EN acts (R244). -/
def execCharSlot (s : State) : Out :=
  if !s.cf.charDue || s.now < s.blankTime + 1000 then .next s else
  let t := if s.on .scn && bitAt s.scn.ctrl 2 then (List.range 4).foldl State.charPort s else s
  .next { t with cf := { t.cf with charDue := false } }

/-- A normalized forward voltage in 100 µV, none for a code below MINCODE; a pixel at code 0 is not lit, and keeps its last value whatever MINCODE says
(R350). -/
def State.normalized (s : State) (t raw code : Nat) : Option Rat :=
  if code < s.rd F.CAL_SPARSE_MINCODE || code = 0 then none
  else some (s.trimmed t raw - (s.rd (F.CAL_SLOPE_SLOPE t) : Nat) * (log2Of code - log2Of (s.rd F.CAL_SPARSE_REFCODE)))

/-- The normalized readings of a sample. -/
def State.normalizeAll (s : State) (t : Nat) (vf codes : List Nat) : List (Option Rat) :=
  (List.range 16).map fun j => s.normalized t (vf.getD j 0) (codes.getD j 0)

/-- An agreed value of a pixel: the mean of the two, rounded, in 16 bits. -/
def agreedValue (a b : Rat) : Nat := min 65535 (roundRat ((a + b) / 2)).toNat

/-- What a voltage map reads at a pixel that has no value: none of 16 bits. -/
def noVoltage (_ : Nat) : Nat := 65536

/-- One pixel of a pair: it enters the ageing map, or the pair is discarded (R343, R350). -/
def State.pairUp (s : State) (t pixel : Nat) (a b : Option Rat) : State :=
  match a, b with
  | some a, some b =>
    if ratDist a b ≤ (s.rd F.CAL_TOL_TOL_VF : Nat) then
      { s with cal := { s.cal with age := s.cal.age.modify t fun m => Sparse.set noVoltage m pixel (agreedValue a b) } }
    else s.discard (F.CAL_SLOPE_DISCARD t)
  | _, _ => s

/-- A CHAR record of a sparse sample: the first of its pair is kept, the second is compared (R349, R350). -/
def State.takeSparse (s : State) (p : Nat) (q : SampleReq) (vf : List Nat) : State :=
  let r := s.normalizeAll p vf q.codes
  if (s.cal.batch.getD p (0, false)).2 then { s with cal := { s.cal with first := s.cal.first.set p r } }
  else
    let old := s.cal.first.getD p []
    let s := (List.range q.pixels.length).foldl (fun s j =>
      s.pairUp p (pixelIndex (q.pixels.getD j (0, 0))) (old.getD j none) (r.getD j none)) s
    { s with cal := { s.cal with first := s.cal.first.set p [] } }

/-! ### Full characterization (R347, R348, R375) -/

/-- The length of a batch slot. -/
def batchSlot : Nat := 87890

/-- A characterization may start: STANDBY without lamp demand, the island running, and none started before (R347). -/
def State.fullAllowed (s : State) : Bool :=
  s.mode == .standby && !s.demand && s.islandUp && s.cal.full.isNone && s.cal.fullDue.isNone

/-- The domains that a characterization of a tile needs (R347 step 1). -/
def fullDoms (t : Nat) : List Dom := [.scn, portDom t, .drv]

/-- Its domains are on and the port of its tile is up. -/
def State.fullReady (s : State) (t : Nat) : Bool := (fullDoms t).all s.on && s.portUp t

/-- The channel of the tile runs at CAL_FULLMA.MA (R347 step 3). -/
def State.fullChannel (s : State) (t : Nat) : State :=
  let s := (s.wr (F.BUCK_REF_REF t) (s.rd F.CAL_FULLMA_MA)).wr (F.BUCK_REF_SRC t) 0
  (s.armNext (.buck t)).buckEn t true

/-- A characterization begins (R347, R375). Firmware releases BUCK and SW for it (R97). -/
def State.beginFull (s : State) (t code : Nat) (base : Bool) : State :=
  let run : FullRun := { tile := t, base := base, code := code, since := s.now }
  let s := ({ s with cal := { s.cal with full := some run } }.setN R.CAL_FULLSTAT 1).modPort t fun l => { l with glean := [] }
  (((s.releasePads 0x220#32).guardOn t code).fullChannel t).syncPads

/-- START: the run begins, or firmware first powers its domains through PWR_DOMCTL, and it begins with them (R347 step 1). -/
def State.startFull (s : State) (t code : Nat) (base : Bool) : State :=
  let s := (fullDoms t).foldl (fun s d => s.setBitF ⟨R.PWR_DOMCTL, 31, 0⟩ d.num true) s
  if s.fullReady t then s.beginFull t code base
  else { s with cal := { s.cal with fullDue := some (t, code, base) } }.wr F.CAL_FULLSTAT_RESULT 0

/-- A write to CAL_FULLCTL: START and ABORT (R347, R348); one with CODE out of its range changes nothing (R42). -/
def State.writeFullctl (s : State) (data : Word) : State :=
  if bitsOf data.toNat 27 16 = 0 then s else
  let s := s.store R.CAL_FULLCTL data
  let s := if bitAt data.toNat 3 then s.endFull 3 else s
  if bitAt data.toNat 2 then
    let t := s.rd F.CAL_FULLCTL_TILE
    let code := s.rd F.CAL_FULLCTL_CODE
    if s.fullAllowed then s.startFull t code (s.flag F.CAL_FULLCTL_BASE)
    else if s.cal.full.isSome || s.cal.fullDue.isSome then s
    else s.wr F.CAL_FULLSTAT_RESULT 2
  else s

def execFullcharStart (m : Master) (data : Word) (s : State) : Out :=
  s.withBus m R.CAL_FULLCTL data fun s => s.writeFullctl data

def execFullcharAbort (m : Master) (data : Word) (s : State) : Out :=
  s.withBus m R.CAL_FULLCTL data fun s => s.writeFullctl data

/-- One row of a characterization leaves on its port: 12-bit codes, outside any refresh. -/
def State.charRow (s : State) (p y : Nat) (codes : List Nat) : State :=
  let ref := s.regN R.SCN_REFCNT % 256
  let head := rowHead y 0 0 ref (s.cf.cur.getD 0) (y / 32) (b2n (y = 511))
  let s := (s.emit (.tileRow p 0 head codes 12 (rowCrc head 12 codes))).bump (F.LNK_ROWCNT_ROWS p)
  (s.sendBlocks p (rowBlocks head 12 codes ++ if (s.lanesOf p).length = 2 then [] else [commaBlock])).gleanTake p y 12 codes []

/-- Batch b of a pass is lit: its row carries CODE at its pixels, the row before goes dark, and a SAMPLE is sent (R347 step 4). The Glean receivers begin
the record of the slot (R375, notes/assumptions/22.md). -/
def State.lightBatch (s : State) (r : FullRun) (b : Nat) : State :=
  let ps := batchPixels b
  let y := b / 64 % 512
  let s := s.modPort r.tile fun l => { l with glean := [] }
  let s := if b % 64 = 0 && r.batch ≠ 0 then s.charRow r.tile ((y + 511) % 512) (List.replicate 1024 0) else s
  let s := s.charRow r.tile y ((List.range 1024).map fun x => if x % 64 = b % 64 then r.code else 0)
  let s := (s.sendSample r.tile ps (List.replicate 16 r.code)).wr F.CAL_FULLSTAT_BATCH r.batch
  { s with cal := { s.cal with full := some { r with batch := r.batch + 1, lit := some r.batch } } }

/-- The agreed values laid over a map (R343, R348). -/
def overlay (old new : List (Nat × Nat)) : List (Nat × Nat) := new.foldl (fun m p => Sparse.set noVoltage m p.1 p.2) old

/-- The run completes after pass 2: the ageing map, the baseline with BASE, the slope, which the manual fits by no stated rule, and the
maps (R347, R348, R350, R351). -/
def State.completeFull (s : State) (r : FullRun) : State :=
  let s := s.endFull 1
  let age := overlay (s.cal.age.getD r.tile []) r.agreed
  let s := { s with cal := { s.cal with age := s.cal.age.set r.tile age, ageDone := s.cal.ageDone.set r.tile age } }
  let s := s.storeVoltage 4 r.tile age
  let s := if r.base then
      let b := overlay (s.cal.base.getD r.tile []) r.agreed
      { s with cal := { s.cal with base := s.cal.base.set r.tile b } }.storeVoltage 3 r.tile b
    else s
  let (v, s) := s.draw
  (s.wr (F.CAL_SLOPE_SLOPE r.tile) (v % 65536)).planTile r.tile

/-- A batch slot begins, one slot after the start or the slot before; after the last one the run is complete (R347). A run that waits for its domains
begins once they are on; a run that has lost STANDBY or a domain ends as an abort. -/
def execFullcharBatch (s : State) : Out :=
  match s.cal.full with
  | none =>
    match s.cal.fullDue with
    | some (t, code, base) =>
      .next (if s.mode != .standby || s.demand || !s.islandUp then s.endFull 3
        else if s.fullReady t then { s with cal := { s.cal with fullDue := none } }.beginFull t code base else s)
    | none => .next s
  | some r =>
    .next (if s.mode != .standby || !(fullDoms r.tile).all s.on then s.endFull 3
      else if !s.since r.since ((r.batch + 1) * batchSlot) then s
      else if 2 * batches ≤ r.batch then s.completeFull r
      else s.lightBatch r (r.batch % batches))

/-- A CHAR record of the run: pass 1 is kept, pass 2 is compared (R343, R347). -/
def State.takeFull (s : State) (r : FullRun) (q : SampleReq) (vf : List Nat) : State :=
  match r.lit with
  | none => s
  | some b =>
    let vs := (List.range q.pixels.length).map fun j =>
      (pixelIndex (q.pixels.getD j (0, 0)), s.trimmed r.tile (vf.getD j 0))
    let put : State → FullRun → State := fun s r => { s with cal := { s.cal with full := some { r with lit := none } } }
    if b < batches then put s { r with pass1 := r.pass1 ++ vs }
    else
      let tol : Rat := (s.rd F.CAL_TOL_TOL_VF : Nat)
      let good := vs.filterMap fun v => match r.pass1.lookup v.1 with
        | some a => if ratDist a v.2 ≤ tol then some (v.1, agreedValue a v.2) else none
        | none => none
      let bad := vs.filter fun v => match r.pass1.lookup v.1 with
        | some a => tol < ratDist a v.2
        | none => false
      let s := bad.foldl (fun s _ => s.discard (F.CAL_SLOPE_DISCARD r.tile)) s
      put s { r with agreed := r.agreed ++ good }

/-! ### CHAR records (R261, R344, R350) -/

/-- A CHAR record that answers no SAMPLE belongs to a trim in progress. -/
def State.trimRecord (s : State) (p : Nat) (vf : List Nat) : State :=
  match s.cal.trims.getD p none with
  | some r => if s.now < r.since + usec 1400 then s.takeTrim r vf else s
  | none => s

/-- A CHAR record: of the SAMPLE in flight, by its TAG, and a requested trim that waited for it is sent (R358); else of a trim. -/
def State.takeChar (s : State) (p tag : Nat) (vf : List Nat) : State :=
  match (s.port p).sample with
  | some q =>
    if q.tag = tag then
      let s := s.modPort p fun l => { l with sample := none }
      (match s.cal.full with
      | some r => if r.tile = p then s.takeFull r q vf else s.takeSparse p q vf
      | none => s.takeSparse p q vf).releaseTrim p
    else s.trimRecord p vf
  | none => s.trimRecord p vf

def execCharRecord (p : Nat) (full : Bool) (before record : List LineBlock) (s : State) : Out :=
  .next (s.takeRecord p 3 ⟨before ++ record, full⟩ fun r s => if s.on .mgmt then s.takeChar p r.tag r.voltages else s)

/-! ### Core supply (R356, R357) -/

/-- A monitor has been read in the last 100 ms (R356, CAL_MONk.VALID). -/
def State.monValid (s : State) (k : Nat) : Bool :=
  match s.cal.monAt.getD k none with
  | some t => s.now ≤ t + msec 100
  | none => false

/-- A replica below 3 % raises CORE_TIMING in hardware, whatever firmware does (R356). Monitors 16–23 are the replicas. -/
def State.coreTiming (s : State) (slack : List (Nat × Nat)) : State :=
  s.raiseIf (slack.any fun k => 16 ≤ k.1 && k.1 < 24 && k.2 < 30) Src.CORE_TIMING

/-- A reading of the slack monitors in their registers, with the one of least slack (R356). -/
def State.readMonitors (s : State) (slack : List (Nat × Nat)) : State :=
  let s := slack.foldl (fun s k =>
    if 24 ≤ k.1 then s else
    let s := (s.wr (F.CAL_MON_SLACK k.1) (satNat 10 k.2)).wr (F.CAL_MON_VALID k.1) 1
    { s with cal := { s.cal with monAt := s.cal.monAt.set k.1 (some s.now) } }) s
  match (List.range 24).filter s.monValid with
  | [] => s
  | k :: ks =>
    let w := ks.foldl (fun b k => if s.rd (F.CAL_MON_SLACK k) < s.rd (F.CAL_MON_SLACK b) then k else b) k
    let s := s.wr F.CAL_AVSSTAT_WORST w
    { s with cal := { s.cal with worsts := (s.rd (F.CAL_MON_SLACK w) :: s.cal.worsts).take 2 } }

/-- Every 100 ms (R356). -/
def execMonitorRead (slack : List (Nat × Nat)) (s : State) : Out :=
  .next (if s.mode == .dormant then s else s.periodic .monitors (msec 100) fun s =>
    let s := s.coreTiming slack
    if s.on .mgmt then s.readMonitors slack else s)

/-- The setpoint of VDD_CORE with its duty at AVS_PWM (R54, R357). -/
def State.setCore (s : State) (mv : Nat) : State :=
  let duty := divRoundNat ((mv - 720) * 256) 160
  { ((s.wr F.CAL_AVSSTAT_SETPT mv).wr F.CAL_AVSSTAT_REMAIN (880 - mv)).emit (.avsPwm duty) with cal := { s.cal with avs := some duty } }

/-- The plan is stored when it has moved by 20 mV or more since the last stored one (R357). -/
def State.storePlan (s : State) : State :=
  let mv := s.rd F.CAL_AVSSTAT_SETPT
  if 20 ≤ max mv s.cal.stored - min mv s.cal.stored && !s.flash.jobs.any (fun j => j.kind == .plan mv) then
    s.queueStore (.plan mv) 0x50 (planPayload mv)
  else s

/-- One plan from an agreed slack S, in twice 0.1 % (R357). -/
def State.planCore (s : State) (twice : Nat) : State :=
  let tgt := 2 * s.rd F.CAL_AVS_SL_TGT
  let mv := s.rd F.CAL_AVSSTAT_SETPT
  let above := if tgt + 80 < twice then min 10 (s.cal.above + 1) else 0
  let s := { s with cal := { s.cal with above := above } }
  let new := if twice < tgt then min 880 (mv + 10) else if above = 10 then max 720 (mv - 10) else mv
  let s := if new = mv then s else s.setCore new
  (s.raiseIf (870 ≤ new && twice < tgt) Src.AVS_MARGIN).storePlan

/-- Once per second firmware plans VDD_CORE from two consecutive readings that agree (R343, R357), from the first setpoint on that its
start sets. A plan moves the setpoint by 10 mV at most (R54). -/
def execAvsPlan (s : State) : Out :=
  if !s.firmwareUp || s.cal.avs.isNone || !s.flag F.CAL_CTRL_AVS_EN || !s.dueSince s.cal.planAt (sec 1) then .next s else
  let s := { s with cal := { s.cal with planAt := some s.now } }
  match s.cal.worsts with
  | [a, b] =>
    .next (if max a b - min a b ≤ s.rd F.CAL_TOL_TOL_AVS then s.planCore (a + b) else s.mark F.CAL_EVENTS_DISCARD)
  | _ => .next s

/-! ### Loading in step 9 of PREPARE (R102, R342, R357) -/

/-- The maps of one tile from flash: commissioning gain, defects, baseline, ageing; then the maps in force are planned. -/
def State.loadTile (s : State) (t : Nat) : State :=
  let (s, g) := s.loadMap (0x10 + t)
  let (s, d) := s.loadMap (0x20 + t)
  let (s, b) := s.loadMap (0x30 + t)
  let (s, a) := s.loadMap (0x40 + t)
  let c : Cal := { s.cal with
    g0 := s.cal.g0.set t (match g with | some bs => gainFrom bs | none => [])
    defs := s.cal.defs.set t (match d with | some bs => defectsFrom bs | none => [])
    base := s.cal.base.set t (match b with | some bs => voltageFrom bs | none => [])
    age := s.cal.age.set t (match a with | some bs => voltageFrom bs | none => [])
    ageDone := s.cal.ageDone.set t (match a with | some bs => voltageFrom bs | none => []) }
  let s := { s with cal := c }
  if g.isSome || d.isSome then s.replan t else s

/-- The stored core supply plan, or 800 mV (R357). -/
def State.loadPlan (s : State) : State :=
  let (s, p) := s.loadMap 0x50
  let mv := match p with
    | some bs => min 880 (max 720 (ofLeBytes (bs.take 4)))
    | none => 800
  let s := s.setCore mv
  { s with cal := { s.cal with stored := mv } }

/-- Firmware loads the stores of calibration when it starts. -/
def State.loadStores (s : State) : State := ((List.range 4).foldl State.loadTile s).loadPlan

/-! ### Switch tests keep away from samples (R312) -/

def execSwTestDue (s : State) : Out := .next (if s.on .safe then s.testDue fun p => (s.port p).sampleAt else s)

end Sys2Proof.Machine
end

