-- ==== Sys2Proof/Machine/Frames.lean ====
section
/-!
DEFINITION. Boundaries, refreshes and band slots (R31–R33): the sheaf at its boundary, the retime hold (R168, R170, R273, R477), the frame
record (R45, R443) and the groups that a refresh start applies (R47).
-/

namespace Sys2Proof.Machine

/-! ### The frame record (R45, R443) -/

/-- The registers of the record in the order of R443, after its first 16 bytes. -/
def recordRegs : List Nat :=
  [R.SCN_REFCNT, R.SCN_UNDCNT, R.SCN_CLAMPCNT, R.SCN_CHARSTAT,
   R.LAY_SHEAFCNT, R.LAY_SQUASH, R.LAY_NOTRDY0, R.LAY_NOTRDY1, R.LAY_STALESTAT,
   R.CMP_SIGCNT, R.CMP_SIGRESULT, R.CMP_SIGRB, R.CMP_SIGSKIP,
   R.GME_LISTSEQ, R.GME_FAULT, R.GME_CNT0]
  ++ (List.range 4).map R.LNK_ECHOCNT ++ (List.range 4).map R.LNK_ROWCNT
  ++ [R.VIN_OLCNT, R.VIN_OLCNT2, R.SAF_VIOLCNT, R.SAF_UNCHK]

/-- The record of boundary m: counters as they stand before the boundary, the mode and the tag as it leaves them. -/
def frameRecord (before after : State) (m : Nat) : List Byte :=
  leBytes 4 m ++ leBytes 1 after.tm ++ leBytes 1 before.mode.num ++ leBytes 2 (after.rd F.LAY_SHEAFSTAT_APPLIED_TAG)
  ++ leBytes 8 before.localTime ++ recordRegs.flatMap (fun r => leBytes 4 (before.regN r))
  ++ leBytes 4 before.brmSummary ++ leBytes 4 (before.regN R.SCN_ECC) ++ leBytes 8 (before.get64 R.ENG_ECYC_LO R.ENG_ECYC_HI)

/-- The copy of a new record begins; without scan-out no record is made (R444). -/
def State.beginRecord (s before : State) (m : Nat) : State :=
  if s.on .scn && s.on .mgmt then
    { s with recs := { s.recs with copying := frameRecord before s m }, cf := { s.cf with recordAt := some s.now } }
  else s

/-- The copy is complete: the new record replaces the old one as a whole (R45). -/
def execFrameRecordSwitch (s : State) : Out :=
  match s.cf.recordAt with
  | none => .next s
  | some _ =>
    let r : Records := { newest := s.recs.copying, previous := s.recs.newest, copying := [] }
    .next { s with recs := r, cf := { s.cf with recordAt := none } }

/-! ### The boundary (R31, R151, R168, R170, R273) -/

/-- Frame m is shown: the composer releases its video buffers (R122, R160). -/
def State.showFrame (s : State) : State :=
  let s := if s.comp.frames.isEmpty then s.startFrame else s
  match s.comp.frames with
  | [] => s
  | f :: rest => (({ s with comp := { s.comp with shown := some f, frames := rest } }.release f.claims).showStale f).showComp

/-- A withdrawal or a return that falls due at boundary m (R217, R218). -/
def Glare.at_ (g : Glare) (m : Nat) : Glare :=
  match g with
  | .withdrawing b => if b ≤ m then .withdrawn b else g
  | .returning _ b => if b ≤ m then .shown else g
  | .shown => g
  | .withdrawn _ => g

/-- The glare function and the beam command at boundary m. -/
def State.glareBoundary (s : State) (m : Nat) : State :=
  { s with gme := { s.gme with glare := s.gme.glare.at_ m }, net := { s.net with hb := s.net.hb.at_ m } }

/-- The first boundary whose frame is completely filled: rows from now on; its band 0 was latched without one (R245). -/
def State.firstRows (s : State) (m : Nat) : State :=
  if s.on .scn && !s.scn.rows && s.filledWhole m then
    { s with scn := { s.scn with rows := true, held := none } }.firstRow s.cf.start 0 ((s.scn.held.map Prod.fst).getD true) { filled := 0, ecc := [] }
  else s

/-- Boundary m begins its CF at time t: squashes are counted, frame m is shown, signatures are compared, a record is begun. -/
def State.enterCf (s before : State) (m t : Nat) : State :=
  let cf : Cf := { s.cf with next := some (m + 1, t + cfLen s.tm), cur := some m, start := t, refDue := some (t, 0), hold := none }
  let s := { s with cf := cf }.countSquashes m
  let s := ((s.showFrame.capBoundary m).compareSigs m).glareBoundary m
  (s.firstRows m).beginRecord before m

/-- A retime hold begins at boundary n: the tiles keep their last data, and the renders of the held refresh are discarded (R168, R169,
R477). -/
def State.beginHold (s : State) (n t len : Nat) : State :=
  let e := t + len
  let cf : Cf := { s.cf with next := some (n + 1, e + cfLen s.tm), cur := some n, refDue := none, band := none, row := none
                             blank := false, charDue := false, snap := some (0, e), latch := some (0, e)
                             hold := some { until_ := e, cf := n } }
  let g : Gme := { s.gme with renders := s.gme.renders.filter (fun r => r.ref < t)
                              zoneAcc := s.gme.zoneAcc.filter (fun p => p.ref < t) }
  let s := { s with cf := cf, gme := g }
  if s.on .scn then s.wr F.SCN_STAT_BAND 16 else s

/-- The sheaf at boundary n: applied, or refused where its mode needs a lane that a port has lost (R151, R170, R273). -/
def State.sheafAt (s : State) (n : Nat) : State :=
  if !s.armedFor n then s
  else if 2 ≤ s.rd F.LAY_TIMING_TM && (s.oneLane || s.cf.fallback) then s.refuseAtBoundary n
  else { s.applySheaf with cf := { s.applySheaf.cf with fallback := false } }

/-- The TM2 fallback: the applied mode becomes TM1, the shadow stays (R273). -/
def State.fallBack (s : State) : State :=
  if s.cf.fallback && s.tm = 2 then
    { s.setApp R.LAY_TIMING (setBits (s.appReg R.LAY_TIMING) 1 0 1) with cf := { s.cf with fallback := false } }
  else { s with cf := { s.cf with fallback := false } }

/-- Boundary n at time t. -/
def State.boundary (s : State) (n t : Nat) : State :=
  let old := s.tm
  let u := (s.sheafAt n).fallBack
  if u.tm = old then u.enterCf s n t else u.beginHold n t (holdLen old u.tm)

def execBoundary (s : State) : Out :=
  match s.cf.next with
  | none => .next s
  | some (n, t) => .next (if s.on .cmp && t ≤ s.now then s.boundary n t else s)

/-- Scan-out after a retime hold: row 0 of a band 0 that was latched inside it is computed now; without rows BAND is 17 again (R231, R245). -/
def State.scanAfterHold (s : State) (ref : Nat) : State :=
  if !s.on .scn then s
  else if !s.scn.rows then s.wr F.SCN_STAT_BAND 17
  else match s.scn.held with
    | some (ready, x) => { s with scn := { s.scn with held := none } }.firstRow ref 0 ready x
    | none => s

/-- The hold ends: boundary and first refresh of the new mode; a lane lost during a hold into TM2 gives TM1 without a second hold
(R168, R279). -/
def execRetimeHoldEnd (s : State) : Out :=
  match s.cf.hold with
  | none => .next s
  | some h => .next (if s.on .cmp && h.until_ ≤ s.now then (s.fallBack.enterCf s h.cf h.until_).scanAfterHold h.until_ else s)

/-! ### Refreshes (R32) -/

/-- What the refresh that has just ended leaves to do: zone records, the CRC of the maps read, ports that were sent no rows (R221, R268,
R340). -/
def State.endRefresh (s : State) : State :=
  if s.cf.refStart = 0 then s else
  let s := if s.on .gme then s.publishZones s.cf.refStart else s
  let s := if s.on .mgmt && s.on .scn then (List.range 4).foldl State.compareMap s else s
  (List.range 4).foldl (fun s p =>
    if s.on (portDom p) && ((s.port p).tallyFor (s.regN R.SCN_REFCNT % 256)).rows = 0 then s.wr (F.LNK_STATE_FULLREF p) 0 else s) s

/-- A port at a refresh start: new accumulators of the Glean receivers, rows from an ACTIVE port, the width of TM3 (R265, R272, R277). -/
def State.portRefresh (s : State) (p : Nat) : State :=
  if !s.on (portDom p) then s else
  let s := if s.tm ≠ 3 then s.wr (F.LNK_STATE_WIDTH12 p) 0 else s
  (s.modPort p fun l => { l with glean := [], laneChg := false, fresh := false }).watchBatch p

/-- Groups whose application point is a refresh start; a projection model waits for its band-0 snapshot (R47, R209, R276, R340). -/
def State.refreshGroups (s : State) (t : Nat) : State :=
  (List.range 4).foldl (fun (s : State) p =>
    let proj := match s.armedAt.lookup (R.GME_PM_GEN p) with
      | some a => decide (a + 138000 ≤ t)
      | none => false
    let s := if s.on .gme && proj then s.applyGroup (.proj p) else s
    let s := if s.on .mgmt then s.applyMap p else s
    if s.on (portDom p) then s.applyGroup (.glean p) else s) s

/-- SCN_STAT and SCN_CTRL at a refresh start; SCN_CTRL acts from there on, on the rows of band 0 too (R246). The echoes of a refresh count
from 0 (R262). -/
def State.scanRefresh (s : State) (r : Nat) : State :=
  let s := (s.keepChar.bump F.SCN_REFCNT_COUNT).wr F.SCN_STAT_TM s.tm
  let s := (s.wr F.SCN_STAT_REFRESH r).wr F.SCN_STAT_SHOW (s.cf.cur.getD 0 % 2)
  let ref := s.regN R.SCN_REFCNT % 256
  { s with link := s.link.map fun l => { l with tally := l.tally.filter fun t => t.refresh != ref }
           scn := { s.scn with ctrl := s.regN R.SCN_CTRL % 8, bandCtrl := s.regN R.SCN_CTRL % 8, sent := 0 } }

/-- Refresh r of the CF starts at time t. -/
def State.startRefresh (s : State) (t r : Nat) : State :=
  let s := s.endRefresh
  let due := if r + 1 < refreshesOf s.tm then some (t + refreshLen s.tm r, r + 1) else none
  let cf : Cf := { s.cf with refresh := r, refStart := t, refDue := due, band := some 0, row := none, blank := true, charDue := true }
  let s := { s with cf := cf }
  let s := if s.on .scn then s.scanRefresh r else s
  ((List.range 4).foldl State.portRefresh (s.refreshGroups t)).islandRefresh

def execRefreshStart (s : State) : Out :=
  match s.cf.refDue with
  | none => .next s
  | some (t, r) => .next (if s.on .cmp && t ≤ s.now then s.startRefresh t r else s)

/-- Band slot k begins (R32), with the prefetch of the next band's maps (R239): the echoes of the bands before fall due at its end (R262). -/
def State.startBand (s : State) (k : Nat) : State :=
  let slotEnd := if k < 15 then s.bandStart s.cf.refStart (k + 1) else s.cf.refStart + refreshLen s.tm s.cf.refresh
  let s := { s with cf := { s.cf with band := if k < 15 then some (k + 1) else none, row := some (k, 0) } }
  let s := if s.on .scn && s.scn.rows then s.wr F.SCN_STAT_BAND k else s
  let s := if s.on .scn && k < 15 then s.prefetch (k + 1) else s
  s.setEchoDue k slotEnd

def execBandSlotStart (s : State) : Out :=
  match s.cf.band with
  | none => .next s
  | some k => .next (if s.on .cmp && s.bandStart s.cf.refStart k ≤ s.now then s.startBand k else s)

end Sys2Proof.Machine
end

