-- ==== Sys2Proof/Machine/Power.lean ====
section
/-!
DEFINITION. Modes, power domains, wake and sleep: the commands of "Operating modes, power domains and wake" (R72–R95).
-/

namespace Sys2Proof.Machine

/-- A domain reaches power-good: DOMSTAT shows it. Nothing was kept while it was off, so that every register of it reads its
reset value (R82, R95). With DRV the channels begin their time in STATE 0 (R346). -/
def State.powerOn (s : State) (d : Dom) : State :=
  let s := s.setBitF F.PWR_DOMSTAT_ON d.num true
  if d == .drv then { s with buck := s.buck.map fun b => { b with offSince := s.now } } else s

/-- A gated domain that the mode wants reaches power-good and leaves reset (R82). -/
def State.comesUp (s : State) (d : Dom) : Bool := s.wanted d && !s.on d && s.pwr.pwrEn

/-- A wanted domain that is not on within 60 µs is FAILED, and PWR_DOMAIN is raised (R81, R82). -/
def execDomainPowerFail (d : Dom) (s : State) : Out :=
  .next (if s.wanted d && !s.on d && s.pwr.pwrEn then (s.setBitF F.PWR_DOMSTAT_FAILED d.num true).raiseFound Src.PWR_DOMAIN else s)

/-- A domain that the mode no longer wants holds its pads and powers down (R82, R85). -/
def execDomainPowerDown (d : Dom) (s : State) : Out :=
  .next (if s.on d && !s.wanted d then (s.powerOff d).syncPads else s)

/-! ### The WAKE pins (R89, R90) -/

/-- The active level of a pin (PWR_WAKECFG.POL). -/
def State.pinActive (s : State) (n : Nat) (p : WakePin) : Bool := p.high != s.bitR R.PWR_WAKECFG (8 * n + 1)

/-- PIN_LVL shows which pins stand at their active level. -/
def State.showPins (s : State) : State :=
  s.wr F.PWR_WAKESTAT_PIN_LVL
    ((List.range 4).foldl (fun w n => w + 2 ^ n * b2n (s.pinActive n (s.pwr.pins.getD n {}))) 0)

/-- The filter time of a pin: FILT × 62.5 µs. -/
def State.pinFilter (s : State) (n : Nat) : Nat := 37500 * bitsOf (s.regN R.PWR_WAKECFG) (8 * n + 7) (8 * n + 3)

/-- A pin qualifies at a moment: it has held the active level for the filter time, and where it is set for edge sensing, after a change from
inactive to active that it has not qualified for yet (R90). -/
def State.pinReady (s : State) (n at_ : Nat) : Bool :=
  let p := s.pwr.pins.getD n {}
  n < 4 && s.pinActive n p && p.since + s.pinFilter n ≤ at_ && (p.edge || !s.bitR R.PWR_WAKECFG (8 * n + 2))

/-- A pin has qualified for its last change. -/
def State.usePin (s : State) (n : Nat) : State :=
  { s with pwr := { s.pwr with pins := s.pwr.pins.modify n fun p => { p with edge := false } } }

/-- The four pins now stand at given levels, one bit each. -/
def State.samplePins (s : State) (levels : Nat) : State :=
  let pins := (List.range 4).map fun n =>
    let p := s.pwr.pins.getD n {}
    if p.high = bitAt levels n then p
    else { high := bitAt levels n, since := s.now, edge := s.pinActive n { p with high := bitAt levels n } : WakePin }
  { s with pwr := { s.pwr with pins := pins } }.showPins

/-- A reset leaves the levels of the pins, and no change of them waits. -/
def State.pinsCold (s : State) : List WakePin := s.pwr.pins.map fun p => { p with edge := false }

/-- A write to PWR_WAKECFG: the levels show under the new polarity, and what a pin had done under the old configuration is over (R89, R90; DESIGN CHOICE,
notes/assumptions/51.md). -/
def State.writeWakecfg (s : State) (data : Word) : State :=
  let t := s.store R.PWR_WAKECFG data
  ((List.range 4).foldl (fun (t : State) n =>
    if bitsOf (s.regN R.PWR_WAKECFG) (8 * n + 7) (8 * n) = bitsOf (t.regN R.PWR_WAKECFG) (8 * n + 7) (8 * n) then t
    else if s.pinReady n s.now then t.usePin n else t) t).showPins

/-! ### Reset (R79) -/

/-- The state that survives the reset of every domain: the model's own fields, the fuses, the flash and what it keeps. -/
def State.coldReset (s : State) : State :=
  { State.reset with
    now := s.now, free := s.free, pending := s.pending, sent := s.sent
    mem := s.mem.filter fun p => 0x60000000 ≤ p.1 && p.1 < 0x64000000
    boot := { rollback := s.boot.rollback }
    eng := { lifeBuck := s.eng.lifeBuck, lifeDev := s.eng.lifeDev }
    saf := { stored := s.saf.stored }
    flash := { logSector := s.flash.logSector, logSeq := s.flash.logSeq, logRecs := s.flash.logRecs }
    cal := s.cal.cold, dict := s.dict.cold, kept := s.dict.storedKept }

/-- AON power-on reset: DORMANT with PWR_EN low, strap read (R52, R67, R68, R79, R87). -/
def execAonPowerOnReset (strapMv : Nat) (s : State) : Out :=
  let test := s.flag F.BIST_TESTSTAT_TESTONLY || s.pwr.testEnded
  let r := s.coldReset
  .next { r with pwr := { strap := (strapCode strapMv).getD 0, strapBad := (strapCode strapMv).isNone, pins := s.pinsCold
                          dormantSince := s.now, testEnded := test
                          enHold := if test then some (s.now + msec 2) else none } }.showPins

/-- The complete reset of a low on RESET_N: everything but the strap code and PWR_RSTCAUSE (R79). DESIGN CHOICE (notes/assumptions/49.md): the test-only state
and the LAMP_FAIL that it asserts end with the reset, not with the next start (R115). -/
def State.pinReset (s : State) : State :=
  let test := s.flag F.BIST_TESTSTAT_TESTONLY || s.pwr.testEnded
  let rst := s.regN R.PWR_RSTCAUSE
  let r := s.coldReset
  let r := { r with pwr := { strap := s.pwr.strap, strapBad := s.pwr.strapBad, resetLow := true, pins := s.pinsCold
                             dormantSince := s.now, testEnded := test
                             enHold := if test then some (s.now + msec 2) else none } }
  (((r.setN R.PWR_RSTCAUSE rst).mark F.PWR_RSTCAUSE_PIN).wr F.PWR_MODE_CAUSE 0x12).showPins

/-- A low on RESET_N: below 1 µs nothing, from 10 µs a reset; between them either, which a free value decides (R59, R79). -/
def execResetPin (lowNs : Nat) (s : State) : Out :=
  if lowNs < 1000 then .next s
  else if 10000 ≤ lowNs then .next s.pinReset
  else
    let (v, s') := s.draw
    .next (if v % 2 = 0 then s' else s'.pinReset)

/-- RESET_N rises: the device goes on from step 2 of R52 and leaves DORMANT if a wake source is active (R79). -/
def execResetPinRelease (s : State) : Out :=
  if s.pwr.resetLow then
    let s := { s with pwr := { s.pwr with resetLow := false } }
    .next (if s.demand then s.demandRise 0x03
      else if s.rd F.PWR_WAKESTAT_PIN ≠ 0 then s.wakeUp 0x02 else s)
  else .next s

/-- LAMP_REQ qualifies after its 250 µs filter: a wake source in DORMANT, the lamp demand in every mode (R73, R89). -/
def State.lampAssert (s : State) : State :=
  let before := s.demand
  let s := (s.mark F.PWR_WAKESTAT_LAMPREQ).wr F.PWR_WAKESTAT_LAMPREQ_LVL 1
  if before then s else s.demandRise 0x03

def execLampReqAssert (s : State) : Out :=
  .next (if s.pwr.resetLow then s else s.lampAssert)

/-- LAMP_REQ release qualifies after its 20 ms filter (R73, R91). -/
def execLampReqRelease (s : State) : Out :=
  if s.pwr.resetLow then .next s else
  let before := s.demand
  let s := s.wr F.PWR_WAKESTAT_LAMPREQ_LVL 0
  .next (if before && !s.demand then s.demandFall else s.wrB F.PWR_MODE_DEMAND s.demand)

/-- The beam of an ended demand may end: a refresh has started since or falls due, a hold has begun, or no refresh is scheduled (R77). -/
def State.beamOver (s : State) : Bool :=
  s.cf.hold.isSome || s.cf.next.isNone || decide (s.pwr.beamSince ≤ s.cf.refStart)
  || (match s.cf.refDue with | some (t, _) => decide (t ≤ s.now) | none => false)

/-- The refresh start after the lamp demand ended in RUN: the beam ends and the device enters STANDBY (R77). -/
def execRunBeamEnd (s : State) : Out :=
  .next (if s.mode == .run && s.pwr.beamEnding && s.beamOver then s.enterStandby 0x0E else s)

/-- A write to PWR_MODEREQ.REQ (R73). -/
def execModeReqSet (m : Master) (data : Word) (s : State) : Out :=
  s.withBus m R.PWR_MODEREQ data fun s => s.writeModeReq data

/-- A RECOVER request through PWR_MODEREQ (R77, R78). -/
def execRecover (m : Master) (data : Word) (s : State) : Out :=
  s.withBus m R.PWR_MODEREQ data fun s => s.writeModeReq data

/-- A CLEAR_DARK request through PWR_MODEREQ (R77, R78). -/
def execClearDark (m : Master) (data : Word) (s : State) : Out :=
  s.withBus m R.PWR_MODEREQ data fun s => s.writeModeReq data

/-- The island writes PWR_RUNGATE (R74, R80). -/
def execRungateWrite (m : Master) (data : Word) (s : State) : Out :=
  s.withBus m R.PWR_RUNGATE data fun s => s.writeGate (bitAt data.toNat 0) (bitsOf data.toNat 7 4)

/-- A lighting domain, DRAM among them, has failed with no spare, or an enabled tile port cannot carry light (R77, R112, R268). -/
def State.lightingFailed (s : State) : Bool :=
  bitsOf (s.rd F.PWR_DOMSTAT_FAILED) 11 4 != 0 || !s.boot.badPorts.isEmpty
  || s.bitF F.BIST_UNUSABLE_TARGET 4 || s.bitF F.BIST_UNUSABLE_TARGET 5 || s.bitF F.BIST_UNUSABLE_TARGET 10
  || (List.range 4).any fun n => s.flag (F.LNK_CTRL_EN n) &&
      !((s.rd (F.LNK_STATE_STATE n) == 7 || s.rd (F.LNK_STATE_STATE n) == 8) && s.flag (F.LNK_CTRL_LIGHT n))

/-- A PREPARE not complete 1,000 ms after its entry ends (R103). -/
def execPrepareTimeout (s : State) : Out :=
  match s.mode, s.pwr.prep with
  | .prepare, some p =>
    .next (if !s.since p.since (msec 1000) then s
      else if s.demand then s.enterHusk 0x13 else s.enterStandby 0x13)
  | _, _ => .next s

/-- PWR_DOMCTL takes a value in STANDBY only (R84). -/
def State.writeDomctl (s : State) (data : Word) : State :=
  if s.mode == .standby then s.store R.PWR_DOMCTL data else s

def execDomctlWrite (m : Master) (data : Word) (s : State) : Out :=
  s.withBus m R.PWR_DOMCTL data fun s => s.writeDomctl data

/-- A write to PWR_PADHOLD (R86). -/
def execPadholdRelease (m : Master) (data : Word) (s : State) : Out :=
  s.withBus m R.PWR_PADHOLD data fun s => s.releasePads data

/-- A WAKE pin that has qualified: its flag when EN is 1, and the wake from DORMANT (R89). -/
def State.pinWakes (s : State) (pin : Nat) : State :=
  let s := s.usePin pin
  if s.bitR R.PWR_WAKECFG (8 * pin) then (s.markBit F.PWR_WAKESTAT_PIN pin).wakeUp 0x02 else s

/-- The WAKE pins stand at the levels of the mask, and one of them qualifies if R90 lets it. -/
def execWakePinQualify (pin levels : Nat) (s : State) : Out :=
  let s := s.samplePins levels
  .next (if !s.pwr.resetLow && s.pinReady pin s.now then s.pinWakes pin else s)

/-- The wake timer expires in DORMANT, SECONDS × 1 s ± 2 % after its entry (R89). -/
def execWakeTimerExpire (s : State) : Out :=
  let n := s.rd F.PWR_WAKETIMER_SECONDS
  .next (if s.mode == .dormant && !s.pwr.resetLow && n ≠ 0 && s.since s.pwr.dormantSince (sec n * 98 / 100) then
    (s.mark F.PWR_WAKESTAT_TIMER).wakeUp 0x05 else s)

/-- Step 3 of R92, once nothing waits for flash: firmware clears PWR_WAKESTAT and is ready to write GO. -/
def State.closeForSleep (s : State) : State :=
  if s.pwr.sleep != .closing || !s.flash.jobs.isEmpty then s else
  let s := ((s.wr F.PWR_WAKESTAT_PIN 0).wr F.PWR_WAKESTAT_LAMPREQ 0).wr F.PWR_WAKESTAT_TIMER 0
  { s.wr F.PWR_WAKESTAT_LATCHED 0 with pwr := { s.pwr with sleep := .ready } }

/-- Step 2 of R92: firmware abandons the programs that cannot start now; a store that is lost shows as failed (R436). DESIGN CHOICE
(notes/assumptions/49.md): it abandons what a check defers and completes everything else. -/
def State.abandonForSleep (s : State) : State :=
  if s.pwr.sleep != .closing || s.flash.prog.isSome then s else
  let s := if s.flash.jobs.any fun j => j.mapId == 0x70 then s.wr F.ODX_STORE_STATE 3 else s
  { s with flash := { s.flash with jobs := [], deferred := none, told := false, loadHeld := false } }.closeForSleep

/-- Steps 1 and 2 of sleep entry (R92): host software writes the sleep object; firmware refuses it or closes its work, stores the retained
values (R433) and powers down what PWR_DOMCTL requested. Step 3 follows at once where nothing has to be written to flash. -/
def State.sleepRequest (s : State) : Nat × State :=
  if s.mode != .standby then (codeMODE, s)
  else if s.demand then (codeREFUSED, s)
  else
    let s := { s with pwr := { s.pwr with sleep := .closing } }
    let s := if s.flash.deferred.isSome then s.abandonForSleep else s
    let s := ((s.endSessions fun _ => true).queueRetained).setN R.PWR_DOMCTL 0
    (codeOK, { s with pwr := { s.pwr with sleep := .closing } }.closeForSleep)

def execSleepRequest (s : State) : Out :=
  .next (if !s.firmwareUp then s else
    let r := s.sleepRequest
    r.2.answer 0x2001 2 r.1)

/-- Any pending flag of PWR_WAKESTAT (R92 step 4). -/
def State.wakePending (s : State) : Bool :=
  s.rd F.PWR_WAKESTAT_PIN ≠ 0 || s.flag F.PWR_WAKESTAT_LAMPREQ || s.flag F.PWR_WAKESTAT_TIMER || s.flag F.PWR_WAKESTAT_LATCHED

/-- The flag that a wake source sets; a WAKE pin only while its EN is 1 (R89). -/
def State.noteWake (s : State) (w : WakeSource) : State :=
  match w with
  | .pin n => if s.bitR R.PWR_WAKECFG (8 * n) then (s.usePin n).markBit F.PWR_WAKESTAT_PIN n else s
  | .lampReq => (s.mark F.PWR_WAKESTAT_LAMPREQ).wr F.PWR_WAKESTAT_LAMPREQ_LVL 1

/-- Whether a wake source is enabled (R89). -/
def State.wakeEnabled (s : State) (w : WakeSource) : Bool :=
  match w with
  | .pin n => n < 4 && s.bitR R.PWR_WAKECFG (8 * n)
  | .lampReq => true

/-- Steps 6 and 7 of R92: the pad latches close, PWR_EN falls, every other domain loses its rail; AON keeps what R95 lists. -/
def State.sleepNow (s : State) : State :=
  let kept := [R.PWR_WAKECFG, R.PWR_WAKETIMER, R.PWR_WAKESTAT, R.PWR_SLEEP, R.PWR_RSTCAUSE]
  let old := s
  let s := s.railsOff
  let s := (s.resetBlock 1).resetBlock 4
  let s := kept.foldl (fun s a => s.setN a (old.regN a)) s
  let s := (s.wr F.PWR_SLEEP_RESULT 1).wr F.PWR_PADHOLD_GROUP 0x7FF |>.showPins
  let lvl := old.flag F.PWR_WAKESTAT_LAMPREQ_LVL
  let s := s.wrB F.PWR_MODE_DEMAND lvl
  { s with pwr := { strap := s.pwr.strap, strapBad := s.pwr.strapBad, dormantSince := s.now, offAt := some s.now, padFirst := 0
                    pins := s.pwr.pins }
           thm := {} }

/-- A wake source qualifies n AON cycles, of 586 pixel cycles, from now (R89, R90). -/
def State.wakeReady (s : State) (w : WakeSource) (n : Nat) : Bool :=
  s.wakeEnabled w && match w with
    | .pin k => s.pinReady k (s.now + 586 * n)
    | .lampReq => true

/-- The mode controller samples PWR_SLEEP.GO (R92–R94), which firmware writes after a sleep request of host software only (R75, R92). The operand
tells of a wake that qualifies in AON cycle k + n. -/
def State.sleepGo (s : State) (wake : Option (WakeSource × Nat)) : State :=
  if s.pwr.sleep != .ready then s else
  let s := { s with pwr := { s.pwr with sleep := .none } }
  let wake := wake.filter fun w => s.wakeReady w.1 w.2
  let s0 := match wake with
    | some (w, 0) => s.noteWake w
    | _ => s
  if s.mode != .standby then s0.wr F.PWR_SLEEP_RESULT 4
  else if s0.wakePending then
    let s := s0.wr F.PWR_SLEEP_RESULT 2
    if !s.flag F.PWR_MODE_DEMAND && s.demand then s.demandRise 0x03 else s
  else if s.demand then s.wr F.PWR_SLEEP_RESULT 3
  else match wake with
    | some (w, n) =>
      if n ≤ 3 then
        let s := (s.noteWake w).wr F.PWR_SLEEP_RESULT 2
        if s.demand then s.demandRise 0x03 else s
      else
        let s := ((s.noteWake w).mark F.PWR_WAKESTAT_LATCHED).sleepNow
        { s with pwr := { s.pwr with enHold := some (s.now + msec 2), offAt := none } }
    | none => s.sleepNow

def execSleepGo (m : Master) (wake : Option (WakeSource × Nat)) (s : State) : Out :=
  s.withBus m R.PWR_SLEEP 1#32 fun s => s.sleepGo wake

/-- PWR_EN has been held low for 2.0 ms and rises again for a latched wake or for a wake that waits (R94, R115). -/
def execPwrEnHoldExpire (s : State) : Out :=
  match s.pwr.enHold with
  | some t =>
    if s.now < t then .next s else
    let s := { s with pwr := { s.pwr with enHold := none } }
    .next (if s.demand then s.demandRise 0x03
      else if s.rd F.PWR_WAKESTAT_PIN ≠ 0 then s.wakeUp 0x02
      else if s.flag F.PWR_WAKESTAT_TIMER then s.wakeUp 0x05 else s)
  | none => .next s

/-- The cycles of each clock in 10 µs at the frequency of R34; the SAFE oscillator runs at 50 MHz. -/
def ClockName.nominal : ClockName → Nat
  | .pixel => 6000 | .mgmt => 4000 | .drv => 2000 | .memory => 10660 | .net => 1250 | .link => 10000 | .safe => 3000
  | .lane _ => 2500 | .safeOsc => 500

/-- Every clock that the CLK block counts while its domain is on. -/
def State.clocks (s : State) : List ClockName :=
  [.pixel, .mgmt, .drv, .link, .safe, .safeOsc] ++ (if s.on .mem then [.memory] else []) ++ (if s.on .net then [.net] else [])
    ++ ((List.range 4).filter fun p => s.on (portDom p)).map .lane

/-- A clock deviates by more than 2 %. One that the window does not list ran at its nominal frequency. -/
def clockOff (counts : List ClockCount) (c : ClockName) : Bool :=
  match counts.find? fun x => x.clock == c with
  | some x => 50 * (max x.counted c.nominal - min x.counted c.nominal) > c.nominal
  | none => false

/-- The 10 µs counts of the CLK block: a deviation above 2 % raises CLOCK_MON (R36). -/
def execClockMonWindow (counts : List ClockCount) (s : State) : Out :=
  .next (s.raiseIf (s.on .mgmt && s.clocks.any (clockOff counts)) Src.CLOCK_MON)

end Sys2Proof.Machine
end

