-- ==== Sys2Proof/Machine/Access.lean ====
section
/-!
DEFINITION. Register accesses: what each register's own rule lets in (R42, R429), what a write to it does, what a read of it returns, the
arming and application of groups (R46–R48), and bus writes that have no row of their own.
-/

namespace Sys2Proof.Machine

/-- A value in a closed range. -/
def within (lo hi v : Nat) : Bool := lo ≤ v && v ≤ hi

/-! ### Values that a register's own rule lets in (R42) -/

/-- THM_RATE and THM_EXTLIM (R330, R331). -/
def thmFits (off d : Nat) : Bool :=
  match off with
  | 0x04 => within 1 255 (bitsOf d 7 0) && within 50 1000 (bitsOf d 19 8) && within 100 4000 (bitsOf d 31 20)
  | 0x08 => bitsOf d 7 0 < bitsOf d 15 8 && bitsOf d 15 8 ≤ 150 && bitsOf d 23 16 < bitsOf d 31 24 && bitsOf d 31 24 ≤ 150
  | _ => true

/-- CAL_TOL, CAL_SPARSE, CAL_FULLCTL and CAL_FULLMA. -/
def calFits (off d : Nat) : Bool :=
  match off with
  | 0x04 => bitsOf d 7 0 ≠ 0 && bitsOf d 15 8 ≠ 0 && bitsOf d 23 16 ≠ 0
  | 0x08 => within 1 4095 (bitsOf d 27 16)
  | 0x20 => bitsOf d 27 16 ≠ 0
  | 0x28 => within 1 2000 (bitsOf d 13 0)
  | _ => true

/-- VIN_OLCFG, VIN_IMUCFG and VIN_IMUTIME (R129, R136, R137). VIN_IMUCFG is taken as a whole only while EN is 0. -/
def State.vinFits (s : State) (off d : Nat) : Bool :=
  match off with
  | 0x10 => bitsOf d 15 0 ≠ 0 && bitsOf d 15 0 ≠ 48620 && within 1 100 (bitsOf d 22 16)
  | 0x30 => s.flag F.VIN_IMUCFG_EN || (bitsOf d 2 1 ≠ 3 && bitsOf d 22 16 ≤ 95)
  | 0x34 => within 500 10000 (bitsOf d 13 0) && bitsOf d 25 16 ≤ 1000
  | _ => true

/-- LAY_SHEAF, LAY_SYMCFG and LAY_Ln_SRCSIZE; a size of 0 is left to the check of the sheaf (R141, R144, R152, R156). -/
def layFits (a off d : Nat) : Bool :=
  !(off = 0 && bitAt d 0 && bitAt d 1) && !(off = 0x2C && 256 < bitsOf d 8 0)
  && !((List.range 8).any (fun n => R.LAY_L_SRCSIZE n == a) && (2048 < bitsOf d 11 0 || 1024 < bitsOf d 26 16))

/-- SCN_LEVLIM and SCN_LEVFIX (R233). -/
def scnFits (off d : Nat) : Bool :=
  let v : Nat → Nat → Int := fun hi lo => toSigned 16 (bitsOf d hi lo)
  match off with
  | 0x14 => -1024 ≤ v 15 0 && v 15 0 ≤ v 31 16 && v 31 16 ≤ 1024
  | 0x18 => -1024 ≤ v 15 0 && v 15 0 ≤ 1024
  | _ => true

/-- LNK_TXCFG. -/
def lnkFits (off d : Nat) : Bool :=
  if off % 0x4000 = 4 then bitsOf d 3 0 ≤ 12 && bitsOf d 6 4 ≤ 6 && bitsOf d 11 8 ≤ 9 else true

/-- SAT_PERIOD, SAT_LATCHOFS, SAT_CHn_CTRL and SAT_CHn_SCALE (R286, R288). -/
def State.satFits (s : State) (off d : Nat) : Bool :=
  if off = 0 then s.satTimingOk (bitsOf d 16 0) (s.rd F.SAT_LATCHOFS_OFS_US)
  else if off = 4 then s.satTimingOk (s.rd F.SAT_PERIOD_PERIOD_US) (bitsOf d 16 0)
  else if 0x100 ≤ off && off < 0x200 then
    if off % 0x40 = 0 then within 10 1000 (bitsOf d 25 16) else if off % 0x40 = 4 then bitsOf d 15 0 ≤ 32768 else true
  else true

/-- A loop's CTRL, PERIOD, PHASE and TRACK (R298, R299, R301): register offset in the loop's window. -/
def State.loopFits (s : State) (n r d : Nat) : Bool :=
  match r with
  | 0x00 => s.flag (F.PID_L_CTRL_EN n) || bitsOf d 7 4 ≤ 10
  | 0x04 => within 10 100000 (bitsOf d 16 0) && s.rd (F.PID_L_PHASE_CYCLES n) < 200 * bitsOf d 16 0
  | 0x08 => 400 ≤ bitsOf d 24 0 && bitsOf d 24 0 < 200 * s.rd (F.PID_L_PERIOD_PERIOD_US n)
  | 0x30 => d < 2 ^ 31
  | _ => true

/-- A buck channel's registers (R306, R309): register offset in the channel's window. -/
def State.buckFits (s : State) (n r d : Nat) : Bool :=
  match r with
  | 0x00 => s.flag (F.BUCK_CFG_EN n) || buckCfgFits d
  | 0x04 => 6000 ≤ bitsOf d 15 0 && 500 ≤ bitsOf d 31 16
  | 0x08 => within 1000 10000 (bitsOf d 13 0) && within 1 2000 (bitsOf d 27 16)
  | 0x0C => bitsOf d 13 0 ≤ 10000
  | 0x10 => bitsOf d 13 0 ≤ 10000
  | _ => true

def State.pidFits (s : State) (off d : Nat) : Bool :=
  if off = 8 then 100 ≤ bitsOf d 31 16
  else if 0x100 ≤ off && off < 0x900 then s.loopFits ((off - 0x100) / 0x80) (off % 0x80) d
  else if 0x1000 ≤ off && off < 0x1400 then s.buckFits ((off - 0x1000) / 0x100) (off % 0x100) d
  else true

/-- ENG_DIV0, DIV1, DIVH, HOLDMIN and HARN (R314, R325, R327). -/
def engFits (off d : Nat) : Bool :=
  match off with
  | 0x04 => 0x10000 ≤ d
  | 0x08 => 0x10000 ≤ d
  | 0x0C => 0x10000 ≤ d
  | 0x14 => 3000 ≤ bitsOf d 15 0
  | 0x140 => within 1000 9000 (bitsOf d 15 0) && within 10 100 (bitsOf d 23 16)
  | _ => true

/-- KIND, PATH and ALIVE_MAX of a connection, and EXPECT_MS, which a producer holds to 125 ms (R424). -/
def State.envFits (s : State) (c r d : Nat) : Bool :=
  match r with
  | 0x00 => bitsOf d 2 1 ≠ 3 && bitsOf d 5 3 ≤ 4 && bitsOf d 10 7 ≠ 0
  | 0x08 => within 10 (if s.rd (F.NET_ENV_CFG_KIND c) = 2 then 125 else 250) (bitsOf d 23 16)
  | _ => true

/-- The modes of the MACs while they are off, the data rate of a bus, and the connections (R424). -/
def State.netFits (s : State) (off d : Nat) : Bool :=
  match off with
  | 0x00 => (s.flag F.NET_CTRL_E0_EN || bitsOf d 3 2 ≠ 3) && (s.flag F.NET_CTRL_E1_EN || bitsOf d 5 4 ≠ 3)
  | 0x60 => bitsOf d 2 1 ≠ 3
  | 0x70 => bitsOf d 2 1 ≠ 3
  | _ => !(0x100 ≤ off && off < 0x200) || s.envFits ((off - 0x100) / 0x20) (off % 0x20) d

/-- ODX_CFG (R451). -/
def odxFits (off d : Nat) : Bool :=
  if off = 4 then within 5 100 (bitsOf d 7 0) && within 50 95 (bitsOf d 15 8) && bitsOf d 23 16 < bitsOf d 15 8 else true

/-- Every field of the word lies in the range that its register states; otherwise the register keeps its value (R42). -/
def State.valueFits (s : State) (a d : Nat) : Bool :=
  let off := a % 0x10000
  match blockOf a with
  | 4 => thmFits off d
  | 5 => calFits off d
  | 6 => s.vinFits off d
  | 7 => layFits a off d
  | 10 => scnFits off d
  | 11 => lnkFits off d
  | 12 => s.satFits off d
  | 13 => s.pidFits off d
  | 14 => engFits off d
  | 16 => if 0x100 ≤ off && off < 0x140 then classFits ((off - 0x100) / 4) (BitVec.ofNat 32 d)
    else if 0x200 ≤ off && off < 0x300 then graceFits ((off - 0x200) / 4) (BitVec.ofNat 32 d) else true
  | 20 => s.netFits off d
  | 21 => odxFits off d
  | _ => true

/-! ### The state that a register requires (R42, R429) -/

/-- The port whose EN locks a field of NET, as the bit of NET_CTRL (R424). -/
def netLock (off : Nat) : Option Nat :=
  if off = 0x10 || off = 0x14 || off = 0x20 then some 0
  else if off = 0x18 || off = 0x1C || off = 0x24 then some 1
  else if 0x60 ≤ off && off < 0x6C then some 6
  else if 0x70 ≤ off && off < 0x7C then some 7
  else none

/-- A channel's registers other than CFG, REF and ILIM are written only while it is idle (R309). -/
def State.buckIdle (s : State) (n : Nat) : Bool := !s.flag (F.BUCK_CFG_EN n) && s.rd (F.BUCK_STAT_STATE n) = 0

/-- A word that changes no other bit of a register than EN, bit 0. -/
def onlyEn (old d : Nat) : Bool := bitsOf old 31 1 = bitsOf d 31 1

/-- The state lets the write in, or lets in at least the part of it that differs from what the register holds. -/
def State.pidOpen (s : State) (off d : Nat) : Bool :=
  if 0x40 ≤ off && off < 0x80 then off % 0x10 ≠ 0 || s.membersFit ((off - 0x40) / 0x10) (bitsOf d 15 0)
  else if 0x100 ≤ off && off < 0x900 then
    let n := (off - 0x100) / 0x80
    match off % 0x80 with
    | 0x00 => !s.flag (F.PID_L_CTRL_EN n) || onlyEn (s.regN (R.PID_L_CTRL n)) d
    | 0x04 => s.mayRetime n
    | 0x08 => s.mayRetime n
    | _ => true
  else if 0x1000 ≤ off && off < 0x1400 then
    let n := (off - 0x1000) / 0x100
    match off % 0x100 with
    | 0x00 => s.buckIdle n || onlyEn (s.regN (R.BUCK_CFG n)) d
    | 0x04 => s.buckIdle n
    | 0x08 => s.buckIdle n
    | _ => true
  else true

def State.vinOpen (s : State) (off d : Nat) : Bool :=
  if off = 0x30 then !s.flag F.VIN_IMUCFG_EN || onlyEn (s.regN R.VIN_IMUCFG) d
  else if 0x34 ≤ off && off < 0x48 then !s.flag F.VIN_IMUCFG_EN
  else true

def State.netOpen (s : State) (off d : Nat) : Bool :=
  if off = 0 then
    let old := s.regN R.NET_CTRL
    !(bitAt old 0 && bitsOf d 3 2 ≠ bitsOf old 3 2) && !(bitAt old 1 && bitsOf d 5 4 ≠ bitsOf old 5 4)
  else match netLock off with
    | some b => !s.bitR R.NET_CTRL b
    | none => true

/-- A request of a control register that the device refuses: BIST_CTRL, CAL_FULLCTL, CMP_CAPCTRL, LNK_CMD, a DISARM past its deadline. -/
def State.requestOpen (s : State) (a d : Nat) : Bool :=
  let off := a % 0x10000
  match blockOf a with
  | 3 => !(off = 0 && bitAt d 8 && !s.mayTest (bitsOf d 3 0))
  | 5 => !(off = 0x20 && bitAt d 2 && !s.fullAllowed)
  | 7 => !(off = 0 && bitAt d 1 && !(s.sheafArmed && s.disarmInTime))
  | 8 => !(off = 0x10 && bitAt d 0 && (s.rd F.CMP_CAPSTAT_STATE = 1 || s.rd F.CMP_CAPSTAT_STATE = 2))
  | 11 => !(off % 0x4000 = 0x2C && bitAt d 16 && s.flag (F.LNK_CMD_BUSY (off / 0x4000)))
  | _ => true

/-- Nothing in the state stands against the write. -/
def State.stateOpen (s : State) (a d : Nat) : Bool :=
  let off := a % 0x10000
  (match blockOf a with
    | 6 => s.vinOpen off d
    | 13 => s.pidOpen off d
    | 20 => s.netOpen off d
    | _ => true) && s.requestOpen a d

/-! ### Arming (R47) -/

/-- The check that the arm of a group runs over its staged members, with what it leaves in the registers of its block (R125, R137, R209,
R300, R306, R319). The maps of a tile are checked for up to 1 ms (R339). -/
def State.armCheck (s : State) (g : Group) : Bool × State :=
  match g with
  | .pid n => (s.rdS (F.PID_L_IMIN_IMIN n) ≤ s.rdS (F.PID_L_IMAX_IMAX n) && s.rdS (F.PID_L_OMIN_OMIN n) ≤ s.rdS (F.PID_L_OMAX_OMAX n), s)
  | .buck n => (s.rd (F.BUCK_ILIM_ILIM n) ≠ 0, s)
  | .proj t =>
    let c := s.projCheck t
    (c.1 = 0, if c.1 = 0 then s else (s.wr (F.GME_PM_STAT_CHECK t) c.1).wr (F.GME_PM_STAT_POINT t) c.2)
  | .imu => (s.imuFits, s)
  | .energy => (s.budgetFits, s)
  | .stream n => (s.streamCheck n = 0, if s.streamCheck n = 0 then s else s.wr (F.VIN_STR_STAT_CHECK n) (s.streamCheck n))
  | .map _ | .glean _ | .satVal _ => (true, s)

/-- The arm of a group whose generation fits: the maps begin their check, the IMU axis group is applied at once while EN is 0 (R137), every
other group that passes its check is armed. -/
def State.tryArm (s : State) (g : Group) (data : Word) : State :=
  match g with
  | .map t => s.beginMapCheck t data none none
  | _ =>
    let c := s.armCheck g
    if !c.1 then c.2
    else
      let s := c.2.armGroup g data
      if g == .imu && !s.flag F.VIN_IMUCFG_EN then s.applyImu else s

/-- A write to a generation register (R47): the W1C bits act, then the arm attempt unless NOARM is 1. -/
def State.writeGen (s : State) (g : Group) (data : Word) : State :=
  let fits := s.genFits g data
  let s := s.genClear g data
  if bitAt data.toNat 19 then s
  else if fits then s.tryArm g data
  else s.mark g.fMismatch

/-! ### What a write does -/

/-- A shadow of the sheaf is written only while STATE is 0 (R152). -/
def State.writeShadow (s : State) (a : Nat) (data : Word) : State :=
  if s.rd F.LAY_SHEAFSTAT_STATE = 0 then s.store a data else s.mark F.LAY_SHEAFSTAT_BLOCKED

/-- SYS_BLKOWN takes a value in STANDBY only (R41); maps that waited for CAL are staged. -/
def State.writeBlkown (s : State) (data : Word) : State :=
  if s.mode == .standby then (List.range 4).foldl State.retryMaps (s.store R.SYS_BLKOWN data) else s

/-- Registers with a W1C field of several bits that any 1 clears whole. -/
def wholeClear (a : Nat) : Option Fld :=
  [F.SYS_BUSERR_INFO_COUNT, F.BIST_TESTSTAT_REFUSED, F.CMP_LANECHK_COUNT, F.GME_LAT_MAX, F.ODX_LOAD_PEAK].find? fun f => f.addr = a

/-- A write under the access codes, with the fields that clear as a whole. -/
def State.storeWhole (s : State) (a : Nat) (data : Word) : State :=
  match wholeClear a with
  | some f =>
    let old := s.rd f
    (s.store a data).wr f (if bitsOf data.toNat f.hi f.lo = 0 then old else 0)
  | none => s.store a data

/-- The island commands its outputs: HUSK_N, and requests of HUSK and DARK as they rise (R361, R372). Lanes that R373 has idled stay idle until the drive cycle
ends (R384). -/
def State.writeOutcmd (s : State) (data : Word) : State :=
  let was := s.regN R.SAF_OUTCMD
  let s := s.store R.SAF_OUTCMD data
  let s := (List.range 4).foldl (fun s p => if bitAt s.saf.idled p then s.setBitF F.SAF_OUTCMD_LANEIDLE p true else s) s
  let s := if bitAt data.toNat 8 && !bitAt was 8 then s.requestHusk 0x0A else s
  (if bitAt data.toNat 9 && !bitAt was 9 then s.requestDark 0x0D else s).syncPads

/-- The island commands the safe switches: each gate follows its command while the pads are released, outside DARK, unless a test holds it
(R310, R311). -/
def State.writeSwctl (s : State) (data : Word) : State :=
  (s.store R.SAF_SWCTL data).followSw

/-- A MAC is switched on with its link down, or off (R404). -/
def State.macEnable (s : State) (n : Nat) (was : Bool) : State :=
  let up := if n = 0 then F.NET_LINKSTAT_E0_UP else F.NET_LINKSTAT_E1_UP
  let now := s.bitR R.NET_CTRL n
  if now && !was then { s with net := { s.net with down := s.net.down.set n (some s.now) } }
  else if !now && was then { s with net := { s.net with down := s.net.down.set n none } }.wr up 0
  else s

/-- A CAN controller is switched on, error active with its counters at 0, or off (R405, R406). -/
def State.canEnable (s : State) (b : Nat) (was : Bool) : State :=
  let now := s.flag (fCanEn b)
  if now == was then s
  else
    let s := (s.wr (F.NET_CAN_ERR_TEC b) 0).wr (F.NET_CAN_ERR_REC b) 0
    { s with net := { s.net with asm := s.net.asm.set b none } }.wr (fCanState b) (b2n now)

/-- A write to NET_CTRL; the mode of a MAC changes only while it is off (R424). -/
def State.writeNetCtrl (s : State) (data : Word) : State :=
  let old := s.regN R.NET_CTRL
  let d := data.toNat
  let d := if bitAt old 0 then setBits d 3 2 (bitsOf old 3 2) else d
  let d := if bitAt old 1 then setBits d 5 4 (bitsOf old 5 4) else d
  let s := s.store R.NET_CTRL (BitVec.ofNat 32 d)
  let s := (s.macEnable 0 (bitAt old 0)).macEnable 1 (bitAt old 1)
  (s.canEnable 0 (bitAt old 6)).canEnable 1 (bitAt old 7)

/-- A write to a NET register; a connection whose configuration the island changes starts anew (R423). -/
def State.writeNet (s : State) (off a : Nat) (data : Word) : State :=
  if off = 0 then s.writeNetCtrl data
  else if !s.netOpen off data.toNat then s
  else if 0x100 ≤ off && off < 0x200 then
    let t := s.store a data
    if t.regN a = s.regN a then t else t.restartEnv ((off - 0x100) / 0x20)
  else s.store a data

def State.writePwr (s : State) (off a : Nat) (data : Word) : State :=
  match off with
  | 0x04 => s.writeModeReq data
  | 0x08 => s.writeGate (bitAt data.toNat 0) (bitsOf data.toNat 7 4)
  | 0x10 => s.writeDomctl data
  | 0x14 => s.releasePads data
  | 0x18 => s.writeWakecfg data
  | 0x24 => if bitAt data.toNat 0 then s.sleepGo none else s
  | _ => s.store a data

def State.writeVin (s : State) (off a : Nat) (data : Word) : State :=
  match off with
  | 0x10 => s.writeOlcfg data
  | 0x30 => s.writeImucfg data
  | _ => if s.vinOpen off data.toNat then s.store a data else s

/-- A loop's registers; the current setpoint of a tile as software writes it stands before the planner's scale (R354). -/
def State.writeLoop (s : State) (n r a : Nat) (data : Word) : State :=
  match r with
  | 0x00 => s.writeLoopCtrl n data
  | 0x04 => s.writePeriod n data
  | 0x08 => s.writePhase n data
  | 0x0C =>
    let s := s.store a data
    if n < 4 then { s with eng := { s.eng with setpoint := s.eng.setpoint.set n (some (toSigned 32 data.toNat)) } } else s
  | _ => s.store a data

def State.writePid (s : State) (off a : Nat) (data : Word) : State :=
  if off = 0x0C then (s.store a data).showPitch
  else if 0x40 ≤ off && off < 0x80 && off % 0x10 = 0 then s.writeMembers ((off - 0x40) / 0x10) data
  else if 0x100 ≤ off && off < 0x900 then s.writeLoop ((off - 0x100) / 0x80) (off % 0x80) a data
  else if 0x1000 ≤ off && off < 0x1400 then
    let n := (off - 0x1000) / 0x100
    match off % 0x100 with
    | 0x00 => s.writeBuckCfg n data
    | 0x04 => s.writeBuckStatic n a true data
    | 0x08 => s.writeBuckStatic n a true data
    | _ => s.store a data
  else s.store a data

def State.writeSat (s : State) (off a : Nat) (data : Word) : State :=
  if off = 0 then s.writeSatTiming false data
  else if off = 4 then s.writeSatTiming true data
  else if 0x100 ≤ off && off < 0x200 && off % 0x40 = 0 then s.writeSatCtrl ((off - 0x100) / 0x40) data (s.lineBusy ((off - 0x100) / 0x40))
  else s.store a data

def State.writeBrm (s : State) (off a : Nat) (data : Word) : State :=
  if off = 0 then (if bitAt data.toNat 0 then s.clearCounts else s)
  else if off = 0x0C then s.inject data
  else if 0x20 ≤ off && off < 0x40 then (namedSources ((off - 0x20) / 4) data).foldl State.clearSrc s
  else if 0x40 ≤ off && off < 0x60 then (namedSources ((off - 0x40) / 4) data).foldl State.handleByFirmware s
  else if 0x60 ≤ off && off < 0x80 then (namedSources ((off - 0x60) / 4) data).foldl (fun s k => s.handle (R.BRM_SHANDLED 0) k) s
  else if 0x100 ≤ off && off < 0x140 then s.writeClass ((off - 0x100) / 4) data
  else if 0x200 ≤ off && off < 0x300 then s.writeGrace ((off - 0x200) / 4) data
  else if off = 0x404 then s.msgNext data
  else s.store a data

/-- A write to SYS_BUSERR_INFO: where it clears VALID in the cycle of an error, that error is captured and VALID stays 1 (R43). -/
def State.writeBuserr (s : State) (data : Word) : State :=
  let t := s.storeWhole R.SYS_BUSERR_INFO data
  match s.lateNow with
  | some e => if t.flag F.SYS_BUSERR_INFO_VALID then t else t.holdError e
  | none => t

/-- A write to a register that is no member of a group or sheaf, by its block. -/
def State.writeBlock (s : State) (a : Nat) (data : Word) : State :=
  let off := a % 0x10000
  match blockOf a with
  | 0 => if off = 0x10 then s.writeBlkown data else if off = 0x24 then s.writeBuserr data else s.storeWhole a data
  | 1 => s.writePwr off a data
  | 3 => if off = 0 then s.writeBistCtrl data else s.storeWhole a data
  | 5 => if off = 0x20 then s.writeFullctl data else (s.store a data).keepChar
  | 6 => s.writeVin off a data
  | 7 => if off = 0 then s.writeSheaf data else s.store a data
  | 8 => if off = 0x10 then s.writeCapctrl data else if off = 0x20 then s.writeSymload data else s.storeWhole a data
  | 11 =>
    if off % 0x4000 = 0 then s.writeLnkCtrl (off / 0x4000) data
    else if off % 0x4000 = 0x2C then s.writeLnkCmd (off / 0x4000) data
    else s.store a data
  | 12 => s.writeSat off a data
  | 13 => s.writePid off a data
  | 14 => if off = 0x3C then s.restartCycle data else s.store a data
  | 15 => if off = 0x10 then s.writeOutcmd data else if off = 0x20 then s.writeSwctl data else s.store a data
  | 16 => s.writeBrm off a data
  | 10 => (s.storeWhole a data).keepChar
  | 20 => s.writeNet off a data
  | _ => s.storeWhole a data

/-- A write that the interconnect lets through to a register (R16, R42, R46–R48, R152). A value out of range leaves the register as it is.
Every write to a shadow of the sheaf from its arm instant on, and every write to a staged member of an armed group, sets BLOCKED, whatever its value
(R48, R152). -/
def State.writeReg (s : State) (a : Nat) (data : Word) : State :=
  if (regDef a).isNone then s
  else if isSheafReg a && s.rd F.LAY_SHEAFSTAT_STATE != 0 then s.mark F.LAY_SHEAFSTAT_BLOCKED
  else match genGroup a, memberGroup a with
    | some g, _ => if s.valueFits a data.toNat then s.writeGen g data else s
    | none, some g => if s.armed g || s.valueFits a data.toNat then s.writeMember g a data else s
    | none, none =>
      if !s.valueFits a data.toNat then s else if isSheafReg a then s.writeShadow a data else s.writeBlock a data

/-- What the dictionary answers to a write of a register entry, steps 7 to 9 of R428. -/
def State.regCode (s : State) (a : Nat) (data : Word) : Nat :=
  let d := data.toNat
  if reservedSet a data || !s.valueFits a d then codeRANGE
  else if hasRsi a then codeREFUSED
  else match genGroup a, memberGroup a with
    | some g, _ => if bitAt d 19 then codeOK else if s.genFits g data && (s.armCheck g).1 then codeOK else codeREFUSED
    | none, some g => if s.armed g then codePENDING else codeOK
    | none, none =>
      if (isSheafReg a || (a = R.LAY_SHEAF && bitAt d 0)) && s.rd F.LAY_SHEAFSTAT_STATE ≠ 0 then codePENDING
      else if s.stateOpen a d then codeOK else codeREFUSED

/-! ### What a read returns -/

/-- The applied copies of RWS registers and of the projection models stand 0x8000 above them (R141, R209). -/
def appliedOf (a : Nat) : Option Nat :=
  let off := a % 0x10000
  let b := blockOf a
  if isReg a && 0x8000 ≤ off && 7 ≤ b && b ≤ 9 && (isSheafReg (a - 0x8000) || (b = 9 && (memberGroup (a - 0x8000)).isSome)) then some (a - 0x8000)
  else none

/-- A register, or an applied copy, stands at an address. -/
def readable (a : Nat) : Bool := (regDef a).isSome || (appliedOf a).isSome

/-- NEW and ACKED of every channel (MBX_PEND). -/
def State.mbxPend (s : State) : Nat :=
  (List.range 16).foldl (fun w n => w + 2 ^ n * s.rd (F.MBX_CH_STAT_NEW n) + 2 ^ (16 + n) * s.rd (F.MBX_CH_STAT_ACKED n)) 0

/-- The owner codes of eight locks (SEM_OWNERSj). -/
def State.semOwners (s : State) (j : Nat) : Nat := (List.range 8).foldl (fun w i => w + 16 ^ i * s.lockOwner (8 * j + i)) 0

/-- Age of the held IMU sample in ms (R140). DESIGN CHOICE (notes/assumptions/49.md): it counts from the sample's acceptance, and reads 0 while no sample is
held. -/
def State.imuAge (s : State) : Nat :=
  match s.imu.acceptedAt, s.imu.recent with
  | some t, _ :: _ => min 255 (divRoundNat (s.now - t) (msec 1))
  | _, _ => 0

/-- What a read of a register returns (R16): the stored word, but for registers that follow other state. THM_TILEk.VALID ends 15 ms after the last STATUS
(R264, R335), CMP_STAT.CHK_LANE names the lane of the band in progress (R173), and CVU_RESULT and CVU_RAW reflect every byte fed before (R471). DESIGN CHOICE (notes/assumptions/49.md):
between frames CHK_LANE keeps the lane of the last band, and its reset 15 before the first. -/
def State.readReg (s : State) (a : Nat) : Nat :=
  match appliedOf a with
  | some b => s.appReg b
  | none =>
    let w := s.regN a
    let off := a % 0x10000
    match blockOf a with
    | 4 => if 0x80 ≤ off && off < 0x90 && !s.tileFresh ((off - 0x80) / 4) then setBits w 16 16 0 else w
    | 5 => if 0x80 ≤ off && off < 0xE0 then setBits w 10 10 (b2n (s.monValid ((off - 0x80) / 4))) else w
    | 6 => if off = 0x54 then setBits w 31 24 s.imuAge else w
    | 8 =>
      if off = 4 then
        let w := setBits (setBits w 3 0 s.lanes) 20 20 (b2n s.symUnusable)
        setBits w 11 8 (match s.checkedLane 0, s.composing with
          | none, _ => 15
          | some _, some (_, c) => c % 8
          | some _, none => s.rd F.CMP_STAT_CHK_LANE)
      else w
    | 11 =>
      let p := off / 0x4000
      if off % 0x4000 = 0x58 then setBits (setBits w 0 0 (b2n (s.gleanLocked p 0))) 1 1 (b2n (s.gleanLocked p 1)) else w
    | 16 =>
      if off = 4 then s.brmSummary
      else if 0x410 ≤ off && off < 0x420 then s.regN (R.BRM_LOG_W (s.rd F.BRM_MSGCTRL_RD) ((off - 0x410) / 4))
      else w
    | 17 => if off < 0x400 && (off % 0x100 = 0x20 || off % 0x100 = 0x24) then (s.cvuDrained (off / 0x100)).regN a else w
    | 18 => if off = 0x1000 then s.mbxPend else w
    | 19 => if 0x100 ≤ off && off < 0x110 then s.semOwners ((off - 0x100) / 4) else w
    | _ => w

/-- The cause of R42 that a read of the data words of a secure mailbox channel meets: no other master than its endpoints reads them (R453). -/
def State.readWindowError (s : State) (m : Master) (a : Nat) : Option Nat :=
  let off := a % 0x10000
  let n := off / 0x100
  if blockOf a = 18 && off < 0x1000 && 0x840 ≤ off && 0x40 ≤ off % 0x100 && off % 0x100 < 0xC0
    && m.num != s.sender n && m.num != s.receiver n then some 2 else none

/-- A read by bus (R14, R16, R42): a register as one aligned word, memory as 1, 2 or 4 bytes in little-endian order; a failed read returns
0xD0FF_D0FF. A read of a lock tries to take it (R465). The read of a mailbox buffer that meets an uncorrectable error raises DICT_MEM and ends with
cause 2 (R452). -/
def State.busRead (s : State) (m : Master) (size a : Nat) (ecc : Bool) : State :=
  match s.busError m size false a, s.readWindowError m a with
  | some c, _ => s.readFailed m a c
  | none, some c => s.readFailed m a c
  | none, none =>
    if !isReg a then s.emit (.busWord m a (s.num a size))
    else if blockOf a = 18 && ecc then (s.raise Src.DICT_MEM).readFailed m a 2
    else if blockOf a = 19 && a % 0x10000 < 0x80 then s.readLock m (a % 0x10000 / 4)
    else s.emit (.busWord m a (s.readReg a))

/-! ### Bus writes -/

/-- A write that has passed the checks of R42 reaches MBX, SEM and CVU with its master (R453, R467, R472), and every other block as firmware's
own word or without (R290). -/
def State.reachReg (s : State) (m : Master) (a : Nat) (data : Word) : State :=
  let off := a % 0x10000
  match blockOf a with
  | 17 => s.writeCvu m (off / 0x100) (off % 0x100) data
  | 18 =>
    if off < 0x1000 then s.mbxStore m (off / 0x100) (off % 0x100) data
    else if off = 0x1004 then s.writeEprst m data
    else s
  | 19 => if off < 0x80 then s.writeLock m (off / 4) data else s
  | _ => s.writeReg a (if m == .mgmt then s.firmwareWord a data else data)

/-- The cause that a channel's window adds to R42 (R453, R454). -/
def State.windowError (s : State) (m : Master) (a : Nat) : Option Nat :=
  if blockOf a = 18 && a % 0x10000 < 0x1000 then s.mbxError m (a % 0x10000 / 0x100) (a % 0x100) else none

def execSysBlkownWrite (m : Master) (data : Word) (s : State) : Out :=
  s.withBus m R.SYS_BLKOWN data fun s => s.writeBlkown data

/-- A write to a generation register (R47). -/
def execGenArm (m : Master) (g : Group) (data : Word) (s : State) : Out :=
  if !g.ok then .next s else s.withBus m g.gen data fun s => s.writeGen g data

/-- A write to a generation register with NOARM (R47). -/
def execGenNoarmClear (m : Master) (g : Group) (data : Word) (s : State) : Out :=
  if !g.ok then .next s else s.withBus m g.gen data fun s => s.writeGen g data

/-! ### Application points (R46–R48) -/

/-- The refresh start that falls at this moment. -/
def State.refreshNow (s : State) : Option Nat :=
  match s.cf.refDue with
  | some (t, _) => if t ≤ s.now then some t else if s.cf.refStart ≠ 0 && s.cf.refStart = s.now then some s.now else none
  | none => if s.cf.refStart ≠ 0 && s.cf.refStart = s.now then some s.now else none

/-- The arm of a projection model preceded the band-0 snapshot of a refresh that starts at t (R209). -/
def State.projReady (s : State) (t p : Nat) : Bool :=
  match s.armedAt.lookup (R.GME_PM_GEN p) with
  | some a => a + 138000 ≤ t
  | none => false

/-- The moment is an application point of the group (R47). Groups of the refresh wait for a refresh start (R209, R276, R340), a stream for a moment without
a frame FILLING (R125), a chain's values for the start of its STREAM (R287), a loop's gains for its sample, a buck channel for a switching period of it,
the budget for a ledger tick that is due (R319), the IMU axes only for EN 0, since a sample applies them otherwise (R137). -/
def State.pointNow (s : State) : Group → Bool
  | .proj t => s.on .gme && (match s.refreshNow with | some r => s.projReady r t | none => false)
  | .map _ => s.on .mgmt && s.refreshNow.isSome
  | .glean p => s.on (portDom p) && s.refreshNow.isSome
  | .stream n => s.on .net && (List.range 4).all fun k => s.bufState n k != 1
  | .imu => s.on .net && !s.flag F.VIN_IMUCFG_EN
  | .energy => s.on .drv && s.dueSince (s.ran.lookup .ledger) (usec 100)
  | .satVal c => s.on .drv && (s.chain c).lit && s.sat.period = some s.now
  | .pid n => s.on .drv && s.flag (F.PID_L_CTRL_EN n) && s.pidDue n
  | .buck n => s.on .drv && s.periodDue n

/-- A group's application point comes (R47). -/
def State.groupPoint (s : State) (g : Group) : State :=
  if !s.pointNow g then s
  else match g with
    | .map t => s.applyMap t
    | .stream n => s.applyStream n
    | .energy => s.applyBudget
    | .proj _ | .glean _ | .imu | .satVal _ | .pid _ | .buck _ => s.applyGroup g

def execGroupApply (g : Group) (s : State) : Out := .next (if g.ok then s.groupPoint g else s)

end Sys2Proof.Machine
end

