-- ==== Sys2Proof/Machine/Network.lean ====
section
/-!
DEFINITION. The field network (R403–R406, R411), the arrival of Onoth requests (R410, R412, R446, R448), and the safety envelope (R416–R424).
-/

namespace Sys2Proof.Machine

/-! ### Ethernet (R116–R118, R403, R404) -/

/-- The address filter (R403). -/
def State.addrAccepts (s : State) (f : EthFrame) : Bool :=
  let own := s.macAddr f.mac
  let avtp := f.body == .rvf || f.body == .avtpOther
  if own = 0 then f.body == .gptp && f.dst == gptpAddr
  else
    (f.dst == own || (f.dst == broadcastAddr && f.body == .arp) || f.dst == gptpAddr || (s.mcast f.dst && avtp))
    && match f.body with
      | .udp ip _ _ => ip != 0 && ip == s.regN (R.NET_IP f.mac)
      | .icmpEcho ip _ => ip != 0 && ip == s.regN (R.NET_IP f.mac)
      | .gptp | .rvf | .avtpOther | .arp | .other => true

/-- A frame that a MAC takes at all (R116). -/
def EthFrame.sound (f : EthFrame) : Bool :=
  f.fcsGood && f.tags ≤ 1 && f.length ≤ 9216 && match f.body with
    | .udp _ _ odd => !odd
    | .icmpEcho _ odd => !odd
    | .gptp | .rvf | .avtpOther | .arp | .other => true

/-- PATH of a UDP connection admits a MAC (R424). -/
def State.pathAdmits (s : State) (c mac : Nat) : Bool :=
  match s.rd (F.NET_ENV_CFG_PATH c) with
  | 0 => true
  | 1 => mac = 0
  | 2 => mac = 1
  | _ => false

/-- An enabled consumer connection takes the UDP port on this MAC (R416). -/
def State.envPort (s : State) (mac port : Nat) : Bool :=
  (List.range 8).any fun c => s.flag (F.NET_ENV_CFG_EN c) && s.rd (F.NET_ENV_CFG_KIND c) ≠ 2 && s.pathAdmits c mac
    && s.rd (F.NET_ENV_CFG_PORT c) == port

/-- Where a frame that passed the filter goes (R117). -/
def State.classify (s : State) (f : EthFrame) : RxClass :=
  match f.body with
  | .gptp => if f.dst = gptpAddr && s.rd F.VIN_CTRL_GPTP_PORT = f.mac then .timeEngine else .dropped
  | .rvf => .stream
  | .avtpOther => .dropped
  | .arp => .arp
  | .icmpEcho _ _ => .icmp
  | .udp _ port _ =>
    if port = s.rd F.VIN_OLCFG_PORT then
      if !s.flag F.VIN_CTRL_OL_EN || !s.on .vin then .dropped
      else if s.flag F.VIN_OLCFG_ENV then .envelope else .objectList
    else if port = 48620 then (if s.flag F.NET_CTRL_ONOTH_UDP then .onoth else .dropped)
    else if s.envPort f.mac port then .envelope else .dropped
  | .other => .dropped

/-- A received Ethernet frame is filtered, queued or dropped at a full queue, stamped and classified (R35, R116–R118, R403). -/
def State.receive (s : State) (f : EthFrame) : State :=
  if !s.macOn f.mac || !f.sound || !s.addrAccepts f then s
  else if f.queueFull then s.bump (if f.mac = 0 then F.VIN_DROP_ERX0 else F.VIN_DROP_ERX1)
  else
    let c := s.classify f
    let s := if f.body == .avtpOther then s.bump F.VIN_DROP_UNKNOWN else s
    if c == .dropped then s else s.emit (.received f.mac c s.localTime)

def execEthFrameReceive (f : EthFrame) (s : State) : Out := .next (s.receive f)

/-- A MAC has an IP address and an address of its own, so that it answers for them. -/
def State.macAnswers (s : State) (n ip : Nat) : Bool := s.macOn n && s.macAddr n ≠ 0 && ip ≠ 0 && ip == s.regN (R.NET_IP n)

/-- An ARP request for the device's own address is answered (R404). -/
def execArpRequest (mac srcMac srcIp target : Nat) (s : State) : Out :=
  .next (if s.macAnswers mac target then s.emit (.arpReply mac srcMac srcIp) else s)

/-- An echo request of up to 256 bytes is answered, at most 10 a second on a MAC (R404). -/
def execIcmpEcho (mac srcMac srcIp dst : Nat) (data : List Byte) (s : State) : Out :=
  let recent := (s.net.pings.getD mac []).filter fun t => s.now < t + sec 1
  .next (if s.macAnswers mac dst && data.length ≤ 256 && recent.length < 10 then
    { s with net := { s.net with pings := s.net.pings.set mac (s.now :: recent) } }.emit (.icmpReply mac srcMac srcIp data)
  else s)

/-- The fields of a MAC in NET_LINKSTAT. -/
def fMacUp (n : Nat) : Fld := if n = 0 then F.NET_LINKSTAT_E0_UP else F.NET_LINKSTAT_E1_UP
def fMacDown (n : Nat) : Fld := if n = 0 then F.NET_LINKSTAT_E0_DOWN else F.NET_LINKSTAT_E1_DOWN

/-- A MAC's link is down: at first it is noted, and after 100 ms ETH_LINK is raised once (R404). -/
def State.linkDown (s : State) (n : Nat) : State :=
  if s.flag (fMacUp n) then
    { s with net := { s.net with down := s.net.down.set n (some s.now) } }.wr (fMacUp n) 0 |>.bump (fMacDown n)
  else match s.net.down.getD n none with
    | some t =>
      if s.since t (msec 100) then { s with net := { s.net with down := s.net.down.set n none } }.raise (Src.ETH_LINK n) else s
    | none => s

def execEthLinkDown (mac : Nat) (s : State) : Out := .next (if s.macOn mac then s.linkDown mac else s)

/-- The link is up again (R404, R424). -/
def execEthLinkUp (mac : Nat) (s : State) : Out :=
  .next (if s.macOn mac then { s with net := { s.net with down := s.net.down.set mac none } }.wr (fMacUp mac) 1 else s)

/-! ### Arrival of Onoth requests (R408, R410, R412, R448) -/

/-- The entry of a UDP client, or the one that a new client takes: a free one, else that of the longest inactive client (R410). -/
def State.udpEntry (s : State) (ip port : Nat) : Nat :=
  let known := (List.range 8).find? fun k => (s.onoth.udp.getD k none).any fun u => u.ip == ip && u.port == port
  let free := (List.range 8).find? fun k => (s.onoth.udp.getD k none).isNone
  let age : Nat → Nat := fun k => match s.onoth.udp.getD k none with | some u => u.active | none => 0
  let oldest := (List.range 8).foldl (fun b k => if age k < age b then k else b) 0
  match known, free with
  | some k, _ => k
  | none, some k => k
  | none, none => oldest

/-- The requests of a client that has been replaced: they are still answered, and count for no client any more (notes/assumptions/50.md). -/
def OnothReq.orphaned (q : OnothReq) (k : Nat) : OnothReq := if q.client = k then { q with client := 11 } else q

/-- The client of a UDP request, entered in the table; a client that is replaced loses its session and its last response (R410, R412). -/
def State.udpClient (s : State) (ip port : Nat) : State :=
  let k := s.udpEntry ip port
  let known := (s.onoth.udp.getD k none).any fun u => u.ip == ip && u.port == port
  let s := if known then s
    else
      let s := s.endSessions fun x => x.client = k
      { s with onoth := { s.onoth with last := s.onoth.last.set k (0, []), queue := s.onoth.queue.map fun q => q.orphaned k
                                       serving := s.onoth.serving.map fun w => (w.1, w.2.orphaned k) } }
  let u : UdpClient := { ip := ip, port := port, active := s.now }
  let s := { s with onoth := { s.onoth with udp := s.onoth.udp.set k (some u) } }
  s.wr F.NET_ONOTH2_CLIENTS (s.onoth.udp.filter Option.isSome).length

/-- The client number of a source (R435): 0–7 UDP, 8 and 9 the buses, 10 host SPI. -/
def State.clientOf (s : State) (src : NetFrom) : Nat :=
  match src with
  | .udp _ _ ip port => s.udpEntry ip port
  | .can bus _ => 8 + bus
  | .hspi => 10

/-- The master that brings a source's requests (R448). -/
def NetFrom.master : NetFrom → Nat
  | .hspi => 2
  | .udp _ _ _ _ | .can _ _ => 3

/-- The MGMT cycle of an instant (R34). -/
def mgmtCycle (t : Nat) : Nat := t * 2 / 3

/-- Whether a request is served before another that arrived in another order: earlier MGMT cycle, lower master, lower client (R448). -/
def OnothReq.before (a b : OnothReq) : Bool :=
  let x := mgmtCycle a.at_
  let y := mgmtCycle b.at_
  decide (x < y) || (x == y && (decide (a.src.master < b.src.master) || (a.src.master == b.src.master && decide (a.client < b.client))))

/-- A request takes its place in the queue, behind those that it is not before. -/
def insertReq (q : OnothReq) : List OnothReq → List OnothReq
  | [] => [q]
  | p :: ps => if q.before p then q :: p :: ps else p :: insertReq q ps

/-- Requests of a client that wait or are in service. -/
def State.openRequests (s : State) (client : Nat) : Nat :=
  (s.onoth.queue.filter fun q => q.client = client).length + (s.onoth.serving.filter fun q => q.2.client = client).length

/-- A request arrives: it is queued, or with four requests of its client open it is answered BUSY by the bridge (R412). -/
def State.onothArrive (s : State) (src : NetFrom) (m : List Byte) : State :=
  if m.length < 8 then s else
  let s := match src with
    | .udp _ _ ip port => s.udpClient ip port
    | .can _ _ => s
    | .hspi => s
  let c := s.clientOf src
  let s := s.bump F.NET_ONOTH_REQUESTS
  if 4 ≤ s.openRequests c then (s.bump F.NET_ONOTH_BUSY).reply src 0 (responseTo m codeBUSY [])
  else
    let q : OnothReq := { client := c, src := src, at_ := s.now, message := m }
    { s with onoth := { s.onoth with queue := insertReq q s.onoth.queue } }

/-- Onoth is open on the way that a request comes (R410, R424). -/
def State.onothOpen (s : State) (src : NetFrom) : Bool :=
  s.on .mgmt && match src with
  | .udp mac _ _ _ => s.macOn mac && s.flag F.NET_CTRL_ONOTH_UDP && s.macAddr mac ≠ 0 && s.regN (R.NET_IP mac) ≠ 0
  | .can bus id => bus < 2 && s.canUp bus && s.flag (if bus = 0 then F.NET_CTRL_ONOTH_C0 else F.NET_CTRL_ONOTH_C1)
      && id == s.rd (F.NET_CAN_REQID_ID bus)
  | .hspi => false

def execOnothRequestArrive (src : NetFrom) (message : List Byte) (s : State) : Out :=
  .next (if s.onothOpen src then s.onothArrive src message else s)

/-! ### Envelopes received (R417–R421) -/

/-- A connection's hidden state. -/
def State.envN (s : State) (c : Nat) : EnvSt := s.net.env.getD c {}

def State.modEnv (s : State) (c : Nat) (f : EnvSt → EnvSt) : State := { s with net := { s.net with env := s.net.env.modify c f } }

/-- The consumer connection that an envelope reaches (R405, R416, R424). -/
def State.envFor (s : State) (src : NetFrom) (dstPort : Nat) : Option Nat :=
  (List.range 8).find? fun c =>
    s.flag (F.NET_ENV_CFG_EN c) && s.rd (F.NET_ENV_CFG_KIND c) ≠ 2 &&
    match src with
    | .udp mac _ ip _ => s.pathAdmits c mac && s.rd (F.NET_ENV_CFG_PORT c) == dstPort
        && (s.regN (R.NET_ENV_ADDR c) == 0 || s.regN (R.NET_ENV_ADDR c) == ip)
    | .can bus id => s.rd (F.NET_ENV_CFG_PATH c) == 3 + bus && s.regN (R.NET_ENV_ADDR c) % 2 ^ 29 == id
    | .hspi => false

/-- The length that LEN gives, over UDP exactly, over CAN FD filled up to a valid length (R417). -/
def envLengthOk (src : NetFrom) (bs : List Byte) : Bool :=
  match src with
  | .can _ _ => canLen (20 + leAt bs 6 2) == bs.length && 20 + leAt bs 6 2 ≤ 64
  | .udp _ _ _ _ | .hspi => 20 + leAt bs 6 2 == bs.length && leAt bs 6 2 ≤ 1452

/-- The Form check; the payload of a beam command is part of it (R419, R421). -/
def State.envForm (s : State) (c : Nat) (src : NetFrom) (bs : List Byte) : Bool :=
  20 ≤ bs.length && leAt bs 4 1 / 16 == 1 && leAt bs 5 1 == 0 && envLengthOk src bs
  && (s.rd (F.NET_ENV_CFG_KIND c) ≠ 1 || (leAt bs 6 2 == 4 && leAt bs 16 4 < 2))

/-- The CRC of R418 under a seed. -/
def envCrc (seed : Nat) (bs : List Byte) : Nat := envCrcSpec.digest (leBytes 4 seed ++ bs)

/-- The CRC that an envelope carries. -/
def envTail (bs : List Byte) : Nat := leAt bs (16 + leAt bs 6 2) 4

/-- An envelope that repeats the last accepted SEQ and CRC is a copy (R419). -/
def State.envCopy (s : State) (c : Nat) (bs : List Byte) : Bool :=
  (s.envN c).last == some (envTail bs) && leAt bs 2 2 == s.rd (F.NET_ENV_STAT_SEQ c)

/-- The checks before the Repeat check. -/
def State.envOpening (s : State) (c : Nat) (src : NetFrom) (bs : List Byte) : Nat :=
  if !s.envForm c src bs then 1
  else if leAt bs 0 2 ≠ s.rd (F.NET_ENV_ID_IDENT c) then 2
  else if envCrc (s.regN (R.NET_ENV_SEED c)) (bs.take (16 + leAt bs 6 2)) ≠ envTail bs then 3
  else 0

/-- The checks from the Repeat check on. -/
def State.envRest (s : State) (c : Nat) (bs : List Byte) : Nat :=
  let e := s.envN c
  let d := (leAt bs 2 2 + 65536 - s.rd (F.NET_ENV_STAT_SEQ c)) % 65536
  let known := e.last.isSome && !e.skip
  let ts := leAt bs 8 8
  let chk := s.flag (F.NET_ENV_CFG_TSCHK c)
  let now := s.localTime
  if known && d = 0 then 4
  else if known && 0x8000 ≤ d then 5
  else if e.last.isSome && leAt bs 4 1 % 16 == s.rd (F.NET_ENV_STAT_ALIVE c) && s.rd (F.NET_ENV_CFG_ALIVE_MAX c) ≤ e.same then 6
  else if chk && s.rd F.VIN_TIMESTAT_STATE = 0 then 7
  else if chk && now + 1000000 < ts then 8
  else if chk && ts + 1000000 * s.rd (F.NET_ENV_ID_EXPECT_MS c) < now then 9
  else 0

/-- A rejection: cause, count, ENV_CHECK; the timer runs on (R419). -/
def State.envReject (s : State) (c code : Nat) : State :=
  (((s.wr (F.NET_ENV_STAT_CAUSE c) code).bump (F.NET_ENV_CNT_REJECTED c)).modEnv c fun e => { e with good := 0 }).raise Src.ENV_CHECK

/-- HB_ALLOW in force: that of the last accepted envelope while the connection is OK (R421). -/
def State.showHb (s : State) (c : Nat) : State :=
  if s.rd (F.NET_ENV_CFG_KIND c) ≠ 1 then s
  else (s.wrB (F.NET_ENV_STAT_HB_ALLOW c) (s.rd (F.NET_ENV_STAT_STATE c) = 2 && (s.envN c).hb)).hbSync

/-- The parser takes lists in envelopes. -/
def State.takesLists (s : State) : Bool := s.on .vin && s.flag F.VIN_CTRL_OL_EN && s.flag F.VIN_OLCFG_ENV

/-- An envelope to VIN_OLCFG.PORT that fails its check is a list rejected with cause 9 (R129). -/
def State.listFails (s : State) (src : NetFrom) (dstPort : Nat) : State :=
  match src with
  | .udp _ _ _ _ => if dstPort = s.rd F.VIN_OLCFG_PORT then s.listUnproved else s
  | .can _ _ => s
  | .hspi => s

/-- What the consumer does with an accepted envelope (R421). Lists come over UDP to VIN_OLCFG.PORT alone (R118, R126). -/
def State.envConsume (s : State) (c : Nat) (src : NetFrom) (bs : List Byte) (copy : Bool) : State :=
  match s.rd (F.NET_ENV_CFG_KIND c) with
  | 0 =>
    match src with
    | .udp _ _ ip _ =>
      if s.takesLists && s.rd (F.NET_ENV_CFG_PORT c) = s.rd F.VIN_OLCFG_PORT then s.listArrives ip true copy ((bs.drop 16).take (leAt bs 6 2)) else s
    | .can _ _ => s
    | .hspi => s
  | 1 => (s.modEnv c fun e => { e with hb := leAt bs 16 4 % 2 == 1 }).showHb c
  | _ => s

/-- An acceptance (R419, R420): SEQ, ALIVE, counters, timer, and OK after two in a row. -/
def State.envAccept (s : State) (c : Nat) (src : NetFrom) (bs : List Byte) : State :=
  let seq := leAt bs 2 2
  let alive := leAt bs 4 1 % 16
  let e := s.envN c
  let d := (seq + 65536 - s.rd (F.NET_ENV_STAT_SEQ c)) % 65536
  let same := if e.last.isSome && alive == s.rd (F.NET_ENV_STAT_ALIVE c) then e.same + 1 else 0
  let e : EnvSt := { e with skip := false, last := some (envTail bs), same := same, good := e.good + 1, since := s.now, peer := some src }
  let s := if (s.envN c).last.isSome && 1 < d then s.bumpBy (F.NET_ENV_LOST_LOST c) (d - 1) else s
  let s := (((s.modEnv c fun _ => e).wr (F.NET_ENV_STAT_SEQ c) seq).wr (F.NET_ENV_STAT_ALIVE c) alive).bump (F.NET_ENV_CNT_ACCEPTED c)
  let s := if 2 ≤ e.good then s.wr (F.NET_ENV_STAT_STATE c) 2 else s
  s.envConsume c src bs false

/-- A copy is counted and handed on as one; it restarts no timer (R419). -/
def State.envDuplicate (s : State) (c : Nat) (src : NetFrom) (bs : List Byte) : State :=
  let s := s.bump (F.NET_ENV_LOST_COPIES c)
  if s.rd (F.NET_ENV_CFG_KIND c) = 0 then s.envConsume c src bs true else s

/-- The island checks an envelope (R419). DESIGN CHOICE (notes/assumptions/49.md): one that comes in while the island is not READY, an object list of
VIN_OLCFG.ENV among them, is dropped without any count or cause. -/
def State.envReceive (s : State) (src : NetFrom) (dstPort : Nat) (bs : List Byte) : State :=
  if !s.islandUp then s else
  match s.envFor src dstPort with
  | none => s.listFails src dstPort
  | some c =>
    let o := s.envOpening c src bs
    if o ≠ 0 then (s.envReject c o).listFails src dstPort
    else if s.envCopy c bs then s.envDuplicate c src bs
    else
      let r := s.envRest c bs
      if r ≠ 0 then (s.envReject c r).listFails src dstPort else s.envAccept c src bs

/-- A MAC takes UDP datagrams: it is on, with addresses of its own (R403). -/
def State.udpOpen (s : State) (mac : Nat) : Bool := s.macOn mac && s.macAddr mac ≠ 0 && s.regN (R.NET_IP mac) ≠ 0

/-- The way of an envelope is open: its MAC on with an address, or its bus up. -/
def State.envOpen (s : State) (src : NetFrom) (dstPort : Nat) : Bool :=
  match src with
  | .udp mac _ _ _ => s.udpOpen mac
      && (dstPort ≠ s.rd F.VIN_OLCFG_PORT || (s.flag F.VIN_CTRL_OL_EN && s.on .vin && s.flag F.VIN_OLCFG_ENV))
  | .can bus _ => bus < 2 && s.canUp bus
  | .hspi => false

def execEnvelopeReceive (src : NetFrom) (dstPort : Nat) (bytes : List Byte) (s : State) : Out :=
  .next (if s.envOpen src dstPort then s.envReceive src dstPort bytes else s)

/-- A datagram to VIN_OLCFG.PORT arrives (R117, R126): with ENV 1 it is an envelope, and goes to the island first. -/
def execObjectListArrive (d : OlDatagram) (s : State) : Out :=
  .next (if !(s.on .vin && s.flag F.VIN_CTRL_OL_EN && s.udpOpen d.mac) then s
    else if s.flag F.VIN_OLCFG_ENV then s.envReceive (.udp d.mac d.srcMac d.ip d.port) (s.rd F.VIN_OLCFG_PORT) d.data
    else s.listArrives d.ip false false d.data)

/-- A consumer's timer reaches EXPECT_MS (R420): TIMEOUT, counted once and raised; a connection that is in TIMEOUT already only skips the Repeat
and Order checks again. -/
def State.envTimeout (s : State) (c : Nat) : State :=
  let was := s.rd (F.NET_ENV_STAT_STATE c)
  let s := s.modEnv c fun e => { e with skip := true, good := 0 }
  if was = 3 then s
  else ((((s.wr (F.NET_ENV_STAT_STATE c) 3).bump (F.NET_ENV_CNT_TIMEOUTS c)).raise Src.ENV_TIMEOUT).showHb c)

def execEnvTimerExpiry (c : Nat) (s : State) : Out :=
  .next (if c < 8 && s.on .net && s.islandUp && s.flag (F.NET_ENV_CFG_EN c) && s.rd (F.NET_ENV_CFG_KIND c) ≠ 2
      && s.since (s.envN c).since (msec (s.rd (F.NET_ENV_ID_EXPECT_MS c))) then s.envTimeout c else s)

/-! ### The status envelope (R422) -/

/-- The payload of a producer. -/
def State.statusPayload (s : State) : List Byte :=
  let shown := (List.range 4).foldl (fun w n => w + 2 ^ (4 + n) * b2n (s.on (portDom n) && s.flag (F.LNK_HUSK_SHOWN n))) 0
  let flags := b2n s.lampFail + 2 * b2n (s.glareOff (s.cf.cur.getD 0)) + 4 * b2n (s.rd F.SAF_VIOL_HELD ≠ 0)
    + 8 * b2n (s.rd F.VIN_TIMESTAT_STATE = 0) + shown
  leBytes 1 s.mode.num ++ leBytes 1 flags ++ leBytes 1 (s.rd F.PWR_MODE_CAUSE) ++ leBytes 1 0 ++ leBytes 4 (s.cf.cur.getD 0)

/-- An envelope with its CRC (R417, R418). -/
def envelopeBytes (ident seq alive ts seed : Nat) (payload : List Byte) : List Byte :=
  let body := leBytes 2 ident ++ leBytes 2 seq ++ leBytes 1 (alive % 16 + 16) ++ leBytes 1 0 ++ leBytes 2 payload.length ++ leBytes 8 ts ++ payload
  body ++ leBytes 4 (envCrc seed body)

/-- An envelope leaves by the connection's path, if it can (R422). -/
def State.envSend (s : State) (c : Nat) (bs : List Byte) : State :=
  let path := s.rd (F.NET_ENV_CFG_PATH c)
  if 3 ≤ path then
    if s.canUp (path - 3) then (s.sendCan (path - 3) (s.regN (R.NET_ENV_ADDR c) % 2 ^ 29) (canPad bs)).bump (F.NET_ENV_CNT_ACCEPTED c) else s
  else match (s.envN (s.rd (F.NET_ENV_CFG_PEER c))).peer with
    | some (.udp mac m ip port) =>
      if s.macOn mac && s.pathAdmits c mac then (s.emit (.envelope c (.udp mac m ip port) bs)).bump (F.NET_ENV_CNT_ACCEPTED c) else s
    | _ => s

/-- A producer builds its envelope: SEQ and ALIVE advance whether or not it can be sent (R422). -/
def State.envBuild (s : State) (c : Nat) : State :=
  let seq := (s.rd (F.NET_ENV_STAT_SEQ c) + 1) % 65536
  let alive := (s.rd (F.NET_ENV_STAT_ALIVE c) + 1) % 16
  let s := ((s.wr (F.NET_ENV_STAT_SEQ c) seq).wr (F.NET_ENV_STAT_ALIVE c) alive).modEnv c fun e => { e with since := s.now }
  s.envSend c (envelopeBytes (s.rd (F.NET_ENV_ID_IDENT c)) seq alive s.localTime (s.regN (R.NET_ENV_SEED c)) s.statusPayload)

def execEnvelopeProduce (c : Nat) (s : State) : Out :=
  .next (if c < 8 && s.on .net && s.islandUp && s.flag (F.NET_ENV_CFG_EN c) && s.rd (F.NET_ENV_CFG_KIND c) = 2
      && s.since (s.envN c).since (msec (s.rd (F.NET_ENV_ID_EXPECT_MS c))) then s.envBuild c else s)

/-! ### Configuration of the connections (R416, R423, R435) -/

/-- The subs of 0x1400 + c: size, least and greatest value, default (R424, R435). -/
def envSubs : List (Nat × Nat × Nat × Nat) :=
  [(1, 0, 1, 0), (1, 0, 2, 0), (1, 0, 4, 0), (1, 0, 1, 1), (1, 1, 15, 3), (1, 0, 7, 0), (2, 0, 65535, 0), (4, 0, 2 ^ 32 - 1, 0),
    (2, 0, 65535, 0), (1, 10, 250, 100), (4, 0, 2 ^ 32 - 1, 0)]

/-- A firmware-held object set; one that takes its default is no longer listed. -/
def State.setObj (s : State) (index sub : Nat) (dflt value : List Byte) : State :=
  let objs := s.dict.objs.filter fun o => o.1 != (index, sub)
  let objs := if value = dflt then objs
    else objs.takeWhile (fun o => o.1.1 < index || (o.1.1 == index && o.1.2 < sub)) ++ [((index, sub), value)]
      ++ objs.dropWhile (fun o => o.1.1 < index || (o.1.1 == index && o.1.2 < sub))
  { s with dict := { s.dict with objs := objs } }

/-- A connection's configuration as its object gives it. -/
structure EnvCfg where
  en : Bool
  kind : Nat
  path : Nat
  peer : Nat
  port : Nat
  addr : Nat
  expect : Nat
  deriving DecidableEq, Repr

def State.envCfg (s : State) (c : Nat) : EnvCfg :=
  let v := fun sub d => s.objN (0x1400 + c) sub d
  { en := v 1 0 = 1, kind := v 2 0, path := v 3 0, peer := v 6 0, port := v 7 0, addr := v 8 0, expect := v 10 100 }

/-- Two enabled connections share a UDP port on a common MAC, or an identifier on one bus (R416). -/
def EnvCfg.clash (a b : EnvCfg) : Bool :=
  if 3 ≤ a.path || 3 ≤ b.path then a.path == b.path && a.addr % 2 ^ 29 == b.addr % 2 ^ 29
  else a.port == b.port && (a.path == b.path || a.path = 0 || b.path = 0)

/-- The island accepts the configuration of connection c beside the others (R416). -/
def State.envAllowed (s : State) (c : Nat) : Bool :=
  let x := s.envCfg c
  let others := ((List.range 8).filter (· ≠ c)).filter fun k => (s.envCfg k).en
  let p := s.envCfg x.peer
  !(x.path ≤ 2 && x.port = 48620) && !(x.kind = 2 && 125 < x.expect)
  && !((x.kind = 2 || 3 ≤ x.path) && others.any fun k => (s.envCfg k).kind = 2 && (s.envCfg k).peer = c)
  && (!x.en ||
    (!(x.kind = 0 && x.port ≠ s.rd F.VIN_OLCFG_PORT)
      && !(x.kind ≤ 1 && others.any fun k => (s.envCfg k).kind == x.kind)
      && !(x.kind = 2 && (p.kind = 2 || 3 ≤ p.path))
      && !(others.any fun k => x.clash (s.envCfg k))))

/-- The service of a write to a connection, in the order of R428; the island refuses with RANGE (R416). Each
write that is accepted passes over the secure channels (R416, R453), and one that changes the connection voids the confirmation. -/
def State.envService (s : State) (c sub : Nat) (bs : List Byte) : Nat × State :=
  match envSubs[sub - 1]? with
  | none => (codeNOSUB, s)
  | some (size, lo, hi, d) =>
    if sub = 0 then (codeACCESS, s)
    else if !s.flag F.PWR_MODE_COMM || !s.islandUp then (codeMODE, s)
    else if bitAt s.dict.sealed 1 then (codeSEALED, s)
    else if bs.length ≠ size then (codeLENGTH, s)
    else if ofLeBytes bs < lo || hi < ofLeBytes bs then (codeRANGE, s)
    else
      let t := s.setObj (0x1400 + c) sub (leBytes size d) bs
      if !t.envAllowed c then (codeRANGE, s)
      else if t.dict.objs = s.dict.objs then (codeOK, s.passSecure)
      else (codeOK, (t.loadEnv c).voidConfirm.hbSync.passSecure)

def execEnvConfigWrite (c sub : Nat) (value : List Byte) (s : State) : Out :=
  .next (if !s.firmwareUp then s
    else if 8 ≤ c then s.answer (0x1400 + c) sub codeNOOBJECT
    else
      let r := s.envService c sub value
      r.2.answer (0x1400 + c) sub r.1)

/-! ### CAN FD (R405, R406, R411) -/

/-- A message in reassembly is dropped (R411). -/
def State.dropAsm (s : State) (bus : Nat) : State :=
  match s.net.asm.getD bus none with
  | some _ => { s with net := { s.net with asm := s.net.asm.set bus none } }.bump F.NET_ONOTH_DROPPED
  | none => s

/-- The message of a Single frame: what its LEN says where the padding fits, otherwise all of it. -/
def singleMessage (data : List Byte) : List Byte :=
  let rest := data.drop 1
  let n := 8 + leAt rest 6 2
  if n ≤ rest.length && canLen (1 + n) = data.length then rest.take n else rest

/-- A Consecutive frame: the next segment, or the message is dropped (R411). -/
def State.takeSegment (s : State) (bus id n : Nat) (rest : List Byte) : State :=
  match s.net.asm.getD bus none with
  | none => s
  | some a =>
    if n ≠ a.next || a.at_ + msec 50 < s.now then s.dropAsm bus
    else
      let bs := a.bytes ++ rest
      if a.total ≤ bs.length then
        { s with net := { s.net with asm := s.net.asm.set bus none } }.onothArrive (.can bus id) (bs.take a.total)
      else
        let a : CanAsm := { a with bytes := bs, next := n % 63 + 1, at_ := s.now }
        { s with net := { s.net with asm := s.net.asm.set bus (some a) } }

/-- A First frame begins a message (R411). -/
def State.firstSegment (s : State) (bus id : Nat) (data : List Byte) : State :=
  let s := s.dropAsm bus
  let total := leAt data 1 2
  let bs := data.drop 3
  if 1032 < total then s.bump F.NET_ONOTH_DROPPED
  else if total ≤ bs.length then s.onothArrive (.can bus id) (bs.take total)
  else
    let a : CanAsm := { total := total, bytes := bs, next := 1, at_ := s.now }
    { s with net := { s.net with asm := s.net.asm.set bus (some a) } }

/-- One segment of the bus's client, by its PCI (R411). -/
def State.segment (s : State) (bus id : Nat) (data : List Byte) : State :=
  let pci := leAt data 0 1
  match pci / 64 with
  | 0 => if pci % 64 = 0 && 9 ≤ data.length then (s.dropAsm bus).onothArrive (.can bus id) (singleMessage data) else s
  | 1 => if pci % 64 = 0 && 3 ≤ data.length then s.firstSegment bus id data else s
  | 2 => s.takeSegment bus id (pci % 64) (data.drop 1)
  | _ => s

/-- The error counters after a frame: a controller with a count of 128 or more is error passive. PRESUMED (ISO 11898-1, which R405 names;
notes/assumptions/38.md). -/
def State.countErrors (s : State) (f : CanRecv) : State :=
  ((s.wr (F.NET_CAN_ERR_TEC f.bus) (min 255 f.txErr)).wr (F.NET_CAN_ERR_REC f.bus) (min 255 f.rxErr)).wr (fCanState f.bus)
    (if 128 ≤ f.txErr || 128 ≤ f.rxErr then 2 else 1)

/-- A received CAN frame: counted as classical, or a segment of a request, or an envelope, or ignored (R405). -/
def State.canReceive (s : State) (f : CanRecv) : State :=
  if !s.canUp f.bus || 2 ≤ f.bus then s else
  let s := s.countErrors f
  if !f.sound then s
  else if !f.fd then s.bump (F.NET_CAN_ERR_CLASSIC f.bus)
  else if f.ide != s.flag (F.NET_CAN_CFG_IDE f.bus) then s
  else if s.onothOpen (.can f.bus f.id) then s.segment f.bus f.id f.data
  else s.envReceive (.can f.bus f.id) 0 f.data

def execCanFrameReceive (f : CanRecv) (s : State) : Out := .next (s.canReceive f)

/-- More than 50 ms have passed since the last segment (R411). -/
def execSegmentTimeout (bus : Nat) (s : State) : Out :=
  .next (match s.net.asm.getD bus none with
    | some a => if s.on .net && a.at_ + msec 50 < s.now then s.dropAsm bus else s
    | none => s)

/-- A controller reaches bus-off (R406). -/
def execCanBusoff (bus : Nat) (s : State) : Out :=
  .next (if bus < 2 && s.canUp bus then
    let s := { s with net := { s.net with asm := s.net.asm.set bus none } }
    ((((s.wr (fCanState bus) 3).wr (F.NET_CAN_ERR_TEC bus) 255).bump F.NET_LINKSTAT_BUSOFF).raise (Src.CAN_BUSOFF bus))
  else s)

/-- After 128 occurrences of 11 recessive bits the controller rejoins the bus, with AUTOREC (R406). -/
def execCanBusoffRecover (bus : Nat) (s : State) : Out :=
  .next (if bus < 2 && s.on .net && s.flag (fCanEn bus) && s.rd (fCanState bus) = 3 && s.flag F.NET_CTRL_AUTOREC then
    ((s.wr (fCanState bus) 1).wr (F.NET_CAN_ERR_TEC bus) 0).wr (F.NET_CAN_ERR_REC bus) 0 else s)

end Sys2Proof.Machine
end

