-- ==== Sys2Proof/Machine/Objects.lean ====
section
/-!
DEFINITION. The objects of the dictionary (R425–R432, R434–R443, R463): which exist, their types and access codes, what a read of each returns,
and the checks that come before a value is looked at (R428 steps 1–5).
-/

namespace Sys2Proof.Machine

/-- The types of R425: an unsigned number of n bytes, BOOL, STRING and DOMAIN with their maximum. -/
inductive OTyp where
  | u (bytes : Nat) | bool | str (max : Nat) | dom (max : Nat)
  deriving DecidableEq, Repr

/-- The access codes of objects (R19). -/
inductive OAcc where
  | const | ro | rw | wo | rwc | rws
  deriving DecidableEq, Repr

/-- An object or a sub of one. -/
structure ObjDef where
  typ : OTyp
  acc : OAcc
  deriving DecidableEq, Repr

def OAcc.writable : OAcc → Bool
  | .const | .ro => false
  | .rw | .wo | .rwc | .rws => true

/-! ### Register entries (R430–R432) -/

/-- B_X and block number, in ascending B_X (R431). -/
def entryBlocks : List (Nat × Nat) :=
  [(0x1100, 20), (0x1200, 6), (0x2100, 1), (0x2180, 0), (0x2200, 2), (0x2280, 3), (0x2300, 21), (0x2380, 15), (0x3000, 7), (0x3080, 8),
    (0x3100, 10), (0x3180, 11), (0x4000, 9), (0x6000, 14), (0x6800, 4), (0x7200, 16), (0x8000, 5), (0x9800, 12), (0xA000, 13)]

/-- The 512 bytes that a register index covers: their address. -/
def entryBase (index : Nat) : Option Nat :=
  (entryBlocks.find? fun e => e.1 ≤ index && index < e.1 + 128).map fun e => blockBase e.2 + 512 * (index - e.1)

/-- The register behind an entry; sub 0 has none. -/
def entryAddr (index sub : Nat) : Option Nat :=
  match entryBase index with
  | some b => if 1 ≤ sub && sub ≤ 128 && readable (b + 4 * (sub - 1)) then some (b + 4 * (sub - 1)) else none
  | none => none

/-- Index and sub of a register (R431). -/
def entryOf (a : Nat) : Option (Nat × Nat) :=
  (entryBlocks.find? fun e => e.2 = blockOf a).map fun e => (e.1 + a % 0x10000 / 512, a % 512 / 4 + 1)

/-- The entries that R432 makes RWC. -/
def rwcEntry (a : Nat) : Bool :=
  let off := a % 0x10000
  match blockOf a with
  | 20 => (0x10 ≤ off && off < 0x50) || ((0x60 ≤ off && off < 0x80) && off % 0x10 < 0x0C)
  | 11 => a % 0x4000 = R.LNK_EXPSER_LO 0 % 0x4000 || a % 0x4000 = R.LNK_EXPSER_HI 0 % 0x4000 || a % 0x4000 = R.LNK_EXPHUSK 0 % 0x4000
  | 14 => a = R.ENG_HOLD
  | 5 => (List.range 4).any fun t => a = R.CAL_HEAD t
  | _ => false

/-- The entries that R432 makes RO, one of them while the planner runs. -/
def State.roEntry (s : State) (a : Nat) : Bool :=
  let off := a % 0x10000
  match blockOf a with
  | 0 => a = R.SYS_BLKOWN
  | 1 => true
  | 5 => (memberGroup a).isSome || (genGroup a).isSome
  | 14 => s.flag F.ENG_CTRL_PLAN && (List.range 4).any fun c => a = R.ENG_GRANT c
  | 16 => 0x100 ≤ off && off < 0x300
  | _ => false

/-- The access code of an entry: the most permissive of its fields; RSI alone gives RO, and RO beside WO gives both, RW (R432). -/
def State.entryAcc (s : State) (a : Nat) : OAcc :=
  match regDef a with
  | none => .ro
  | some r =>
    let has := fun c => r.fields.any fun f => f.acc == c
    if s.roEntry a then .ro
    else if rwcEntry a then .rwc
    else if has .rws then .rws
    else if has .rw || has .w1c || has .w1s then .rw
    else if has .wo then (if has .ro || has .rsi then .rw else .wo)
    else .ro

/-! ### The other objects -/

/-- The subs of an object from 1 on (R362, R400, R435, R436, R440, R441, R443, R463). -/
def subObjects (index : Nat) : List ObjDef :=
  let u : Nat → OAcc → ObjDef := fun n a => ⟨.u n, a⟩
  let b : OAcc → ObjDef := fun a => ⟨.bool, a⟩
  match index with
  | 0x1000 => [u 4 .const, u 4 .const, u 1 .const, u 8 .ro, u 4 .ro, u 1 .ro, u 1 .ro, u 2 .const]
  | 0x1010 => [u 2 .const, u 1 .ro, u 1 .ro]
  | 0x1F00 => [u 4 .ro, u 2 .ro, u 4 .rw]
  | 0x2000 => [u 1 .ro, b .ro, b .ro, u 1 .ro, u 1 .ro, b .ro, u 1 .ro]
  | 0x2001 => [u 1 .rw, b .wo, b .wo, b .wo, u 1 .rw, u 1 .ro]
  | 0x2002 => [u 1 .rw, u 1 .rw, u 1 .rw, u 1 .rw, u 4 .rw, u 4 .ro]
  | 0x2003 => [u 2 .ro, u 2 .wo]
  | 0x2004 => [u 2 .ro, u 2 .ro, u 2 .rw]
  | 0x2008 => [u 2 .rw]
  | 0x2010 => [b .wo, b .wo, u 1 .ro]
  | 0x2020 => [u 1 .ro, u 1 .ro, u 4 .ro, u 4 .ro, b .wo]
  | 0x2030 => [u 4 .ro, u 8 .wo, u 8 .wo, u 1 .ro]
  | 0x2040 => [u 1 .wo]
  | 0x5000 => [u 2 .rwc, u 1 .rwc]
  | 0x5002 => [u 2 .rwc, u 2 .rwc]
  | 0x5020 => List.replicate 7 (u 2 .rwc) ++ [b .rwc]
  | 0x5030 => [u 2 .rwc, u 1 .rwc, b .rwc]
  | 0x5FFF => [u 4 .rwc, u 4 .ro, u 1 .ro]
  | 0x7000 => List.replicate 8 (u 4 .ro)
  | 0x7001 => List.replicate 8 (u 4 .wo)
  | 0x7002 => List.replicate 8 (u 4 .wo)
  | 0x7003 => List.replicate 16 (u 4 .rwc)
  | 0x7004 => List.replicate 64 (u 4 .rwc)
  | 0x7005 => [u 4 .ro, u 4 .ro]
  | 0x7006 => List.replicate 64 (u 4 .ro)
  | 0x7100 => List.replicate 64 ⟨.dom 16, .ro⟩
  | 0x7101 => [u 1 .ro, u 2 .ro]
  | 0x7800 => [⟨.dom 144, .ro⟩, ⟨.dom 144, .ro⟩]
  | _ =>
    if 0x1400 ≤ index && index ≤ 0x1407 then
      [b .rwc, u 1 .rwc, u 1 .rwc, b .rwc, u 1 .rwc, u 1 .rwc, u 2 .rwc, u 4 .rwc, u 2 .rwc, u 1 .rwc, u 4 .rwc]
    else if 0x5010 ≤ index && index ≤ 0x501F then b .rwc :: List.replicate 5 (u 2 .rwc)
    else if 0x9000 ≤ index && index ≤ 0x97FF then u 2 .rw :: u 1 .rw :: List.replicate 8 (u 4 .rw)
    else if 0xB000 ≤ index && index ≤ 0xB007 then [⟨.dom 64, .wo⟩, ⟨.dom 66, .ro⟩, u 4 .wo, u 4 .ro, u 4 .ro, u 4 .rw]
    else []

/-- An object without subindexes (R362, R400, R435, R439). -/
def plainObject (index : Nat) : Option ObjDef :=
  match index with
  | 0x1008 => some ⟨.str 16, .const⟩
  | 0x1009 => some ⟨.str 32, .rwc⟩
  | 0x100A => some ⟨.u 1, .rwc⟩
  | 0x5001 => some ⟨.dom 4096, .rwc⟩
  | 0x7102 => some ⟨.dom 65536, .ro⟩
  | _ =>
    if 0x8100 ≤ index && index ≤ 0x8103 then some ⟨.dom 524288, .rwc⟩
    else if 0x8110 ≤ index && index ≤ 0x8113 then some ⟨.dom 524352, .rwc⟩
    else if (0x8120 ≤ index && index ≤ 0x8123) || (0x8130 ≤ index && index ≤ 0x8133) then some ⟨.dom 1048576, .ro⟩
    else none

/-- The object at an index and a sub, or NO_OBJECT or NO_SUB; sub 0 of an object with subindexes is the highest one (R426, R431). -/
def State.findObj (s : State) (index sub : Nat) : Except Nat ObjDef :=
  match plainObject index, entryBase index with
  | some d, _ => if sub = 0 then .ok d else .error codeNOSUB
  | none, some b =>
    if !(List.range 128).any fun i => readable (b + 4 * i) then .error codeNOOBJECT
    else if sub = 0 then .ok ⟨.u 1, .const⟩
    else match entryAddr index sub with
      | some a => .ok ⟨.u 4, s.entryAcc a⟩
      | none => .error codeNOSUB
  | none, none =>
    match subObjects index with
    | [] => .error codeNOOBJECT
    | ds => if sub = 0 then .ok ⟨.u 1, .const⟩ else match ds[sub - 1]? with
      | some d => .ok d
      | none => .error codeNOSUB

/-! ### What a read returns -/

/-- 0x1000 (R435). -/
def State.identity (s : State) (sub : Nat) : Nat :=
  match sub with
  | 1 => 0x0000CAF1
  | 2 => 0x00002104
  | 3 => 1
  | 4 => Config.serial
  | 5 => s.regN R.BIST_BOOTVER
  | 6 => if s.flag F.BIST_BOOT_RECOVERY then 2 else s.rd F.BIST_BOOT_SLOT
  | 7 => s.boot.rollback
  | _ => 0x0100

/-- 0x2000 to 0x2040 (R436). -/
def State.deviceValue (s : State) (index sub : Nat) : Nat :=
  match index, sub with
  | 0x2000, 1 => s.rd F.PWR_MODE_MODE
  | 0x2000, 2 => s.rd F.PWR_MODE_COMM
  | 0x2000, 3 => s.rd F.PWR_MODE_DEMAND
  | 0x2000, 4 => s.rd F.PWR_MODE_CAUSE
  | 0x2000, 5 => s.rd F.PWR_MODE_PREV
  | 0x2000, 6 => s.rd F.PWR_RUNGATE_PERMIT
  | 0x2000, _ => s.rd F.PWR_RUNGATE_DENY
  | 0x2001, 1 => s.rd F.PWR_MODEREQ_REQ
  | 0x2001, 5 => s.rd F.PWR_MODE_COMM
  | 0x2001, _ => s.rd F.PWR_SLEEP_RESULT
  | 0x2002, 5 => s.regN R.PWR_WAKETIMER
  | 0x2002, 6 => s.regN R.PWR_WAKESTAT
  | 0x2002, k => bitsOf (s.regN R.PWR_WAKECFG) (8 * k - 1) (8 * k - 8)
  | 0x2003, _ => s.rd F.PWR_PADHOLD_GROUP
  | 0x2004, 1 => s.rd F.PWR_DOMSTAT_ON
  | 0x2004, 2 => s.rd F.PWR_DOMSTAT_FAILED
  | 0x2004, _ => s.regN R.PWR_DOMCTL
  | 0x2008, _ => s.regN R.SYS_BLKOWN
  | 0x2010, _ => s.rd F.ODX_STORE_STATE
  | 0x2020, 1 => s.rd F.ODX_LOAD_LOAD
  | 0x2020, 2 => s.rd F.ODX_LOAD_PEAK
  | 0x2020, 3 => s.dict.busyCount
  | 0x2020, _ => s.dict.deferCount
  | 0x2030, 1 => s.dict.sealed
  | 0x2030, _ => s.dict.unsealFails
  | _, _ => 0

/-- 0x7000 to 0x7101 (R400), but for the log entries. -/
def State.faultValue (s : State) (index sub : Nat) : Nat :=
  match index, sub with
  | 0x7000, k => s.regN (R.BRM_STAT (k - 1))
  | 0x7003, k => s.regN (R.BRM_CLASS (k - 1))
  | 0x7004, k => s.regN (R.BRM_GRACE (k - 1))
  | 0x7005, 1 => s.brmSummary
  | 0x7005, _ => s.regN R.BRM_SELFSTAT
  | 0x7006, k => s.regN (R.BRM_CNT (k - 1))
  | 0x7101, 1 => s.rd F.BRM_LOGSTAT_NEXT
  | _, _ => s.rd F.BRM_LOGSTAT_SEQ

/-- The posted message of a tunnel channel: SEQ and payload, or SEQ 0 alone (R463). -/
def State.tunnelMessage (s : State) (n : Nat) : List Byte :=
  if s.flag (F.MBX_CH_STAT_FULL n) then
    leBytes 2 (s.rd (F.MBX_CH_STAT_SEQ n))
      ++ ((List.range 16).flatMap fun k => leBytes 4 (s.regN (R.MBX_CH_RX n k))).take (s.rd (F.MBX_CH_STAT_LEN n))
  else leBytes 2 0

/-- 0xB000 + n (R463). -/
def State.tunnelValue (s : State) (n sub : Nat) : List Byte :=
  match sub with
  | 2 => s.tunnelMessage n
  | 4 => leBytes 4 (s.regN (R.MBX_CH_STAT n))
  | 5 => leBytes 4 (s.regN (R.MBX_CH_ACK n))
  | _ => leBytes 4 (s.regN (R.MBX_CH_CFG n))

/-- The default of a sub of a node object (R440). -/
def nodeDefault (sub : Nat) : List Byte :=
  match sub with
  | 1 => leBytes 2 0xFFFF
  | 2 => leBytes 1 0xFF
  | _ => leBytes 4 0

/-- The value of an object that is no register entry, of a sub other than the highest-subindex one. -/
def State.plainValue (s : State) (client index sub : Nat) : List Byte :=
  match index with
  | 0x1000 => leBytes (if sub = 4 then 8 else if sub = 8 then 2 else if sub = 3 || sub = 6 || sub = 7 then 1 else 4) (s.identity sub)
  | 0x1008 => [0x50, 0x4C, 0x53, 0x32, 0x31, 0x30, 0x34]
  | 0x1009 => s.obj 0x1009 0 []
  | 0x100A => s.obj 0x100A 0 [0]
  | 0x1010 => if sub = 1 then leBytes 2 48620 else if sub = 2 then leBytes 1 (s.rd F.NET_ONOTH2_CLIENTS) else leBytes 1 client
  | 0x1F00 => if sub = 1 then leBytes 4 (s.rd F.ODX_ATTN_FLAGS) else if sub = 2 then leBytes 2 (s.rd F.ODX_ATTN_CHANGES) else leBytes 4 s.dict.risen
  | 0x5FFF => if sub = 1 then leBytes 4 (s.regN R.SAF_CONFVAL) else if sub = 2 then leBytes 4 (s.regN R.SAF_CONFCHK)
      else leBytes 1 (s.rd F.SAF_STATE_CONF)
  | 0x7100 => (List.range 4).flatMap fun j => leBytes 4 (s.regN (R.BRM_LOG_W (sub - 1) j))
  | 0x7102 => s.bytes (flashBase + 0x02000000) 65536
  | 0x7800 => if sub = 1 then s.recs.newest else s.recs.previous
  | _ =>
    if index ≤ 0x1407 then
      match envSubs[sub - 1]? with
      | some e => s.obj index sub (leBytes e.1 e.2.2.2)
      | none => []
    else if index < 0x3000 then
      match (subObjects index)[sub - 1]? with
      | some ⟨.u n, _⟩ => leBytes n (s.deviceValue index sub)
      | _ => leBytes 1 (s.deviceValue index sub)
    else if index < 0x6000 then s.saf.params.value index sub
    else if index < 0x8000 then leBytes (if index = 0x7101 then sub else 4) (s.faultValue index sub)
    else if index < 0x8110 then gainMapBytes (s.cal.g0.getD (index - 0x8100) [])
    else if index < 0x8120 then defectMapBytes (s.cal.defs.getD (index - 0x8110) [])
    else if index < 0x8130 then voltagePayload (s.cal.base.getD (index - 0x8120) [])
    else if index < 0x8140 then voltagePayload (s.cal.ageDone.getD (index - 0x8130) [])
    else if index < 0xA000 then s.obj index sub (nodeDefault sub)
    else s.tunnelValue (index - 0xB000) sub

/-- What a read of an object that exists returns to a client (R426, R427, R431). -/
def State.objValue (s : State) (client index sub : Nat) : List Byte :=
  match plainObject index, entryBase index with
  | none, some _ => match entryAddr index sub with
    | some a => leBytes 4 (s.readReg a)
    | none => leBytes 1 128
  | none, none => if sub = 0 then leBytes 1 (subObjects index).length else s.plainValue client index sub
  | some _, _ => s.plainValue client index sub

/-- What a read does beside returning the value: TAKE writes SEEN (R463). -/
def State.readEffect (s : State) (index sub : Nat) : State :=
  if 0xB000 ≤ index && index ≤ 0xB007 && sub = 2 then s.writeSeen (index - 0xB000) 1#32 else s

/-! ### Steps 1 to 5 of R428 -/

/-- The seal group of an object (R438). -/
def sealGroup (index sub : Nat) : Option Nat :=
  match entryAddr index sub with
  | some a =>
    if !rwcEntry a then none
    else match blockOf a with
      | 20 => some 4
      | 11 => some 3
      | _ => some 5
  | none =>
    if 0x5000 ≤ index && index ≤ 0x5FFE then some 0
    else if 0x1400 ≤ index && index ≤ 0x1407 then some 1
    else if index = 0x7003 || index = 0x7004 then some 2
    else if index = 0x1009 || index = 0x100A then some 3
    else if index = 0x2008 || (0x8100 ≤ index && index ≤ 0x811F) then some 5
    else none

def State.isSealed (s : State) (index sub : Nat) : Bool :=
  match sealGroup index sub with
  | some g => bitAt s.dict.sealed g
  | none => false

/-- Host SPI owns the register block behind an object (R40, R409). -/
def State.hostOwned (s : State) (index sub : Nat) : Bool :=
  match entryAddr index sub with
  | some a => (match blockOwner (blockOf a) with | .selectable b => s.bitR R.SYS_BLKOWN b | _ => false)
  | none => 0x8100 ≤ index && index ≤ 0x811F && s.bitR R.SYS_BLKOWN 1

/-- A POST, TAKE or ACK that its channel does not admit (R463). -/
def State.tunnelShut (s : State) (index sub : Nat) : Bool :=
  let n := index - 0xB000
  0xB000 ≤ index && index ≤ 0xB007 && 1 ≤ sub && sub ≤ 3
    && (!s.flag (F.MBX_CH_CFG_TUNNEL n) || !s.flag (F.MBX_CH_CFG_EN n) || (if sub = 1 then s.sender n else s.receiver n) ≠ 1)

/-- An object's own mode rule forbids a write of these bytes (R92, R84, R41, R86, R436–R438); what the island holds waits for the island. -/
def State.modeForbids (s : State) (index sub : Nat) (bs : List Byte) : Bool :=
  let comm := s.flag F.PWR_MODE_COMM
  match index, sub with
  | 0x2001, 2 => bs ≠ [0] && s.mode != .standby
  | 0x2001, 3 => bs ≠ [0] && s.mode != .husk
  | 0x2001, 4 => bs ≠ [0] && s.mode != .dark
  | 0x2001, 5 => bs ≠ [0] && s.mode != .standby
  | 0x2003, 2 => (List.range 11).any fun g => bitAt (ofLeBytes bs) g && !s.on (padGroupDom g)
  | 0x2004, 3 => s.mode != .standby
  | 0x2008, 1 => s.mode != .standby
  | 0x2010, 2 => !comm
  | 0x2030, 2 => !comm
  | 0x2040, 1 => !comm
  | i, _ =>
    if (0x5000 ≤ i && i ≤ 0x5FFF) || (0x1400 ≤ i && i ≤ 0x1407) then !s.islandUp
    else if 0x7001 ≤ i && i ≤ 0x7004 then !s.on .safe
    else 0x8100 ≤ i && i ≤ 0x811F && !s.on .mem

/-- The domain of a register entry is off (R83). -/
def State.entryOff (s : State) (index sub : Nat) : Bool :=
  match entryAddr index sub with
  | some a => !s.on (blockDom (blockOf a) (a % 0x10000))
  | none => false

/-- Steps 1 to 4 for a read (R428). -/
def State.gateRead (s : State) (index sub : Nat) : Nat :=
  match s.findObj index sub with
  | .error c => c
  | .ok d =>
    if d.acc == .wo || s.tunnelShut index sub then codeACCESS
    else if s.entryOff index sub then codeMODE
    else codeOK

/-- Step 8 for a commissioning map: its group is armed, or its check runs (R48, R428). -/
def State.mapPending (s : State) (index : Nat) : Bool :=
  0x8100 ≤ index && index ≤ 0x811F && (s.armed (.map (index % 16)) || (s.cal.checks.getD (index % 16) none).isSome)

/-- Steps 1 to 5 for a write of these bytes (R428). -/
def State.gateWrite (s : State) (index sub : Nat) (bs : List Byte) : Nat :=
  match s.findObj index sub with
  | .error c => c
  | .ok d =>
    if !d.acc.writable || s.hostOwned index sub || s.tunnelShut index sub then codeACCESS
    else if (d.acc == .rwc && !s.flag F.PWR_MODE_COMM) || s.modeForbids index sub bs || s.entryOff index sub then codeMODE
    else if s.isSealed index sub then codeSEALED
    else codeOK

/-! ### Lengths and the ranges of types (R425) -/

/-- One byte of a UTF-8 string: how many continuation bytes follow, and the range of the next one; none once the string is malformed. -/
def utf8Step (st : Option (Nat × Nat × Nat)) (b : Byte) : Option (Nat × Nat × Nat) :=
  let v := b.toNat
  match st with
  | none => none
  | some (0, _, _) =>
    if v < 0x80 then some (0, 0, 0)
    else if 0xC2 ≤ v && v ≤ 0xDF then some (1, 0x80, 0xBF)
    else if v = 0xE0 then some (2, 0xA0, 0xBF)
    else if v = 0xED then some (2, 0x80, 0x9F)
    else if 0xE1 ≤ v && v ≤ 0xEF then some (2, 0x80, 0xBF)
    else if v = 0xF0 then some (3, 0x90, 0xBF)
    else if 0xF1 ≤ v && v ≤ 0xF3 then some (3, 0x80, 0xBF)
    else if v = 0xF4 then some (3, 0x80, 0x8F)
    else none
  | some (k + 1, lo, hi) => if lo ≤ v && v ≤ hi then some (k, 0x80, 0xBF) else none

/-- A string is valid UTF-8. -/
def utf8Ok (bs : List Byte) : Bool :=
  match bs.foldl utf8Step (some (0, 0, 0)) with
  | some (0, _, _) => true
  | _ => false

/-- A DOMAIN of a length (R362, R439, R463). -/
def domLengthOk (index max n : Nat) : Bool :=
  n ≤ max && (
    if index = 0x5001 || (0x8100 ≤ index && index ≤ 0x8103) then n = max
    else if 0x8110 ≤ index && index ≤ 0x8113 then 64 ≤ n && n % 8 = 0
    else if 0xB000 ≤ index then 1 ≤ n
    else true)

/-- Steps 6 and 7 as far as the type decides them. -/
def typeCode (index : Nat) (t : OTyp) (bs : List Byte) : Nat :=
  match t with
  | .u n => if bs.length = n then codeOK else codeLENGTH
  | .bool => if bs.length ≠ 1 then codeLENGTH else if 1 < ofLeBytes bs then codeRANGE else codeOK
  | .str m => if m < bs.length then codeLENGTH else if utf8Ok bs then codeOK else codeRANGE
  | .dom m => if domLengthOk index m bs.length then codeOK else codeLENGTH

end Sys2Proof.Machine
end

