-- ==== Sys2Proof/Machine/Dictionary.lean ====
section
/-!
DEFINITION. What a write to each object does (R428 steps 7–9, R429, R433, R436–R440, R463), and the dictionary's own commands: Commissioning,
store, defaults, sealing, rollback, attention (R441, R442) and management load (R447–R449).
-/

namespace Sys2Proof.Machine

/-! ### Register entries (R427, R429, R433) -/

/-- The part of a word that retention keeps: its RW and RWS fields (R433). -/
def keptPart (a : Nat) (data : Word) : Word :=
  match regDef a with
  | some r => BitVec.ofNat 32 (r.fields.foldl (fun w f =>
      if f.acc == .rw || f.acc == .rws then setBits w f.hi f.lo (bitsOf data.toNat f.hi f.lo) else w) (resetWord a).toNat)
  | none => resetWord a

/-- The retained value of an entry follows a write; generation registers hold none of their own. -/
def State.keep (s : State) (a : Nat) (data : Word) : State :=
  if (genGroup a).isSome then s else { s with kept := Sparse.set resetWord s.kept a (keptPart a data) }

/-- The device itself turns the write away and notes it in a register, so that the write still reaches it: generations, staged members, the
sheaf, group membership, and requests of control registers. -/
def State.deviceNotes (s : State) (a : Nat) (data : Word) : Bool :=
  (genGroup a).isSome || (memberGroup a).isSome || isSheafReg a || a = R.LAY_SHEAF || !s.requestOpen a data.toNat
    || (blockOf a = 13 && a % 0x10000 < 0x80)

/-- A write to a register entry (R428 steps 7 to 9, R429). RSI fields stay as they are under a write of firmware (R16, R432). -/
def State.writeEntry (s : State) (a : Nat) (bs : List Byte) : Nat × State :=
  let data : Word := BitVec.ofNat 32 (ofLeBytes bs)
  let c := s.regCode a data
  if c = codeOK then (c, (s.writeReg a (s.firmwareWord a data)).keep a data)
  else if c ≠ codeRANGE && !hasRsi a && s.deviceNotes a data then (c, s.writeReg a data)
  else (c, s)

/-! ### Mode and device objects (R436, R437) -/

/-- COMMISSION (R76, R437): 1 enters, 0 leaves and stores. -/
def State.commission (s : State) (v : Nat) : Nat × State :=
  match v with
  | 0 => (codeOK, if s.flag F.PWR_MODE_COMM then s.endCommission.queueRetained else s)
  | 1 =>
    if s.mode != .standby then (codeMODE, s)
    else if s.demand then (codeREFUSED, s)
    else (codeOK, s.wr F.PWR_MODE_COMM 1)
  | _ => (codeRANGE, s)

/-- RECOVER and CLEAR_DARK as objects: a request that is refused sets REFUSED and is told so (R77, R78, R436). -/
def State.leaveRequest (s : State) (recover : Bool) : Nat × State :=
  let t := if recover then s.recover else s.clearDark
  if s.mode != (if recover then .husk else .dark) then (codeMODE, t)
  else if t.mode == s.mode then (codeREFUSED, t) else (codeOK, t)

/-- STORE (R433). -/
def State.storeRequest (s : State) (v : Nat) : Nat × State := (codeOK, if v = 1 then s.queueRetained else s)

/-- CLEAR_PEAK (R447). -/
def State.clearPeak (s : State) : State := s.wr F.ODX_LOAD_PEAK 0

/-- ROLLBACK_ADV (R108, R437): the ROLLBACK of the running image, above the fuse counter. -/
def State.advanceRollback (s : State) (v : Nat) : Nat × State :=
  if !s.flag F.PWR_MODE_COMM then (codeMODE, s)
  else if v ≠ s.boot.runRollback || v ≤ s.boot.rollback || 63 < v then (codeRANGE, s)
  else (codeOK, { s with boot := { s.boot with rollback := v } }.wr F.BIST_BOOT_ROLLBACK v)

/-- The groups that SEAL and UNSEAL name. -/
def sealGroups (value : Nat) : List Nat := bitList 32 (value % 2 ^ 32)

/-- SEAL (R438): the named groups of the six, under a KEY that is not 0. -/
def State.sealWith (s : State) (value : Nat) : Nat × State :=
  let key := value / 2 ^ 32 % 2 ^ 32
  let gs := sealGroups value
  if !s.flag F.PWR_MODE_COMM then (codeMODE, s)
  else if key = 0 || gs.any (5 < ·) then (codeRANGE, s)
  else
    let d : Dict := gs.foldl (fun (d : Dict) g => { d with sealed := setBits d.sealed g g 1, keys := d.keys.set g (key, value % 2 ^ 32) }) s.dict
    (codeOK, { s with dict := d })

/-- A refused unseal is counted. -/
def State.unsealFail (s : State) : Nat × State :=
  (codeREFUSED, { s with dict := { s.dict with unsealFails := min 255 (s.dict.unsealFails + 1) } })

/-- UNSEAL (R438): every named group was sealed with this mask and KEY; after three refusals in a drive cycle nothing is checked any more. -/
def State.unsealWith (s : State) (value : Nat) : Nat × State :=
  let key := value / 2 ^ 32 % 2 ^ 32
  let gs := sealGroups value
  if 3 ≤ s.dict.unsealFails then s.unsealFail
  else if gs.all fun g => bitAt s.dict.sealed g && s.dict.keys.getD g (0, 0) = (key, value % 2 ^ 32) then
    let d : Dict := gs.foldl (fun (d : Dict) g => { d with sealed := setBits d.sealed g g 0, keys := d.keys.set g (0, 0) }) s.dict
    (codeOK, { s with dict := d })
  else s.unsealFail

/-! ### Defaults (R436) -/

/-- A channel configuration as its tunnel object gives it; one that R453 ignores is REFUSED (R463). -/
def State.tunnelCfg (s : State) (n : Nat) (data : Word) : Nat × State :=
  let t := s.writeMbxCfg n data
  if reservedSet (R.MBX_CH_CFG n) data then (codeRANGE, s)
  else if t.regN (R.MBX_CH_CFG n) = data.toNat && !s.flag (F.MBX_CH_CFG_EN n) then
    (codeOK, t.setObj (0xB000 + n) 6 (leBytes 4 (resetWord (R.MBX_CH_CFG n)).toNat) (leBytes 4 data.toNat))
  else (codeREFUSED, t)

/-- Firmware brings the device in line with the objects of the AON domain and of host ownership (R41, R73, R84, R89). -/
def State.applyDeviceObjects (s : State) : State :=
  let s := s.writeModeReq (BitVec.ofNat 32 (s.objN 0x2001 1 0))
  let cfg := (List.range 4).foldl (fun w n => setBits w (8 * n + 7) (8 * n) (s.objN 0x2002 (n + 1) 0x0C)) 0
  (s.writeWakecfg (BitVec.ofNat 32 cfg)).setN R.PWR_WAKETIMER (s.objN 0x2002 5 0)

/-- Classes and graces as the objects give them (R389, R400). -/
def State.applyFaultObjects (s : State) : State :=
  if !s.on .safe then s else
  let s := (List.range 16).foldl (fun s r => s.setN (R.BRM_CLASS r) (s.objN 0x7003 (r + 1) (resetWord (R.BRM_CLASS r)).toNat)) s
  (List.range 64).foldl (fun s r => s.setN (R.BRM_GRACE r) (s.objN 0x7004 (r + 1) 0)) s

/-- A retained register entry outside sealed groups takes its default, at once where its block is the dictionary's and has power. -/
def State.defaultEntry (s : State) (a : Nat) : State :=
  match entryOf a with
  | none => s
  | some e =>
    if s.isSealed e.1 e.2 then s
    else
      let s := { s with kept := Sparse.set resetWord s.kept a (resetWord a) }
      if s.entryOff e.1 e.2 || s.hostOwned e.1 e.2 then s else s.writeReg a (resetWord a)

/-- The safety parameters take their defaults; a change voids the confirmation (R380, R450). -/
def State.defaultParams (s : State) : State :=
  let d : SafParams := {}
  let s := if bitAt s.dict.sealed 0 then s else d.entries.foldl (fun (s : State) e => s.takeParam e.1 e.2.1 e.2.2) s
  if s.regN R.SAF_CONFVAL = 0 then s else (s.setN R.SAF_CONFVAL 0).voidConfirm

/-- The commissioning maps take their defaults, g = 128 and no defect, and are planned anew (R342, R439). -/
def State.defaultMaps (s : State) : State :=
  if bitAt s.dict.sealed 5 then s else
  (List.range 4).foldl (fun s t =>
    let g := s.cal.g0.getD t []
    let d := s.cal.defs.getD t []
    if g.isEmpty && d.isEmpty then s else
    let s := { s with cal := { s.cal with g0 := s.cal.g0.set t [], defs := s.cal.defs.set t [] } }
    let s := if g.isEmpty then s else s.storeGain t []
    (if d.isEmpty then s else s.storeDefects t []).planTile t) s

/-- DEFAULTS (R436): every retained object outside sealed groups takes its default. -/
def State.takeDefaults (s : State) : State :=
  let s := s.kept.foldl (fun (s : State) p => s.defaultEntry p.1) s
  let dropped := s.dict.objs.filter fun o => !s.isSealed o.1.1 o.1.2
  let before := s
  let s := s.defaultMaps
  let s := { s with dict := { s.dict with objs := s.dict.objs.filter fun o => s.isSealed o.1.1 o.1.2, risen := 0 } }
  let s := (s.applyDeviceObjects.standbyObjects).applyFaultObjects
  let s := if before.gaveGrace s then s.voidConfirm else s
  let s := if dropped.any fun o => 0x1400 ≤ o.1.1 && o.1.1 ≤ 0x1407 then (s.loadEnvs.voidConfirm).hbSync else s
  let s := dropped.foldl (fun (s : State) o =>
    if 0xB000 ≤ o.1.1 then s.writeMbxCfg (o.1.1 - 0xB000) (resetWord (R.MBX_CH_CFG (o.1.1 - 0xB000))) else s) s
  if s.islandUp then s.defaultParams else s

/-- DEFAULTS is taken in Commissioning only. -/
def State.defaultsRequest (s : State) (v : Nat) : Nat × State :=
  if !s.flag F.PWR_MODE_COMM then (codeMODE, s) else (codeOK, if v = 1 then s.takeDefaults else s)

/-! ### Fault objects, maps, nodes, tunnel (R400, R439, R440, R463) -/

/-- CLEAR, HANDLED, CLASS and GRACE (R392, R393, R389). -/
def State.writeFaultObject (s : State) (index sub : Nat) (data : Word) : Nat × State :=
  let r := sub - 1
  match index with
  | 0x7001 => (codeOK, (namedSources r data).foldl State.clearSrc s)
  | 0x7002 =>
    let ks := namedSources r data
    (if ks.any fun k => 2 ≤ s.forceClass k then codeREFUSED else codeOK, ks.foldl State.handleByFirmware s)
  | 0x7003 =>
    if !classFits r data then (codeRANGE, s)
    else (codeOK, (s.writeClass r data).setObj index sub (leBytes 4 (resetWord (R.BRM_CLASS r)).toNat) (leBytes 4 data.toNat))
  | _ =>
    if !graceFits r data then (codeRANGE, s)
    else (codeOK, (s.writeGrace r data).setObj index sub (leBytes 4 0) (leBytes 4 data.toNat))

/-- The maps that go with the one that is written: the gain map applied, or the commissioning one; the defects that firmware holds. -/
def State.otherGain (s : State) (t : Nat) : List Byte :=
  if (s.appliedRanges t).isEmpty then gainMapBytes (s.cal.g0.getD t []) else s.bytes (4096 * s.app (F.CAL_MAP_GAIN_ADDR t)) gainBytes

/-- A commissioning map is placed in firmware's buffer and its group's check begins (R339, R439). -/
def State.writeMap (s : State) (t : Nat) (gain : Bool) (bs : List Byte) : Nat × State :=
  if s.mapPending (0x8100 + t) then (codePENDING, s)
  else if gain then
    let defs := s.cal.defs.getD t []
    (codeOK, s.placeMaps t bs (defectMapBytes defs) defs.length (some (gainFrom bs)) none)
  else
    let n := (bs.length - 64) / 8
    let defs := (List.range n).map fun i => leAt bs (64 + 8 * i) 8
    (codeOK, s.placeMaps t (s.otherGain t) bs n none (some defs))

/-- A node object (R440). -/
def State.writeNode (s : State) (index sub : Nat) (bs : List Byte) : Nat × State :=
  if 3 ≤ sub && bitsOf (ofLeBytes bs) 31 25 ≠ 0 then (codeRANGE, s) else (codeOK, s.setObj index sub (nodeDefault sub) bs)

/-- POST (R455, R463): firmware writes the staging buffer and posts, unless a message waits. -/
def State.tunnelPost (s : State) (n : Nat) (bs : List Byte) : Nat × State :=
  if s.flag (F.MBX_CH_STAT_FULL n) then (codeBUSY, s)
  else
    let s := (List.range 16).foldl (fun s k =>
      if 4 * k < bs.length then s.setN (R.MBX_CH_TX n k) (leAt bs (4 * k) 4) else s) s
    (codeOK, s.writeDoor n (BitVec.ofNat 32 bs.length))

/-- ACK (R458, R463): a stale one is REFUSED. -/
def State.tunnelAck (s : State) (n : Nat) (data : Word) : Nat × State :=
  let fits := s.flag (F.MBX_CH_STAT_FULL n) && bitsOf data.toNat 31 16 = s.rd (F.MBX_CH_STAT_SEQ n)
  (if fits then codeOK else codeREFUSED, s.writeAck n data)

/-- 0xB000 + n. -/
def State.writeTunnel (s : State) (n sub : Nat) (bs : List Byte) : Nat × State :=
  match sub with
  | 1 => s.tunnelPost n bs
  | 3 => s.tunnelAck n (BitVec.ofNat 32 (ofLeBytes bs))
  | _ => s.tunnelCfg n (BitVec.ofNat 32 (ofLeBytes bs))

/-! ### A write that has passed steps 1 to 6 -/

/-- 0x2001 to 0x2040. -/
def State.writeDevice (s : State) (index sub : Nat) (bs : List Byte) : Nat × State :=
  let v := ofLeBytes bs
  let set_ : State → Nat → State := fun s d => s.setObj index sub (leBytes bs.length d) bs
  match index, sub with
  | 0x2001, 1 => if 1 < v then (codeRANGE, s) else (codeOK, (set_ s 0).writeModeReq (BitVec.ofNat 32 v))
  | 0x2001, 2 => if v = 1 then s.sleepRequest else (codeOK, s)
  | 0x2001, 3 => if v = 1 then s.leaveRequest true else (codeOK, s)
  | 0x2001, 4 => if v = 1 then s.leaveRequest false else (codeOK, s)
  | 0x2001, _ => s.commission v
  | 0x2002, 5 => if 2 ^ 24 ≤ v then (codeRANGE, s) else (codeOK, (set_ s 0).setN R.PWR_WAKETIMER v)
  | 0x2002, k =>
    (codeOK, (set_ s 0x0C).writeWakecfg (BitVec.ofNat 32 (setBits (s.regN R.PWR_WAKECFG) (8 * k - 1) (8 * k - 8) v)))
  | 0x2003, _ => if 2 ^ 11 ≤ v then (codeRANGE, s) else (codeOK, s.releasePads (BitVec.ofNat 32 v))
  | 0x2004, _ => if reservedSet R.PWR_DOMCTL (BitVec.ofNat 32 v) then (codeRANGE, s) else (codeOK, (set_ s 0).writeDomctl (BitVec.ofNat 32 v))
  | 0x2008, _ => if 2 ^ 12 ≤ v then (codeRANGE, s) else (codeOK, (set_ s 0).writeBlkown (BitVec.ofNat 32 v))
  | 0x2010, 1 => s.storeRequest v
  | 0x2010, _ => s.defaultsRequest v
  | 0x2020, _ => (codeOK, if v = 1 then s.clearPeak else s)
  | 0x2030, 2 => s.sealWith v
  | 0x2030, _ => s.unsealWith v
  | _, _ => s.advanceRollback v

/-- RISEN: a written 1 clears its bit (R441). -/
def State.clearRisen (s : State) (v : Nat) : State :=
  { s with dict := { s.dict with risen := s.dict.risen - (s.dict.risen &&& v) } }

/-- The value reaches the object: steps 7 to 9 of R428 and the effect. -/
def State.applyWrite (s : State) (index sub : Nat) (bs : List Byte) : Nat × State :=
  match entryAddr index sub with
  | some a => s.writeEntry a bs
  | none =>
    if index = 0x1009 then (codeOK, s.setObj index sub [] bs)
    else if index = 0x100A then (if 3 < ofLeBytes bs then (codeRANGE, s) else (codeOK, s.setObj index sub [0] bs))
    else if index ≤ 0x1407 then s.envService (index - 0x1400) sub bs
    else if index = 0x1F00 then (codeOK, s.clearRisen (ofLeBytes bs))
    else if index < 0x3000 then s.writeDevice index sub bs
    else if index = 0x5FFF then s.confirmService (ofLeBytes bs)
    else if index < 0x6000 then s.paramService index sub bs
    else if index < 0x8000 then s.writeFaultObject index sub (BitVec.ofNat 32 (ofLeBytes bs))
    else if index < 0x8110 then s.writeMap (index - 0x8100) true bs
    else if index < 0x9000 then s.writeMap (index - 0x8110) false bs
    else if index < 0xA000 then s.writeNode index sub bs
    else s.writeTunnel (index - 0xB000) sub bs

/-- What is refused with MODE is noted where the object says so (R436). -/
def State.noteMode (s : State) (index sub : Nat) (bs : List Byte) : State :=
  if index = 0x2001 && (sub = 3 || sub = 4) && bs = [1] then s.mark F.PWR_MODEREQ_REFUSED else s

/-- A WRITE, or the whole value of a DOMAIN at DOM_END, in the order of R428. -/
def State.writeObject (s : State) (index sub : Nat) (bs : List Byte) : Nat × State :=
  let c := s.gateWrite index sub bs
  if c = codeMODE then (c, s.noteMode index sub bs)
  else if c ≠ codeOK then (c, s)
  else match s.findObj index sub with
    | .ok d =>
      let t := typeCode index d.typ bs
      if t ≠ codeOK then (t, s) else s.applyWrite index sub bs
    | .error e => (e, s)

/-! ### The dictionary's own commands -/

/-- A service that a command of its own carries: firmware serves it and answers; an answer BUSY is counted (R451). -/
def State.serveAs (s : State) (index sub : Nat) (r : Nat × State) : Out :=
  .next (if s.firmwareUp then (if r.1 = codeBUSY then r.2.countBusy else r.2).answer index sub r.1 else s)

def execCommissionEnter (s : State) : Out := s.serveAs 0x2001 5 (s.commission 1)
def execCommissionLeave (s : State) : Out := s.serveAs 0x2001 5 (s.commission 0)
def execDictStore (s : State) : Out := s.serveAs 0x2010 1 (s.storeRequest 1)
def execDefaults (s : State) : Out := s.serveAs 0x2010 2 (s.defaultsRequest 1)
def execSeal (value : Nat) (s : State) : Out := s.serveAs 0x2030 2 (s.sealWith value)
def execUnseal (value : Nat) (s : State) : Out := s.serveAs 0x2030 3 (s.unsealWith value)
def execRollbackAdv (value : Nat) (s : State) : Out := s.serveAs 0x2040 1 (s.advanceRollback value)
def execClearPeak (s : State) : Out := s.serveAs 0x2020 5 (codeOK, s.clearPeak)
def execRisenClear (value : Word) (s : State) : Out := s.serveAs 0x1F00 3 (codeOK, s.clearRisen value.toNat)

/-- A tunnel service by its own command, with the checks of R428 and R463. -/
def execTunnelPost (n : Nat) (data : List Byte) (s : State) : Out := s.serveAs (0xB000 + n) 1 (s.writeObject (0xB000 + n) 1 data)

def execTunnelAck (n value : Nat) (s : State) : Out := s.serveAs (0xB000 + n) 3 (s.writeObject (0xB000 + n) 3 (leBytes 4 value))

def execTunnelTake (n : Nat) (s : State) : Out :=
  let c := s.gateRead (0xB000 + n) 2
  s.serveAs (0xB000 + n) 2 (c, if c = codeOK then (s.readEffect (0xB000 + n) 2).emit (.tunnel n (s.tunnelMessage n)) else s)

/-! ### Attention (R441, R442) -/

/-- The conditions of the sixteen flags, bit 0 first. -/
def State.attention (s : State) : List Bool :=
  let four := List.range 4
  let lit := s.mode == .run || s.mode == .husk
  let st := s.rd F.GME_STAT_STATE
  let oneLaneAt := fun p => s.flag (F.LNK_CTRL_BOND p) && (s.rd (F.LNK_STATE_STATE p) == 7 || s.rd (F.LNK_STATE_STATE p) == 8)
    && popcount 2 (s.rd (F.LNK_STATE_LANEMAP p)) == 1
  [bitsOf s.brmSummary 4 1 != 0,
    s.mode == .husk || s.mode == .dark || (s.demand && s.mode != .run),
    s.flag F.ENG_PLAN_SHORT,
    s.flag F.THM_STAT_STATE,
    (four.any fun t => s.latched (Src.CAL_HEADROOM t) || s.flag (F.CAL_MAP_STAT_CRCFAIL t)) || s.flag F.CAL_EVENTS_HUSK_STALE,
    s.flag F.LAY_SHEAFSTAT_LATE || s.flag F.LAY_SHEAFSTAT_REFUSED || s.flag F.LAY_SHEAFSTAT_OVERLOAD,
    2 ≤ st && st ≤ 6,
    lit && four.any fun p => s.flag (F.LNK_CTRL_EN p) && (s.rd (F.LNK_STATE_STATE p) != 8 || oneLaneAt p),
    four.any fun c => s.flag (F.SAT_CH_CTRL_EN c)
      && (s.rd (F.SAT_CH_STAT_STATE c) == 3 || s.flag (F.SAT_CH_EVENTS_CHANGED c) || s.flag (F.SAT_CH_EVENTS_NODEALERT c)),
    ((List.range 8).any fun c => s.flag (F.NET_ENV_CFG_EN c) && s.rd (F.NET_ENV_CFG_KIND c) != 2 && s.rd (F.NET_ENV_STAT_STATE c) != 2)
      || ((List.range 2).any fun n => s.macOn n && !s.flag (fMacUp n))
      || (List.range 2).any (fun b => s.rd (fCanState b) == 3),
    s.rd F.VIN_TIMESTAT_STATE != 1,
    s.rd F.VIN_IMUSTAT_STATE == 2 || s.flag F.LAY_STALESTAT_WARN,
    decide (s.rd F.ODX_CFG_BG_HIGH ≤ s.rd F.ODX_LOAD_LOAD) || (match s.dict.busyAt with | some t => decide (s.now < t + sec 1) | none => false),
    2 ≤ s.rd F.ODX_STORE_STATE || s.latched Src.CAL_STORE,
    s.rd F.SAF_STATE_CONF != 1,
    (List.range 11).any s.bistFailed]

/-- The flag word. -/
def State.attentionWord (s : State) : Nat := ofBits s.attention

/-- Firmware evaluates the flags: each rise counts in CHANGES and sets its bit of RISEN. -/
def State.evalAttention (s : State) : State :=
  let old := s.rd F.ODX_ATTN_FLAGS
  let new := s.attentionWord
  let rises := new - (new &&& old)
  let s := (s.wr F.ODX_ATTN_FLAGS new).bumpBy F.ODX_ATTN_CHANGES (popcount 16 rises)
  { s with dict := { s.dict with risen := s.dict.risen ||| rises } }


/-! ### Management load (R447, R449) -/

/-- The load of the last 100 ms, in percent; background work is deferred from BG_HIGH on until it has stayed below BG_LOW for 100 ms. -/
def State.updateLoad (s : State) (load : Nat) : State :=
  let load := min load 100
  let s := (s.wr F.ODX_LOAD_LOAD load).wr F.ODX_LOAD_PEAK (max load (s.rd F.ODX_LOAD_PEAK))
  let d := s.dict
  if s.rd F.ODX_CFG_BG_HIGH ≤ load then { s with dict := { d with deferring := true, lowSince := none } }
  else if !d.deferring || s.rd F.ODX_CFG_BG_LOW ≤ load then { s with dict := { d with lowSince := none } }
  else
    let from_ := d.lowSince.getD s.now
    if s.since from_ (msec 100) then { s with dict := { d with deferring := false, lowSince := none } }.resumePlans
    else { s with dict := { d with lowSince := some from_ } }

/-- Every 10 ms (R447). -/
def execLoadUpdate (load : Nat) (s : State) : Out :=
  .next (if s.firmwareUp then s.periodic .load (msec 10) fun s => s.updateLoad load else s)

end Sys2Proof.Machine
end

