-- ==== Sys2Proof/Machine/Boot.lean ====
section
/-!
DEFINITION. Firmware when it starts and when a domain comes up: the dictionary store and the maps loaded (R102, R342, R433), retained registers
replayed (R434), groups and the first sheaf armed (R47, R154), pads released (R86); and the commands that start firmware or a domain.
-/

namespace Sys2Proof.Machine

/-! ### Replay (R434) -/

/-- The dictionary owns a block. -/
def State.dictOwns (s : State) (block : Nat) : Bool := s.owns .mgmt block

/-- The retained registers of a block that lie in a domain, in ascending index and sub. -/
def State.replayBlock (s : State) (d : Dom) (block : Nat) : State :=
  if !s.dictOwns block then s
  else (s.kept.filter fun p => blockOf p.1 = block && blockDom block (p.1 % 0x10000) = d).foldl (fun (s : State) p => s.writeReg p.1 (s.firmwareWord p.1 p.2)) s

/-- The groups that firmware arms after a replay; maps and Glean regions have rules of their own (R339, R367). -/
def replayGroups : Dom → List Group
  | .net => .imu :: (List.range 8).map Group.stream
  | .gme => (List.range 4).map Group.proj
  | .drv => (List.range 4).map Group.satVal ++ (List.range 16).map Group.pid ++ (List.range 4).map Group.buck ++ [.energy]
  | .aon | .mgmt | .safe | .vin | .mem | .cmp | .scn | .lnka | .lnkb => []

/-- A group is armed with the generation after the applied one (R47). -/
def State.replayArm (s : State) (g : Group) : State :=
  if !s.dictOwns (blockOf g.gen) || s.armed g then s
  else s.writeGen g (BitVec.ofNat 32 ((s.rd g.fApplied + 1) % 256))

/-- The pad groups that firmware releases with a domain; QSPI and TEST fall to the boot code, BUCK and SW to the handover (R86, R97). -/
def replayPads : Dom → Nat
  | .lnka => 0x001 | .lnkb => 0x002 | .net => 0x00C | .drv => 0x050 | .mgmt => 0x100 | _ => 0

/-- The connections, tunnel channels, classes and graces that are objects of their own come with their domain. -/
def State.replayObjects (s : State) (d : Dom) : State :=
  match d with
  | .net => if s.islandUp then s.loadEnvs.hbSync else s
  | .safe => s.applyFaultObjects
  | .mgmt => (List.range 8).foldl (fun (s : State) n =>
      match s.dict.objs.lookup (0xB000 + n, 6) with
      | some bs => s.writeMbxCfg n (BitVec.ofNat 32 (ofLeBytes bs))
      | none => s) s
  | _ => s

/-- A domain that has come up receives its configuration (R434). -/
def State.replay (s : State) (d : Dom) : State :=
  let s := entryBlocks.foldl (fun (s : State) e => s.replayBlock d e.2) s
  let s := (replayGroups d).foldl State.replayArm (s.replayObjects d)
  let s := if d == .cmp then { s with dict := { s.dict with sheafDue := true } } else s
  s.releasePads (BitVec.ofNat 32 (replayPads d))

/-- Firmware loads the next symbol that an enabled layer names into the emptied cache (R186): each index is tried once, and a load that begins is
awaited. -/
def State.reloadSymbol (s : State) (n : Nat) : State :=
  let i := s.rd (F.LAY_L_CTRL_SYM n)
  if s.comp.loading.isSome || s.rd (F.LAY_L_CTRL_EN n) = 0 || s.rd (F.LAY_L_CTRL_SRC n) ≠ 2 || s.comp.reload.contains i then s
  else { s with comp := { s.comp with reload := i :: s.comp.reload } }.writeSymload (BitVec.ofNat 32 (256 + i))

/-- The first sheaf: armed once CMP is on, the symbols that it names stand in the cache, and GME, where the mode wants it, is no longer awaited
(R154, R186, R434). -/
def State.firstSheaf (s : State) : State :=
  let gme := s.on .gme || !s.wanted .gme || s.bitF F.PWR_DOMSTAT_FAILED Dom.gme.num
  if s.dict.sheafDue && s.on .cmp && gme then
    let s := if s.dictOwns 8 && !s.symUnusable then (List.range 8).foldl State.reloadSymbol s else s
    if s.comp.loading.isSome then s else
    let s := { s with dict := { s.dict with sheafDue := false } }
    if s.dictOwns 7 && s.rd F.LAY_SHEAFSTAT_STATE = 0 then
      s.writeSheaf (BitVec.ofNat 32 (2 ^ 16 * s.rd F.LAY_SHEAF_TAG + 1))
    else s
  else s

/-! ### Firmware starts (R102, R342, R433) -/

/-- The newest valid store is loaded; with none of a store that was made, every object takes its default (R433, R450). -/
def State.loadDictionary (s : State) : State :=
  let made := !s.dict.storedKept.isEmpty || !s.dict.storedObjs.isEmpty || s.saf.stored.isSome
  match s.dictStored with
  | some (seq, d) =>
    { s with kept := d.kept, dict := { s.dict with objs := d.objs.filter fun o => o.1 != (0x1F00, 3)
                                                   risen := ofLeBytes ((d.objs.lookup (0x1F00, 3)).getD []), storedKept := d.kept, storedObjs := d.objs }
             saf := { s.saf with stored := some (d.params, d.confirmed) } }.setN R.ODX_STORE (2 ^ 16 * seq)
  | none => { s with kept := [], dict := { s.dict with objs := [] } }.setN R.ODX_STORE (if made then 3 else 0)

/-- Firmware starts: the dictionary loaded and its objects brought into force, the registers of THM and MGMT replayed, so that the calibration stores are
loaded and planned with their retained coefficients, then every other domain that is on (R102, R342, R351, R434). -/
def State.firmwareStart (s : State) : State :=
  let s := s.loadDictionary
  let s := { s with dict := { s.dict with loaded := true, forStandby := true } }
  let s := (s.applyDeviceObjects.replayBlock .aon 4).replay .mgmt
  (Dom.gated.filter fun d => d != .mgmt && s.on d).foldl State.replay s.loadStores

/-! ### The steps of PREPARE in their order (R102) -/

/-- Step 8 of R102 is done: the island has started, or cannot (R112). Outside PREPARE no step waits for it. -/
def State.islandSettled (s : State) : Bool :=
  s.mode != .prepare || s.flag F.SAF_STATE_READY || s.boot.safeImage == some false || s.bistFailed 0 || s.bistFailed 1 || s.bistFailed 4
    || s.untestable 0 || s.untestable 4

/-- Steps 4 to 9 of R102 are done: firmware runs with its dictionary loaded, and the island has started, or cannot (R112). -/
def State.bootSteps (s : State) : Bool := s.flag F.BIST_BOOT_DONE && s.dict.loaded && s.islandSettled

/-- Every enabled chain has been enumerated in this PREPARE, or has lost its domain (R102, R288). -/
def State.enumsOver (s : State) : Bool :=
  s.bitF F.PWR_DOMSTAT_FAILED Dom.drv.num
    || (s.on .drv && (List.range 4).all fun c => !s.flag (F.SAT_CH_CTRL_EN c) || ((s.chain c).enum.isNone && !s.enumDue c))

/-- The island has turned the sequencer on in this PREPARE, and each switch is tested or its test deferred (R312, R377). DESIGN CHOICE
(notes/assumptions/49.md): PREPARE does not wait for a deferred test. -/
def State.switchesOver (s : State) : Bool :=
  (match s.pwr.prep with | some p => p.swRound | none => false) && s.sw.test.isNone
    && (s.sw.deferred.isSome || (List.range 8).all s.sw.round.contains)

/-- Steps 10 to 12 of R102 are done: tests over, ports trained, chains enumerated, switches and privileged outputs tested; a step that a failure keeps
from being done is passed over (R112). -/
def State.replaySteps (s : State) : Bool :=
  s.linksOver && s.enumsOver && (!s.flag F.SAF_STATE_READY || (s.saf.round.isSome && s.switchesOver))

/-- A composed frame is written back whole. -/
def State.firstComposed (s : State) : Bool := s.comp.shown.isSome || s.comp.frames.any fun f => f.bands.all Option.isSome

/-- No channel is on its way in the sequencer: firmware can take over each one that runs (R101). -/
def State.handReady (s : State) : Bool :=
  s.flag F.BIST_HUSKPATH_HANDED || !s.hwMayRun || (List.range 4).all fun n => s.hwN n == .running || s.hwN n == .failed

/-- Steps 10 to 13 of R102 are done but for the handover: the first CF is composed, and every channel can be handed over. -/
def State.lightSteps (s : State) : Bool := s.replaySteps && (s.firstComposed || s.lightingFailed) && s.handReady

/-- Without lamp demand PREPARE is complete after step 9 on the path to STANDBY, and after the step under way where the demand has ended (R80, R102). -/
def State.stepsToStandby (s : State) (p : Prep) : Bool :=
  let k := p.until_.getD 9
  s.bootSteps && (k < 10 || s.testsOver) && (k < 11 || s.linksOver) && (k < 12 || s.replaySteps)
    && (k < 13 || s.firstComposed || s.lightingFailed)

/-- PREPARE ends (R77, R80, R101, R102): STANDBY without lamp demand, once its last step is done; with it, once step 13 is done, HUSK for a failed lighting domain,
a pending HUSK request or PERMIT 0, and RUN otherwise. Firmware takes over every channel that the sequencer still runs. -/
def execPrepareComplete (s : State) : Out :=
  match s.mode, s.pwr.prep with
  | .prepare, some p =>
    if !s.demand then .next (if s.stepsToStandby p then s.enterStandby (if p.toRun then 0x0E else 0x06) else s)
    else if !s.bootSteps || !s.lightSteps then .next s
    else
      let s := if s.flag F.BIST_HUSKPATH_HANDED then s else s.handOver
      .next (if s.lightingFailed then s.enterHusk 0x11
        else if s.huskPending then s.enterHusk 0x08
        else if !s.flag F.PWR_RUNGATE_PERMIT then s.enterHusk 0x07
        else (s.endPrep.setMode .run 0x06).syncPads)
  | _, _ => .next s

/-- Firmware and the island go on with the steps of R102 whose turn has come: the dictionary, the round of switch tests, the first sheaf. -/
def State.goOn (s : State) : State :=
  let s := if s.firmwareUp && !s.dict.loaded && s.islandSettled then s.firmwareStart else s
  let s := if s.mode == .prepare && s.linksOver && s.stepDue 12 then s.seqOn else s
  if s.firmwareUp && (s.mode != .prepare || (s.replaySteps && s.stepDue 13)) then s.firstSheaf else s

/-- The boot ROM: both headers, the preferred slot, the other slot, recovery (R105, R107, R112); a valid image runs. -/
def execSecureBoot (readErrA readErrB : Bool) (s : State) : Out := .next (s.secureBoot readErrA readErrB).goOn

/-- The island's ROM verifies the staged image, starts its functions or not, and firmware goes on (R102, R106). -/
def execSafeImageVerify (s : State) : Out := .next s.verifyImage.goOn

/-- Recovery: an image that host software wrote into DRAM is checked under R105 and run (R107). -/
def execRecoveryImageLoad (base : Nat) (s : State) : Out := .next (s.recoveryLoad base).goOn

/-- A test of the island's switches ends, and the steps go on (R311). -/
def execSwTestEnd (mv : Nat) (s : State) : Out := .next (s.switchTestEnd mv).goOn

/-- The start-up round of step 12 (R376, R381), after which the steps go on. -/
def execStartupOutputRound (husk : Nat × Nat) (lampFail : Bool × Bool) (s : State) : Out := .next (s.startupRound husk lampFail).goOn

/-- Every 1 ms firmware evaluates the attention flags (R441), and goes on with what is due. -/
def execAttentionEval (s : State) : Out :=
  .next (if s.firmwareUp then s.periodic .attention (msec 1) fun s => s.goOn.evalAttention else s)

/-! ### A domain comes up (R82, R434) -/

/-- GME with SRAM that a test has marked starts withdrawn (R112, R214). -/
def State.gmeUp (s : State) : State := if s.bistBad 7 then { s with gme := { s.gme with sramFrom := some 0 } }.showSram else s

/-- The store of SCN starts empty: it fills the frames of the next boundary and the one after (R225, R245). In a retime hold the next boundary is
the one that the hold ends with (R168). -/
def State.scnUp (s : State) : State :=
  let n := match s.cf.hold, s.cf.next with | some h, _ => h.cf | none, some (n, _) => n | none, none => 0
  { s with scn := { s.scn with fillUpTo := n + 1 } }.showFill.keepChar

/-- The time engine starts in NOSYNC: GPTP_LOST is raised as soon as an event can be recorded, with NET and SAFE both up (R134, R387); as SAFE comes up
it is one of the sources that waited, in their order (R401). -/
def State.timeUp (s : State) (d : Dom) : State :=
  let lost := s.on .net && s.rd F.VIN_TIMESTAT_STATE = 0
  if d == .safe then
    (if lost then { s with brm := { s.brm with waiting := s.brm.waiting ++ [(Src.GPTP_LOST, 0)] } } else s).raiseWaiting
  else s.raiseIf (d == .net && lost) Src.GPTP_LOST

/-- A symbol is loaded, and firmware goes on with its first sheaf where that waits for it (R182, R186). -/
def execSymbolLoadComplete (s : State) : Out :=
  let t := s.symLoaded
  .next (if s.comp.loading.isSome && t.comp.loading.isNone then t.goOn else t)

/-- A domain is on: the hardware's own start, then firmware's. -/
def State.comeUp (s : State) (d : Dom) : State :=
  let s := (s.powerOn d).timeUp d
  let s := match d with
    | .gme => s.gmeUp
    | .scn => s.scnUp
    | _ => s
  let s := if d == .mem then (List.range 4).foldl State.retryMaps s else s
  if s.firmwareUp && s.dict.loaded then (s.replay d).goOn else s

/-- A gated domain that the mode wants reaches power-good and leaves reset (R82, R434). -/
def execDomainPowerUp (d : Dom) (s : State) : Out := .next (if s.comesUp d then s.comeUp d else s)

/-! ### A BIST slice ends (R109–R112, R214) -/

/-- A BIST slice ends, and the steps go on. With target 0 or 1 failed the island does not start its functions, and DENY says so (R112). -/
def execBistSliceEnd (target : Nat) (r : SliceResult) (s : State) : Out :=
  let t := s.bistSlice target r
  let t := if t.bistBad 7 && !s.bistBad 7 then t.gmeSramBad else t
  let t := if (t.bistFailed 0 && !s.bistFailed 0) || (t.bistFailed 1 && !s.bistFailed 1) then t.closeGate else t
  .next t.goOn

end Sys2Proof.Machine
end

