-- ==== Sys2Proof/Machine/Flash.lean ====
section
/-!
DEFINITION. The flash writer: the hold-up check before each sector program, supply loss, pages and sectors, and the fault log (R327,
R328, R341, R342, R399).
-/

namespace Sys2Proof.Machine

/-- The energy available on the hold-up rail in µJ (R10, R327): ½ × C × (V² − Vfloor²), the voltage at VHOLD in µV as the converter reads it. -/
def State.holdupEnergy (s : State) (vholdUv : Nat) : Nat :=
  let v : Rat := (senseUv vholdUv : Rat) * s.known .drv F.ENG_DIVH_RATIO / 65536000
  let f : Rat := s.known .drv F.ENG_HOLD_VFLOOR_MV
  (roundRat (s.known .drv F.ENG_HOLD_C_UF * (v * v - f * f) / 2000000)).toNat

/-- ENG_HOLDSTAT after a check, while DRV is on. -/
def State.noteHold (s : State) (e result : Nat) : State :=
  if s.on .drv then
    let s := (s.wr F.ENG_HOLDSTAT_EAVAIL (satNat 16 e)).wr F.ENG_HOLDSTAT_RESULT result
    if result = 2 then s.bump F.ENG_HOLDSTAT_DEFERS else s
  else s

/-- A dictionary store waits for the flash writer (R433). -/
def State.storeWaits (s : State) : Bool := s.flash.jobs.any fun j => j.mapId == 0x70

/-- A dictionary store that was deferred for more than 1 s is pending again as programs go on (R436). -/
def State.storeResumes (s : State) : State :=
  if s.rd F.ODX_STORE_STATE = 2 && s.storeWaits then s.wr F.ODX_STORE_STATE 1 else s

/-- The check before a sector program: it starts, erased, with its first page in flight, or is deferred (R327). -/
def State.checkProgram (s : State) (vholdUv : Nat) : State :=
  match s.flash.jobs with
  | [] => s
  | j :: rest =>
    let e := s.holdupEnergy vholdUv
    if s.known .drv F.ENG_HOLD_C_UF != 0 && s.known .drv F.ENG_HOLDMIN_MIN_UJ ≤ e && !s.pwr.supplyLost && !s.flash.held then
      let j := s.placeJob j
      let at_ := j.base + 4096 * j.index
      let p : SectorProg := { at_ := at_, data := sectorBytes j.payload j.mapId j.seq j.index }
      let s := s.setBytes (flashBase + at_) (List.replicate 4096 0xFF)
      { s with flash := { s.flash with jobs := j :: rest, prog := some p, cut := false, deferred := none, told := false
                                       loadHeld := false, checkedAt := s.now } }.storeResumes.noteHold e 1
    else
      let since := s.flash.deferred.getD s.now
      let longer := s.since since (sec 1)
      let late := longer && !s.flash.told
      let s := { s with flash := { s.flash with deferred := some since, checkedAt := s.now, told := s.flash.told || late, loadHeld := false } }
      let s := if longer && s.storeWaits then s.wr F.ODX_STORE_STATE 2 else s
      ((s.noteHold e 2).raiseIf late Src.HOLDUP_DEFER).abandonForSleep

/-- The load of the management processor defers the start of the next program: any but the commissioning store (R449). -/
def State.loadDefers (s : State) : Bool :=
  s.dict.deferring && (match s.flash.jobs with | j :: _ => !j.urgent | [] => false)

/-- The load defers the next program: the start counts once (R449). For sleep the program is abandoned (R92). -/
def State.deferByLoad (s : State) : State :=
  let s := if s.flash.loadHeld then s else { s with flash := { s.flash with loadHeld := true } }.countDeferred
  { s with flash := { s.flash with checkedAt := s.now } }.abandonForSleep

/-- A store that has fallen due is handed to the flash writer (R433, R450). -/
def State.takeDueStore (s : State) : State := if s.dict.storeDue then s.queueRetained else s

/-- Firmware is about to program a sector (R327, R449). -/
def execFlashSectorProgram (vholdUv : Nat) (s : State) : Out :=
  .next (if !s.on .mgmt || s.flash.prog.isSome || s.flash.deferred.isSome then s
    else
      let s := s.takeDueStore
      if s.loadDefers then s.deferByLoad else s.checkProgram vholdUv)

/-- A deferred program is checked again 10 ms after the last check (R327), unless the load defers its start (R449). -/
def execHoldupRetry (vholdUv : Nat) (s : State) : Out :=
  .next (if s.on .mgmt && s.flash.prog.isNone && s.flash.deferred.isSome && s.since s.flash.checkedAt (msec 10) then
    if s.loadDefers then s.deferByLoad else s.checkProgram vholdUv
    else s)

/-- The monitor chosen by SRC reads below VTH_MV; the operands are the voltages at VMON0 and VMON1 in µV, and VTH_MV is compared after the divider (R328). -/
def State.supplyLow (s : State) (vmon0 vmon1 : Nat) : Bool :=
  let v := if s.known .drv F.ENG_PFAIL_SRC = 1 then senseUv vmon1 * s.known .drv F.ENG_DIV1_RATIO else senseUv vmon0 * s.known .drv F.ENG_DIV0_RATIO
  v < s.known .drv F.ENG_PFAIL_VTH_MV * 65536000

/-- A channel that waits to start does not: neither after its discharge nor by the hardware Husk path (R328). -/
def State.stopWaiting (s : State) (n : Nat) : State :=
  let s := if (s.buckN n).disch.isSome then s.wr (F.BUCK_CFG_EN n) 0 else s
  match s.hwN n with
  | .lowside _ | .lowGood | .highside _ => (s.setHw n .idle).followPath n
  | .idle | .ramping _ | .running | .rampdown _ _ | .failed => s

/-- The supply-loss monitor below its threshold during a sector program (R328): the bucks stop, the lighting domains power
down, and no further page program starts. The operand gives the highest voltages during the filter of 10 µs. A program that is
only deferred does not start any more (R335); DESIGN CHOICE (notes/assumptions/49.md): not before the next power-up. -/
def execSupplyLoss (peaks : VmonPeaks) (s : State) : Out :=
  if !s.supplyLow peaks.vmon0 peaks.vmon1 then .next s
  else if s.flash.prog.isNone && s.flash.deferred.isNone then .next s
  else
  let s := if s.on .drv then s.mark F.ENG_PFAIL_EVENT else s
  if s.flash.prog.isNone then .next { s with flash := { s.flash with held := true } } else
  let s := (List.range 4).foldl (fun s n =>
    let st := s.rd (F.BUCK_STAT_STATE n)
    if !s.on .drv then s
    else if 1 ≤ st && st ≤ 4 then (s.wr (F.BUCK_CFG_EN n) 0).buckOff n 0
    else s.stopWaiting n) s
  let s := [Dom.cmp, Dom.gme, Dom.scn, Dom.vin].foldl (fun s d => if s.on d then s.powerOff d else s) s
  .next { s with flash := { s.flash with cut := true }, pwr := { s.pwr with supplyLost := true } }

/-- Pages of a sector. -/
def pagesPerSector : Nat := 16

/-- The page in flight of a sector program is in the flash. -/
def State.pageDone (s : State) (p : SectorProg) : State :=
  (s.setBytes (flashBase + p.at_ + 256 * p.page) ((p.data.drop (256 * p.page)).take 256))

/-- A slot whose program was cut off is invalid: the store is given up, and CAL_EVENTS.STORE says so (R342, R358). -/
def State.failStore (s : State) : State :=
  let s := match s.flash.jobs.head?.map FlashJob.kind with
    | some (.dictionary _ _ _ _) => s.wr F.ODX_STORE_STATE 3
    | _ => s
  { s with flash := { s.flash with jobs := s.flash.jobs.drop 1, prog := none } }.mark F.CAL_EVENTS_STORE

/-- A page program completes; after a supply loss it is the last (R328). -/
def execPageProgramComplete (s : State) : Out :=
  match s.flash.prog with
  | none => .next s
  | some p =>
    if pagesPerSector ≤ p.page then .next s else
    let s := s.pageDone p
    .next (if s.flash.cut then s.failStore.closeForSleep
      else { s with flash := { s.flash with prog := some { p with page := p.page + 1 } } })

/-! ### The fault log (R399) -/

/-- The flash offset and MAP_ID of the log. -/
def faultLogBase : Nat := 0x02000000
def faultLogId : Nat := 0x60

/-- Records of one log sector. -/
def logRecords : Nat := 255

/-- One record as its 16 bytes. -/
def recordBytes (r : List Nat) : List Byte := (r.take 4).flatMap fun w => leBytes 4 w

/-- Whether the open sector of the log is full, so that the next records open a new one (R399). -/
def State.logFull (s : State) : Bool := logRecords ≤ s.flash.logRecs.length

/-- How many of the waiting records the next program carries: as many as its sector has room for. -/
def State.logTake (s : State) : Nat :=
  min s.brm.flashWait.length (if s.logFull then logRecords else logRecords - s.flash.logRecs.length)

/-- The log with the first n waiting records in it: the open sector, its SEQ and its records. -/
def State.logAppend (s : State) (n : Nat) : State :=
  let new := s.brm.flashWait.take n
  let s := if s.logFull then
      { s with flash := { s.flash with logSector := (s.flash.logSector + 1) % 16, logSeq := s.flash.logSeq + 1, logRecs := new } }
    else { s with flash := { s.flash with logRecs := s.flash.logRecs ++ new } }
  { s with brm := { s.brm with flashWait := s.brm.flashWait.drop n, waitSince := s.now } }

/-- What firmware does when a store is in the flash whole: the store counts as stored (R357, R380, R399, R433); the state of the dictionary store goes back
to idle unless another one waits (R451). -/
def State.storeDone (s : State) (j : FlashJob) : State :=
  match j.kind with
  | .map _ => s
  | .plan mv => { s with cal := { s.cal with stored := mv } }
  | .faultLog n => s.logAppend n
  | .dictionary kept objs p v =>
    let d : Dict := { s.dict with storedKept := kept, storedObjs := objs }
    let more := s.flash.jobs.any fun k => k.mapId == j.mapId
    { s with saf := { s.saf with stored := some (p, v) }, dict := d }.setN R.ODX_STORE (2 ^ 16 * j.seq + b2n more)

/-- A sector program finishes: the pages not yet told of are in the flash too; the next sector of the slot follows, or the store
is done (R342). A program that a supply loss cut off has failed. -/
def execSectorProgramComplete (s : State) : Out :=
  match s.flash.prog, s.flash.jobs with
  | some p, j :: rest =>
    if s.flash.cut then .next s.failStore.closeForSleep else
    let s := s.setBytes (flashBase + p.at_) p.data
    .next (if j.index + 1 < sectorsFor j.payload.length then
      { s with flash := { s.flash with prog := none, jobs := { j with index := j.index + 1 } :: rest } }
    else ({ s with flash := { s.flash with prog := none, jobs := rest } }.storeDone j).closeForSleep)
  | _, _ => .next s

/-- Firmware programs the open sector again while records wait (R399). The log's job carries one sector. -/
def execFaultLogFlush (s : State) : Out :=
  if !s.on .mgmt || s.brm.flashWait.isEmpty || s.flash.jobs.any (fun j => j.mapId == faultLogId) then .next s else
  let n := s.logTake
  let f := (s.logAppend n).flash
  let job : FlashJob := { kind := .faultLog n, base := faultLogBase + 4096 * f.logSector, mapId := faultLogId
                          seq := f.logSeq, payload := f.logRecs.flatMap recordBytes }
  .next { s with flash := { s.flash with jobs := s.flash.jobs ++ [job] } }

end Sys2Proof.Machine
end

