-- ==== Sys2Proof/Machine/Onoth.lean ====
section
/-!
DEFINITION. The services of the Onoth protocol (R407–R414, R423, R428, R445, R448, R450), the host SPI request slot (R446), and bus writes that
have no row of their own, since one of them may be the slot's DOOR.
-/

namespace Sys2Proof.Machine

/-! ### Services (R408) -/

def svcRead : Nat := 0x01
def svcWrite : Nat := 0x02
def svcSnap : Nat := 0x03
def svcDomRead : Nat := 0x10
def svcDomBegin : Nat := 0x11
def svcDomWrite : Nat := 0x12
def svcDomEnd : Nat := 0x13
def svcDomAbort : Nat := 0x14

/-- The services of R408. -/
def services : List Nat := [svcRead, svcWrite, svcSnap, svcDomRead, svcDomBegin, svcDomWrite, svcDomEnd, svcDomAbort]

/-- The type of an object that exists. -/
def State.typeOf (s : State) (index sub : Nat) : OTyp := match s.findObj index sub with | .ok d => d.typ | .error _ => .u 0

def OTyp.isDom : OTyp → Bool
  | .dom _ => true
  | .u _ | .bool | .str _ => false

/-- What a service answers: code and data, and the state it leaves. -/
structure Reply where
  code : Nat
  data : List Byte
  state : State
  deriving DecidableEq, Repr

/-- READ (R408, R414, R428). -/
def State.serveRead (s : State) (client : Nat) (m : List Byte) : Reply :=
  let i := msgIndex m
  let k := msgSub m
  let c := s.gateRead i k
  if c ≠ codeOK then ⟨c, [], s⟩
  else if !(msgData m).isEmpty then ⟨codeLENGTH, [], s⟩
  else
    let v := s.objValue client i k
    if 1024 < v.length then ⟨codeLENGTH, [], s⟩ else ⟨codeOK, v, s.readEffect i k⟩

/-- WRITE (R408, R428). -/
def State.serveWrite (s : State) (m : List Byte) : Reply :=
  let r := s.writeObject (msgIndex m) (msgSub m) (msgData m)
  ⟨r.1, [], r.2⟩

/-- One entry of a READ_SNAP: CODE, LEN and the value (R408, R413, R445). -/
def State.snapEntry (s : State) (client : Nat) (e : List Byte) : List Byte :=
  let i := leAt e 0 2
  let k := leAt e 2 1
  let c := s.gateRead i k
  let c := if c = codeOK && (s.typeOf i k).isDom then codeLENGTH else c
  let v := if c = codeOK then s.objValue client i k else []
  leBytes 1 c ++ leBytes 1 v.length ++ v

/-- READ_SNAP: all objects at one strobe, with its gPTP time (R44, R408, R413). -/
def State.serveSnap (s : State) (client : Nat) (m : List Byte) : Reply :=
  let d := msgData m
  let n := leAt d 0 1
  if d.isEmpty then ⟨codeLENGTH, [], s⟩
  else if n = 0 || 16 < n then ⟨codeRANGE, [], s⟩
  else if d.length ≠ 1 + 3 * n then ⟨codeLENGTH, [], s⟩
  else
    let v := leBytes 8 s.localTime ++ (List.range n).flatMap fun j => s.snapEntry client (d.drop (1 + 3 * j))
    if 1024 < v.length then ⟨codeLENGTH, [], s⟩ else ⟨codeOK, v, s⟩

/-- DOM_READ: a piece of a DOMAIN object (R408, R414). -/
def State.serveDomRead (s : State) (client : Nat) (m : List Byte) : Reply :=
  let i := msgIndex m
  let k := msgSub m
  let d := msgData m
  let off := leAt d 0 4
  let size := leAt d 4 2
  let c := s.gateRead i k
  if c ≠ codeOK then ⟨c, [], s⟩
  else if !(s.typeOf i k).isDom then ⟨codeRANGE, [], s⟩
  else
    let v := s.objValue client i k
    if d.length ≠ 6 || size = 0 || 1024 < size || v.length < off + size then ⟨codeLENGTH, [], s⟩
    else ⟨codeOK, (v.drop off).take size, s.readEffect i k⟩

/-! ### Write sessions (R414) -/

/-- The session of a client. -/
def State.sessionOf (s : State) (client : Nat) : Option DomSession := s.onoth.sessions.find? fun x => x.client = client

/-- The session of a client on the object that a request names. -/
def State.sessionFor (s : State) (client index sub : Nat) : Option DomSession :=
  (s.sessionOf client).filter fun x => x.index = index && x.sub = sub

/-- A session set, in place of the client's. -/
def State.setSession (s : State) (x : DomSession) : State :=
  { s with onoth := { s.onoth with sessions := s.onoth.sessions.filter (fun y => y.client ≠ x.client) ++ [x] } }

/-- A session ends with DOM_END. -/
def State.closeSession (s : State) (client : Nat) : State :=
  { s with onoth := { s.onoth with sessions := s.onoth.sessions.filter fun y => y.client ≠ client } }

/-- DOM_BEGIN: access, mode and seal, then TOTAL, then a map group that is armed (R428); another client's
session on the object makes it BUSY, and one of this client ends (R414). -/
def State.serveDomBegin (s : State) (client : Nat) (m : List Byte) : Reply :=
  let i := msgIndex m
  let k := msgSub m
  let d := msgData m
  let total := leAt d 0 4
  let c := s.gateWrite i k []
  if c ≠ codeOK then ⟨c, [], s⟩
  else match s.typeOf i k with
    | .dom max =>
      if d.length ≠ 4 || !domLengthOk i max total then ⟨codeLENGTH, [], s⟩
      else if s.mapPending i then ⟨codePENDING, [], s⟩
      else if s.onoth.sessions.any fun x => x.client ≠ client && x.index = i && x.sub = k then ⟨codeBUSY, [], s⟩
      else
        let s := s.endSessions fun x => x.client = client
        ⟨codeOK, [], s.setSession { client := client, index := i, sub := k, total := total, at_ := s.now }⟩
    | .u _ | .bool | .str _ => ⟨codeRANGE, [], s⟩

/-- DOM_WRITE: a piece into the staging buffer (R414). -/
def State.serveDomWrite (s : State) (client : Nat) (m : List Byte) : Reply :=
  let d := msgData m
  match s.sessionFor client (msgIndex m) (msgSub m) with
  | none => ⟨codeRANGE, [], s⟩
  | some x =>
    let s := s.setSession { x with at_ := s.now }
    if d.length < 5 || x.total < leAt d 0 4 + (d.length - 4) then ⟨codeLENGTH, [], s⟩
    else ⟨codeOK, [], s.setSession { x with at_ := s.now, pieces := x.pieces ++ [(leAt d 0 4, d.drop 4)] }⟩

/-- A piece laid over a value of which some bytes may not have been written. -/
def overlayPiece (v : List (Option Byte)) (p : Nat × List Byte) : List (Option Byte) :=
  v.take p.1 ++ p.2.map some ++ v.drop (p.1 + p.2.length)

/-- The whole new value, if every byte has been written. -/
def DomSession.whole (x : DomSession) : Option (List Byte) :=
  (x.pieces.foldl overlayPiece (List.replicate x.total none)).mapM id

/-- DOM_END: steps 1 to 5 of R428, then completeness and CRC, then the object takes the value or refuses it.
PENDING, BUSY and LENGTH leave the session open (R414, R423, R450). -/
def State.serveDomEnd (s : State) (client : Nat) (m : List Byte) : Reply :=
  let i := msgIndex m
  let k := msgSub m
  let d := msgData m
  let c := s.gateWrite i k []
  match s.sessionFor client i k with
  | none => ⟨if c ≠ codeOK then c else codeRANGE, [], s⟩
  | some x =>
    let s := s.setSession { x with at_ := s.now }
    if c ≠ codeOK then ⟨c, [], s.closeSession client⟩
    else match x.whole with
      | none => ⟨codeLENGTH, [], s⟩
      | some v =>
        if d.length ≠ 4 || crc32 v ≠ leAt d 0 4 then ⟨codeLENGTH, [], s⟩
        else
          let r := s.writeObject i k v
          if r.1 = codePENDING || r.1 = codeBUSY then ⟨r.1, [], r.2⟩ else ⟨r.1, [], r.2.closeSession client⟩

/-- DOM_ABORT (R414). -/
def State.serveDomAbort (s : State) (client : Nat) (m : List Byte) : Reply :=
  match s.sessionFor client (msgIndex m) (msgSub m) with
  | none => ⟨codeRANGE, [], s⟩
  | some _ => if (msgData m).isEmpty then ⟨codeOK, [], s.endSessions fun x => x.client = client⟩ else ⟨codeLENGTH, [], s⟩

/-! ### The next request (R412, R448) -/

/-- The objects whose READ and READ_SNAP go ahead of the queue (R448). -/
def urgentIndex (i : Nat) : Bool := i = 0x1F00 || i = 0x2000 || i = 0x7800

/-- A request that goes ahead of the queue. -/
def urgentRequest (m : List Byte) : Bool :=
  let d := msgData m
  let n := leAt d 0 1
  (msgSvc m == svcRead && urgentIndex (msgIndex m))
    || (msgSvc m == svcSnap && 1 ≤ n && (List.range n).all fun j => urgentIndex (leAt d (1 + 3 * j) 2))

/-- A client whose request is in service. -/
def State.serving (s : State) (client : Nat) : Bool := s.onoth.serving.any fun q => q.2.client = client

/-- The requests that can be taken up, in order: of each client the oldest, while none of it is in service (R412). -/
def State.ready (s : State) : List OnothReq :=
  (s.onoth.queue.foldl (fun (a : List OnothReq) q =>
    if s.serving q.client || a.any (fun p => p.client = q.client) then a else a ++ [q]) [])

/-- The request that firmware serves next. -/
def State.nextRequest (s : State) : Option OnothReq :=
  match s.ready.find? fun q => urgentRequest q.message with
  | some q => some q
  | none => s.ready.head?

/-- A request leaves the queue. -/
def State.takeUp (s : State) (q : OnothReq) : State := { s with onoth := { s.onoth with queue := s.onoth.queue.erase q } }

/-- A request that no service admits: an unknown SVC, CODE other than 0, or a LEN that disagrees with the bytes received (R408). -/
def formCode (m : List Byte) : Nat :=
  if !services.contains (msgSvc m) || msgCode m ≠ 0 then codeRANGE
  else if msgLen m ≠ (msgData m).length || 1024 < (msgData m).length then codeLENGTH
  else codeOK

/-- The response of a request waits for a check of the device: a sheaf that is checked (R149), a map group (R339, R439). -/
def State.waitsFor (before after : State) (m : List Byte) (code : Nat) : Option Waits :=
  let i := msgIndex m
  if code ≠ codeOK then none
  else if entryAddr i (msgSub m) = some R.LAY_SHEAF then
    (if before.rd F.LAY_SHEAFSTAT_STATE = 0 && after.rd F.LAY_SHEAFSTAT_STATE = 1 then some .sheaf else none)
  else if 0x8100 ≤ i && i ≤ 0x811F && (after.cal.checks.getD (i % 16) none).isSome then some (.map (i % 16))
  else none

/-- A request in service is answered, or waits for its check. -/
def State.finish (before : State) (q : OnothReq) (r : Reply) (mayWait : Bool) : State :=
  match if mayWait then before.waitsFor r.state q.message r.code else none with
  | some w => { r.state with onoth := { r.state.onoth with serving := r.state.onoth.serving ++ [(w, q)] } }
  | none => r.state.respond q r.code r.data

/-- A request that repeats the last answered one of its client is answered from the stored response (R412). -/
def State.replayed (s : State) (q : OnothReq) : State :=
  let s := if s.on .net then s.bump F.NET_ONOTH2_REPLAYED else s
  s.reply q.src q.token (s.onoth.last.getD q.client (0, [])).2

/-- Firmware takes up the next request, if it is one of this service (R428, R448); a malformed one is answered whatever its service. -/
def State.serve (s : State) (svc : Nat) (mayWait : Bool) (run : State → Nat → List Byte → Reply) : State :=
  if !s.firmwareUp then s else
  match s.nextRequest with
  | none => s
  | some q =>
    let f := formCode q.message
    if f = codeOK && msgSvc q.message ≠ svc then s
    else
      let s := s.takeUp q
      if repeats q.message (s.onoth.last.getD q.client (0, [])) then s.replayed q
      else if f ≠ codeOK then s.respond q f []
      else s.finish q (run s q.client q.message) mayWait

def execRead (s : State) : Out := .next (s.serve svcRead false State.serveRead)
def execWrite (s : State) : Out := .next (s.serve svcWrite true fun s _ m => s.serveWrite m)
def execReadSnap (s : State) : Out := .next (s.serve svcSnap false State.serveSnap)
def execDomRead (s : State) : Out := .next (s.serve svcDomRead false State.serveDomRead)
def execDomBegin (s : State) : Out := .next (s.serve svcDomBegin false State.serveDomBegin)
def execDomWrite (s : State) : Out := .next (s.serve svcDomWrite false State.serveDomWrite)
def execDomEnd (s : State) : Out := .next (s.serve svcDomEnd true State.serveDomEnd)
def execDomAbort (s : State) : Out := .next (s.serve svcDomAbort false State.serveDomAbort)

/-- A session without a request for 2 s ends (R414). -/
def execDomSessionTimeout (client : Nat) (s : State) : Out :=
  .next (match s.sessionOf client with
    | some x => if s.firmwareUp && s.since x.at_ (sec 2) then s.endSessions fun y => y.client = client else s
    | none => s)

/-- A request that has waited WAIT_MS is answered BUSY (R448). -/
def State.answerBusy (s : State) (q : OnothReq) : State := (s.takeUp q).respondBusy q

def execRequestWaitTimeout (s : State) : Out :=
  let late := s.onoth.queue.filter fun q => s.since q.at_ (msec (s.rd F.ODX_CFG_WAIT_MS))
  .next (if s.firmwareUp then late.foldl State.answerBusy s else s)

/-! ### The host SPI request slot (R446) -/

def slotRequest : Nat := 0x20B80000
def slotDoor : Nat := 0x20B80FF0

/-- The request in the slot. -/
def State.slotMessage (s : State) : List Byte := s.bytes slotRequest (8 + min 1024 (s.num (slotRequest + 6) 2))

/-- DOOR holds a TOKEN that differs from the last one: firmware copies the request and sets TAKEN; beside a request in service the slot
holds none waiting, so that a further one is BUSY (R412, R446). -/
def State.takeDoor (s : State) : State :=
  let token := s.num slotDoor 1
  if !s.firmwareUp || token = s.onoth.token then s else
  let q : OnothReq := { client := 10, src := .hspi, token := token, at_ := s.now, message := s.slotMessage }
  let s := { s with onoth := { s.onoth with token := token } }.setNum slotTaken 1 token
  if 1 ≤ s.openRequests 10 then s.respondBusy q
  else { s with onoth := { s.onoth with queue := insertReq q s.onoth.queue } }

/-- A write to memory by bus; one that reaches DOOR is seen by firmware. -/
def State.writeMem (s : State) (a size : Nat) (data : Word) : State :=
  let t := s.setNum a size data.toNat
  if a ≤ slotDoor && slotDoor < a + size then t.takeDoor else t

def execHspiDoor (m : Master) (data : Word) (s : State) : Out :=
  .next (match s.memError m 4 true slotDoor with
    | some c => s.captureError m true slotDoor c
    | none => s.writeMem slotDoor 4 data)

/-! ### Bus writes without a row of their own -/

/-- A write by bus to a register that has no row of its own (R16, R40, R42), or to memory (R38). An address of a block that holds no register
is written without effect. -/
def execRegisterWrite (m : Master) (size addr : Nat) (data : Word) (s : State) : Out :=
  match s.busError m size true addr with
  | some c => .next (s.captureError m true addr c)
  | none =>
    if !isReg addr then .next (s.writeMem addr size data)
    else match s.windowError m addr with
      | some c => .next (s.captureError m true addr c)
      | none =>
        if reservedSet addr data then .fault .reservedBit
        else .next (if (regDef addr).isNone then s else s.reachReg m addr data)

end Sys2Proof.Machine
end

