-- ==== Sys2Proof/Machine/Dispatch.lean ====
section
/-!
DEFINITION. One arm per command: each calls the command's meaning.
-/

namespace Sys2Proof.Machine

/-- What a command does to everything but the queue. -/
def exec (i : Instr) (s : State) : Host.Outcome State Fault Refusal :=
  match i with
  | .registerWrite m size addr data => Sys2Proof.Machine.execRegisterWrite m size addr data s
  | .sysBlkownWrite m data => Sys2Proof.Machine.execSysBlkownWrite m data s
  | .genArm m g data => Sys2Proof.Machine.execGenArm m g data s
  | .genNoarmClear m g data => Sys2Proof.Machine.execGenNoarmClear m g data s
  | .groupApply g => Sys2Proof.Machine.execGroupApply g s
  | .boundary => Sys2Proof.Machine.execBoundary s
  | .frameRecordSwitch => Sys2Proof.Machine.execFrameRecordSwitch s
  | .refreshStart => Sys2Proof.Machine.execRefreshStart s
  | .bandSlotStart => Sys2Proof.Machine.execBandSlotStart s
  | .clockMonWindow counts => Sys2Proof.Machine.execClockMonWindow counts s
  | .domainPowerUp d => Sys2Proof.Machine.execDomainPowerUp d s
  | .domainPowerFail d => Sys2Proof.Machine.execDomainPowerFail d s
  | .domainPowerDown d => Sys2Proof.Machine.execDomainPowerDown d s
  | .aonPowerOnReset strapMv => Sys2Proof.Machine.execAonPowerOnReset strapMv s
  | .resetPin lowNs => Sys2Proof.Machine.execResetPin lowNs s
  | .resetPinRelease => Sys2Proof.Machine.execResetPinRelease s
  | .lampReqAssert => Sys2Proof.Machine.execLampReqAssert s
  | .lampReqRelease => Sys2Proof.Machine.execLampReqRelease s
  | .runBeamEnd => Sys2Proof.Machine.execRunBeamEnd s
  | .modeReqSet m data => Sys2Proof.Machine.execModeReqSet m data s
  | .recover m data => Sys2Proof.Machine.execRecover m data s
  | .clearDark m data => Sys2Proof.Machine.execClearDark m data s
  | .rungateWrite m data => Sys2Proof.Machine.execRungateWrite m data s
  | .prepareComplete => Sys2Proof.Machine.execPrepareComplete s
  | .prepareTimeout => Sys2Proof.Machine.execPrepareTimeout s
  | .domctlWrite m data => Sys2Proof.Machine.execDomctlWrite m data s
  | .padholdRelease m data => Sys2Proof.Machine.execPadholdRelease m data s
  | .wakePinQualify pin levels => Sys2Proof.Machine.execWakePinQualify pin levels s
  | .wakeTimerExpire => Sys2Proof.Machine.execWakeTimerExpire s
  | .sleepRequest => Sys2Proof.Machine.execSleepRequest s
  | .sleepGo m wake => Sys2Proof.Machine.execSleepGo m wake s
  | .pwrEnHoldExpire => Sys2Proof.Machine.execPwrEnHoldExpire s
  | .hwhuskStart ch => Sys2Proof.Machine.execHwhuskStart ch s
  | .hwhuskLowsideCheck ch lrMv => Sys2Proof.Machine.execHwhuskLowsideCheck ch lrMv s
  | .hwhuskHighsideOn ch pumpReady => Sys2Proof.Machine.execHwhuskHighsideOn ch pumpReady s
  | .hwhuskRampEnd ch hrMv fbMv => Sys2Proof.Machine.execHwhuskRampEnd ch hrMv fbMv s
  | .hwhuskRampdownEnd ch => Sys2Proof.Machine.execHwhuskRampdownEnd ch s
  | .secureBoot readErrA readErrB => Sys2Proof.Machine.execSecureBoot readErrA readErrB s
  | .safeImageVerify => Sys2Proof.Machine.execSafeImageVerify s
  | .recoveryImageLoad base => Sys2Proof.Machine.execRecoveryImageLoad base s
  | .bistSliceEnd target r => Sys2Proof.Machine.execBistSliceEnd target r s
  | .bistStart m data => Sys2Proof.Machine.execBistStart m data s
  | .bistAbort m data => Sys2Proof.Machine.execBistAbort m data s
  | .testUnlock => Sys2Proof.Machine.execTestUnlock s
  | .idcode => Sys2Proof.Machine.execIdcode s
  | .bypass => Sys2Proof.Machine.execBypass s
  | .extest => Sys2Proof.Machine.execExtest s
  | .samplePreload => Sys2Proof.Machine.execSamplePreload s
  | .caifelScanInstruction op => Sys2Proof.Machine.execCaifelScanInstruction op s
  | .ethFrameReceive f => Sys2Proof.Machine.execEthFrameReceive f s
  | .rvfPacket p => Sys2Proof.Machine.execRvfPacket p s
  | .rvfFrameReady n => Sys2Proof.Machine.execRvfFrameReady n s
  | .rvfFrameTimeout n => Sys2Proof.Machine.execRvfFrameTimeout n s
  | .objectListArrive d => Sys2Proof.Machine.execObjectListArrive d s
  | .objectListParse => Sys2Proof.Machine.execObjectListParse s
  | .objectTableBuild => Sys2Proof.Machine.execObjectTableBuild s
  | .vinOlcfgWrite m data => Sys2Proof.Machine.execVinOlcfgWrite m data s
  | .syncMessage x => Sys2Proof.Machine.execSyncMessage x s
  | .pdelayRequest => Sys2Proof.Machine.execPdelayRequest s
  | .pdelayInterval delayNs => Sys2Proof.Machine.execPdelayInterval delayNs s
  | .holdoverEnter => Sys2Proof.Machine.execHoldoverEnter s
  | .nosyncEnter => Sys2Proof.Machine.execNosyncEnter s
  | .imuTrigger t => Sys2Proof.Machine.execImuTrigger t s
  | .imuSample response queueFull => Sys2Proof.Machine.execImuSample response queueFull s
  | .imuLost => Sys2Proof.Machine.execImuLost s
  | .vinImucfgWrite m data => Sys2Proof.Machine.execVinImucfgWrite m data s
  | .sheafArm m data => Sys2Proof.Machine.execSheafArm m data s
  | .sheafCheckComplete => Sys2Proof.Machine.execSheafCheckComplete s
  | .sheafDisarm m data => Sys2Proof.Machine.execSheafDisarm m data s
  | .retimeHoldEnd => Sys2Proof.Machine.execRetimeHoldEnd s
  | .composeFrameStart => Sys2Proof.Machine.execComposeFrameStart s
  | .composeBandComplete laneDiffers => Sys2Proof.Machine.execComposeBandComplete laneDiffers s
  | .symbolLoad m data => Sys2Proof.Machine.execSymbolLoad m data s
  | .symbolLoadComplete => Sys2Proof.Machine.execSymbolLoadComplete s
  | .symbolEvict m data => Sys2Proof.Machine.execSymbolEvict m data s
  | .symbolEvictUnused m data => Sys2Proof.Machine.execSymbolEvictUnused m data s
  | .captureStart m data => Sys2Proof.Machine.execCaptureStart m data s
  | .captureAbort m data => Sys2Proof.Machine.execCaptureAbort m data s
  | .captureComplete => Sys2Proof.Machine.execCaptureComplete s
  | .gmeSnapshot => Sys2Proof.Machine.execGmeSnapshot s
  | .gmeRenderComplete pointsDiffer ecc => Sys2Proof.Machine.execGmeRenderComplete pointsDiffer ecc s
  | .maskLatch mapsReady x => Sys2Proof.Machine.execMaskLatch mapsReady x s
  | .scanFillBandComplete => Sys2Proof.Machine.execScanFillBandComplete s
  | .rowSlotStart x gleanBad => Sys2Proof.Machine.execRowSlotStart x gleanBad s
  | .blankStart => Sys2Proof.Machine.execBlankStart s
  | .charSlot => Sys2Proof.Machine.execCharSlot s
  | .clampTableReceive corrupt => Sys2Proof.Machine.execClampTableReceive corrupt s
  | .linkTrainStart p => Sys2Proof.Machine.execLinkTrainStart p s
  | .uplinkSignalDetect p => Sys2Proof.Machine.execUplinkSignalDetect p s
  | .uplinkBlockLock p line => Sys2Proof.Machine.execUplinkBlockLock p line s
  | .uplinkTrainReceive p line => Sys2Proof.Machine.execUplinkTrainReceive p line s
  | .trainStateTimeout p => Sys2Proof.Machine.execTrainStateTimeout p s
  | .identRecord p full line => Sys2Proof.Machine.execIdentRecord p full line s
  | .linkEnable m p data => Sys2Proof.Machine.execLinkEnable m p data s
  | .lightSet m p data => Sys2Proof.Machine.execLightSet m p data s
  | .retrain m p data => Sys2Proof.Machine.execRetrain m p data s
  | .ping m p data => Sys2Proof.Machine.execPing m p data s
  | .ident m p data => Sys2Proof.Machine.execIdent m p data s
  | .regWrite m p data => Sys2Proof.Machine.execRegWrite m p data s
  | .regRead m p data => Sys2Proof.Machine.execRegRead m p data s
  | .huskUnlock m p data => Sys2Proof.Machine.execHuskUnlock m p data s
  | .huskCommit m p data => Sys2Proof.Machine.execHuskCommit m p data s
  | .tileReset m p data => Sys2Proof.Machine.execTileReset m p data s
  | .commandTimeout p => Sys2Proof.Machine.execCommandTimeout p s
  | .rowechoRecord p full line => Sys2Proof.Machine.execRowechoRecord p full line s
  | .echoDeadline p => Sys2Proof.Machine.execEchoDeadline p s
  | .statusRecord p full line => Sys2Proof.Machine.execStatusRecord p full line s
  | .charRecord p full before record => Sys2Proof.Machine.execCharRecord p full before record s
  | .responseRecord p full before record after => Sys2Proof.Machine.execResponseRecord p full before record after s
  | .alertRecord p full before record after => Sys2Proof.Machine.execAlertRecord p full before record after s
  | .uplinkLockLoss p line => Sys2Proof.Machine.execUplinkLockLoss p line s
  | .lostRetry p => Sys2Proof.Machine.execLostRetry p s
  | .gleanRecord p region lane queueFull => Sys2Proof.Machine.execGleanRecord p region lane queueFull s
  | .gleanLockLoss p headers => Sys2Proof.Machine.execGleanLockLoss p headers s
  | .satPeriodStart busy => Sys2Proof.Machine.execSatPeriodStart busy s
  | .satLatchSend busy => Sys2Proof.Machine.execSatLatchSend busy s
  | .satCollectSend c busy => Sys2Proof.Machine.execSatCollectSend c busy s
  | .satCensusSend c busy => Sys2Proof.Machine.execSatCensusSend c busy s
  | .satReturnFrame c x => Sys2Proof.Machine.execSatReturnFrame c x s
  | .satReturnTimeout c => Sys2Proof.Machine.execSatReturnTimeout c s
  | .satEnumerate w c => Sys2Proof.Machine.execSatEnumerate w c s
  | .satNodeWrite c node reg value => Sys2Proof.Machine.execSatNodeWrite c node reg value s
  | .satTimingWrite m latch data => Sys2Proof.Machine.execSatTimingWrite m latch data s
  | .pidSample loops => Sys2Proof.Machine.execPidSample loops s
  | .pidOutputWrite => Sys2Proof.Machine.execPidOutputWrite s
  | .pidGroupCfgWrite m g data => Sys2Proof.Machine.execPidGroupCfgWrite m g data s
  | .buckSwitchPeriod ch x => Sys2Proof.Machine.execBuckSwitchPeriod ch x s
  | .buckOvervoltage ch fbMv => Sys2Proof.Machine.execBuckOvervoltage ch fbMv s
  | .buckOvRelease ch fbMv => Sys2Proof.Machine.execBuckOvRelease ch fbMv s
  | .buckShortDetect ch => Sys2Proof.Machine.execBuckShortDetect ch s
  | .buckEnable m ch data => Sys2Proof.Machine.execBuckEnable m ch data s
  | .swClosedFault x => Sys2Proof.Machine.execSwClosedFault x s
  | .swTestDue => Sys2Proof.Machine.execSwTestDue s
  | .swTestEnd mv => Sys2Proof.Machine.execSwTestEnd mv s
  | .swUntestedTimeout sw => Sys2Proof.Machine.execSwUntestedTimeout sw s
  | .ledgerTick x => Sys2Proof.Machine.execLedgerTick x s
  | .allowedPowerCompute => Sys2Proof.Machine.execAllowedPowerCompute s
  | .driveCycleRestart m data => Sys2Proof.Machine.execDriveCycleRestart m data s
  | .plannerRun => Sys2Proof.Machine.execPlannerRun s
  | .harnessGuardTrip fb => Sys2Proof.Machine.execHarnessGuardTrip fb s
  | .dischargeEnd fb => Sys2Proof.Machine.execDischargeEnd fb s
  | .dischargeTimeout ch => Sys2Proof.Machine.execDischargeTimeout ch s
  | .flashSectorProgram vholdUv => Sys2Proof.Machine.execFlashSectorProgram vholdUv s
  | .holdupRetry vholdUv => Sys2Proof.Machine.execHoldupRetry vholdUv s
  | .supplyLoss peaks => Sys2Proof.Machine.execSupplyLoss peaks s
  | .pageProgramComplete => Sys2Proof.Machine.execPageProgramComplete s
  | .thermalSample x => Sys2Proof.Machine.execThermalSample x s
  | .orderlyStopHandoff => Sys2Proof.Machine.execOrderlyStopHandoff s
  | .thermalTrip sensor => Sys2Proof.Machine.execThermalTrip sensor s
  | .mapGroupCheckComplete t => Sys2Proof.Machine.execMapGroupCheckComplete t s
  | .buckOffsetTrim ch cs ii => Sys2Proof.Machine.execBuckOffsetTrim ch cs ii s
  | .fullcharStart m data => Sys2Proof.Machine.execFullcharStart m data s
  | .fullcharBatch => Sys2Proof.Machine.execFullcharBatch s
  | .fullcharAbort m data => Sys2Proof.Machine.execFullcharAbort m data s
  | .monitorRead slack => Sys2Proof.Machine.execMonitorRead slack s
  | .avsPlan => Sys2Proof.Machine.execAvsPlan s
  | .safetyTask => Sys2Proof.Machine.execSafetyTask s
  | .violationRelease func => Sys2Proof.Machine.execViolationRelease func s
  | .safeWatchdogExpire => Sys2Proof.Machine.execSafeWatchdogExpire s
  | .lockstepMismatch => Sys2Proof.Machine.execLockstepMismatch s
  | .safeSramUncorrectable => Sys2Proof.Machine.execSafeSramUncorrectable s
  | .islandRestartComplete kept => Sys2Proof.Machine.execIslandRestartComplete kept s
  | .husknMismatch tile => Sys2Proof.Machine.execHusknMismatch tile s
  | .outputTestDue => Sys2Proof.Machine.execOutputTestDue s
  | .outputTestPulseEnd during after => Sys2Proof.Machine.execOutputTestPulseEnd during after s
  | .startupOutputRound husk lampFail => Sys2Proof.Machine.execStartupOutputRound husk lampFail s
  | .safetyParamWrite w => Sys2Proof.Machine.execSafetyParamWrite w s
  | .checkValueComputed => Sys2Proof.Machine.execCheckValueComputed s
  | .confirmWrite value => Sys2Proof.Machine.execConfirmWrite value s
  | .sourceRaise src addr => Sys2Proof.Machine.execSourceRaise src addr s
  | .graceExpiry src => Sys2Proof.Machine.execGraceExpiry src s
  | .sourceHandle m w data => Sys2Proof.Machine.execSourceHandle m w data s
  | .sourceShandle m w data => Sys2Proof.Machine.execSourceShandle m w data s
  | .sourceClear m w data => Sys2Proof.Machine.execSourceClear m w data s
  | .countClear m data => Sys2Proof.Machine.execCountClear m data s
  | .classWrite m r data => Sys2Proof.Machine.execClassWrite m r data s
  | .graceWrite m r data => Sys2Proof.Machine.execGraceWrite m r data s
  | .parityScan bad => Sys2Proof.Machine.execParityScan bad s
  | .brambleCompareMismatch => Sys2Proof.Machine.execBrambleCompareMismatch s
  | .brmSelfTest => Sys2Proof.Machine.execBrmSelfTest s
  | .brmTestCheck => Sys2Proof.Machine.execBrmTestCheck s
  | .msgNext m data => Sys2Proof.Machine.execMsgNext m data s
  | .faultLogFlush => Sys2Proof.Machine.execFaultLogFlush s
  | .mgmtWatchdog => Sys2Proof.Machine.execMgmtWatchdog s
  | .arpRequest mac srcMac srcIp target => Sys2Proof.Machine.execArpRequest mac srcMac srcIp target s
  | .icmpEcho mac srcMac srcIp dst data => Sys2Proof.Machine.execIcmpEcho mac srcMac srcIp dst data s
  | .ethLinkDown mac => Sys2Proof.Machine.execEthLinkDown mac s
  | .canFrameReceive f => Sys2Proof.Machine.execCanFrameReceive f s
  | .segmentTimeout bus => Sys2Proof.Machine.execSegmentTimeout bus s
  | .canBusoff bus => Sys2Proof.Machine.execCanBusoff bus s
  | .canBusoffRecover bus => Sys2Proof.Machine.execCanBusoffRecover bus s
  | .onothRequestArrive src message => Sys2Proof.Machine.execOnothRequestArrive src message s
  | .read => Sys2Proof.Machine.execRead s
  | .write => Sys2Proof.Machine.execWrite s
  | .readSnap => Sys2Proof.Machine.execReadSnap s
  | .domRead => Sys2Proof.Machine.execDomRead s
  | .domBegin => Sys2Proof.Machine.execDomBegin s
  | .domWrite => Sys2Proof.Machine.execDomWrite s
  | .domEnd => Sys2Proof.Machine.execDomEnd s
  | .domAbort => Sys2Proof.Machine.execDomAbort s
  | .domSessionTimeout client => Sys2Proof.Machine.execDomSessionTimeout client s
  | .requestWaitTimeout => Sys2Proof.Machine.execRequestWaitTimeout s
  | .envelopeReceive src dstPort bytes => Sys2Proof.Machine.execEnvelopeReceive src dstPort bytes s
  | .envTimerExpiry c => Sys2Proof.Machine.execEnvTimerExpiry c s
  | .envelopeProduce c => Sys2Proof.Machine.execEnvelopeProduce c s
  | .envConfigWrite c sub value => Sys2Proof.Machine.execEnvConfigWrite c sub value s
  | .commissionEnter => Sys2Proof.Machine.execCommissionEnter s
  | .commissionLeave => Sys2Proof.Machine.execCommissionLeave s
  | .dictStore => Sys2Proof.Machine.execDictStore s
  | .defaults => Sys2Proof.Machine.execDefaults s
  | .seal value => Sys2Proof.Machine.execSeal value s
  | .unseal value => Sys2Proof.Machine.execUnseal value s
  | .rollbackAdv value => Sys2Proof.Machine.execRollbackAdv value s
  | .clearPeak => Sys2Proof.Machine.execClearPeak s
  | .risenClear value => Sys2Proof.Machine.execRisenClear value s
  | .attentionEval => Sys2Proof.Machine.execAttentionEval s
  | .loadUpdate load => Sys2Proof.Machine.execLoadUpdate load s
  | .hspiDoor m data => Sys2Proof.Machine.execHspiDoor m data s
  | .tunnelPost n data => Sys2Proof.Machine.execTunnelPost n data s
  | .tunnelTake n => Sys2Proof.Machine.execTunnelTake n s
  | .tunnelAck n value => Sys2Proof.Machine.execTunnelAck n value s
  | .mbxDoor m n data => Sys2Proof.Machine.execMbxDoor m n data s
  | .mbxSeen m n data => Sys2Proof.Machine.execMbxSeen m n data s
  | .mbxAck m n data => Sys2Proof.Machine.execMbxAck m n data s
  | .mbxCfgWrite m n data => Sys2Proof.Machine.execMbxCfgWrite m n data s
  | .mbxEprst m data => Sys2Proof.Machine.execMbxEprst m data s
  | .mgmtCoreReset => Sys2Proof.Machine.execMgmtCoreReset s
  | .lockAcquire m k => Sys2Proof.Machine.execLockAcquire m k s
  | .lockRelease m n data => Sys2Proof.Machine.execLockRelease m n data s
  | .lockForce m n data => Sys2Proof.Machine.execLockForce m n data s
  | .cvuStart m n data => Sys2Proof.Machine.execCvuStart m n data s
  | .cvuDin8 m n data => Sys2Proof.Machine.execCvuDin8 m n data s
  | .cvuDin16 m n data => Sys2Proof.Machine.execCvuDin16 m n data s
  | .cvuDin32 m n data => Sys2Proof.Machine.execCvuDin32 m n data s
  | .cvuFeedComplete n => Sys2Proof.Machine.execCvuFeedComplete n s
  | .cvuRawWrite m n data => Sys2Proof.Machine.execCvuRawWrite m n data s
  | .cvuAliveInc m n data => Sys2Proof.Machine.execCvuAliveInc m n data s
  | .cvuAchkWrite m n data => Sys2Proof.Machine.execCvuAchkWrite m n data s
  | .cvuAcfgWrite m n data => Sys2Proof.Machine.execCvuAcfgWrite m n data s
  | .ethLinkUp mac => Sys2Proof.Machine.execEthLinkUp mac s
  | .sectorProgramComplete => Sys2Proof.Machine.execSectorProgramComplete s
  | .trimDue t => Sys2Proof.Machine.execTrimDue t s

end Sys2Proof.Machine
end

