-- ==== Sys2Proof/WellFormed.lean ====
section
/-!
DEFINITION. Well-formed commands: every index operand names something that the device has, and every code fits the field that
carries it. The machine is total on ill-formed commands too: it leaves its state as it is, or takes the index modulo the count.
-/

namespace Sys2Proof

open Sys2Proof.Machine

/-- The sizes in which a bus master can write: 1, 2, 4 or 8 bytes; the rules of R42 judge them. -/
def sizeOk (size : Nat) : Bool := size = 1 || size = 2 || size = 4 || size = 8

/-- Whether every operand of a command lies in its range. -/
def Instr.wf : Instr → Bool
  | .registerWrite _ size _ _ => sizeOk size
  | .sysBlkownWrite _ _ | .boundary | .frameRecordSwitch | .refreshStart | .bandSlotStart | .clockMonWindow _ |
    .domainPowerUp _ | .domainPowerFail _ | .domainPowerDown _ | .aonPowerOnReset _ | .resetPin _ | .resetPinRelease |
    .lampReqAssert | .lampReqRelease | .runBeamEnd | .modeReqSet _ _ | .recover _ _ | .clearDark _ _ | .rungateWrite _ _ |
    .prepareComplete | .prepareTimeout | .domctlWrite _ _ | .padholdRelease _ _ | .wakeTimerExpire | .sleepRequest |
    .sleepGo _ _ | .pwrEnHoldExpire | .secureBoot _ _ | .safeImageVerify | .recoveryImageLoad _ | .bistStart _ _ |
    .bistAbort _ _ | .testUnlock | .idcode | .bypass | .extest | .samplePreload | .caifelScanInstruction _ |
    .objectListParse | .objectTableBuild | .vinOlcfgWrite _ _ | .pdelayRequest | .pdelayInterval _ | .holdoverEnter |
    .nosyncEnter | .imuTrigger _ | .imuSample _ _ | .imuLost | .vinImucfgWrite _ _ | .sheafArm _ _ | .sheafCheckComplete |
    .sheafDisarm _ _ | .retimeHoldEnd | .composeFrameStart | .composeBandComplete _ | .symbolLoad _ _ |
    .symbolLoadComplete | .symbolEvict _ _ | .symbolEvictUnused _ _ | .captureStart _ _ | .captureAbort _ _ |
    .captureComplete | .gmeSnapshot | .gmeRenderComplete _ _ | .maskLatch _ _ | .scanFillBandComplete |
    .rowSlotStart _ _ | .blankStart | .charSlot | .clampTableReceive _ | .satTimingWrite _ _ _ | .pidOutputWrite |
    .swTestDue | .swTestEnd _ | .allowedPowerCompute | .driveCycleRestart _ _ | .plannerRun | .flashSectorProgram _ |
    .holdupRetry _ | .supplyLoss _ | .pageProgramComplete | .orderlyStopHandoff | .fullcharStart _ _ | .fullcharBatch |
    .fullcharAbort _ _ | .avsPlan | .safetyTask | .safeWatchdogExpire | .lockstepMismatch | .safeSramUncorrectable |
    .islandRestartComplete _ | .outputTestDue | .outputTestPulseEnd _ _ | .checkValueComputed | .confirmWrite _ |
    .countClear _ _ | .parityScan _ | .brambleCompareMismatch | .brmSelfTest | .brmTestCheck | .msgNext _ _ |
    .faultLogFlush | .mgmtWatchdog | .onothRequestArrive _ _ | .read | .write | .readSnap | .domRead | .domBegin |
    .domWrite | .domEnd | .domAbort | .requestWaitTimeout | .envelopeReceive _ _ _ | .commissionEnter | .commissionLeave |
    .dictStore | .defaults | .seal _ | .unseal _ | .rollbackAdv _ | .clearPeak | .risenClear _ | .attentionEval |
    .loadUpdate _ | .hspiDoor _ _ | .mbxEprst _ _ | .mgmtCoreReset | .sectorProgramComplete => true
  | .genArm _ g _ | .genNoarmClear _ g _ | .groupApply g => g.ok
  | .wakePinQualify pin levels => pin < 4 && levels < 16
  | .hwhuskStart ch | .hwhuskLowsideCheck ch _ | .hwhuskHighsideOn ch _ | .hwhuskRampEnd ch _ _ |
    .hwhuskRampdownEnd ch | .buckSwitchPeriod ch _ | .buckOvervoltage ch _ | .buckOvRelease ch _ | .buckShortDetect ch |
    .buckEnable _ ch _ | .dischargeTimeout ch | .buckOffsetTrim ch _ _ => ch < 4
  | .harnessGuardTrip fb | .dischargeEnd fb => fb.ch < 4
  | .bistSliceEnd target _ => target < 11
  | .ethFrameReceive f => f.mac < 2
  | .rvfPacket p => p.mac < 2
  | .rvfFrameReady n | .rvfFrameTimeout n | .tunnelPost n _ | .tunnelTake n | .tunnelAck n _ => n < 8
  | .objectListArrive d => d.mac < 2
  | .syncMessage x => x.mac < 2 && x.domain < 256
  | .linkTrainStart p | .uplinkSignalDetect p | .uplinkBlockLock p _ | .uplinkTrainReceive p _ | .trainStateTimeout p |
    .identRecord p _ _ | .linkEnable _ p _ | .lightSet _ p _ | .retrain _ p _ | .ping _ p _ | .ident _ p _ |
    .regWrite _ p _ | .regRead _ p _ | .huskUnlock _ p _ | .huskCommit _ p _ | .tileReset _ p _ | .commandTimeout p |
    .rowechoRecord p _ _ | .echoDeadline p | .statusRecord p _ _ | .charRecord p _ _ _ | .responseRecord p _ _ _ _ |
    .alertRecord p _ _ _ _ |
    .uplinkLockLoss p _ | .lostRetry p | .gleanLockLoss p _ => p < 4
  | .gleanRecord p region lane _ => p < 4 && region < 32 && lane < 2
  | .satPeriodStart busy | .satLatchSend busy => busy < 16
  | .satCollectSend c _ | .satCensusSend c _ => c < 4
  | .satReturnTimeout c | .satEnumerate _ c => c.chain < 4
  | .satNodeWrite c node reg value =>
    c.chain < 4 && ((1 ≤ node && node ≤ 512) || node = 0xFFFF) && reg < 256 && value < 65536
  | .satReturnFrame c x => c < 4 && x.turned ≤ 512
  | .pidSample loops => loops < 65536
  | .pidGroupCfgWrite _ g _ => g < 4
  | .swClosedFault x => x.path < 4
  | .swUntestedTimeout sw => sw < 8
  | .ledgerTick x => x.shunt.length = 4
  | .thermalSample x => x.die.length = 10 && x.ntc.length = 4
  | .thermalTrip sensor => sensor < 10
  | .mapGroupCheckComplete t | .trimDue t => t < 4
  | .monitorRead slack => slack.all fun x => x.1 < 24
  | .violationRelease func => 1 ≤ func && func ≤ 3
  | .husknMismatch tile => tile < 4
  | .startupOutputRound husk _ => husk.1 < 16 && husk.2 < 16
  | .safetyParamWrite w => w.index < 65536 && w.sub < 256
  | .sourceRaise src _ | .graceExpiry src => src < 256
  | .sourceHandle _ w _ | .sourceShandle _ w _ | .sourceClear _ w _ => w < 8
  | .classWrite _ r _ => r < 16
  | .graceWrite _ r _ => r < 64
  | .arpRequest mac _ _ _ | .icmpEcho mac _ _ _ _ | .ethLinkDown mac | .ethLinkUp mac => mac < 2
  | .canFrameReceive f => f.bus < 2
  | .segmentTimeout bus | .canBusoff bus | .canBusoffRecover bus => bus < 2
  | .domSessionTimeout client => client < 11
  | .envTimerExpiry c | .envelopeProduce c => c < 8
  | .envConfigWrite c sub _ => c < 8 && sub < 256
  | .mbxDoor _ n _ | .mbxSeen _ n _ | .mbxAck _ n _ | .mbxCfgWrite _ n _ => n < 16
  | .lockAcquire _ k => k < 32
  | .lockRelease _ n _ | .lockForce _ n _ => n < 32
  | .cvuStart _ n _ | .cvuDin8 _ n _ | .cvuDin16 _ n _ | .cvuDin32 _ n _ | .cvuFeedComplete n | .cvuRawWrite _ n _ |
    .cvuAliveInc _ n _ | .cvuAchkWrite _ n _ | .cvuAcfgWrite _ n _ => n < 4

end Sys2Proof
end

