-- ==== Sys2Proof/Safety.lean ====
section
/-!
DEFINITION. The terms in which claims about the block are stated: the canonical form of its banks, what a command may change, which
commands are writes by bus, and what the interconnect lets through.
-/

namespace Sys2Proof.Machine

/-- The canonical form of memory. -/
abbrev Memory.wf (m : List Host.Cell) : Prop := Sparse.Wf memDefault m

/-- Memory, the registers, their applied values and their retained values stand in canonical form. -/
abbrev State.Canonical (s : State) : Prop :=
  Memory.wf s.mem ∧ Sparse.Wf resetWord s.regs ∧ Sparse.Wf resetWord s.applied ∧ Sparse.Wf resetWord s.kept
    ∧ Sparse.Wf resetWord s.dict.storedKept

/-- Every byte of memory reads as before. -/
def SameMem (s t : State) : Prop := ∀ a, t.byte a = s.byte a

/-- Every register but the listed ones reads as before, and every byte of memory. -/
def OnlyRegs (l : List Nat) (s t : State) : Prop := (∀ a, a ∉ l → t.reg a = s.reg a) ∧ SameMem s t

/-- Every register outside the listed blocks of R40 reads as before, and every byte of memory. -/
def OnlyBlocks (l : List Nat) (s t : State) : Prop := (∀ a, blockOf a ∉ l → t.reg a = s.reg a) ∧ SameMem s t

/-- Every register outside the listed blocks of R40 reads as before; memory may change. -/
def RegsIn (l : List Nat) (s t : State) : Prop := ∀ a, blockOf a ∉ l → t.reg a = s.reg a

/-- A write of a word to a register meets no cause of R42 and sets no reserved bit (R13). -/
abbrev State.Accepts (s : State) (m : Master) (a : Nat) (data : Word) : Prop :=
  s.regError m 4 true a = none ∧ reservedSet a data = false

/-- The blocks in which taking up a fault source may write: its latch, count and record (R387, R396), and what a request of HUSK
or DARK changes (R72, R77, R391): modes, bucks and switches, HUSK_N and its read-backs, a characterization that ends, a
Commissioning session that ends. -/
def faultBlocks : List Nat := [1, 3, 5, 11, 13, 14, 15, 16, 20, 21]

/-- The maps of a tile, whose arm is a check of its own (R339). -/
def Group.isMap : Group → Bool
  | .map _ => true
  | _ => false

/-- The groups whose application changes nothing beside their values and their generation register (R47). -/
def Group.bare : Group → Bool
  | .map _ | .stream _ | .energy => false
  | .pid _ | .buck _ | .proj _ | .glean _ | .imu | .satVal _ => true

/-- A register that a write of a word by bus reaches without a rule of its own: every field takes the word by its access code (R16). -/
def plainReg (a : Nat) : Bool :=
  let off := a % 0x10000
  (genGroup a).isNone && (memberGroup a).isNone && !isSheafReg a && (wholeClear a).isNone && match blockOf a with
  | 0 => off ≠ 0x10 && off ≠ 0x24
  | 1 => !([0x04, 0x08, 0x10, 0x14, 0x18, 0x24].contains off)
  | 3 => off ≠ 0
  | 5 => off ≠ 0x20
  | 6 => off ≠ 0x10 && off ≠ 0x30
  | 7 => off ≠ 0
  | 8 => off ≠ 0x10 && off ≠ 0x20
  | 11 => off % 0x4000 ≠ 0 && off % 0x4000 ≠ 0x2C
  | 12 => 4 < off && (off < 0x100 || 0x200 ≤ off || off % 0x40 ≠ 0)
  | 13 => off ≠ 0x0C && (off < 0x40 || 0x1400 ≤ off || (0x80 ≤ off && off < 0x100) || (0x900 ≤ off && off < 0x1000))
  | 14 => off ≠ 0x3C
  | 15 => off ≠ 0x10 && off ≠ 0x20
  | 16 => 0x300 ≤ off && off ≠ 0x404
  | 17 | 18 | 19 => false
  | 20 => off ≠ 0 && (off < 0x100 || 0x200 ≤ off)
  | _ => true

/-- A source is latched and counted: what taking it up leaves, whatever its class (R387). -/
abbrev State.Took (s t : State) (src : Nat) : Prop := t.latched src = true ∧ t.srcCount src = min (s.srcCount src + 1) 255

/-- A request is the next one that firmware serves, well formed, of a service, and no repetition of its client's last one (R408, R412,
R428). -/
abbrev State.Serves (s : State) (q : OnothReq) (svc : Nat) : Prop :=
  s.firmwareUp = true ∧ s.nextRequest = some q ∧ formCode q.message = codeOK ∧ msgSvc q.message = svc
    ∧ repeats q.message (s.onoth.last.getD q.client (0, [])) = false ∧ q.client < 11 ∧ s.onoth.last.length = 11

/-- A request has left the queue and been answered with a code and data, by the way it came; a response other than BUSY is kept (R408, R409,
R412). -/
abbrev State.Answered (s t : State) (q : OnothReq) (code : Nat) (data : List Byte) : Prop :=
  t.onoth.queue = s.onoth.queue.erase q
    ∧ t.onoth.last.getD q.client (0, []) = (if code = codeBUSY then s.onoth.last.getD q.client (0, [])
        else (msgSvc q.message, responseTo q.message code data))
    ∧ t.sent = (s.reply q.src q.token (responseTo q.message code data)).sent

/-- The lists that stand for a fixed number of like units hold that many: hardware paths, bucks, loops,
outputs, safe switches, ports, streams, check units, read pointers, projection copies,
chains, map checks, connections, links, CAN messages, Husk failures, keys and clients. -/
abbrev State.Shaped (s : State) : Prop :=
  s.boot.hw.length = 4 ∧ s.buck.length = 4 ∧ s.pid.loops.length = 16 ∧ s.pid.outs.length = 4 ∧ s.sw.hi.length = 4 ∧ s.sw.lo.length = 4
    ∧ s.link.length = 4 ∧ s.vin.streams.length = 8 ∧ s.cvu.length = 4 ∧ s.mbx.rdseq.length = 16 ∧ s.scn.copies.length = 2
    ∧ s.sat.chains.length = 4 ∧ s.cal.checks.length = 4 ∧ s.net.env.length = 8 ∧ s.net.down.length = 2 ∧ s.net.asm.length = 2
    ∧ s.saf.huskFails.length = 4 ∧ s.dict.keys.length = 32 ∧ s.onoth.last.length = 11 ∧ s.onoth.udp.length = 8

end Sys2Proof.Machine

namespace Sys2Proof

open Sys2Proof.Machine

/-- The write to a register that a row of its own stands for: the master, the address and the word. -/
def Instr.busWrite : Instr → Option (Master × Nat × Word)
  | .sysBlkownWrite m d => some (m, R.SYS_BLKOWN, d)
  | .genArm m g d | .genNoarmClear m g d => some (m, g.gen, d)
  | .modeReqSet m d | .recover m d | .clearDark m d => some (m, R.PWR_MODEREQ, d)
  | .rungateWrite m d => some (m, R.PWR_RUNGATE, d)
  | .domctlWrite m d => some (m, R.PWR_DOMCTL, d)
  | .padholdRelease m d => some (m, R.PWR_PADHOLD, d)
  | .sleepGo m _ => some (m, R.PWR_SLEEP, 1#32)
  | .bistStart m d | .bistAbort m d => some (m, R.BIST_CTRL, d)
  | .vinOlcfgWrite m d => some (m, R.VIN_OLCFG, d)
  | .vinImucfgWrite m d => some (m, R.VIN_IMUCFG, d)
  | .sheafArm m d | .sheafDisarm m d => some (m, R.LAY_SHEAF, d)
  | .symbolLoad m d | .symbolEvict m d | .symbolEvictUnused m d => some (m, R.CMP_SYMLOAD, d)
  | .captureStart m d | .captureAbort m d => some (m, R.CMP_CAPCTRL, d)
  | .linkEnable m p d | .lightSet m p d | .retrain m p d => some (m, R.LNK_CTRL p, d)
  | .ping m p d | .ident m p d | .regWrite m p d | .regRead m p d | .huskUnlock m p d | .huskCommit m p d | .tileReset m p d =>
    some (m, R.LNK_CMD p, d)
  | .satEnumerate (some (m, d)) c => some (m, R.SAT_CH_CTRL c.chain, d)
  | .satTimingWrite m latch d => some (m, if latch then R.SAT_LATCHOFS else R.SAT_PERIOD, d)
  | .pidGroupCfgWrite m g d => some (m, R.PID_GRP_CFG (g % 4), d)
  | .buckEnable m ch d => some (m, R.BUCK_CFG (ch % 4), d)
  | .driveCycleRestart m d => some (m, R.ENG_CYC, d)
  | .fullcharStart m d | .fullcharAbort m d => some (m, R.CAL_FULLCTL, d)
  | .sourceHandle m w d => some (m, R.BRM_HANDLED (w % 8), d)
  | .sourceShandle m w d => some (m, R.BRM_SHANDLED (w % 8), d)
  | .sourceClear m w d => some (m, R.BRM_STAT (w % 8), d)
  | .countClear m d => some (m, R.BRM_CTRL, d)
  | .classWrite m r d => some (m, R.BRM_CLASS (r % 16), d)
  | .graceWrite m r d => some (m, R.BRM_GRACE (r % 64), d)
  | .msgNext m d => some (m, R.BRM_MSGCTRL, d)
  | .mbxEprst m d => some (m, R.MBX_EPRST, d)
  | .lockRelease m n d | .lockForce m n d => some (m, R.SEM_LOCK n, d)
  | .cvuStart m n d => some (m, R.CVU_CTRL n, d)
  | .cvuDin8 m n d => some (m, R.CVU_DIN8 n, d)
  | .cvuDin16 m n d => some (m, R.CVU_DIN16 n, d)
  | .cvuDin32 m n d => some (m, R.CVU_DIN32 n, d)
  | .cvuRawWrite m n d => some (m, R.CVU_RAW n, d)
  | .cvuAliveInc m n d => some (m, R.CVU_ALIVE n, d)
  | .cvuAchkWrite m n d => some (m, R.CVU_ACHK n, d)
  | .cvuAcfgWrite m n d => some (m, R.CVU_ACFG n, d)
  | _ => none

/-- The write by bus that a command is, where it is one: the master, the size in bytes, the address and the word. REGISTER_WRITE reaches every
register and memory, HSPI_DOOR one word of memory. -/
def Instr.writeAccess : Instr → Option (Master × Nat × Nat × Word)
  | .registerWrite m size a d => some (m, size, a, d)
  | .mbxCfgWrite m n d => some (m, 4, R.MBX_CH_CFG n, d)
  | .mbxDoor m n d => some (m, 4, R.MBX_CH_CFG n + 0x04, d)
  | .mbxAck m n d => some (m, 4, R.MBX_CH_CFG n + 0x0C, d)
  | .mbxSeen m n d => some (m, 4, R.MBX_CH_CFG n + 0x10, d)
  | .hspiDoor m d => some (m, 4, slotDoor, d)
  | c => c.busWrite.map fun x => (x.1, 4, x.2.1, x.2.2)

end Sys2Proof

namespace Sys2Proof.Machine

/-- The cause of R42 with which a write by bus is turned away: of the interconnect, or at a register of the window of its channel (R453, R454). -/
def State.writeCause (s : State) (m : Master) (size a : Nat) : Option Nat :=
  (s.busError m size true a).or (if isReg a then s.windowError m a else none)

end Sys2Proof.Machine
end

