-- ==== Sys2Proof/Certificates/Slice0/Obligations.lean ====
section
/-!
DEFINITION. The statements for the provers.
-/

open Sys2Proof Sys2Proof.Machine

/-- A step runs the command at the front of the queue (the queue is the model's own, log entry 1) (R31). Where these rules leave
  a point open the clauses hold for the model as notes/assumptions/1.md states it. -/
def Obligations.StepTakesTheFront : Prop :=
  ∀ (c : Instr) (s : State) (rest : List Instr), step { s with pending := c :: rest } = exec c { s with pending := rest }

/-- With no command waiting a step is one cycle of the pixel clock (design choice, log entry 1) (R31). -/
def Obligations.EmptyQueueLetsTimePass : Prop :=
  ∀ s : State, s.pending = [] → step s = .next { s with now := s.now + 1 }

/-- What reset leaves, and that the invariants hold there (R79, R52, R38, R40, R31). Where these rules leave a point open the
  clauses hold for the model as notes/assumptions/2.md, notes/assumptions/3.md state it. -/
def Obligations.ResetState : Prop :=
  State.reset.mode = .dormant ∧ State.reset.pwr.pwrEn = false ∧ (∀ a, State.reset.reg a = resetWord a) ∧
    State.reset.rd F.PWR_MODE_CAUSE = 0x01 ∧ (∀ d ∈ Dom.gated, State.reset.on d = false) ∧ State.reset.on .aon = true ∧
    State.reset.mem = [] ∧ State.reset.pending = [] ∧ State.reset.Canonical ∧ State.reset.Shaped

/-- Every step keeps the canonical form (R38, R40, R16). -/
def Obligations.CanonicalIsKept : Prop :=
  ∀ s t : State, s.Canonical → step s = .next t → t.Canonical

/-- No command stops but a write by bus that sets a reserved bit (the model's reading of R13, log entry 4) (R13, R42). Where
  these rules leave a point open the clauses hold for the model as notes/assumptions/4.md states it. -/
def Obligations.CommandsAlwaysComplete : Prop :=
  ∀ (c : Instr) (s : State), (∃ t, exec c s = .next t) ∨
    ∃ (m : Master) (size a : Nat) (data : Word), c.writeAccess = some (m, size, a, data) ∧ s.writeCause m size a = none ∧
      isReg a = true ∧ reservedSet a data = true ∧ exec c s = .fault .reservedBit

/-- A write by bus that meets a cause of R42 ends with a bus error (R38, R42, R83, R453, R454). Where these rules leave a point
  open the clauses hold for the model as notes/assumptions/8.md states it. -/
def Obligations.RegisterWriteTurnedAway : Prop :=
  (∀ (s : State) (c : Instr) (m : Master) (size a : Nat) (data : Word) (cause : Nat),
    s.on .mgmt = true →
    c.wf = true →
    c.writeAccess = some (m, size, a, data) →
    s.writeCause m size a = some cause →
    ∃ t : State, exec (c) s = .next t ∧
      t.flag F.SYS_BUSERR_INFO_VALID = true ∧ t.rd F.SYS_BUSERR_INFO_COUNT = min (s.rd F.SYS_BUSERR_INFO_COUNT + 1) 65535 ∧
      (s.flag F.SYS_BUSERR_INFO_VALID = false → t.regN R.SYS_BUSERR_ADDR = a % 2 ^ 32 ∧ t.rd F.SYS_BUSERR_INFO_MASTER = m.num ∧
        t.rd F.SYS_BUSERR_INFO_WRITE = 1 ∧ t.rd F.SYS_BUSERR_INFO_CAUSE = cause) ∧
      OnlyBlocks (0 :: faultBlocks) s t) ∧
  (∀ (s : State) (c : Instr) (m : Master) (size a : Nat) (data : Word) (cause : Nat),
    s.on .mgmt = false →
    c.wf = true →
    c.writeAccess = some (m, size, a, data) →
    s.writeCause m size a = some cause →
    ∃ t : State, exec (c) s = .next t ∧
      OnlyBlocks faultBlocks s t) ∧
  (∀ (s : State) (m : Master) (size a : Nat) (data : Word),
    s.on .mgmt = true →
    isReg a = true →
    a < 2 ^ 32 →
    size ≠ 4 ∨ a % 4 ≠ 0 →
    ∃ t : State, exec (.registerWrite m size a data) s = .next t ∧
      t.flag F.SYS_BUSERR_INFO_VALID = true ∧
      (s.flag F.SYS_BUSERR_INFO_VALID = false → t.regN R.SYS_BUSERR_ADDR = a ∧ t.rd F.SYS_BUSERR_INFO_MASTER = m.num ∧
        t.rd F.SYS_BUSERR_INFO_WRITE = 1 ∧ t.rd F.SYS_BUSERR_INFO_CAUSE = 1) ∧ OnlyBlocks (0 :: faultBlocks) s t) ∧
  (∀ (s : State) (m : Master) (size a : Nat) (data : Word),
    s.on .mgmt = true →
    isReg a = false →
    a < 2 ^ 32 →
    0 < size →
    regionOf a = none →
    ∃ t : State, exec (.registerWrite m size a data) s = .next t ∧
      t.flag F.SYS_BUSERR_INFO_VALID = true ∧
      (s.flag F.SYS_BUSERR_INFO_VALID = false → t.regN R.SYS_BUSERR_ADDR = a ∧ t.rd F.SYS_BUSERR_INFO_MASTER = m.num ∧
        t.rd F.SYS_BUSERR_INFO_WRITE = 1 ∧ t.rd F.SYS_BUSERR_INFO_CAUSE = 2) ∧ OnlyBlocks (0 :: faultBlocks) s t) ∧
  (∀ (s : State) (m : Master) (size a : Nat) (data : Word) (r : Region),
    s.on .mgmt = true →
    isReg a = false →
    a < 2 ^ 32 →
    0 < size →
    regionOf a = some r →
    s.on r.dom = false →
    ∃ t : State, exec (.registerWrite m size a data) s = .next t ∧
      t.flag F.SYS_BUSERR_INFO_VALID = true ∧
      (s.flag F.SYS_BUSERR_INFO_VALID = false → t.regN R.SYS_BUSERR_ADDR = a ∧ t.rd F.SYS_BUSERR_INFO_MASTER = m.num ∧
        t.rd F.SYS_BUSERR_INFO_WRITE = 1 ∧ t.rd F.SYS_BUSERR_INFO_CAUSE = 5) ∧ OnlyBlocks (0 :: faultBlocks) s t) ∧
  (∀ (s : State) (m : Master) (n : Nat) (data : Word),
    n < 16 →
    s.on .mgmt = true →
    s.mode ≠ Mode.dormant →
    m = .island ∨ m = .mgmt ∨ m = .hspi →
    m.num ≠ s.sender n →
    ∃ t : State, exec (.mbxDoor m n data) s = .next t ∧
      t.flag F.SYS_BUSERR_INFO_VALID = true ∧
      (s.flag F.SYS_BUSERR_INFO_VALID = false → t.regN R.SYS_BUSERR_ADDR = R.MBX_CH_CFG n + 4 ∧
        t.rd F.SYS_BUSERR_INFO_MASTER = m.num ∧
        t.rd F.SYS_BUSERR_INFO_WRITE = 1 ∧ t.rd F.SYS_BUSERR_INFO_CAUSE = 3) ∧ OnlyBlocks (0 :: faultBlocks) s t) ∧
  (∀ (s : State) (m : Master) (n : Nat) (data : Word),
    n < 16 →
    s.on .mgmt = true →
    s.mode ≠ Mode.dormant →
    m = .island ∨ m = .mgmt ∨ m = .hspi →
    m.num ≠ s.receiver n →
    ∃ t : State, exec (.mbxSeen m n data) s = .next t ∧
      t.flag F.SYS_BUSERR_INFO_VALID = true ∧
      (s.flag F.SYS_BUSERR_INFO_VALID = false → t.regN R.SYS_BUSERR_ADDR = R.MBX_CH_CFG n + 0x10 ∧
        t.rd F.SYS_BUSERR_INFO_MASTER = m.num ∧
        t.rd F.SYS_BUSERR_INFO_WRITE = 1 ∧ t.rd F.SYS_BUSERR_INFO_CAUSE = 3) ∧ OnlyBlocks (0 :: faultBlocks) s t) ∧
  (∀ (s : State) (m : Master) (n : Nat) (data : Word),
    n < 16 →
    s.on .mgmt = true →
    s.mode ≠ Mode.dormant →
    m = .island ∨ m = .mgmt ∨ m = .hspi →
    m.num ≠ s.receiver n →
    ∃ t : State, exec (.mbxAck m n data) s = .next t ∧
      t.flag F.SYS_BUSERR_INFO_VALID = true ∧
      (s.flag F.SYS_BUSERR_INFO_VALID = false → t.regN R.SYS_BUSERR_ADDR = R.MBX_CH_CFG n + 0x0C ∧
        t.rd F.SYS_BUSERR_INFO_MASTER = m.num ∧
        t.rd F.SYS_BUSERR_INFO_WRITE = 1 ∧ t.rd F.SYS_BUSERR_INFO_CAUSE = 3) ∧ OnlyBlocks (0 :: faultBlocks) s t) ∧
  (∀ (s : State) (n : Nat) (data : Word),
    n < 16 →
    s.on .mgmt = true →
    s.mode ≠ Mode.dormant →
    ∃ t : State, exec (.mbxCfgWrite .island n data) s = .next t ∧
      t.flag F.SYS_BUSERR_INFO_VALID = true ∧
      (s.flag F.SYS_BUSERR_INFO_VALID = false → t.regN R.SYS_BUSERR_ADDR = R.MBX_CH_CFG n ∧ t.rd F.SYS_BUSERR_INFO_MASTER = 0 ∧
        t.rd F.SYS_BUSERR_INFO_WRITE = 1 ∧ t.rd F.SYS_BUSERR_INFO_CAUSE = 3) ∧ OnlyBlocks (0 :: faultBlocks) s t) ∧
  (∀ (s : State) (m : Master) (n k : Nat) (data : Word),
    8 ≤ n →
    n < 16 →
    k < 32 →
    s.on .mgmt = true →
    s.mode ≠ Mode.dormant →
    m = .island ∨ m = .mgmt ∨ m = .hspi →
    m.num ≠ s.sender n →
    m.num ≠ s.receiver n →
    ∃ t : State, exec (.registerWrite m 4 (R.MBX_CH_TX n 0 + 4 * k) data) s = .next t ∧
      t.flag F.SYS_BUSERR_INFO_VALID = true ∧
      (s.flag F.SYS_BUSERR_INFO_VALID = false → t.regN R.SYS_BUSERR_ADDR = R.MBX_CH_TX n 0 + 4 * k ∧
        t.rd F.SYS_BUSERR_INFO_MASTER = m.num ∧
        t.rd F.SYS_BUSERR_INFO_WRITE = 1 ∧ t.rd F.SYS_BUSERR_INFO_CAUSE = 2) ∧ OnlyBlocks (0 :: faultBlocks) s t)

/-- A write by bus that sets a reserved bit of a register stops the machine (the model's reading of R13, log entry 4) (R13).
  Where these rules leave a point open the clauses hold for the model as notes/assumptions/4.md states it. -/
def Obligations.ReservedBitStops : Prop :=
  ∀ (s : State) (c : Instr) (m : Master) (size a : Nat) (data : Word), c.wf = true → c.writeAccess = some (m, size, a, data) →
    s.writeCause m size a = none → isReg a = true → reservedSet a data = true → exec c s = .fault .reservedBit

/-- What REGISTER_WRITE does to a register and to memory (R16, R38, R42, R48, R152). Where these rules leave a point open the
  clauses hold for the model as notes/assumptions/4.md, notes/assumptions/8.md, notes/assumptions/39.md, notes/assumptions/49.md
  state it. -/
def Obligations.BusWritesReachRegistersAndMemory : Prop :=
  (∀ (s : State) (m : Master) (size a : Nat) (data : Word),
    size = 1 ∨ size = 2 ∨ size = 4 →
    isReg a = false →
    s.memError m size true a = none →
    a + size ≤ slotDoor ∨ slotDoor < a →
    ∃ t : State, exec (.registerWrite m size a data) s = .next t ∧
      (∀ i, i < size → (t.byte (a + i)).toNat = data.toNat / 256 ^ i % 256) ∧
      (∀ b, b < a ∨ a + size ≤ b → t.byte b = s.byte b) ∧ ∀ r, t.reg r = s.reg r) ∧
  (∀ (s : State) (m : Master) (a : Nat) (data : Word),
    isReg a = true →
    plainReg a = true →
    s.Accepts m a data →
    (regDef a).isSome = true →
    s.valueFits a data.toNat = true →
    (blockOf a = 6 → s.vinOpen (a % 0x10000) data.toNat = true) →
    (blockOf a = 20 → s.netOpen (a % 0x10000) data.toNat = true) →
    ∃ t : State, exec (.registerWrite m 4 a data) s = .next t ∧
      t.regN a = s.written a data ∧ OnlyRegs [a] s t) ∧
  (∀ (s : State) (m : Master) (a : Nat) (data : Word),
    isReg a = true →
    s.Accepts m a data →
    blockOf a ≠ 17 ∧ blockOf a ≠ 18 ∧ blockOf a ≠ 19 →
    isSheafReg a = false ∨ s.rd F.LAY_SHEAFSTAT_STATE = 0 →
    (memberGroup a).any s.armed = false →
    s.valueFits a data.toNat = false →
    ∃ t : State, exec (.registerWrite m 4 a data) s = .next t ∧
      t = s) ∧
  (∀ (s : State) (m : Master) (g : Group) (a : Nat) (data : Word),
    isReg a = true →
    s.Accepts m a data →
    genGroup a = none →
    memberGroup a = some g →
    s.armed g = true ∨ s.valueFits a data.toNat = true →
    (regDef a).isSome = true →
    g.gen ≠ a →
    ∃ t : State, exec (.registerWrite m 4 a data) s = .next t ∧
      (∀ b, t.appReg b = s.appReg b) ∧ OnlyRegs [a, g.gen] s t ∧
      (s.armed g = true → t.reg a = s.reg a ∧ t.flag g.fBlocked = true) ∧
      (s.armed g = false → t.regN a = s.written a data)) ∧
  (∀ (s : State) (m : Master) (a : Nat) (data : Word),
    isReg a = true →
    s.Accepts m a data →
    blockOf a ≠ 17 ∧ blockOf a ≠ 18 ∧ blockOf a ≠ 19 →
    genGroup a = none →
    memberGroup a = none →
    isSheafReg a = true →
    (regDef a).isSome = true →
    ∃ t : State, exec (.registerWrite m 4 a data) s = .next t ∧
      (∀ b, t.appReg b = s.appReg b) ∧ OnlyRegs [a, R.LAY_SHEAFSTAT] s t ∧
      (s.rd F.LAY_SHEAFSTAT_STATE = 0 → s.valueFits a data.toNat = true → t.regN a = s.written a data) ∧
      (s.rd F.LAY_SHEAFSTAT_STATE ≠ 0 → t.reg a = s.reg a ∧ t.flag F.LAY_SHEAFSTAT_BLOCKED = true))

/-- SYS_BLKOWN, PWR_DOMCTL and PWR_PADHOLD (R41, R84, R86). -/
def Obligations.BlockOwnersAndDomains : Prop :=
  (∀ (s : State) (m : Master) (data : Word),
    s.Accepts m R.SYS_BLKOWN data →
    ∃ t : State, exec (.sysBlkownWrite m data) s = .next t ∧
      (s.mode = Mode.standby → ∀ n, n < 12 → t.bitR R.SYS_BLKOWN n = bitAt data.toNat n) ∧ (s.mode ≠ Mode.standby → t = s) ∧
      OnlyRegs [R.SYS_BLKOWN] s t) ∧
  (∀ (s : State) (m : Master) (data : Word),
    s.Accepts m R.PWR_DOMCTL data →
    ∃ t : State, exec (.domctlWrite m data) s = .next t ∧
      (s.mode = Mode.standby → t.rd F.PWR_DOMCTL_LIGHT = bitsOf data.toNat 11 6 ∧
        t.rd F.PWR_DOMCTL_VIN = bitsOf data.toNat 4 4) ∧
      (s.mode ≠ Mode.standby → t = s) ∧ OnlyRegs [R.PWR_DOMCTL] s t) ∧
  (∀ (s : State) (m : Master) (data : Word),
    s.Accepts m R.PWR_PADHOLD data →
    ∃ t : State, exec (.padholdRelease m data) s = .next t ∧
      (∀ g, g < 11 → t.bitR R.PWR_PADHOLD g = (s.bitR R.PWR_PADHOLD g && !(bitAt data.toNat g && s.on (padGroupDom g)))) ∧
      (bitAt data.toNat 5 = false → bitAt data.toNat 9 = false →
        OnlyRegs (R.PWR_PADHOLD :: R.SAF_OUTRB :: (List.range 4).map R.LNK_HUSK) s t) ∧ OnlyBlocks [1, 3, 11, 13, 14, 15] s t)

/-- Arming, NOARM and the application of a group as a whole (R46, R47, R48). Where these rules leave a point open the clauses
  hold for the model as notes/assumptions/39.md, notes/assumptions/49.md state it. -/
def Obligations.GroupsArmAndApplyWhole : Prop :=
  (∀ (s : State) (m : Master) (g : Group) (data : Word),
    g.ok = true →
    s.Accepts m g.gen data →
    bitAt data.toNat 19 = false →
    s.genFits g data = true →
    ((s.genClear g data).armCheck g).1 = true →
    g.isMap = false →
    (g = .imu → s.flag F.VIN_IMUCFG_EN = true) →
    ∃ t : State, exec (.genArm m g data) s = .next t ∧
      t.armed g = true ∧ t.rd g.fGen = bitsOf data.toNat 7 0 ∧ t.rd g.fApplied = s.rd g.fApplied ∧
      (∀ a, t.appReg a = s.appReg a) ∧ SameMem s t) ∧
  (∀ (s : State) (m : Master) (g : Group) (data : Word),
    g.ok = true →
    s.Accepts m g.gen data →
    bitAt data.toNat 19 = false →
    s.genFits g data = false →
    ∃ t : State, exec (.genArm m g data) s = .next t ∧
      t.flag g.fMismatch = true ∧ t.armed g = s.armed g ∧ t.rd g.fGen = s.rd g.fGen ∧ t.rd g.fApplied = s.rd g.fApplied ∧
      OnlyRegs [g.gen] s t) ∧
  (∀ (s : State) (m : Master) (g : Group) (data : Word),
    g.ok = true →
    s.Accepts m g.gen data →
    bitAt data.toNat 19 = true →
    ∃ t : State, exec (.genNoarmClear m g data) s = .next t ∧
      t.flag g.fMismatch = (s.flag g.fMismatch && (!bitAt data.toNat 17 || s.marksNow.contains g.fMismatch)) ∧
      t.flag g.fBlocked = (s.flag g.fBlocked && (!bitAt data.toNat 18 || s.marksNow.contains g.fBlocked)) ∧
        t.armed g = s.armed g ∧
      t.rd g.fGen = s.rd g.fGen ∧ t.rd g.fApplied = s.rd g.fApplied ∧ OnlyRegs [g.gen] s t) ∧
  (∀ (s : State) (m : Master) (data : Word),
    s.Accepts m Group.imu.gen data →
    bitAt data.toNat 19 = false →
    s.genFits .imu data = true →
    s.imuFits = true →
    s.flag F.VIN_IMUCFG_EN = false →
    ∃ t : State, exec (.genArm m .imu data) s = .next t ∧
      (∀ a ∈ Group.imu.members, t.appReg a = s.regN a) ∧ (∀ a, a ∉ Group.imu.members → t.appReg a = s.appReg a) ∧
      t.rd Group.imu.fApplied = bitsOf data.toNat 7 0 ∧ t.rd Group.imu.fGen = bitsOf data.toNat 7 0 ∧ t.armed .imu = false ∧
        OnlyRegs [Group.imu.gen] s t) ∧
  (∀ (s : State) (g : Group),
    g.ok = true →
    s.pointNow g = false →
    ∃ t : State, exec (.groupApply g) s = .next t ∧
      t = s) ∧
  (∀ (s : State),
    s.pointNow .energy = true →
    s.appliesNow .energy = true →
    ∃ t : State, exec (.groupApply .energy) s = .next t ∧
      (∀ a ∈ Group.energy.members, t.appReg a = s.regN a) ∧ (∀ a, a ∉ Group.energy.members → t.appReg a = s.appReg a) ∧
      t.rd Group.energy.fApplied = s.rd Group.energy.fGen ∧ t.armed .energy = false ∧
        OnlyRegs [Group.energy.gen, R.ENG_EWIN] s t ∧
      (s.rd F.ENG_WSLOT_SLOT_MS = s.app F.ENG_WSLOT_SLOT_MS → t.regN R.ENG_EWIN = s.regN R.ENG_EWIN ∧ t.eng = s.eng) ∧
      (s.rd F.ENG_WSLOT_SLOT_MS ≠ s.app F.ENG_WSLOT_SLOT_MS → t.regN R.ENG_EWIN = 0 ∧ t.eng.slots = [])) ∧
  (∀ (s : State) (g : Group),
    g.ok = true →
    g.bare = true →
    s.pointNow g = true →
    s.appliesNow g = true →
    ∃ t : State, exec (.groupApply g) s = .next t ∧
      (∀ a ∈ g.members, t.appReg a = s.regN a) ∧ (∀ a, a ∉ g.members → t.appReg a = s.appReg a) ∧
      t.rd g.fApplied = s.rd g.fGen ∧ t.armed g = false ∧ OnlyRegs [g.gen] s t)

/-- The lamp demand and the requests of PWR_MODEREQ (R73, R77, R78, R80, R89). Where these rules leave a point open the clauses
  hold for the model as notes/assumptions/9.md, notes/assumptions/12.md, notes/assumptions/49.md state it. -/
def Obligations.DemandAndModeRequests : Prop :=
  (∀ (s : State) (m : Master),
    s.Accepts m R.PWR_MODEREQ 1#32 →
    s.mode = Mode.standby →
    s.demand = false →
    s.flag F.BIST_TESTSTAT_TESTONLY = false →
    ∃ t : State, exec (.modeReqSet m 1#32) s = .next t ∧
      t.mode = Mode.prepare ∧ t.rd F.PWR_MODE_CAUSE = 0x04 ∧ t.rd F.PWR_MODEREQ_REQ = 1 ∧
        OnlyBlocks (0 :: 4 :: faultBlocks) s t) ∧
  (∀ (s : State) (m : Master) (data : Word),
    s.Accepts m R.PWR_MODEREQ data →
    bitsOf data.toNat 9 8 = 0 →
    bitsOf data.toNat 0 0 = s.rd F.PWR_MODEREQ_REQ →
    ∃ t : State, exec (.modeReqSet m data) s = .next t ∧
      t.mode = s.mode ∧ t.rd F.PWR_MODEREQ_REQ = s.rd F.PWR_MODEREQ_REQ ∧ OnlyRegs [R.PWR_MODEREQ] s t) ∧
  (∀ (s : State) (m : Master) (data : Word),
    s.Accepts m R.PWR_MODEREQ data →
    bitsOf data.toNat 9 8 = 1 →
    bitsOf data.toNat 0 0 = s.rd F.PWR_MODEREQ_REQ →
    s.mode = Mode.husk →
    s.demand = true →
    s.causesClear = true →
    ∃ t : State, exec (.recover m data) s = .next t ∧
      t.mode = Mode.prepare ∧ t.rd F.PWR_MODE_CAUSE = 0x0F ∧ OnlyBlocks (0 :: 4 :: faultBlocks) s t) ∧
  (∀ (s : State) (m : Master) (data : Word),
    s.Accepts m R.PWR_MODEREQ data →
    bitsOf data.toNat 9 8 = 1 →
    bitsOf data.toNat 0 0 = s.rd F.PWR_MODEREQ_REQ →
    s.mode ≠ Mode.husk →
    ∃ t : State, exec (.recover m data) s = .next t ∧
      t.mode = s.mode ∧ t.flag F.PWR_MODEREQ_REFUSED = true ∧ OnlyRegs [R.PWR_MODEREQ] s t) ∧
  (∀ (s : State) (m : Master) (data : Word),
    s.Accepts m R.PWR_MODEREQ data →
    bitsOf data.toNat 9 8 = 2 →
    bitsOf data.toNat 0 0 = s.rd F.PWR_MODEREQ_REQ →
    s.mode = Mode.dark →
    s.demand = false →
    s.causesClear = true →
    s.flag F.BIST_TESTSTAT_TESTONLY = false →
    ∃ t : State, exec (.clearDark m data) s = .next t ∧
      t.mode = Mode.standby ∧ t.rd F.PWR_MODE_CAUSE = 0x10 ∧ OnlyBlocks (0 :: 4 :: faultBlocks) s t) ∧
  (∀ (s : State) (m : Master) (data : Word),
    s.Accepts m R.PWR_MODEREQ data →
    bitsOf data.toNat 9 8 = 2 →
    bitsOf data.toNat 0 0 = s.rd F.PWR_MODEREQ_REQ →
    s.mode ≠ Mode.dark →
    ∃ t : State, exec (.clearDark m data) s = .next t ∧
      t.mode = s.mode ∧ t.flag F.PWR_MODEREQ_REFUSED = true ∧ OnlyRegs [R.PWR_MODEREQ] s t) ∧
  (∀ (s : State) (m : Master),
    s.Accepts m R.PWR_MODEREQ 0#32 →
    s.mode = Mode.husk →
    s.demand = true →
    s.flag F.PWR_WAKESTAT_LAMPREQ_LVL = false →
    ∃ t : State, exec (.modeReqSet m 0#32) s = .next t ∧
      t.mode = Mode.standby ∧ t.rd F.PWR_MODE_CAUSE = 0x0E ∧ t.rd F.PWR_MODEREQ_REQ = 0 ∧ t.rd F.SAF_OUTCMD_HUSKN_HI = 0 ∧
        OnlyBlocks (0 :: 4 :: faultBlocks) s t) ∧
  (∀ (s : State) (m : Master),
    s.Accepts m R.PWR_MODEREQ 0#32 →
    s.mode = Mode.run →
    s.cf.hold = none →
    s.demand = true →
    s.flag F.PWR_WAKESTAT_LAMPREQ_LVL = false →
    ∃ t : State, exec (.modeReqSet m 0#32) s = .next t ∧
      t.mode = Mode.run ∧ t.flag F.PWR_MODE_BUSY = true ∧ t.pwr.beamEnding = true ∧ t.rd F.PWR_MODEREQ_REQ = 0 ∧
      OnlyRegs [R.PWR_MODE, R.PWR_MODEREQ] s t) ∧
  (∀ (s : State) (m : Master) (data : Word),
    s.Accepts m R.PWR_MODEREQ data →
    bitsOf data.toNat 9 8 = 1 →
    bitsOf data.toNat 0 0 = s.rd F.PWR_MODEREQ_REQ →
    s.mode = Mode.husk →
    s.demand = false ∨ s.causesClear = false →
    ∃ t : State, exec (.recover m data) s = .next t ∧
      t.mode = Mode.husk ∧ t.flag F.PWR_MODEREQ_REFUSED = true ∧ OnlyRegs [R.PWR_MODEREQ] s t) ∧
  (∀ (s : State) (m : Master) (data : Word),
    s.Accepts m R.PWR_MODEREQ data →
    bitsOf data.toNat 9 8 = 2 →
    bitsOf data.toNat 0 0 = s.rd F.PWR_MODEREQ_REQ →
    s.mode = Mode.dark →
    s.demand = true ∨ s.causesClear = false ∨ s.flag F.BIST_TESTSTAT_TESTONLY = true →
    ∃ t : State, exec (.clearDark m data) s = .next t ∧
      t.mode = Mode.dark ∧ t.flag F.PWR_MODEREQ_REFUSED = true ∧ OnlyRegs [R.PWR_MODEREQ] s t) ∧
  (∀ (s : State),
    s.pwr.resetLow = false →
    s.mode = Mode.dormant →
    s.demand = false →
    s.pwr.enHold = none →
    s.pwr.offAt = none →
    ∃ t : State, exec (.lampReqAssert) s = .next t ∧
      t.flag F.PWR_WAKESTAT_LAMPREQ = true ∧ t.flag F.PWR_WAKESTAT_LAMPREQ_LVL = true ∧ t.mode = Mode.prepare ∧
      t.rd F.PWR_MODE_CAUSE = 0x03 ∧ t.pwr.pwrEn = true ∧ OnlyBlocks (0 :: 4 :: faultBlocks) s t) ∧
  (∀ (s : State),
    s.pwr.resetLow = false →
    s.mode = Mode.standby →
    s.demand = false →
    s.flag F.BIST_TESTSTAT_TESTONLY = false →
    ∃ t : State, exec (.lampReqAssert) s = .next t ∧
      t.flag F.PWR_WAKESTAT_LAMPREQ = true ∧ t.flag F.PWR_WAKESTAT_LAMPREQ_LVL = true ∧ t.mode = Mode.prepare ∧
      t.rd F.PWR_MODE_CAUSE = 0x03 ∧ OnlyBlocks (0 :: 4 :: faultBlocks) s t) ∧
  (∀ (s : State),
    s.pwr.resetLow = false →
    s.mode = Mode.husk →
    s.demand = true →
    s.rd F.PWR_MODEREQ_REQ = 0 →
    ∃ t : State, exec (.lampReqRelease) s = .next t ∧
      t.flag F.PWR_WAKESTAT_LAMPREQ_LVL = false ∧ t.mode = Mode.standby ∧ t.rd F.PWR_MODE_CAUSE = 0x0E ∧
      t.rd F.SAF_OUTCMD_HUSKN_HI = 0 ∧ OnlyBlocks (0 :: 4 :: faultBlocks) s t) ∧
  (∀ (s : State),
    s.pwr.resetLow = false →
    s.mode = Mode.run →
    s.cf.hold = none →
    s.demand = true →
    s.rd F.PWR_MODEREQ_REQ = 0 →
    ∃ t : State, exec (.lampReqRelease) s = .next t ∧
      t.flag F.PWR_WAKESTAT_LAMPREQ_LVL = false ∧ t.mode = Mode.run ∧ t.flag F.PWR_MODE_BUSY = true ∧ t.pwr.beamEnding = true ∧
      OnlyRegs [R.PWR_MODE, R.PWR_WAKESTAT] s t)

/-- The gate of RUN, the end of the beam and the ends of PREPARE (R74, R77, R80, R102, R103). Where these rules leave a point
  open the clauses hold for the model as notes/assumptions/9.md, notes/assumptions/54.md state it. -/
def Obligations.RunGateAndPrepareEnds : Prop :=
  (∀ (s : State) (data : Word),
    s.Accepts .island R.PWR_RUNGATE data →
    ∃ t : State, exec (.rungateWrite .island data) s = .next t ∧
      t.flag F.PWR_RUNGATE_PERMIT = bitAt data.toNat 0 ∧ t.rd F.PWR_RUNGATE_DENY = bitsOf data.toNat 7 4 ∧
      (s.mode = Mode.run → bitAt data.toNat 0 = false → s.pwr.beamEnding = false → t.mode = Mode.husk ∧
        t.rd F.PWR_MODE_CAUSE = 0x07) ∧
      (s.mode = Mode.run → bitAt data.toNat 0 = false → s.pwr.beamEnding = true → t.mode = Mode.standby ∧
        t.rd F.PWR_MODE_CAUSE = 0x0E) ∧
      (s.mode ≠ Mode.run ∨ bitAt data.toNat 0 = true → t.mode = s.mode ∧ OnlyRegs [R.PWR_RUNGATE] s t) ∧
        OnlyBlocks faultBlocks s t) ∧
  (∀ (s : State),
    s.mode = Mode.run →
    s.pwr.beamEnding = true →
    s.beamOver = true →
    ∃ t : State, exec (.runBeamEnd) s = .next t ∧
      t.mode = Mode.standby ∧ t.rd F.PWR_MODE_CAUSE = 0x0E ∧ t.rd F.SAF_OUTCMD_HUSKN_HI = 0 ∧
        OnlyBlocks (0 :: 4 :: faultBlocks) s t) ∧
  (∀ (s : State) (p : Prep),
    s.mode = Mode.prepare →
    s.pwr.prep = some p →
    s.stepsToStandby p = true →
    s.demand = false →
    ∃ t : State, exec (.prepareComplete) s = .next t ∧
      t.mode = Mode.standby ∧ t.rd F.PWR_MODE_CAUSE = (if p.toRun then 0x0E else 0x06) ∧ t.pwr.prep = none ∧
        OnlyBlocks (0 :: 4 :: faultBlocks) s t) ∧
  (∀ (s : State) (p : Prep),
    s.mode = Mode.prepare →
    s.pwr.prep = some p →
    s.bootSteps = true →
    s.lightSteps = true →
    s.demand = true →
    s.flag F.BIST_HUSKPATH_HANDED = true →
    s.lightingFailed = false →
    s.huskPending = false →
    s.flag F.PWR_RUNGATE_PERMIT = true →
    ∃ t : State, exec (.prepareComplete) s = .next t ∧
      t.mode = Mode.run ∧ t.rd F.PWR_MODE_CAUSE = 0x06 ∧ t.pwr.prep = none ∧ SameMem s t) ∧
  (∀ (s : State) (p : Prep),
    s.mode = Mode.prepare →
    s.pwr.prep = some p →
    s.bootSteps = true →
    s.lightSteps = true →
    s.demand = true →
    s.flag F.BIST_HUSKPATH_HANDED = false →
    s.handOver.lightingFailed = false →
    s.handOver.huskPending = false →
    s.handOver.flag F.PWR_RUNGATE_PERMIT = true →
    ∃ t : State, exec (.prepareComplete) s = .next t ∧
      t.mode = Mode.run ∧ t.rd F.PWR_MODE_CAUSE = 0x06 ∧
        t.flag F.BIST_HUSKPATH_HANDED = s.handOver.flag F.BIST_HUSKPATH_HANDED ∧ t.pwr.prep = none) ∧
  (∀ (s : State) (p : Prep),
    s.mode = Mode.prepare →
    s.pwr.prep = some p →
    s.bootSteps = true →
    s.lightSteps = true →
    s.demand = true →
    s.flag F.BIST_HUSKPATH_HANDED = true →
    s.lightingFailed = false →
    s.huskPending = false →
    s.flag F.PWR_RUNGATE_PERMIT = false →
    ∃ t : State, exec (.prepareComplete) s = .next t ∧
      t.mode = Mode.husk ∧ t.rd F.PWR_MODE_CAUSE = 0x07 ∧ t.pwr.prep = none ∧ SameMem s t) ∧
  (∀ (s : State) (p : Prep),
    s.mode = Mode.prepare →
    s.pwr.prep = some p →
    p.since + 600000000 ≤ s.now →
    ∃ t : State, exec (.prepareTimeout) s = .next t ∧
      t.mode = (if s.demand then Mode.husk else Mode.standby) ∧ t.rd F.PWR_MODE_CAUSE = 0x13 ∧ t.pwr.prep = none ∧
      OnlyBlocks (0 :: 4 :: faultBlocks) s t)

/-- Wake sources, sleep entry and the hold of PWR_EN (R89, R90, R91, R92, R94). Where these rules leave a point open the clauses
  hold for the model as notes/assumptions/51.md, notes/assumptions/54.md state it. -/
def Obligations.WakeAndSleep : Prop :=
  (∀ (s : State) (pin levels : Nat),
    s.pwr.resetLow = false →
    (s.samplePins levels).pinReady pin s.now = true →
    ∃ t : State, exec (.wakePinQualify pin levels) s = .next t ∧
      (∀ n, n < 4 → t.bitF F.PWR_WAKESTAT_PIN_LVL n = (bitAt levels n != s.bitR R.PWR_WAKECFG (8 * n + 1))) ∧
      (s.bitR R.PWR_WAKECFG (8 * pin) = true → t.bitF F.PWR_WAKESTAT_PIN pin = true ∧
        (s.mode = Mode.dormant → s.pwr.enHold = none → s.pwr.offAt = none → t.mode = Mode.prepare ∧
          t.rd F.PWR_MODE_CAUSE = 0x02)) ∧
      (s.bitR R.PWR_WAKECFG (8 * pin) = false → OnlyRegs [R.PWR_WAKESTAT] s t) ∧ OnlyBlocks (0 :: 4 :: faultBlocks) s t) ∧
  (∀ (s : State) (pin levels : Nat),
    (s.samplePins levels).pinReady pin s.now = false →
    ∃ t : State, exec (.wakePinQualify pin levels) s = .next t ∧
      (∀ n, n < 4 → t.bitF F.PWR_WAKESTAT_PIN_LVL n = (bitAt levels n != s.bitR R.PWR_WAKECFG (8 * n + 1))) ∧
        OnlyRegs [R.PWR_WAKESTAT] s t) ∧
  (∀ (s : State),
    s.mode = Mode.dormant →
    s.pwr.resetLow = false →
    s.pwr.enHold = none →
    s.pwr.offAt = none →
    s.rd F.PWR_WAKETIMER_SECONDS ≠ 0 →
    s.pwr.dormantSince + 600000000 * s.rd F.PWR_WAKETIMER_SECONDS ≤ s.now →
    ∃ t : State, exec (.wakeTimerExpire) s = .next t ∧
      t.flag F.PWR_WAKESTAT_TIMER = true ∧ t.mode = Mode.prepare ∧ t.rd F.PWR_MODE_CAUSE = 0x05 ∧ t.pwr.pwrEn = true ∧
      OnlyBlocks (0 :: 4 :: faultBlocks) s t) ∧
  (∀ (s : State),
    s.firmwareUp = true →
    s.mode = Mode.standby →
    s.demand = false →
    ∃ t : State, exec (.sleepRequest) s = .next t ∧
      t.mode = Mode.standby ∧ t.regN R.PWR_DOMCTL = 0 ∧ (t.flash.jobs = [] → t.wakePending = false ∧
        t.pwr.sleep = SleepStep.ready) ∧
      (t.flash.jobs ≠ [] → t.reg R.PWR_WAKESTAT = s.reg R.PWR_WAKESTAT ∧ t.pwr.sleep = SleepStep.closing) ∧
      t.sent = Sent.answer 0x2001 2 codeOK :: s.sent ∧ OnlyBlocks [1, 20, 21] s t) ∧
  (∀ (s : State) (m : Master),
    s.Accepts m R.PWR_SLEEP 1#32 →
    s.pwr.sleep = SleepStep.ready →
    s.mode = Mode.standby →
    s.wakePending = false →
    s.demand = false →
    ∃ t : State, exec (.sleepGo m none) s = .next t ∧
      t.mode = Mode.dormant ∧ t.pwr.pwrEn = false ∧ t.rd F.PWR_SLEEP_RESULT = 1 ∧ t.rd F.PWR_PADHOLD_GROUP = 0x7FF ∧
      (∀ d ∈ Dom.gated, t.on d = false) ∧ t.pwr.offAt = some s.now ∧ t.reg R.PWR_WAKECFG = s.reg R.PWR_WAKECFG) ∧
  (∀ (s : State) (m : Master),
    s.Accepts m R.PWR_SLEEP 1#32 →
    s.pwr.sleep = SleepStep.ready →
    s.mode = Mode.standby →
    s.wakePending = true →
    s.demand = false →
    ∃ t : State, exec (.sleepGo m none) s = .next t ∧
      t.mode = Mode.standby ∧ t.rd F.PWR_SLEEP_RESULT = 2 ∧ OnlyRegs [R.PWR_SLEEP] s t) ∧
  (∀ (s : State) (u : Nat),
    s.pwr.enHold = some u →
    u ≤ s.now →
    s.demand = false →
    s.rd F.PWR_WAKESTAT_PIN = 0 →
    s.flag F.PWR_WAKESTAT_TIMER = false →
    ∃ t : State, exec (.pwrEnHoldExpire) s = .next t ∧
      t = { s with pwr := { s.pwr with enHold := none } }) ∧
  (∀ (s : State) (u : Nat),
    s.pwr.enHold = some u →
    u ≤ s.now →
    s.pwr.offAt = none →
    s.demand = true →
    s.mode = Mode.dormant →
    s.pwr.resetLow = false →
    ∃ t : State, exec (.pwrEnHoldExpire) s = .next t ∧
      t.mode = Mode.prepare ∧ t.pwr.pwrEn = true ∧ t.pwr.enHold = none ∧ OnlyBlocks (0 :: 4 :: faultBlocks) s t)

/-- AON power-on reset, RESET_N and its release (R52, R68, R79). Where these rules leave a point open the clauses hold for the
  model as notes/assumptions/3.md, notes/assumptions/5.md state it. -/
def Obligations.ResetsReachDormant : Prop :=
  (∀ (s : State) (mv : Nat),
    ∃ t : State, exec (.aonPowerOnReset mv) s = .next t ∧
      t.mode = Mode.dormant ∧ t.pwr.pwrEn = false ∧ (∀ a, t.reg a = resetWord a) ∧ t.pwr.strap = (strapCode mv).getD 0 ∧
      (∀ a, 0x60000000 ≤ a → a < 0x64000000 → t.byte a = s.byte a) ∧ t.pending = s.pending) ∧
  (∀ (s : State) (ns : Nat),
    ns < 1000 →
    ∃ t : State, exec (.resetPin ns) s = .next t ∧
      t = s) ∧
  (∀ (s : State) (ns : Nat),
    10000 ≤ ns →
    ∃ t : State, exec (.resetPin ns) s = .next t ∧
      t.mode = Mode.dormant ∧ t.rd F.PWR_MODE_CAUSE = 0x12 ∧ t.flag F.PWR_RSTCAUSE_PIN = true ∧ t.pwr.strap = s.pwr.strap ∧
        t.pwr.resetLow = true ∧
      (∀ a, a ≠ R.PWR_MODE → a ≠ R.PWR_RSTCAUSE → t.reg a = resetWord a) ∧
      (∀ a, 0x60000000 ≤ a → a < 0x64000000 → t.byte a = s.byte a)) ∧
  (∀ (s : State) (ns : Nat),
    1000 ≤ ns →
    ns < 10000 →
    ∃ t : State, exec (.resetPin ns) s = .next t ∧
      t.free = s.free + 1 ∧ (t.regs = s.regs ∧ t.mem = s.mem ∨ t.mode = Mode.dormant ∧ t.pwr.resetLow = true)) ∧
  (∀ (s : State),
    s.pwr.resetLow = true →
    s.demand = false →
    s.rd F.PWR_WAKESTAT_PIN = 0 →
    ∃ t : State, exec (.resetPinRelease) s = .next t ∧
      t = { s with pwr := { s.pwr with resetLow := false } }) ∧
  (∀ (s : State),
    s.pwr.resetLow = true →
    s.mode = Mode.dormant →
    s.pwr.enHold = none →
    s.pwr.offAt = none →
    s.demand = true →
    ∃ t : State, exec (.resetPinRelease) s = .next t ∧
      t.mode = Mode.prepare ∧ t.rd F.PWR_MODE_CAUSE = 0x03 ∧ t.pwr.resetLow = false ∧ OnlyBlocks (0 :: 4 :: faultBlocks) s t)

/-- Domains come up, fail and power down; the clock monitor (R81, R82, R85, R95, R36). Where these rules leave a point open the
  clauses hold for the model as notes/assumptions/2.md, notes/assumptions/46.md, notes/assumptions/54.md state it. -/
def Obligations.DomainsPowerUpAndDown : Prop :=
  (∀ (s : State) (d : Dom),
    s.comesUp d = true →
    s.dict.loaded = false →
    ∃ t : State, exec (.domainPowerUp d) s = .next t ∧
      t.on d = true ∧ (d ≠ Dom.net → d ≠ Dom.safe → d ≠ Dom.gme → OnlyRegs [R.PWR_DOMSTAT] s t) ∧
        OnlyBlocks (9 :: faultBlocks) s t) ∧
  (∀ (s : State) (d : Dom), s.comesUp d = true → s.dict.loaded = true → (s.powerOn d).firmwareUp = true → d ≠ .gme → d ≠ .scn →
    d ≠ .net → d ≠ .safe → d ≠ .mem →
    exec (.domainPowerUp d) s = .next (((s.powerOn d).replay d).goOn)) ∧
  (∀ (s : State) (d : Dom),
    s.comesUp d = true →
    s.on .safe = true →
    ∃ t : State, exec (.domainPowerFail d) s = .next t ∧
      t.bitF F.PWR_DOMSTAT_FAILED d.num = true ∧ t.on d = false ∧ s.Took t Src.PWR_DOMAIN ∧ OnlyBlocks faultBlocks s t) ∧
  (∀ (s : State) (d : Dom),
    s.on d = true →
    s.wanted d = false →
    ∃ t : State, exec (.domainPowerDown d) s = .next t ∧
      t.on d = false ∧ (∀ g ∈ d.padGroups, t.bitF F.PWR_PADHOLD_GROUP g = true) ∧ (∀ e ∈ Dom.gated, e ≠ d → t.on e = s.on e)) ∧
  (∀ (s : State) (counts : List ClockCount) (c : ClockName) (n : Nat),
    s.on .mgmt = true →
    s.on .safe = true →
    c ∈ s.clocks →
    counts.find? (fun x => x.clock == c) = some ⟨c, n⟩ →
    50 * (max n c.nominal - min n c.nominal) > c.nominal →
    ∃ t : State, exec (.clockMonWindow counts) s = .next t ∧
      s.Took t Src.CLOCK_MON ∧ OnlyBlocks faultBlocks s t) ∧
  (∀ (s : State) (counts : List ClockCount),
    (∀ x ∈ counts, 50 * (max x.counted x.clock.nominal - min x.counted x.clock.nominal) ≤ x.clock.nominal) →
    ∃ t : State, exec (.clockMonWindow counts) s = .next t ∧
      t = s)

/-- The hardware Husk path of a channel (R96, R97, R98, R323). Where these rules leave a point open the clauses hold for the
  model as notes/assumptions/11.md states it. -/
def Obligations.HardwareHuskPath : Prop :=
  (∀ (s : State) (ch : Nat),
    ch < 4 →
    s.hwMayRun = true →
    s.hwN ch = .idle →
    s.boot.hw.length = 4 →
    s.sw.lo.length = 4 →
    s.pwr.strap < 8 →
    ∃ t : State, exec (.hwhuskStart ch) s = .next t ∧
      t.hwN ch = HwStep.lowside s.now ∧ t.sw.lo.getD ch false = true ∧ t.rd F.BIST_HUSKPATH_STRAP = s.pwr.strap ∧
        OnlyRegs [R.BIST_HUSKPATH] s t) ∧
  (∀ (s : State) (ch mv u : Nat),
    ch < 4 →
    s.hwN ch = .lowside u →
    s.now ≤ u + 60000 →
    s.boot.hw.length = 4 →
    s.sw.hi.length = 4 →
    mv ≤ 200 →
    s.rd (F.BUCK_MEAS0_VOUT ch) < 1000 →
    ∃ t : State, exec (.hwhuskLowsideCheck ch mv) s = .next t ∧
      t.hwN ch = HwStep.highside s.now ∧ (s.held 9 = true → t.sw.hi.getD ch false = true) ∧ OnlyRegs [R.BIST_HUSKPATH] s t) ∧
  (∀ (s : State) (ch mv u : Nat),
    ch < 4 →
    s.hwN ch = .lowside u →
    s.now ≤ u + 60000 →
    s.boot.hw.length = 4 →
    mv ≤ 200 →
    1000 ≤ s.rd (F.BUCK_MEAS0_VOUT ch) →
    ∃ t : State, exec (.hwhuskLowsideCheck ch mv) s = .next t ∧
      t.hwN ch = HwStep.lowGood ∧ t.sw = s.sw ∧ OnlyRegs [R.BIST_HUSKPATH] s t) ∧
  (∀ (s : State) (ch mv u : Nat),
    ch < 4 →
    s.hwN ch = .lowside u →
    s.boot.hw.length = 4 →
    200 < mv →
    u + 60000 ≤ s.now →
    s.on .safe = true →
    ∃ t : State, exec (.hwhuskLowsideCheck ch mv) s = .next t ∧
      s.Took t (Src.HWHUSK_FAIL ch) ∧ t.sw.hi.getD ch false = false ∧ t.sw.lo.getD ch false = false ∧
        OnlyBlocks faultBlocks s t) ∧
  (∀ (s : State) (ch u : Nat) (pump : Bool),
    ch < 4 →
    s.hwN ch = .highside u →
    s.boot.hw.length = 4 →
    pump = true ∨ u + 240000 ≤ s.now →
    ∃ t : State, exec (.hwhuskHighsideOn ch pump) s = .next t ∧
      t.hwN ch = HwStep.ramping s.now ∧ (s.held 5 = true → t.rd (F.BUCK_STAT_STATE ch) = 1) ∧ (s.held 5 = false →
        OnlyBlocks [3] s t) ∧
      OnlyBlocks [3, 13] s t) ∧
  (∀ (s : State) (ch hr fb u : Nat),
    ch < 4 →
    s.hwN ch = .ramping u →
    s.boot.hw.length = 4 →
    u + rampTime (strapRef s.pwr.strap) ≤ s.now →
    max hr fb - min hr fb ≤ 200 →
    ∃ t : State, exec (.hwhuskRampEnd ch hr fb) s = .next t ∧
      t.hwN ch = HwStep.running ∧ (s.held 5 = true → t.rd (F.BUCK_MEAS1_REFAPP ch) = strapRef s.pwr.strap) ∧ (s.held 5 = false →
        OnlyBlocks [3] s t) ∧
      OnlyBlocks [3, 13] s t) ∧
  (∀ (s : State) (ch u v : Nat),
    ch < 4 →
    s.hwN ch = .rampdown u v →
    s.boot.hw.length = 4 →
    v * 600 ≤ (s.now - u) * 2000 →
    ∃ t : State, exec (.hwhuskRampdownEnd ch) s = .next t ∧
      t.hwN ch = HwStep.idle ∧ t.sw.hi.getD ch false = false ∧ t.sw.lo.getD ch false = false ∧ t.rd (F.BUCK_STAT_STATE ch) = 0 ∧
      OnlyBlocks [3, 13, 14, 15] s t)

/-- Secure boot, the island image and recovery (R104, R105, R106, R107). Where these rules leave a point open the clauses hold
  for the model as notes/assumptions/10.md, notes/assumptions/50.md state it. -/
def Obligations.SecureBootAndRecovery : Prop :=
  (∀ (s : State) (ea eb : Bool),
    s.mayBoot = true →
    s.slotHead .a ea ≠ 0 →
    s.slotHead .b eb ≠ 0 →
    ∃ t : State, exec (.secureBoot ea eb) s = .next t ∧
      t.rd F.BIST_BOOT_FAIL_A = s.slotHead .a ea ∧ t.rd F.BIST_BOOT_FAIL_B = s.slotHead .b eb ∧
        t.flag F.BIST_BOOT_DONE = false ∧
      t.bitF F.PWR_PADHOLD_GROUP 8 = false ∧ t.boot.recovery = true ∧
        OnlyRegs (R.SAF_OUTRB :: R.BIST_BOOT :: R.PWR_PADHOLD :: (List.range 4).map R.LNK_HUSK) s t) ∧
  (∀ (s : State) (ea eb : Bool),
    s.mayBoot = true →
    s.slotHead .a ea = 0 →
    s.slotHead .b eb ≠ 0 →
    s.imageCheck (slotBase .a) ≠ 1 →
    ∃ t : State, exec (.secureBoot ea eb) s = .next t ∧
      t.rd F.BIST_BOOT_FAIL_A = s.imageCheck (slotBase .a) ∧ t.rd F.BIST_BOOT_FAIL_B = s.slotHead .b eb ∧
      t.flag F.BIST_BOOT_DONE = false ∧ t.boot.recovery = true ∧
        OnlyRegs (R.SAF_OUTRB :: R.BIST_BOOT :: R.PWR_PADHOLD :: (List.range 4).map R.LNK_HUSK) s t) ∧
  (∀ (s : State) (ea eb : Bool), s.mayBoot = true → s.slotHead .a ea = 0 → s.slotHead .b eb ≠ 0 →
    exec (.secureBoot ea eb) s = .next (State.goOn (if s.imageCheck (slotBase .a) = 1 then
      ((((((s.wr F.BIST_BOOT_ROLLBACK s.boot.rollback).slotResult .a 0).slotResult .b (s.slotHead .b eb)).slotResult .a 1).wr
        F.BIST_BOOT_SLOT 0).wrB F.BIST_BOOT_FALLBACK true).startImage (slotBase .a) .a
    else ((((s.wr F.BIST_BOOT_ROLLBACK s.boot.rollback).slotResult .a 0).slotResult .b (s.slotHead .b eb)).slotResult .a
      (s.imageCheck (slotBase .a))).enterRecovery))) ∧
  (∀ (s : State) (ea eb : Bool), s.mayBoot = true → s.slotHead .a ea ≠ 0 → s.slotHead .b eb = 0 →
    exec (.secureBoot ea eb) s = .next (State.goOn (if s.imageCheck (slotBase .b) = 1 then
      ((((((s.wr F.BIST_BOOT_ROLLBACK s.boot.rollback).slotResult .a (s.slotHead .a ea)).slotResult .b 0).slotResult .b 1).wr
        F.BIST_BOOT_SLOT 1).wrB F.BIST_BOOT_FALLBACK true).startImage (slotBase .b) .b
    else (((((s.wr F.BIST_BOOT_ROLLBACK s.boot.rollback).slotResult .a (s.slotHead .a ea)).slotResult .b 0).slotResult .b
      (s.imageCheck (slotBase .b))).enterRecovery)))) ∧
  (∀ (s : State) (ea eb : Bool), s.mayBoot = true → s.slotHead .a ea = 0 → s.slotHead .b eb = 0 →
    (s.header (slotBase .b)).imageVer ≤ (s.header (slotBase .a)).imageVer →
    exec (.secureBoot ea eb) s = .next (State.goOn (if s.imageCheck (slotBase .a) = 1 then
      ((((((s.wr F.BIST_BOOT_ROLLBACK s.boot.rollback).slotResult .a 0).slotResult .b 0).slotResult .a 1).wr F.BIST_BOOT_SLOT
        0).wrB F.BIST_BOOT_FALLBACK false).startImage (slotBase .a) .a
    else if s.imageCheck (slotBase .b) = 1 then
      (((((((s.wr F.BIST_BOOT_ROLLBACK s.boot.rollback).slotResult .a 0).slotResult .b 0).slotResult .a (s.imageCheck (slotBase
        .a))).slotResult .b 1).wr F.BIST_BOOT_SLOT 1).wrB F.BIST_BOOT_FALLBACK true).startImage (slotBase .b) .b
    else (((((s.wr F.BIST_BOOT_ROLLBACK s.boot.rollback).slotResult .a 0).slotResult .b 0).slotResult .a (s.imageCheck (slotBase
      .a))).slotResult .b (s.imageCheck (slotBase .b))).enterRecovery))) ∧
  (∀ (s : State) (ea eb : Bool), s.mayBoot = true → s.slotHead .a ea = 0 → s.slotHead .b eb = 0 →
    (s.header (slotBase .a)).imageVer < (s.header (slotBase .b)).imageVer →
    exec (.secureBoot ea eb) s = .next (State.goOn (if s.imageCheck (slotBase .b) = 1 then
      ((((((s.wr F.BIST_BOOT_ROLLBACK s.boot.rollback).slotResult .a 0).slotResult .b 0).slotResult .b 1).wr F.BIST_BOOT_SLOT
        1).wrB F.BIST_BOOT_FALLBACK false).startImage (slotBase .b) .b
    else if s.imageCheck (slotBase .a) = 1 then
      (((((((s.wr F.BIST_BOOT_ROLLBACK s.boot.rollback).slotResult .a 0).slotResult .b 0).slotResult .b (s.imageCheck (slotBase
        .b))).slotResult .a 1).wr F.BIST_BOOT_SLOT 0).wrB F.BIST_BOOT_FALLBACK true).startImage (slotBase .a) .a
    else (((((s.wr F.BIST_BOOT_ROLLBACK s.boot.rollback).slotResult .a 0).slotResult .b 0).slotResult .b (s.imageCheck (slotBase
      .b))).slotResult .a (s.imageCheck (slotBase .a))).enterRecovery))) ∧
  (∀ (s : State),
    s.mode ≠ Mode.prepare ∨ s.testedAll [0, 1] = true →
    s.on .safe = true →
    s.on .mem = true →
    s.boot.staged.isNone = false →
    s.flag F.SAF_STATE_READY = false →
    s.bistFailed 0 = false →
    s.bistFailed 1 = false →
    ∃ t : State, exec (.safeImageVerify) s = .next t ∧
      (s.stagedOk = false → t.boot.safeImage = some false ∧ t.flag F.PWR_RUNGATE_PERMIT = false ∧
        t = ({ s with boot := { s.boot with safeImage := some false } } : State).closeGate.goOn) ∧
      (s.stagedOk = true → t = ({ s.setBytes 0x20A80000 (s.bytes (stagingBase + 0x100) (s.header stagingBase).safeLen) with
        boot := { s.boot with safeImage := some true } } : State).startIsland.goOn)) ∧
  (∀ (s : State) (base : Nat),
    s.boot.recovery = true →
    s.on .mgmt = true →
    s.flag F.BIST_BOOT_DONE = false →
    s.on .mem = true →
    (s.header base).magic = 0x32534C50 →
    (s.header base).hdrVer = 1 →
    ∃ t : State, exec (.recoveryImageLoad base) s = .next t ∧
      (s.imageCheck base ≠ 1 → t = s.goOn) ∧ (s.imageCheck base = 1 →
        t = ((s.wr F.BIST_BOOT_RECOVERY 1).startImage base .a).goOn))

/-- Built-in self-test and the test port (R109, R110, R113, R114). Where these rules leave a point open the clauses hold for the
  model as notes/assumptions/5.md, notes/assumptions/6.md, notes/assumptions/49.md, notes/assumptions/54.md state it. -/
def Obligations.SelfTestAndTestPort : Prop :=
  (∀ (s : State) (m : Master) (data : Word),
    s.Accepts m R.BIST_CTRL data →
    bitAt data.toNat 8 = true →
    bitAt data.toNat 9 = false →
    s.mayTest (bitsOf data.toNat 3 0) = true →
    ∃ t : State, exec (.bistStart m data) s = .next t ∧
      t.boot.bist = [({ target := bitsOf data.toNat 3 0, standby := true, endAt := some s.now } : BistRun)] ∧
        t.flag F.BIST_STATUS_RUNNING = true ∧ t.rd F.BIST_STATUS_SLICE = 0 ∧
      t.regN (R.BIST_REC_OUT (bitsOf data.toNat 3 0)) = 0 ∧ OnlyBlocks [3] s t) ∧
  (∀ (s : State) (m : Master) (data : Word),
    s.Accepts m R.BIST_CTRL data →
    bitAt data.toNat 8 = true →
    bitAt data.toNat 9 = false →
    s.mayTest (bitsOf data.toNat 3 0) = false →
    ∃ t : State, exec (.bistStart m data) s = .next t ∧
      t.boot.bist = s.boot.bist ∧ t.flag F.BIST_CTRL_REFUSED = true ∧ OnlyRegs [R.BIST_CTRL] s t) ∧
  (∀ (s : State) (m : Master) (data : Word),
    s.Accepts m R.BIST_CTRL data →
    bitAt data.toNat 8 = false →
    bitAt data.toNat 9 = true →
    ∃ t : State, exec (.bistAbort m data) s = .next t ∧
      t.boot.bist = s.boot.bist.map (fun (x : BistRun) => { x with abort := x.abort || x.standby }) ∧
        OnlyRegs [R.BIST_CTRL] s t) ∧
  (∀ (s u : State) (target : Nat) (r : SliceResult) (b : BistRun),
    target < 11 →
    s.bistNow target = some (b, u) →
    s.sliceFits b r.duration = true →
    b.abort = false →
    b.repaired = false →
    r.finding = .pass →
    targetSlices target + b.extra ≤ b.slice + 1 →
    ∃ t : State, exec (.bistSliceEnd target r) s = .next t ∧
      t.boot.bist = u.boot.bist.filter (fun (x : BistRun) => x.target ≠ target) ∧
        t.flag F.BIST_STATUS_RUNNING = !t.boot.bist.isEmpty ∧ t.flag F.BIST_STATUS_DONE = true ∧
        t.rd F.BIST_STATUS_TARGET = target ∧
      t.rd (F.BIST_REC_OUT_OUTCOME target) = max 1 (u.rd (F.BIST_REC_OUT_OUTCOME target)) ∧
      t.rd (F.BIST_REC_OUT_SLICES target) = (u.rd (F.BIST_REC_OUT_SLICES target) + 1) % 16 ∧ (∀ a, blockOf a ≠ 3 →
        t.reg a = s.reg a)) ∧
  (∀ (s u : State) (target : Nat) (r : SliceResult) (b : BistRun),
    target < 11 →
    target ≠ 7 →
    s.bistNow target = some (b, u) →
    s.sliceFits b r.duration = true →
    b.abort = true →
    r.finding = .pass →
    ∃ t : State, exec (.bistSliceEnd target r) s = .next t ∧
      t.boot.bist = u.boot.bist.filter (fun (x : BistRun) => x.target ≠ target) ∧
        t.flag F.BIST_STATUS_RUNNING = !t.boot.bist.isEmpty ∧ t.rd (F.BIST_REC_OUT_OUTCOME target) = 6) ∧
  (∀ (s : State),
    s.on .mgmt = true →
    s.mode = Mode.standby →
    s.demand = false →
    ∃ t : State, exec (.testUnlock) s = .next t ∧
      t.flag F.BIST_TESTSTAT_TESTONLY = true ∧ t.flag F.BIST_TESTSTAT_ZEROIZED = true ∧ t.mode = Mode.dark ∧ t.on .mem = false ∧
        t.boot.keyCleared = true ∧
      (∀ a, 0x20980000 ≤ a → a < 0x20B00000 → t.byte a = memDefault a)) ∧
  (∀ (s : State),
    s.on .mgmt = true →
    s.mode ≠ Mode.standby ∨ s.demand = true →
    ∃ t : State, exec (.testUnlock) s = .next t ∧
      t.rd F.BIST_TESTSTAT_REFUSED = min (s.rd F.BIST_TESTSTAT_REFUSED + 1) 255 ∧ t.mode = s.mode ∧
        OnlyRegs [R.BIST_TESTSTAT] s t) ∧
  (∀ (s : State),
    s.on .mgmt = true →
    s.held 10 = false →
    ∃ t : State, exec (.idcode) s = .next t ∧
      t.boot.tap = TapInstr.idcode ∧ t.sent = Sent.tdo .idcode Config.idcode :: s.sent ∧ OnlyRegs [] s t) ∧
  (∀ (s : State),
    s.on .mgmt = true →
    ∃ t : State, exec (.bypass) s = .next t ∧
      t.boot.tap = TapInstr.bypass ∧ OnlyRegs [] s t) ∧
  (∀ (s : State),
    s.on .mgmt = true →
    ∃ t : State, exec (.extest) s = .next t ∧
      t.boot.tap = (if s.flag F.BIST_TESTSTAT_TESTONLY then TapInstr.extest else s.boot.tap) ∧ OnlyRegs [] s t) ∧
  (∀ (s : State),
    s.on .mgmt = true →
    ∃ t : State, exec (.samplePreload) s = .next t ∧
      t.boot.tap = (if s.flag F.BIST_TESTSTAT_TESTONLY then TapInstr.samplePreload else s.boot.tap) ∧ OnlyRegs [] s t) ∧
  (∀ (s : State) (op : Nat),
    s.on .mgmt = true →
    ∃ t : State, exec (.caifelScanInstruction op) s = .next t ∧
      t.boot.tap = (if s.flag F.BIST_TESTSTAT_TESTONLY then TapInstr.scan op else s.boot.tap) ∧ OnlyRegs [] s t)

/-- A source is raised, its grace ends, and the management watchdog reports (R386, R387, R388, R390, R391, R395). Where these
  rules leave a point open the clauses hold for the model as notes/assumptions/1.md states it. -/
def Obligations.FaultsAreTakenUp : Prop :=
  (∀ (s : State) (src addr : Nat),
    s.on .safe = true →
    s.on (srcDom src addr) = true →
    (srcRow src).isSome = true →
    ∃ t : State, exec (.sourceRaise src addr) s = .next t ∧
      s.Took t src ∧ OnlyBlocks faultBlocks s t) ∧
  (∀ (s : State) (src : Nat) (u : GraceTimer),
    src < 256 →
    s.brm.timers.find? (fun x => x.src = src) = some u →
    u.due ≤ s.now →
    ∃ t : State, exec (.graceExpiry src) s = .next t ∧
      t.escalated src = true ∧ (t.brm.timers.all fun x => x.src != src) = true ∧ (src, u.cls) ∈ t.brm.pend ∧
      (u.cls = 2 → s.mode = Mode.run → s.pwr.beamEnding = false → t.mode = Mode.husk ∧ t.rd F.PWR_MODE_CAUSE = 0x08) ∧
        OnlyBlocks faultBlocks s t) ∧
  (∀ (s : State) (src : Nat) (u : GraceTimer),
    s.brm.timers.find? (fun x => x.src = src) = some u →
    s.now < u.due →
    ∃ t : State, exec (.graceExpiry src) s = .next t ∧
      t = s) ∧
  (∀ (s : State),
    s.on .safe = true →
    s.flag F.SAF_STATE_READY = true →
    s.mode = Mode.prepare ∨ s.mode = Mode.run ∨ s.mode = Mode.husk →
    s.dueSince (s.ran.lookup Timer.selfTest) (sec 1) = true →
    ∃ t : State, exec (.brmSelfTest) s = .next t ∧
      s.Took t Src.BRM_TEST ∧
        t.brm.test = some ({ count := s.srcCount Src.BRM_TEST, seq := s.rd F.BRM_LOGSTAT_SEQ, at_ := s.now } : BrmTest) ∧
        OnlyBlocks faultBlocks s t) ∧
  (∀ (s : State) (u : BrmTest),
    s.brm.test = some u →
    ∃ t : State, exec (.brmTestCheck) s = .next t ∧
      t.brm.test = none ∧ t.latched Src.BRM_TEST = false ∧
      (s.latched Src.BRM_TEST = false → t.selfActed = true ∧ t.flag F.BRM_SELFSTAT_TEST = true) ∧ OnlyBlocks faultBlocks s t) ∧
  (∀ (s : State),
    s.on .mgmt = true →
    s.on .safe = true →
    ∃ t : State, exec (.mgmtWatchdog) s = .next t ∧
      s.Took t Src.MGMT_WDOG ∧ OnlyBlocks faultBlocks s t)

/-- Handling, clearing, counts, classes, graces and the message port (R389, R392, R393, R397, R401). Where these rules leave a
  point open the clauses hold for the model as notes/assumptions/1.md states it. -/
def Obligations.FaultsAreHandledAndCleared : Prop :=
  (∀ (s : State) (m : Master) (w : Nat) (data : Word),
    w < 8 →
    s.Accepts m (R.BRM_HANDLED w) data →
    (∀ x ∈ s.brm.timers, s.now < x.due) →
    ∃ t : State, exec (.sourceHandle m w data) s = .next t ∧
      (∀ k ∈ namedSources w data, s.latched k = true → s.escalated k = false → s.forceClass k ≤ 1 → t.handled k = true) ∧
      (∀ k, k < 256 → (2 ≤ s.forceClass k ∨ k ∉ namedSources w data) → t.handled k = s.handled k) ∧ OnlyBlocks [16] s t) ∧
  (∀ (s : State) (m : Master) (w : Nat) (data : Word),
    w < 8 →
    s.Accepts m (R.BRM_SHANDLED w) data →
    (∀ x ∈ s.brm.timers, s.now < x.due) →
    ∃ t : State, exec (.sourceShandle m w data) s = .next t ∧
      (∀ k ∈ namedSources w data, s.latched k = true → s.escalated k = false → t.handled k = true) ∧
      (∀ k, k < 256 → k ∉ namedSources w data → t.handled k = s.handled k) ∧ OnlyBlocks [16] s t) ∧
  (∀ (s : State) (m : Master) (k : Nat) (u : GraceTimer),
    k < 32 →
    s.Accepts m (R.BRM_SHANDLED 0) (BitVec.ofNat 32 (2 ^ k)) →
    s.latched k = true →
    s.escalated k = false →
    s.handled k = false →
    s.brm.timers.find? (fun x => x.src == k && decide (x.due ≤ s.now)) = some u →
    ∃ t : State, exec (.sourceShandle m 0 (BitVec.ofNat 32 (2 ^ k))) s = .next t ∧
      t.escalated k = true ∧ t.handled k = false ∧ (k, u.cls) ∈ t.brm.pend ∧ OnlyBlocks faultBlocks s t) ∧
  (∀ (s : State) (m : Master) (w : Nat) (data : Word),
    w < 8 →
    s.Accepts m (R.BRM_STAT w) data →
    ∃ t : State, exec (.sourceClear m w data) s = .next t ∧
      (∀ k ∈ namedSources w data, k ≠ Src.BRM_SELF → t.latched k = false ∧ (s.latched k = true → t.handled k = false ∧
        t.escalated k = false)) ∧
      (∀ k, k < 256 → (k = Src.BRM_SELF ∨ k ∉ namedSources w data) → t.latched k = s.latched k) ∧ OnlyBlocks [16] s t) ∧
  (∀ (s : State) (m : Master) (data : Word),
    s.Accepts m R.BRM_CTRL data →
    bitAt data.toNat 0 = true →
    ∃ t : State, exec (.countClear m data) s = .next t ∧
      (∀ k, k < 256 → t.srcCount k = 0) ∧ OnlyBlocks [16] s t) ∧
  (∀ (s : State) (m : Master) (r : Nat) (data : Word),
    r < 16 →
    s.Accepts m (R.BRM_CLASS r) data →
    s.flag F.PWR_MODE_COMM = true →
    classFits r data = true →
    ∃ t : State, exec (.classWrite m r data) s = .next t ∧
      t.reg (R.BRM_CLASS r) = data ∧ (data ≠ s.reg (R.BRM_CLASS r) → s.gaveGrace t = true → t.rd F.SAF_STATE_CONF = 0 ∧
        t.flag F.PWR_RUNGATE_PERMIT = false) ∧ OnlyBlocks faultBlocks s t) ∧
  (∀ (s : State) (m : Master) (r : Nat) (data : Word),
    r < 16 →
    s.Accepts m (R.BRM_CLASS r) data →
    s.flag F.PWR_MODE_COMM = false →
    ∃ t : State, exec (.classWrite m r data) s = .next t ∧
      t = s) ∧
  (∀ (s : State) (m : Master) (r : Nat) (data : Word),
    r < 64 →
    s.Accepts m (R.BRM_GRACE r) data →
    s.flag F.PWR_MODE_COMM = true →
    graceFits r data = true →
    ∃ t : State, exec (.graceWrite m r data) s = .next t ∧
      t.reg (R.BRM_GRACE r) = data ∧ (data ≠ s.reg (R.BRM_GRACE r) → s.gaveGrace t = true → t.rd F.SAF_STATE_CONF = 0 ∧
        t.flag F.PWR_RUNGATE_PERMIT = false) ∧ OnlyBlocks faultBlocks s t) ∧
  (∀ (s : State) (m : Master) (data : Word),
    s.Accepts m R.BRM_MSGCTRL data →
    bitAt data.toNat 6 = true →
    s.flag F.BRM_MSGCTRL_EMPTY = false →
    ∃ t : State, exec (.msgNext m data) s = .next t ∧
      t.rd F.BRM_MSGCTRL_RD = (s.rd F.BRM_MSGCTRL_RD + 1) % 64 ∧
      t.flag F.BRM_MSGCTRL_EMPTY = decide ((s.rd F.BRM_MSGCTRL_RD + 1) % 64 = s.rd F.BRM_LOGSTAT_NEXT) ∧
        OnlyRegs [R.BRM_MSGCTRL] s t)

/-- A fault of Bramble itself acts by hardwire (R394). Where these rules leave a point open the clauses hold for the model as
  notes/assumptions/1.md states it. -/
def Obligations.BrambleActsOnItsOwnFaults : Prop :=
  (∀ (s : State),
    ∃ t : State, exec (.parityScan none) s = .next t ∧
      t.brm = s.brm ∧ t.saf = s.saf ∧ t.pwr = s.pwr ∧ OnlyRegs [] s t) ∧
  (∀ (s : State) (word : Nat) (config : Bool),
    s.on .safe = true →
    s.dueSince (s.ran.lookup Timer.parity) (msec 1) = true →
    ∃ t : State, exec (.parityScan (some (word, config))) s = .next t ∧
      t.flag (if config then F.BRM_SELFSTAT_PAR_CFG else F.BRM_SELFSTAT_PAR_STATE) = true ∧ t.selfActed = true ∧
        t.saf.forcedLow = true ∧ t.latched 0 = true ∧
      (s.mode = Mode.run → (∀ x ∈ s.brm.timers, srcDefaultClass x.src ≤ 2) → s.pwr.beamEnding = false → t.mode = Mode.husk ∧
        t.rd F.PWR_MODE_CAUSE = 0x08) ∧ OnlyBlocks faultBlocks s t) ∧
  (∀ (s : State),
    s.on .safe = true →
    ∃ t : State, exec (.brambleCompareMismatch) s = .next t ∧
      t.flag F.BRM_SELFSTAT_COMPARE = true ∧ t.selfActed = true ∧ t.saf.forcedLow = true ∧ t.latched 0 = true ∧
      (s.mode = Mode.run → (∀ x ∈ s.brm.timers, srcDefaultClass x.src ≤ 2) → s.pwr.beamEnding = false → t.mode = Mode.husk ∧
        t.rd F.PWR_MODE_CAUSE = 0x08) ∧ OnlyBlocks faultBlocks s t)

/-- PID loops: samples, output phases and group membership (R294, R295, R297, R299, R302). Where these rules leave a point open
  the clauses hold for the model as notes/assumptions/1.md states it. -/
def Obligations.ControlLoopsSampleAndWrite : Prop :=
  (∀ (s : State) (n : Nat) (y : Int),
    s.on .drv = true →
    n < 16 →
    s.pid.loops.length = 16 →
    s.flag (F.PID_L_CTRL_EN n) = true →
    s.pidDue n = true →
    (s.applyGroup (.pid n)).pidSource n = some y →
    ∃ t : State, exec (.pidSample (2 ^ n)) s = .next t ∧
      (t.loop n).u = ((s.applyGroup (.pid n)).loopLaw n y).1.u ∧ (t.loop n).d = ((s.applyGroup (.pid n)).loopLaw n y).1.d ∧
      t.flag (F.PID_L_STAT_RUNNING n) = true ∧ t.flag (F.PID_L_STAT_SRCBAD n) = false ∧
      t.rd (F.PID_L_STAT_SAMPLES n) = (s.rd (F.PID_L_STAT_SAMPLES n) + 1) % 65536 ∧ OnlyBlocks [13] s t) ∧
  (∀ (s : State) (n : Nat),
    s.on .drv = true →
    n < 16 →
    s.pid.loops.length = 16 →
    s.flag (F.PID_L_CTRL_EN n) = true →
    s.pidDue n = true →
    (s.applyGroup (.pid n)).pidSource n = none →
    ∃ t : State, exec (.pidSample (2 ^ n)) s = .next t ∧
      (t.loop n).u = (s.applyGroup (.pid n)).outLimit n (s.rdS (F.PID_L_OFAIL_OFAIL n)) ∧
        t.flag (F.PID_L_STAT_SRCBAD n) = true ∧
      t.rd (F.PID_L_STAT_SAMPLES n) = (s.rd (F.PID_L_STAT_SAMPLES n) + 1) % 65536 ∧ OnlyBlocks [13] s t) ∧
  (∀ (s : State) (g : Nat) (d : Due),
    s.on .drv = true →
    g < 4 →
    s.pid.outs.length = 4 →
    s.pid.outs.getD g none = some d →
    d.due ≤ s.now →
    ∃ t : State, exec (.pidOutputWrite) s = .next t ∧
      t.pid.outs.getD g none = none ∧ t.rdS (F.PID_GRP_OUT_OUT g) = satSigned 32 d.value ∧ OnlyBlocks [13] s t) ∧
  (∀ (s : State) (m : Master) (g : Nat) (data : Word),
    g < 4 →
    s.Accepts m (R.PID_GRP_CFG g) data →
    ∃ t : State, exec (.pidGroupCfgWrite m g data) s = .next t ∧
      (s.membersFit g (bitsOf data.toNat 15 0) = true → t.rd (F.PID_GRP_CFG_MEMBERS g) = bitsOf data.toNat 15 0) ∧
      (s.membersFit g (bitsOf data.toNat 15 0) = false → t.rd (F.PID_GRP_CFG_MEMBERS g) = s.rd (F.PID_GRP_CFG_MEMBERS g) ∧
        t.flag (F.PID_GRP_STAT_CFGREF g) = true) ∧ OnlyRegs [R.PID_GRP_CFG g, R.PID_GRP_STAT g] s t)

/-- Buck channels: a switching period, overvoltage, short circuit, EN (R305, R306, R307, R308, R309, R325). Where these rules
  leave a point open the clauses hold for the model as notes/assumptions/53.md states it. -/
def Obligations.BuckChannels : Prop :=
  (∀ (s : State) (ch : Nat) (x : BuckMeas),
    s.on .drv = true →
    ch < 4 →
    s.buck.length = 4 →
    s.held 5 = false ∨ (s.hwN ch).active = true →
    ∃ t : State, exec (.buckSwitchPeriod ch x) s = .next t ∧
      t.rd (F.BUCK_MEAS0_VOUT ch) = satNat 16 x.vout ∧
        t.rd (F.BUCK_MEAS1_IIN ch) = satNat 16 (divRoundNat (s.inputSense ch x.shunt) (s.rd (F.BUCK_SENSE_RIN_UOHM ch))) ∧
        (t.buckN ch).ended = s.periodEnd ch ((x.sense : Int) - s.senseOffset ch).toNat ∧
        (t.buckN ch).vin = s.inputVolts ch x.vmon0 x.vmon1 ∧
      (s.rd (F.BUCK_STAT_STATE ch) = 0 → (t.buckN ch).iApp = 0) ∧ OnlyBlocks [13] s t) ∧
  (∀ (s : State) (ch fb : Nat),
    ch < 4 →
    s.buck.length = 4 →
    1 ≤ s.rd (F.BUCK_STAT_STATE ch) →
    s.rd (F.BUCK_STAT_STATE ch) ≤ 3 →
    50 * s.rd (F.BUCK_CFG_OVTH ch) < fb →
    ((s.buckN ch).ovTimes.filter fun u => s.now < u + 600000).length < 7 →
    ∃ t : State, exec (.buckOvervoltage ch fb) s = .next t ∧
      t.rd (F.BUCK_STAT_STATE ch) = 4 ∧ t.rd (F.BUCK_STAT_OVCNT ch) = (s.rd (F.BUCK_STAT_OVCNT ch) + 1) % 65536 ∧
        OnlyBlocks [13, 14] s t) ∧
  (∀ (s : State) (ch fb : Nat),
    s.on .safe = true →
    ch < 4 →
    s.buck.length = 4 →
    1 ≤ s.rd (F.BUCK_STAT_STATE ch) →
    s.rd (F.BUCK_STAT_STATE ch) ≤ 3 →
    50 * s.rd (F.BUCK_CFG_OVTH ch) < fb →
    7 ≤ ((s.buckN ch).ovTimes.filter fun u => s.now < u + 600000).length →
    ∃ t : State, exec (.buckOvervoltage ch fb) s = .next t ∧
      t.flag (F.BUCK_STAT_OV ch) = true ∧ (t.buckN ch).ovTimes = [] ∧ s.Took t (Src.BUCK_OV ch) ∧ OnlyBlocks faultBlocks s t) ∧
  (∀ (s : State) (ch fb : Nat),
    ch < 4 →
    s.rd (F.BUCK_STAT_STATE ch) = 4 →
    fb + 200 < 50 * s.rd (F.BUCK_CFG_OVTH ch) →
    (s.buckN ch).disch = none →
    (s.buckN ch).stopped = false →
    ∃ t : State, exec (.buckOvRelease ch fb) s = .next t ∧
      t.rd (F.BUCK_STAT_STATE ch) = (s.buckN ch).ovFrom % 8 ∧ OnlyRegs [R.BUCK_STAT ch] s t) ∧
  (∀ (s : State) (ch u : Nat),
    s.on .safe = true →
    ch < 4 →
    s.buck.length = 4 →
    1 ≤ s.rd (F.BUCK_STAT_STATE ch) →
    s.rd (F.BUCK_STAT_STATE ch) ≤ 3 →
    (s.buckN ch).peakSince = some u →
    u + 600000 ≤ s.now →
    ∃ t : State, exec (.buckShortDetect ch) s = .next t ∧
      t.flag (F.BUCK_STAT_SHORT ch) = true ∧ (t.buckN ch).stopped = true ∧ (t.buckN ch).iApp = 0 ∧
        s.Took t (Src.BUCK_SHORT ch) ∧ OnlyBlocks faultBlocks s t) ∧
  (∀ (s : State) (m : Master) (ch : Nat) (data : Word),
    ch < 4 →
    s.buck.length = 4 →
    s.Accepts m (R.BUCK_CFG ch) data →
    s.flag (F.BUCK_CFG_EN ch) = false →
    s.rd (F.BUCK_STAT_STATE ch) = 0 →
    buckCfgFits data.toNat = true →
    bitAt data.toNat 0 = true →
    s.mode ≠ Mode.dark →
    s.held 5 = false →
    (s.buckN ch).stopped = false →
    ∃ t : State, exec (.buckEnable m ch data) s = .next t ∧
      t.flag (F.BUCK_CFG_EN ch) = true ∧ t.rd (F.BUCK_STAT_STATE ch) = 2 ∧
        t.rd (F.BUCK_CFG_FSW_KHZ ch) = bitsOf data.toNat 11 2 ∧ (t.buckN ch).iApp = 0 ∧ OnlyBlocks [13] s t) ∧
  (∀ (s : State) (m : Master) (ch : Nat) (data : Word),
    ch < 4 →
    s.buck.length = 4 →
    s.Accepts m (R.BUCK_CFG ch) data →
    s.flag (F.BUCK_CFG_EN ch) = true →
    bitAt data.toNat 0 = false →
    s.mode ≠ Mode.dark →
    s.held 5 = false →
    ∃ t : State, exec (.buckEnable m ch data) s = .next t ∧
      t.flag (F.BUCK_CFG_EN ch) = false ∧ t.rd (F.BUCK_STAT_STATE ch) = 0 ∧ (t.buckN ch).disch = some s.now ∧
        OnlyBlocks [13, 14] s t)

/-- Safe switches: a closed fault, and the tests of the switches (R310, R311, R312). Where these rules leave a point open the
  clauses hold for the model as notes/assumptions/1.md states it. -/
def Obligations.SafeSwitchTests : Prop :=
  (∀ (s : State) (path : Nat) (xs : List (Int × Int)),
    path < 4 →
    s.on .safe = true →
    s.pathClosed path = true →
    1 ≤ s.rd (F.BUCK_STAT_STATE path) →
    s.rd (F.BUCK_STAT_STATE path) ≤ 3 →
    s.pulsing path = false →
    8 ≤ xs.length →
    (∀ x ∈ xs, 200 < x.1 ∨ 200 < x.2) →
    ∃ t : State, exec (.swClosedFault ⟨path, xs⟩) s = .next t ∧
      t.bitF F.SAF_SWSTAT_PATHBAD path = true ∧ s.Took t (Src.SW_CLOSED path) ∧ OnlyBlocks faultBlocks s t) ∧
  (∀ (s : State) (path : Nat) (xs : List (Int × Int)),
    xs.length < 8 →
    ∃ t : State, exec (.swClosedFault ⟨path, xs⟩) s = .next t ∧
      t = s) ∧
  (∀ (s : State),
    s.on .safe = true →
    s.mode ≠ Mode.prepare →
    s.flag F.SAF_SWCTL_SEQ_EN = true →
    s.sw.test = none →
    s.sw.dueAt ≤ s.now →
    s.testBlocked (s.sw.next / 2) (s.port (s.sw.next / 2)).sampleAt = false →
    s.sw.hi.length = 4 →
    s.sw.lo.length = 4 →
    s.sw.next < 8 →
    ∃ t : State, exec (.swTestDue) s = .next t ∧
      t.sw.test = some ({ sw := s.sw.next, since := s.now } : SwTest) ∧
        (if s.sw.next % 2 = 0 then t.sw.hi else t.sw.lo).getD (s.sw.next / 2) true = false ∧ OnlyRegs [] s t) ∧
  (∀ (s : State),
    s.on .safe = true →
    s.mode ≠ Mode.prepare →
    s.flag F.SAF_SWCTL_SEQ_EN = true →
    s.sw.test = none →
    s.sw.dueAt ≤ s.now →
    s.testBlocked (s.sw.next / 2) (s.port (s.sw.next / 2)).sampleAt = true →
    s.sw.deferred = none →
    ∃ t : State, exec (.swTestDue) s = .next t ∧
      t.sw = { s.sw with deferred := some s.now } ∧ OnlyRegs [] s t) ∧
  (∀ (s : State) (mv : Nat) (u : SwTest),
    s.sw.test = some u →
    500 ≤ mv →
    u.sw < 8 →
    s.now ≤ u.since + 12000 →
    ∃ t : State, exec (.swTestEnd mv) s = .next t ∧
      t = (s.switchTestEnd mv).goOn ∧ (s.switchTestEnd mv).sw.test = none ∧ (s.switchTestEnd mv).rd F.SAF_SWSTAT_LASTSW = u.sw ∧
      (s.switchTestEnd mv).sw.next = (s.sw.next + 1) % 8 ∧ OnlyRegs [R.SAF_SWSTAT] s (s.switchTestEnd mv)) ∧
  (∀ (s : State) (mv : Nat) (u : SwTest),
    s.on .safe = true →
    s.sw.test = some u →
    u.cut = false →
    mv < 300 →
    u.sw < 8 →
    u.since + 12000 ≤ s.now →
    s.rd (F.BUCK_STAT_STATE (u.sw / 2)) = 3 →
    ∃ t : State, exec (.swTestEnd mv) s = .next t ∧
      t = (s.switchTestEnd mv).goOn ∧ (s.switchTestEnd mv).sw.test = none ∧
        (s.switchTestEnd mv).bitF F.SAF_SWSTAT_FAILED u.sw = true ∧
      s.Took (s.switchTestEnd mv) (Src.SW_TEST (u.sw / 2)) ∧ OnlyBlocks faultBlocks s (s.switchTestEnd mv)) ∧
  (∀ (s : State) (sw : Nat),
    s.on .safe = true →
    sw < 8 →
    s.flag F.SAF_SWCTL_SEQ_EN = true →
    s.sw.untested.getD sw 0 + 36000000000 ≤ s.now →
    ∃ t : State, exec (.swUntestedTimeout sw) s = .next t ∧
      s.Took t (Src.SW_TEST (sw / 2)) ∧ OnlyBlocks faultBlocks s t)

/-- The energy ledger, the allowed power, the drive cycle and the planner (R314, R315, R316, R317, R318, R320, R321). Where
  these rules leave a point open the clauses hold for the model as notes/assumptions/1.md, notes/assumptions/13.md,
  notes/assumptions/23.md state it. -/
def Obligations.EnergyLedgerAndBudgets : Prop :=
  (∀ (s : State) (x : LedgerMeas),
    s.on .drv = true →
    s.flag F.ENG_CTRL_EN = true →
    s.dueSince (s.ran.lookup Timer.ledger) (usec 100) = true →
    ∃ t : State, exec (.ledgerTick x) s = .next t ∧
      t.get64 R.ENG_EDEV_LO R.ENG_EDEV_HI = (s.get64 R.ENG_EDEV_LO R.ENG_EDEV_HI + (s.eng.remDev + railEnergy x) / 10000) % 2 ^
        64 ∧
      t.eng.remDev = (s.eng.remDev + railEnergy x) % 10000 ∧ t.eng.ticks.length = min (s.eng.ticks.length + 1) 10 ∧
        OnlyBlocks [14] s t) ∧
  (∀ (s : State) (x : LedgerMeas),
    s.dueSince (s.ran.lookup Timer.ledger) (usec 100) = false →
    ∃ t : State, exec (.ledgerTick x) s = .next t ∧
      t = s) ∧
  (∀ (s : State),
    s.on .drv = true →
    s.dueSince (s.ran.lookup Timer.allowed) (msec 1) = true →
    s.overBudget = false →
    ∃ t : State, exec (.allowedPowerCompute) s = .next t ∧
      t.rd F.ENG_PALLOW_P = satNat 20 s.pAllow ∧ t.flag F.ENG_STAT_LIMIT_WIN = (s.pWin == some s.pLim) ∧
        t.flag F.ENG_STAT_LIMIT_CYC = (s.pCyc == some s.pLim) ∧
      t.flag F.ENG_STAT_LIMIT_PMAX = (s.pLim == s.app F.ENG_PLIM_PMAX) ∧ OnlyBlocks [13, 14] s t) ∧
  (∀ (s : State),
    s.on .drv = true →
    s.on .safe = true →
    s.dueSince (s.ran.lookup Timer.allowed) (msec 1) = true →
    s.overBudget = true →
    ∃ t : State, exec (.allowedPowerCompute) s = .next t ∧
      t.rd F.ENG_PALLOW_P = satNat 20 s.pAllow ∧ t.flag F.ENG_STAT_OVERRUN = true ∧ s.Took t Src.ENG_OVERRUN ∧
        OnlyBlocks faultBlocks s t) ∧
  (∀ (s : State) (m : Master) (data : Word),
    s.Accepts m R.ENG_CYC data →
    bitAt data.toNat 0 = true →
    ∃ t : State, exec (.driveCycleRestart m data) s = .next t ∧
      t.get64 R.ENG_ECYC_LO R.ENG_ECYC_HI = 0 ∧ OnlyRegs [R.ENG_ECYC_LO, R.ENG_ECYC_HI] s t) ∧
  (∀ (s : State),
    s.on .mgmt = true →
    s.on .drv = true →
    s.flag F.ENG_CTRL_PLAN = true →
    s.bitR R.SYS_BLKOWN 10 = false →
    s.dueSince (s.ran.lookup Timer.planner) (msec 100) = true →
    ∃ t : State, exec (.plannerRun) s = .next t ∧
      (∀ c, c < 4 → t.rd (F.ENG_GRANT_P c) = (grants (s.rd F.ENG_PALLOW_P - s.rd F.ENG_PDEV_P) ((List.range 4).map fun k => s.rd
        (F.ENG_DEMAND_P k))).getD c 0) ∧
      t.rd (F.ENG_GRANT_P 0) = s.rd (F.ENG_DEMAND_P 0) ∧ OnlyBlocks [12, 13, 14] s t)

/-- The harness guard and the active discharge (R324, R325, R335). Where these rules leave a point open the clauses hold for the
  model as notes/assumptions/54.md states it. -/
def Obligations.HarnessGuardAndDischarge : Prop :=
  (∀ (s : State) (ch fb : Nat),
    ch < 4 →
    s.on .drv = true →
    s.on .safe = true →
    s.flag F.ENG_HARN_GUARD_EN = true →
    s.guardTrips ch fb = true →
    s.buck.length = 4 →
    ∃ t : State, exec (.harnessGuardTrip ⟨ch, fb⟩) s = .next t ∧
      t.bitF F.ENG_HARNSTAT_GUARDED ch = true ∧ (t.buckN ch).stopped = true ∧ (t.buckN ch).iApp = 0 ∧
        t.sw.hi.getD ch false = false ∧
      s.Took t (Src.HARNESS_GUARD ch) ∧ OnlyBlocks faultBlocks s t) ∧
  (∀ (s : State) (ch fb : Nat),
    ch < 4 →
    s.on .drv = true →
    s.flag F.ENG_HARN_GUARD_EN = true →
    s.guardTrips ch fb = false →
    s.mode ≠ Mode.dark →
    ∃ t : State, exec (.harnessGuardTrip ⟨ch, fb⟩) s = .next t ∧
      t = s) ∧
  (∀ (s : State) (ch fb : Nat),
    ch < 4 →
    s.on .drv = true →
    s.flag F.ENG_HARN_GUARD_EN = true →
    s.guardTrips ch fb = false →
    s.mode = Mode.dark →
    fb < 50 * s.rd F.ENG_HARN_GUARD_VTH →
    ∃ t : State, exec (.harnessGuardTrip ⟨ch, fb⟩) s = .next t ∧
      t.bitF F.ENG_HARNSTAT_GUARDED ch = true ∧ t.buck = s.buck ∧ OnlyRegs [R.ENG_HARNSTAT] s t) ∧
  (∀ (s : State) (ch fb u : Nat),
    ch < 4 →
    s.buck.length = 4 →
    (s.buckN ch).disch = some u →
    fb < 1000 →
    ∃ t : State, exec (.dischargeEnd ⟨ch, fb⟩) s = .next t ∧
      (t.buckN ch).disch = none ∧ (t.buckN ch).rev = 0 ∧
        t.rd F.ENG_HARNSTAT_LAST_US = satNat F.ENG_HARNSTAT_LAST_US.width (divRoundNat (s.now - u) 600) ∧
        t.bitF F.ENG_HARNSTAT_DISCH ch = false ∧ OnlyRegs [R.ENG_HARNSTAT] s t) ∧
  (∀ (s : State) (ch fb : Nat),
    1000 ≤ fb →
    ∃ t : State, exec (.dischargeEnd ⟨ch, fb⟩) s = .next t ∧
      t = s) ∧
  (∀ (s : State) (ch u : Nat),
    ch < 4 →
    s.on .safe = true →
    s.buck.length = 4 →
    (s.buckN ch).disch = some u →
    u + 120000 ≤ s.now →
    ∃ t : State, exec (.dischargeTimeout ch) s = .next t ∧
      (t.buckN ch).stopped = true ∧ t.bitF F.ENG_HARNSTAT_DISFAIL ch = true ∧ s.Took t (Src.DISCHARGE_FAIL ch) ∧
        OnlyBlocks faultBlocks s t)

/-- The thermal sample, the handoff of an orderly stop and the trip (R329, R331, R332). Where these rules leave a point open the
  clauses hold for the model as notes/assumptions/1.md, notes/assumptions/52.md, notes/assumptions/54.md state it. -/
def Obligations.ThermalProtection : Prop :=
  (∀ (s : State) (x : ThermMeas),
    s.dueSince (s.ran.lookup Timer.thermal) s.thermalPeriod = true →
    ∃ t : State, exec (.thermalSample x) s = .next t ∧
      (∀ k, k < 10 → t.rdS (F.THM_DIE_TEMP k) = satSigned (F.THM_DIE_TEMP k).width (x.die.getD k 0) ∧
        t.flag (F.THM_DIE_VALID k) = decide ((2 * x.die.getD k 0 - median2 x.die).natAbs ≤ 320)) ∧
          OnlyBlocks (4 :: faultBlocks) s t) ∧
  (∀ (s : State) (u : ThermStop),
    s.thm.stop = some u →
    s.mode = Mode.run →
    s.pwr.beamEnding = false →
    u.since + 30000000 ≤ s.now →
    ∃ t : State, exec (.orderlyStopHandoff) s = .next t ∧
      t.mode = Mode.husk ∧ t.rd F.PWR_MODE_CAUSE = 0x0B ∧ t.rd F.THM_STAT_STATE = 4 ∧ t.thm.stop = none ∧
        OnlyBlocks (4 :: faultBlocks) s t) ∧
  (∀ (s : State) (u : ThermStop) (n : Nat),
    s.thm.stop = some u →
    s.mode = Mode.run →
    s.pwr.beamEnding = false →
    s.now < u.since + 30000000 →
    n < 4 →
    s.rd (F.BUCK_STAT_STATE n) = 3 →
    11 * strapRef s.pwr.strap < 10 * s.rd (F.BUCK_MEAS0_IAVG n) →
    ∃ t : State, exec (.orderlyStopHandoff) s = .next t ∧
      t = s) ∧
  (∀ (s : State) (u : ThermStop),
    s.thm.stop = some u →
    s.mode = Mode.run →
    s.pwr.beamEnding = true →
    ∃ t : State, exec (.orderlyStopHandoff) s = .next t ∧
      t.mode = Mode.run ∧ t.thm.stop = none ∧ t.pwr = s.pwr ∧ OnlyBlocks [4, 14] s t) ∧
  (∀ (s : State) (sensor : Nat),
    sensor < 10 →
    s.on .safe = true →
    s.mode ≠ Mode.dormant →
    s.mode ≠ Mode.dark →
    ∃ t : State, exec (.thermalTrip sensor) s = .next t ∧
      t.mode = Mode.dark ∧ t.rd F.PWR_MODE_CAUSE = 0x0C ∧ t.rd F.THM_STAT_HOT = sensor ∧ t.bitF F.THM_EVENTS_EV 3 = true ∧
        s.Took t Src.THERM_TRIP ∧ OnlyBlocks (4 :: faultBlocks) s t)

/-- Flash programs: the hold-up check, pages, sectors, a supply loss, the fault log (R92, R327, R328, R342, R399). Where these
  rules leave a point open the clauses hold for the model as notes/assumptions/11.md, notes/assumptions/15.md state it. -/
def Obligations.FlashProgramsAndSupplyLoss : Prop :=
  (∀ (s : State) (v : Nat) (j : FlashJob) (rest : List FlashJob),
    s.on .mgmt = true →
    s.on .drv = true →
    s.flash.prog = none →
    s.flash.deferred = none →
    s.dict.storeDue = false →
    s.dict.deferring = false →
    s.flash.jobs = j :: rest →
    s.known .drv F.ENG_HOLD_C_UF ≠ 0 →
    s.known .drv F.ENG_HOLDMIN_MIN_UJ ≤ s.holdupEnergy v →
    s.pwr.supplyLost = false →
    s.flash.held = false →
    ∃ t : State, exec (.flashSectorProgram v) s = .next t ∧
      (∃ p, t.flash.prog = some p ∧ p.at_ = j.base + 4096 * j.index ∧ p.page = 0 ∧
        p.data = sectorBytes j.payload j.mapId j.seq j.index) ∧
      t.rd F.ENG_HOLDSTAT_RESULT = 1 ∧ (∀ i, i < 4096 → t.byte (flashBase + (j.base + 4096 * j.index) + i) = 0xFF#8) ∧
      (∀ a, a < flashBase + (j.base + 4096 * j.index) ∨ flashBase + (j.base + 4096 * j.index) + 4096 ≤ a →
        t.byte a = s.byte a) ∧
      ∀ a, a ≠ R.ENG_HOLDSTAT → a ≠ R.ODX_STORE → t.reg a = s.reg a) ∧
  (∀ (s : State) (v : Nat) (j : FlashJob) (rest : List FlashJob),
    s.on .mgmt = true →
    s.on .drv = true →
    s.flash.prog = none →
    s.flash.deferred = none →
    s.dict.storeDue = false →
    s.dict.deferring = false →
    s.flash.jobs = j :: rest →
    s.holdupEnergy v < s.known .drv F.ENG_HOLDMIN_MIN_UJ →
    s.pwr.sleep ≠ SleepStep.closing →
    ∃ t : State, exec (.flashSectorProgram v) s = .next t ∧
      t.flash.deferred = some s.now ∧ t.flash.prog = none ∧ t.rd F.ENG_HOLDSTAT_RESULT = 2 ∧ OnlyRegs [R.ENG_HOLDSTAT] s t) ∧
  (∀ (s : State) (v : Nat) (j : FlashJob) (rest : List FlashJob) (u : Nat),
    s.on .mgmt = true →
    s.on .drv = true →
    s.flash.prog = none →
    s.flash.deferred = some u →
    s.flash.checkedAt + 6000000 ≤ s.now →
    s.flash.jobs = j :: rest →
    s.known .drv F.ENG_HOLD_C_UF ≠ 0 →
    s.known .drv F.ENG_HOLDMIN_MIN_UJ ≤ s.holdupEnergy v →
    s.pwr.supplyLost = false →
    s.flash.held = false →
    s.dict.deferring = false →
    ∃ t : State, exec (.holdupRetry v) s = .next t ∧
      (∃ p, t.flash.prog = some p ∧ p.at_ = j.base + 4096 * j.index) ∧ t.flash.deferred = none ∧
        t.rd F.ENG_HOLDSTAT_RESULT = 1) ∧
  (∀ (s : State) (v : Nat) (j : FlashJob) (rest : List FlashJob),
    s.on .mgmt = true →
    s.on .drv = true →
    s.flash.prog = none →
    s.flash.deferred = none →
    s.dict.storeDue = false →
    s.dict.deferring = false →
    s.flash.jobs = j :: rest →
    s.holdupEnergy v < s.known .drv F.ENG_HOLDMIN_MIN_UJ →
    s.pwr.sleep = SleepStep.closing →
    ∃ t : State, exec (.flashSectorProgram v) s = .next t ∧
      t.flash.jobs = [] ∧ t.flash.deferred = none ∧ t.flash.prog = none ∧ t.pwr.sleep = SleepStep.ready ∧
      (((j :: rest).any fun (x : FlashJob) => x.mapId == 0x70) = true → t.rd F.ODX_STORE_STATE = 3) ∧ SameMem s t) ∧
  (∀ (s : State) (p : SectorProg),
    s.flash.prog = some p →
    p.page < 16 →
    s.flash.cut = false →
    p.data.length = 4096 →
    ∃ t : State, exec (.pageProgramComplete) s = .next t ∧
      t.flash.prog = some { p with page := p.page + 1 } ∧
      (∀ i, i < 256 → t.byte (flashBase + p.at_ + 256 * p.page + i) = p.data.getD (256 * p.page + i) 0) ∧
      (∀ a, a < flashBase + p.at_ + 256 * p.page ∨ flashBase + p.at_ + 256 * p.page + 256 ≤ a → t.byte a = s.byte a) ∧
        ∀ a, t.reg a = s.reg a) ∧
  (∀ (s : State) (p : SectorProg) (j : FlashJob) (rest : List FlashJob),
    s.flash.prog = some p →
    s.flash.jobs = j :: rest →
    s.flash.cut = false →
    j.index + 1 < sectorsFor j.payload.length →
    ∃ t : State, exec (.sectorProgramComplete) s = .next t ∧
      t.flash.prog = none ∧ t.flash.jobs = { j with index := j.index + 1 } :: rest ∧ (∀ i, i < p.data.length →
        t.byte (flashBase + p.at_ + i) = p.data.getD i 0) ∧
      (∀ a, a < flashBase + p.at_ ∨ flashBase + p.at_ + p.data.length ≤ a → t.byte a = s.byte a) ∧ ∀ a, t.reg a = s.reg a) ∧
  (∀ (s : State) (p : SectorProg) (j : FlashJob) (rest : List FlashJob) (mv : Nat),
    s.flash.prog = some p →
    s.flash.jobs = j :: rest →
    s.flash.cut = false →
    sectorsFor j.payload.length ≤ j.index + 1 →
    j.kind = .plan mv →
    s.pwr.sleep ≠ SleepStep.closing →
    ∃ t : State, exec (.sectorProgramComplete) s = .next t ∧
      t.flash.prog = none ∧ t.flash.jobs = rest ∧ t.cal.stored = mv ∧ ∀ a, t.reg a = s.reg a) ∧
  (∀ (s : State) (v0 v1 : Nat) (p : SectorProg),
    s.flash.prog = some p →
    s.supplyLow v0 v1 = true →
    ∃ t : State, exec (.supplyLoss ⟨v0, v1⟩) s = .next t ∧
      t.flash.cut = true ∧ t.pwr.supplyLost = true ∧ t.on .cmp = false ∧ t.on .gme = false ∧ t.on .scn = false ∧
        t.on .vin = false) ∧
  (∀ (s : State),
    s.on .mgmt = true →
    s.brm.flashWait ≠ [] →
    (s.flash.jobs.any fun j => j.mapId == faultLogId) = false →
    ∃ t : State, exec (.faultLogFlush) s = .next t ∧
      t.flash.jobs.length = s.flash.jobs.length + 1 ∧ (t.flash.jobs.any fun j => j.mapId == faultLogId) = true ∧ t.brm = s.brm ∧
        OnlyRegs [] s t)

/-- Mailbox channels: DOOR, SEEN, ACK, configuration, endpoint resets; locks released and forced (R453, R455, R457, R458, R459,
  R461, R467). Where these rules leave a point open the clauses hold for the model as notes/assumptions/36.md states it. -/
def Obligations.MailboxChannels : Prop :=
  (∀ (s : State) (m : Master) (n : Nat) (data : Word),
    n < 16 →
    s.Accepts m (R.MBX_CH_CFG n + 0x04) data →
    s.mbxError m n 0x04 = none →
    1 ≤ bitsOf data.toNat 6 0 →
    bitsOf data.toNat 6 0 ≤ 64 →
    s.flag (F.MBX_CH_CFG_EN n) = true →
    ∃ t : State, exec (.mbxDoor m n data) s = .next t ∧
      (∀ k, k < 16 → t.reg (R.MBX_CH_RX n k) = s.reg (R.MBX_CH_TX n k)) ∧ t.flag (F.MBX_CH_STAT_FULL n) = true ∧
      t.rd (F.MBX_CH_STAT_LEN n) = bitsOf data.toNat 6 0 ∧ t.rd (F.MBX_CH_STAT_SEQ n) = s.rd (F.MBX_CH_STAT_SEQ n) % 65535 + 1 ∧
      t.rd (F.MBX_CH_CNT_POSTS n) = (s.rd (F.MBX_CH_CNT_POSTS n) + 1) % 2 ^ (F.MBX_CH_CNT_POSTS n).width ∧
      (s.flag (F.MBX_CH_STAT_FULL n) = true → t.flag (F.MBX_CH_STAT_COLLIDE n) = true) ∧ OnlyBlocks (18 :: faultBlocks) s t) ∧
  (∀ (s : State) (m : Master) (n : Nat) (data : Word),
    n < 16 →
    s.Accepts m (R.MBX_CH_CFG n + 0x04) data →
    s.mbxError m n 0x04 = none →
    s.flag (F.MBX_CH_CFG_EN n) = false ∨ bitsOf data.toNat 6 0 = 0 ∨ 64 < bitsOf data.toNat 6 0 →
    ∃ t : State, exec (.mbxDoor m n data) s = .next t ∧
      t.flag (F.MBX_CH_STAT_DOORERR n) = true ∧ t.flag (F.MBX_CH_STAT_FULL n) = s.flag (F.MBX_CH_STAT_FULL n) ∧
        t.rd (F.MBX_CH_STAT_SEQ n) = s.rd (F.MBX_CH_STAT_SEQ n) ∧
      OnlyRegs [R.MBX_CH_STAT n] s t) ∧
  (∀ (s : State) (m : Master) (n : Nat) (data : Word),
    n < 16 →
    s.mbx.rdseq.length = 16 →
    s.Accepts m (R.MBX_CH_CFG n + 0x10) data →
    s.mbxError m n 0x10 = none →
    bitAt data.toNat 0 = true →
    s.flag (F.MBX_CH_STAT_FULL n) = true →
    ∃ t : State, exec (.mbxSeen m n data) s = .next t ∧
      t.flag (F.MBX_CH_STAT_NEW n) = false ∧ t.mbx.rdseq.getD n 0 = s.rd (F.MBX_CH_STAT_SEQ n) ∧
        OnlyRegs [R.MBX_CH_STAT n] s t) ∧
  (∀ (s : State) (m : Master) (n : Nat) (data : Word),
    n < 16 →
    s.Accepts m (R.MBX_CH_CFG n + 0x0C) data →
    s.mbxError m n 0x0C = none →
    s.flag (F.MBX_CH_STAT_FULL n) = true →
    bitsOf data.toNat 31 16 = s.rd (F.MBX_CH_STAT_SEQ n) →
    ∃ t : State, exec (.mbxAck m n data) s = .next t ∧
      t.flag (F.MBX_CH_STAT_FULL n) = false ∧ t.flag (F.MBX_CH_STAT_ACKED n) = true ∧ t.flag (F.MBX_CH_STAT_NEW n) = false ∧
      t.rd (F.MBX_CH_ACK_CODE n) = bitsOf data.toNat 7 0 ∧ t.rd (F.MBX_CH_ACK_SEQ n) = bitsOf data.toNat 31 16 ∧
        OnlyRegs [R.MBX_CH_STAT n, R.MBX_CH_ACK n] s t) ∧
  (∀ (s : State) (m : Master) (n : Nat) (data : Word),
    n < 16 →
    s.Accepts m (R.MBX_CH_CFG n + 0x0C) data →
    s.mbxError m n 0x0C = none →
    s.flag (F.MBX_CH_STAT_FULL n) = false ∨ bitsOf data.toNat 31 16 ≠ s.rd (F.MBX_CH_STAT_SEQ n) →
    ∃ t : State, exec (.mbxAck m n data) s = .next t ∧
      t.flag (F.MBX_CH_STAT_STALE n) = true ∧ t.flag (F.MBX_CH_STAT_FULL n) = s.flag (F.MBX_CH_STAT_FULL n) ∧
        OnlyRegs [R.MBX_CH_STAT n, R.MBX_CH_CNT n] s t) ∧
  (∀ (s : State) (m : Master) (n : Nat) (data : Word),
    n < 16 →
    s.Accepts m (R.MBX_CH_CFG n) data →
    s.mbxError m n 0 = none →
    ∃ t : State, exec (.mbxCfgWrite m n data) s = .next t ∧
      (s.flag (F.MBX_CH_CFG_EN n) = false → bitsOf data.toNat 2 0 ≤ 2 → bitsOf data.toNat 6 4 ≤ 2 →
        bitsOf data.toNat 2 0 ≠ bitsOf data.toNat 6 4 →
        t.sender n = bitsOf data.toNat 2 0 ∧ t.receiver n = bitsOf data.toNat 6 4) ∧
      (s.flag (F.MBX_CH_CFG_EN n) = true ∨ bitsOf data.toNat 2 0 = bitsOf data.toNat 6 4 →
        t.flag (F.MBX_CH_STAT_CFGREF n) = true ∧ t.reg (R.MBX_CH_CFG n) = s.reg (R.MBX_CH_CFG n)) ∧
      OnlyRegs [R.MBX_CH_CFG n, R.MBX_CH_STAT n] s t) ∧
  (∀ (s : State) (data : Word),
    s.Accepts .hspi R.MBX_EPRST data →
    bitAt data.toNat 2 = true →
    ∃ t : State, exec (.mbxEprst .hspi data) s = .next t ∧
      t.rd F.MBX_EPCNT_M2 = (s.rd F.MBX_EPCNT_M2 + 1) % 2 ^ F.MBX_EPCNT_M2.width ∧ (∀ n, n < 16 → s.sender n = 2 →
        t.flag (F.MBX_CH_STAT_FULL n) = false) ∧
      (∀ k, k < 32 → s.lockOwner k = 3 → t.lockOwner k = 0) ∧ OnlyBlocks [18, 19] s t) ∧
  (∀ (s : State),
    s.on .mgmt = true →
    ∃ t : State, exec (.mgmtCoreReset) s = .next t ∧
      t.rd F.MBX_EPCNT_M1 = (s.rd F.MBX_EPCNT_M1 + 1) % 2 ^ F.MBX_EPCNT_M1.width ∧ (∀ n, n < 16 → s.sender n = 1 →
        t.flag (F.MBX_CH_STAT_FULL n) = false) ∧
      (∀ k, k < 32 → s.lockOwner k = 2 → t.lockOwner k = 0) ∧ OnlyBlocks [18, 19] s t) ∧
  (∀ (s : State) (m : Master) (k : Nat),
    k < 32 →
    s.Accepts m (R.SEM_LOCK k) 1#32 →
    ∃ t : State, exec (.lockRelease m k 1#32) s = .next t ∧
      (s.lockOwner k = m.num + 1 → t.lockOwner k = 0 ∧ OnlyRegs [R.SEM_LOCK k] s t) ∧
      (s.lockOwner k ≠ m.num + 1 → t.lockOwner k = s.lockOwner k ∧
        t.rd F.SEM_STAT_BADREL = (s.rd F.SEM_STAT_BADREL + 1) % 2 ^ F.SEM_STAT_BADREL.width ∧ OnlyRegs [R.SEM_STAT] s t)) ∧
  (∀ (s : State) (k : Nat),
    k < 32 →
    s.Accepts .island (R.SEM_LOCK k) 2#32 →
    ∃ t : State, exec (.lockForce .island k 2#32) s = .next t ∧
      t.lockOwner k = 0 ∧ t.rd F.SEM_STAT_FORCED = (s.rd F.SEM_STAT_FORCED + 1) % 2 ^ F.SEM_STAT_FORCED.width ∧
        OnlyRegs [R.SEM_LOCK k, R.SEM_STAT] s t)

/-- Reading SEM_LOCKk acquires a free lock; SEM_OWNERSj shows the owners (R465). -/
def Obligations.HardwareLocks : Prop :=
  (∀ (s : State) (m : Master) (k : Nat),
    k < 32 →
    s.regError m 4 false (R.SEM_LOCK k) = none →
    s.lockOwner k = 0 →
    ∃ t : State, exec (.lockAcquire m k) s = .next t ∧
      t.lockOwner k = m.num + 1 ∧ t.sent = Sent.lockRead m k (m.num + 1) true :: s.sent ∧ OnlyRegs [R.SEM_LOCK k] s t) ∧
  (∀ (s : State) (m : Master) (k : Nat),
    k < 32 →
    s.regError m 4 false (R.SEM_LOCK k) = none →
    s.lockOwner k ≠ 0 →
    ∃ t : State, exec (.lockAcquire m k) s = .next t ∧
      t.lockOwner k = s.lockOwner k ∧ t.sent = Sent.lockRead m k (s.lockOwner k) false :: s.sent ∧ OnlyRegs [] s t) ∧
  (∀ (s : State) (j i : Nat), j < 4 → i < 8 → bitsOf (s.readReg (R.SEM_OWNERS j)) (4 * i + 2) (4 * i) = s.lockOwner (8 * j + i))

/-- Check-value units: START, feeds, RAW, alive values (R469, R470, R471, R472, R473, R476). Where these rules leave a point
  open the clauses hold for the model as notes/assumptions/3.md states it. -/
def Obligations.CheckValueUnits : Prop :=
  (∀ (s : State) (m : Master) (n : Nat) (data : Word),
    n < 4 →
    s.cvu.length = 4 →
    s.flag (F.CVU_CFG_LOCKED n) = false ∨ s.lockOwner (28 + n) = m.num + 1 →
    s.Accepts m (R.CVU_CTRL n) data →
    bitAt data.toNat 0 = true →
    (s.cvuN n).feeding = [] →
    ∃ t : State, exec (.cvuStart m n data) s = .next t ∧
      let w := if s.rd (F.CVU_CFG_WIDTH n) = 0 then 32 else s.rd (F.CVU_CFG_WIDTH n);
      (2 ^ w ≤ s.regN (R.CVU_POLY n) → t.flag (F.CVU_STAT_CFGERR n) = true ∧ t.cvu = s.cvu ∧ OnlyRegs [R.CVU_STAT n] s t) ∧
      (s.regN (R.CVU_POLY n) < 2 ^ w → t.regN (R.CVU_RAW n) = s.regN (R.CVU_INIT n) % 2 ^ w ∧ t.rd (F.CVU_STAT_COUNT n) = 0 ∧
        (t.cvuN n).width = w ∧ (t.cvuN n).poly = s.regN (R.CVU_POLY n) ∧
          t.regN (R.CVU_RESULT n) = (t.cvuN n).spec.result (t.regN (R.CVU_RAW n)) % 2 ^ 32 ∧
        OnlyRegs [R.CVU_STAT n, R.CVU_RAW n, R.CVU_RESULT n] s t)) ∧
  (∀ (s : State) (m : Master) (n : Nat) (data : Word),
    n < 4 →
    s.cvu.length = 4 →
    s.flag (F.CVU_CFG_LOCKED n) = false ∨ s.lockOwner (28 + n) = m.num + 1 →
    s.Accepts m (R.CVU_DIN8 n) data →
    (s.cvuN n).feeding = [] →
    ∃ t : State, exec (.cvuDin8 m n data) s = .next t ∧
      (t.cvuN n).feeding = leBytes 1 data.toNat ∧ t.flag (F.CVU_STAT_BUSY n) = true ∧ OnlyRegs [R.CVU_STAT n] s t) ∧
  (∀ (s : State) (m : Master) (n : Nat) (data : Word),
    n < 4 →
    s.cvu.length = 4 →
    s.flag (F.CVU_CFG_LOCKED n) = false ∨ s.lockOwner (28 + n) = m.num + 1 →
    s.Accepts m (R.CVU_DIN16 n) data →
    (s.cvuN n).feeding = [] →
    ∃ t : State, exec (.cvuDin16 m n data) s = .next t ∧
      (t.cvuN n).feeding = leBytes 2 data.toNat ∧ t.flag (F.CVU_STAT_BUSY n) = true ∧ OnlyRegs [R.CVU_STAT n] s t) ∧
  (∀ (s : State) (m : Master) (n : Nat) (data : Word),
    n < 4 →
    s.cvu.length = 4 →
    s.flag (F.CVU_CFG_LOCKED n) = false ∨ s.lockOwner (28 + n) = m.num + 1 →
    s.Accepts m (R.CVU_DIN32 n) data →
    (s.cvuN n).feeding = [] →
    ∃ t : State, exec (.cvuDin32 m n data) s = .next t ∧
      (t.cvuN n).feeding = leBytes 4 data.toNat ∧ t.flag (F.CVU_STAT_BUSY n) = true ∧ OnlyRegs [R.CVU_STAT n] s t) ∧
  (∀ (s : State) (n : Nat),
    s.on .mgmt = true →
    n < 4 →
    s.cvu.length = 4 →
    (s.cvuN n).feeding ≠ [] →
    (s.cvuN n).held = [] →
    ∃ t : State, exec (.cvuFeedComplete n) s = .next t ∧
      t.regN (R.CVU_RAW n) = (s.cvuN n).feeding.foldl (fun (r : Nat) (b : Byte) => (s.cvuN n).spec.byte r b.toNat) (s.regN
        (R.CVU_RAW n)) % 2 ^ 32 ∧ (t.cvuN n).feeding = [] ∧
      t.rd (F.CVU_STAT_COUNT n) = satNat 24 (s.rd (F.CVU_STAT_COUNT n) + (s.cvuN n).feeding.length) ∧
        t.flag (F.CVU_STAT_BUSY n) = false ∧
      OnlyRegs [R.CVU_STAT n, R.CVU_RAW n, R.CVU_RESULT n] s t) ∧
  (∀ (s : State) (m : Master) (n : Nat) (data : Word),
    n < 4 →
    s.cvu.length = 4 →
    s.flag (F.CVU_CFG_LOCKED n) = false ∨ s.lockOwner (28 + n) = m.num + 1 →
    s.Accepts m (R.CVU_RAW n) data →
    (s.cvuN n).feeding = [] →
    ∃ t : State, exec (.cvuRawWrite m n data) s = .next t ∧
      t.regN (R.CVU_RAW n) = data.toNat % 2 ^ (s.cvuN n).width % 2 ^ 32 ∧ OnlyRegs [R.CVU_RAW n, R.CVU_RESULT n] s t) ∧
  (∀ (s : State) (m : Master) (n : Nat) (data : Word),
    n < 4 →
    s.cvu.length = 4 →
    s.flag (F.CVU_CFG_LOCKED n) = false ∨ s.lockOwner (28 + n) = m.num + 1 →
    s.Accepts m (R.CVU_ALIVE n) data →
    bitAt data.toNat 8 = true →
    ∃ t : State, exec (.cvuAliveInc m n data) s = .next t ∧
      t.rd (F.CVU_ALIVE_VALUE n) = (s.rd (F.CVU_ALIVE_VALUE n) + 1) % 2 ^ s.rd (F.CVU_ACFG_AWIDTH n) % 256 ∧
        OnlyRegs [R.CVU_ALIVE n] s t) ∧
  (∀ (s : State) (m : Master) (n : Nat) (data : Word),
    n < 4 →
    s.cvu.length = 4 →
    s.flag (F.CVU_CFG_LOCKED n) = false ∨ s.lockOwner (28 + n) = m.num + 1 →
    s.Accepts m (R.CVU_ACHK n) data →
    (s.cvuN n).first = false →
    ∃ t : State, exec (.cvuAchkWrite m n data) s = .next t ∧
      t.rd (F.CVU_ACHK_LAST n) = bitsOf data.toNat 7 0 ∧ t.flag (F.CVU_ACHK_VALID n) = true ∧
      t.rd (F.CVU_ACHK_DELTA n) = (bitsOf data.toNat 7 0 + 256 - s.rd (F.CVU_ACHK_LAST n)) % 2 ^ s.rd (F.CVU_ACFG_AWIDTH n) %
        256 ∧ OnlyRegs [R.CVU_ACHK n] s t) ∧
  (∀ (s : State) (m : Master) (n : Nat) (data : Word),
    n < 4 →
    s.cvu.length = 4 →
    s.flag (F.CVU_CFG_LOCKED n) = false ∨ s.lockOwner (28 + n) = m.num + 1 →
    s.Accepts m (R.CVU_ACFG n) data →
    ∃ t : State, exec (.cvuAcfgWrite m n data) s = .next t ∧
      (1 ≤ bitsOf data.toNat 3 0 → bitsOf data.toNat 3 0 ≤ 8 → t.rd (F.CVU_ACFG_AWIDTH n) = bitsOf data.toNat 3 0) ∧
      (bitsOf data.toNat 3 0 = 0 ∨ 8 < bitsOf data.toNat 3 0 → t.flag (F.CVU_STAT_CFGERR n) = true ∧
        t.reg (R.CVU_ACFG n) = s.reg (R.CVU_ACFG n)) ∧
      OnlyRegs [R.CVU_ACFG n, R.CVU_STAT n] s t) ∧
  (∀ (s : State) (m : Master) (n : Nat) (data : Word),
    n < 4 →
    s.Accepts m (R.CVU_DIN32 n) data →
    s.flag (F.CVU_CFG_LOCKED n) = true →
    s.lockOwner (28 + n) ≠ m.num + 1 →
    ∃ t : State, exec (.cvuDin32 m n data) s = .next t ∧
      t.flag (F.CVU_STAT_DENIED n) = true ∧ t.cvu = s.cvu ∧ OnlyRegs [R.CVU_STAT n] s t)

/-- A received Ethernet frame is filtered, stamped and classified (R116, R117, R118, R35). Where these rules leave a point open
  the clauses hold for the model as notes/assumptions/38.md states it. -/
def Obligations.FramesArriveAndAreRouted : Prop :=
  (∀ (s : State) (f : EthFrame),
    s.macOn f.mac = false ∨ f.sound = false ∨ s.addrAccepts f = false →
    ∃ t : State, exec (.ethFrameReceive f) s = .next t ∧
      t = s) ∧
  (∀ (s : State) (f : EthFrame),
    s.macOn f.mac = true →
    f.sound = true →
    s.addrAccepts f = true →
    f.queueFull = true →
    ∃ t : State, exec (.ethFrameReceive f) s = .next t ∧
      t.rd (if f.mac = 0 then F.VIN_DROP_ERX0 else F.VIN_DROP_ERX1) = (s.rd (if f.mac = 0 then F.VIN_DROP_ERX0 else
        F.VIN_DROP_ERX1) + 1) % 256 ∧ t.sent = s.sent ∧ OnlyRegs [R.VIN_DROP] s t) ∧
  (∀ (s : State) (f : EthFrame),
    s.macOn f.mac = true →
    f.sound = true →
    s.addrAccepts f = true →
    f.queueFull = false →
    s.classify f ≠ .dropped →
    ∃ t : State, exec (.ethFrameReceive f) s = .next t ∧
      t.sent = Sent.received f.mac (s.classify f) s.localTime :: s.sent ∧ OnlyRegs [R.VIN_DROP] s t)

/-- Raw video packets, complete frames and timeouts (R119, R120, R121, R122, R124). Where these rules leave a point open the
  clauses hold for the model as notes/assumptions/38.md, notes/assumptions/49.md state it. -/
def Obligations.VideoStreamsFillBuffers : Prop :=
  (∀ (s : State) (p : RvfPacket),
    s.on .vin = true →
    s.rvfAccepts p = true →
    p.mac < 2 →
    s.bitR R.VIN_CTRL p.mac = true →
    s.streamOf p.streamId = none →
    ∃ t : State, exec (.rvfPacket p) s = .next t ∧
      t.rd F.VIN_DROP_UNKNOWN = (s.rd F.VIN_DROP_UNKNOWN + 1) % 256 ∧ OnlyRegs [R.VIN_DROP] s t) ∧
  (∀ (s : State) (p : RvfPacket) (n : Nat),
    s.on .vin = true →
    s.rvfAccepts p = true →
    p.mac < 2 →
    s.bitR R.VIN_CTRL p.mac = true →
    s.streamOf p.streamId = some n →
    s.appliesNow (.stream n) = false →
    s.rvfFits n p = false →
    ∃ t : State, exec (.rvfPacket p) s = .next t ∧
      t.rd (F.VIN_STR_CNT1_MALFORMED n) = (s.rd (F.VIN_STR_CNT1_MALFORMED n) + 1) % 256 ∧ OnlyRegs [R.VIN_STR_CNT1 n] s t) ∧
  (∀ (s : State) (p : RvfPacket) (n k : Nat),
    s.on .vin = true →
    s.rvfAccepts p = true →
    p.mac < 2 →
    s.bitR R.VIN_CTRL p.mac = true →
    s.streamOf p.streamId = some n →
    s.vin.streams.length = 8 →
    s.rvfFits n p = true →
    (s.stream n).fill = none →
    s.rvfLate n p = false →
    s.appliesNow (.stream n) = false →
    s.freeBuf n = some k →
    p.endOfFrame = false →
    s.strLine n ≤ 64 * s.app (F.VIN_STR_CFG_PITCH n) →
    ∃ t : State, exec (.rvfPacket p) s = .next t ∧
      t.bufState n k = 1 ∧ (t.stream n).fill.map (fun (f : FillFrame) => (f.ptime, f.buf)) = some (p.ptime, some k) ∧
      (∀ l, l < p.payload.length / s.strLine n → ∀ j, j < s.strLine n →
        t.byte (s.lineAddr n k (p.firstLine + l) + j) = p.payload.getD (s.strLine n * l + j) 0) ∧
      (∀ a, a < s.lineAddr n k p.firstLine ∨ s.lineAddr n k (p.firstLine + p.payload.length / s.strLine n) ≤ a →
        t.byte a = s.byte a) ∧
      ∀ a, a ∉ [R.VIN_STR_STAT n, R.VIN_STR_CNT1 n] → t.reg a = s.reg a) ∧
  (∀ (s : State) (n k u : Nat) (rest : List (Nat × Nat)),
    n < 8 →
    s.vin.streams.length = 8 →
    s.on .vin = true →
    (s.stream n).acks = (k, u) :: rest →
    k < 4 →
    ∃ t : State, exec (.rvfFrameReady n) s = .next t ∧
      t.bufState n k = 2 ∧ (∀ j, j < 4 → j ≠ k → t.bufState n j ≠ 2) ∧ t.rd (F.VIN_STR_STAT_NEWEST n) = k ∧
        t.regN (R.VIN_STR_PTIME n) = u % 2 ^ 32 ∧
      t.flag (F.VIN_STR_STAT_RVALID n) = true ∧ t.rd (F.VIN_STR_CNT0_FRAMES n) = (s.rd (F.VIN_STR_CNT0_FRAMES n) + 1) % 65536 ∧
      OnlyRegs [R.VIN_STR_STAT n, R.VIN_STR_PTIME n, R.VIN_STR_CNT0 n] s t) ∧
  (∀ (s : State) (n k : Nat) (f : FillFrame),
    n < 8 →
    s.vin.streams.length = 8 →
    (s.stream n).fill = some f →
    f.buf = some k →
    k < 4 →
    f.since + 600000 * s.app (F.VIN_STR_CFG_TIMEOUT n) ≤ s.now →
    ∃ t : State, exec (.rvfFrameTimeout n) s = .next t ∧
      t.bufState n k = 0 ∧ (t.stream n).fill = none ∧ t.rd (F.VIN_STR_STAT_LASTDISC n) = 2 ∧
        t.rd (F.VIN_STR_CNT0_DISCARD n) = (s.rd (F.VIN_STR_CNT0_DISCARD n) + 1) % 65536 ∧
      OnlyRegs [R.VIN_STR_STAT n, R.VIN_STR_CNT0 n] s t)

/-- The parser holds at most one list waiting behind the one it is checking (R131). -/
def Obligations.OneObjectListWaits : Prop :=
  (∀ (s : State) (d : OlDatagram),
    s.on .vin = true →
    s.flag F.VIN_CTRL_OL_EN = true →
    s.flag F.VIN_OLCFG_ENV = false →
    s.udpOpen d.mac = true →
    s.vin.checking = none →
    ∃ t : State, exec (.objectListArrive d) s = .next t ∧
      t.vin.checking = some ({ ip := d.ip, envOk := false, copy := false, data := d.data, at_ := s.localTime } : OlArrived) ∧
        OnlyRegs [] s t) ∧
  (∀ (s : State) (d : OlDatagram) (x : OlArrived),
    s.on .vin = true →
    s.flag F.VIN_CTRL_OL_EN = true →
    s.flag F.VIN_OLCFG_ENV = false →
    s.udpOpen d.mac = true →
    s.vin.checking = some x →
    s.vin.waiting = none →
    ∃ t : State, exec (.objectListArrive d) s = .next t ∧
      t.vin.checking = some x ∧
        t.vin.waiting = some ({ ip := d.ip, envOk := false, copy := false, data := d.data, at_ := s.localTime } : OlArrived) ∧
        OnlyRegs [] s t) ∧
  (∀ (s : State) (d : OlDatagram) (x y : OlArrived),
    s.on .vin = true →
    s.flag F.VIN_CTRL_OL_EN = true →
    s.flag F.VIN_OLCFG_ENV = false →
    s.udpOpen d.mac = true →
    s.vin.checking = some x →
    s.vin.waiting = some y →
    ∃ t : State, exec (.objectListArrive d) s = .next t ∧
      t.vin.checking = some x ∧
        t.vin.waiting = some ({ ip := d.ip, envOk := false, copy := false, data := d.data, at_ := s.localTime } : OlArrived) ∧
        t.rd F.VIN_OLSTAT_CAUSE = 10 ∧
      t.rd F.VIN_OLCNT_REJECTED = (s.rd F.VIN_OLCNT_REJECTED + 1) % 65536 ∧ OnlyRegs [R.VIN_OLSTAT, R.VIN_OLCNT] s t) ∧
  (∀ (s : State) (ip : Nat) (ok copy : Bool) (bs : List Byte) (x : OlArrived), x = ⟨ip, ok, copy, bs, s.localTime⟩ →
    (s.vin.checking = none → (s.listArrives ip ok copy bs).vin.checking = some x) ∧
    (∀ y, s.vin.checking = some y → s.vin.waiting = none → (s.listArrives ip ok copy bs).vin.checking = some y ∧
      (s.listArrives ip ok copy bs).vin.waiting = some x) ∧
    ∀ y z, s.vin.checking = some y → s.vin.waiting = some z → (s.listArrives ip ok copy bs).vin.checking = some y ∧
      (s.listArrives ip ok copy bs).vin.waiting = some x ∧ (s.listArrives ip ok copy bs).rd F.VIN_OLSTAT_CAUSE = 10)

/-- Object lists: parsing and VIN_OLCFG (R126, R129, R421). Where these rules leave a point open the clauses hold for the model
  as notes/assumptions/37.md, notes/assumptions/54.md state it. -/
def Obligations.ObjectListsAreParsed : Prop :=
  (∀ (s : State) (x : OlArrived),
    s.on .vin = true →
    s.vin.checking = some x →
    s.listCheck x ≠ 0 →
    ∃ t : State, exec (.objectListParse) s = .next t ∧
      t.vin.checking = s.vin.waiting ∧ t.vin.waiting = none ∧ t.rd F.VIN_OLSTAT_CAUSE = s.listCheck x ∧
        t.rd F.VIN_OLCNT_REJECTED = (s.rd F.VIN_OLCNT_REJECTED + 1) % 65536 ∧
      OnlyRegs [R.VIN_OLSTAT, R.VIN_OLCNT] s t) ∧
  (∀ (s : State) (x : OlArrived),
    s.on .vin = true →
    s.vin.checking = some x →
    x.copy = true →
    ∃ t : State, exec (.objectListParse) s = .next t ∧
      t.vin.checking = s.vin.waiting ∧ t.vin.lastSeq = s.vin.lastSeq ∧ t.gme = s.gme ∧
        t.rd F.VIN_OLCNT_REJECTED = (s.rd F.VIN_OLCNT_REJECTED + 1) % 65536 ∧
      OnlyRegs [R.VIN_OLSTAT, R.VIN_OLCNT] s t) ∧
  (∀ (s : State) (x : OlArrived),
    s.on .vin = true →
    s.vin.checking = some x →
    s.listCheck x = 0 →
    ∃ t : State, exec (.objectListParse) s = .next t ∧
      t.vin.checking = s.vin.waiting ∧ t.rd F.VIN_OLSTAT_SEQ = leAt x.data 6 2 ∧ t.vin.lastSeq = some (leAt x.data 6 2) ∧
        t.vin.skip = false ∧
      t.rd F.VIN_OLCNT_ACCEPTED = (s.rd F.VIN_OLCNT_ACCEPTED + 1) % 65536 ∧ (s.on .gme = true →
        t.gme.lastArrival = some x.at_) ∧
      OnlyRegs [R.VIN_OLSTAT, R.VIN_OLCNT, R.VIN_OLCNT2] s t) ∧
  (∀ (s : State) (m : Master) (data : Word),
    s.Accepts m R.VIN_OLCFG data →
    bitsOf data.toNat 15 0 ≠ 0 →
    bitsOf data.toNat 15 0 ≠ 48620 →
    1 ≤ bitsOf data.toNat 22 16 →
    bitsOf data.toNat 22 16 ≤ 100 →
    ∃ t : State, exec (.vinOlcfgWrite m data) s = .next t ∧
      t.rd F.VIN_OLCFG_PORT = bitsOf data.toNat 15 0 ∧ t.rd F.VIN_OLCFG_MAXAGE = bitsOf data.toNat 22 16 ∧
        t.flag F.VIN_OLCFG_ENV = bitAt data.toNat 24 ∧ t.vin.skip = true ∧ OnlyRegs [R.VIN_OLCFG] s t) ∧
  (∀ (s : State) (m : Master) (data : Word),
    s.Accepts m R.VIN_OLCFG data →
    bitsOf data.toNat 15 0 = 48620 ∨ bitsOf data.toNat 15 0 = 0 ∨ 100 < bitsOf data.toNat 22 16 ∨ bitsOf data.toNat 22 16 = 0 →
    ∃ t : State, exec (.vinOlcfgWrite m data) s = .next t ∧
      t = s)

/-- gPTP: Sync, Pdelay, HOLDOVER and NOSYNC (R133, R134). Where these rules leave a point open the clauses hold for the model as
  notes/assumptions/1.md, notes/assumptions/24.md, notes/assumptions/54.md state it. -/
def Obligations.NetworkTime : Prop :=
  (∀ (s : State) (x : SyncMsg),
    s.macOn x.mac = true →
    s.flag F.VIN_CTRL_GPTP_EN = true →
    x.mac = s.rd F.VIN_CTRL_GPTP_PORT →
    x.domain = 0 →
    10000 < ((s.localTime : Int) - ((x.origin + s.gptp.pdelay : Nat) : Int)).natAbs →
    ∃ t : State, exec (.syncMessage x) s = .next t ∧
      t.localTime = x.origin + s.gptp.pdelay ∧ t.rd F.VIN_TIMESTAT_STEPS = (s.rd F.VIN_TIMESTAT_STEPS + 1) % 256 ∧
        t.gptp.good = 0 ∧ t.gptp.lastSync = some s.now ∧ OnlyRegs [R.VIN_TIMESTAT] s t) ∧
  (∀ (s : State) (x : SyncMsg),
    s.macOn x.mac = true →
    s.flag F.VIN_CTRL_GPTP_EN = true →
    x.mac = s.rd F.VIN_CTRL_GPTP_PORT →
    x.domain = 0 →
    ((s.localTime : Int) - ((x.origin + s.gptp.pdelay : Nat) : Int)).natAbs ≤ 1000 →
    7 ≤ s.gptp.good →
    ∃ t : State, exec (.syncMessage x) s = .next t ∧
      t.localTime = s.localTime ∧ t.rd F.VIN_TIMESTAT_STATE = 1 ∧ t.gptp.good = s.gptp.good + 1 ∧ t.gptp.lastSync = some s.now ∧
      t.rdS F.VIN_TIMESTAT_OFFSET = (s.localTime : Int) - ((x.origin + s.gptp.pdelay : Nat) : Int) ∧
        OnlyRegs [R.VIN_TIMESTAT] s t) ∧
  (∀ (s : State),
    s.macOn (s.rd F.VIN_CTRL_GPTP_PORT) = true →
    s.flag F.VIN_CTRL_GPTP_EN = true →
    s.held 2 = false →
    ∃ t : State, exec (.pdelayRequest) s = .next t ∧
      t.sent = Sent.pdelayResponse :: s.sent ∧ OnlyRegs [] s t) ∧
  (∀ (s : State) (d : Nat),
    s.macOn (s.rd F.VIN_CTRL_GPTP_PORT) = true →
    s.flag F.VIN_CTRL_GPTP_EN = true →
    s.dueSince s.gptp.pdelayAt (sec 1) = true →
    s.held 2 = false →
    ∃ t : State, exec (.pdelayInterval d) s = .next t ∧
      t.gptp.pdelay = d ∧ t.gptp.pdelayAt = some s.now ∧ t.sent = Sent.pdelayRequest :: s.sent ∧ OnlyRegs [] s t) ∧
  (∀ (s : State) (d : Nat),
    s.dueSince s.gptp.pdelayAt (sec 1) = false →
    ∃ t : State, exec (.pdelayInterval d) s = .next t ∧
      t = s) ∧
  (∀ (s : State) (u : Nat),
    s.on .net = true →
    s.rd F.VIN_TIMESTAT_STATE = 1 →
    s.gptp.lastSync = some u →
    u + 3 * cyclesOf s.gptp.interval ≤ s.now →
    ∃ t : State, exec (.holdoverEnter) s = .next t ∧
      t.rd F.VIN_TIMESTAT_STATE = 2 ∧ t.gptp.holdFrom = some s.now ∧ OnlyRegs [R.VIN_TIMESTAT] s t) ∧
  (∀ (s : State),
    s.on .net = true →
    s.on .safe = true →
    s.rd F.VIN_TIMESTAT_STATE = 2 →
    300000000 ≤ s.gptp.holdCount + s.holdSpan →
    ∃ t : State, exec (.nosyncEnter) s = .next t ∧
      t.rd F.VIN_TIMESTAT_STATE = 0 ∧ s.Took t Src.GPTP_LOST ∧ OnlyBlocks (6 :: faultBlocks) s t)

/-- The IMU port: triggers, samples, loss, VIN_IMUCFG (R35, R136, R137, R138, R140). Where these rules leave a point open the
  clauses hold for the model as notes/assumptions/24.md, notes/assumptions/49.md state it. -/
def Obligations.ImuPort : Prop :=
  (∀ (s : State),
    s.on .drv = true →
    s.flag F.VIN_IMUCFG_EN = true →
    s.rd F.VIN_IMUCFG_TRIG = 2 →
    s.imu.timerAt + 600 * s.rd F.VIN_IMUTIME_PERIOD ≤ s.now →
    s.held 6 = false →
    s.imu.busy = none →
    ∃ t : State, exec (.imuTrigger .timer) s = .next t ∧
      t.imu.busy = some (s.localTime - 1000 * s.rd F.VIN_IMUTIME_LAT_US) ∧
        t.sent = Sent.imuCommand ((List.range (s.rd F.VIN_IMUCFG_CMDLEN + 1)).map fun i => BitVec.ofNat 8 (bitsOf (s.rd
        (F.VIN_IMUCMD_BYTES (i / 4))) (8 * (i % 4) + 7) (8 * (i % 4)))) :: s.sent ∧ OnlyRegs [] s t) ∧
  (∀ (s : State) (u : Nat),
    s.on .drv = true →
    s.flag F.VIN_IMUCFG_EN = true →
    s.rd F.VIN_IMUCFG_TRIG = 0 →
    s.imu.busy = some u →
    ∃ t : State, exec (.imuTrigger .rising) s = .next t ∧
      t.imu = s.imu ∧ t.rd F.VIN_IMUSTAT_OVERRUN = (s.rd F.VIN_IMUSTAT_OVERRUN + 1) % 256 ∧ OnlyRegs [R.VIN_IMUSTAT] s t) ∧
  (∀ (s : State) (resp : List Byte) (u : Nat),
    s.on .drv = true →
    resp.length = s.rd F.VIN_IMUCFG_RSPLEN + 1 →
    s.imu.busy = some u →
    (s.applyGroup .imu).app F.VIN_IMUMAP_STAT_EN = 0 ∨
      ((resp.getD ((s.applyGroup .imu).app F.VIN_IMUMAP_STAT_OFS) 0).toNat &&& (s.applyGroup .imu).app F.VIN_IMUMAP_STAT_MASK) =
      (s.applyGroup .imu).app F.VIN_IMUMAP_STAT_MASK →
    s.flag F.VIN_IMUCFG_STUCKCHK = false ∨ s.imu.same < 63 →
    ((s.applyGroup .imu).imuRate ((s.applyGroup .imu).imuWord resp ((s.applyGroup .imu).app F.VIN_IMUMAP_YAW_OFS))
      ((s.applyGroup .imu).app F.VIN_IMUMAP_YAW_NEG)).natAbs ≤ 327670 →
    ((s.applyGroup .imu).imuRate ((s.applyGroup .imu).imuWord resp ((s.applyGroup .imu).app F.VIN_IMUMAP_PITCH_OFS))
      ((s.applyGroup .imu).app F.VIN_IMUMAP_PITCH_NEG)).natAbs ≤ 327670 →
    ∃ t : State, exec (.imuSample resp false) s = .next t ∧
      t.imu.busy = none ∧ t.imu.acceptedAt = some s.now ∧
      t.imu.recent.head? = some (u, (s.applyGroup .imu).imuRate ((s.applyGroup .imu).imuWord resp ((s.applyGroup .imu).app
        F.VIN_IMUMAP_YAW_OFS)) ((s.applyGroup .imu).app F.VIN_IMUMAP_YAW_NEG), (s.applyGroup .imu).imuRate ((s.applyGroup
        .imu).imuWord resp ((s.applyGroup .imu).app F.VIN_IMUMAP_PITCH_OFS)) ((s.applyGroup .imu).app F.VIN_IMUMAP_PITCH_NEG)) ∧
      OnlyBlocks [6, 13] s t) ∧
  (∀ (s : State) (resp : List Byte) (u : Nat),
    s.on .drv = true →
    resp.length = s.rd F.VIN_IMUCFG_RSPLEN + 1 →
    s.imu.busy = some u →
    ∃ t : State, exec (.imuSample resp true) s = .next t ∧
      t.imu.busy = none ∧ t.rd F.VIN_DROP_IMU = (s.rd F.VIN_DROP_IMU + 1) % 256 ∧ OnlyBlocks (6 :: faultBlocks) s t) ∧
  (∀ (s : State) (resp : List Byte) (full : Bool),
    resp.length ≠ s.rd F.VIN_IMUCFG_RSPLEN + 1 →
    ∃ t : State, exec (.imuSample resp full) s = .next t ∧
      t = s) ∧
  (∀ (s : State) (resp : List Byte) (u : Nat),
    s.on .drv = true →
    resp.length = s.rd F.VIN_IMUCFG_RSPLEN + 1 →
    s.imu.busy = some u →
    s.flag F.VIN_IMUCFG_STUCKCHK = false ∨ s.imu.same < 63 →
    (s.applyGroup .imu).app F.VIN_IMUMAP_STAT_EN = 0 ∨
      ((resp.getD ((s.applyGroup .imu).app F.VIN_IMUMAP_STAT_OFS) 0).toNat &&& (s.applyGroup .imu).app F.VIN_IMUMAP_STAT_MASK) =
      (s.applyGroup .imu).app F.VIN_IMUMAP_STAT_MASK →
    327670 < ((s.applyGroup .imu).imuRate ((s.applyGroup .imu).imuWord resp ((s.applyGroup .imu).app F.VIN_IMUMAP_YAW_OFS))
      ((s.applyGroup .imu).app F.VIN_IMUMAP_YAW_NEG)).natAbs →
    ∃ t : State, exec (.imuSample resp false) s = .next t ∧
      t.imu.busy = none ∧ t.imu.run = 0 ∧ t.imu.recent = s.imu.recent ∧
        t.rd F.VIN_IMUSTAT_DISCARD = (s.rd F.VIN_IMUSTAT_DISCARD + 1) % 256 ∧ OnlyRegs [R.VIN_IMUSTAT] s t) ∧
  (∀ (s : State) (u : Nat),
    s.on .drv = true →
    s.on .safe = true →
    s.flag F.VIN_IMUCFG_EN = true →
    s.rd F.VIN_IMUSTAT_STATE ≠ 2 →
    s.imu.acceptedAt = some u →
    u + 2400 * s.rd F.VIN_IMUTIME_PERIOD ≤ s.now →
    ∃ t : State, exec (.imuLost) s = .next t ∧
      t.rd F.VIN_IMUSTAT_STATE = 2 ∧ t.imu.run = 0 ∧ s.Took t Src.IMU_LOST ∧ OnlyBlocks (6 :: faultBlocks) s t) ∧
  (∀ (s : State) (m : Master) (data : Word),
    s.Accepts m R.VIN_IMUCFG data →
    s.flag F.VIN_IMUCFG_EN = true →
    bitAt data.toNat 0 = false →
    ∃ t : State, exec (.vinImucfgWrite m data) s = .next t ∧
      t.flag F.VIN_IMUCFG_EN = false ∧ t.rd F.VIN_IMUCFG_TRIG = s.rd F.VIN_IMUCFG_TRIG ∧ t.rd F.VIN_IMUSTAT_STATE = 0 ∧
        t.imu = ({} : Imu) ∧ t.armed .imu = false ∧ OnlyBlocks [6] s t) ∧
  (∀ (s : State) (m : Master) (data : Word),
    s.Accepts m R.VIN_IMUCFG data →
    s.flag F.VIN_IMUCFG_EN = false →
    bitsOf data.toNat 2 1 ≠ 3 →
    bitsOf data.toNat 22 16 ≤ 95 →
    bitAt data.toNat 0 = true →
    ∃ t : State, exec (.vinImucfgWrite m data) s = .next t ∧
      t.flag F.VIN_IMUCFG_EN = true ∧ t.rd F.VIN_IMUCFG_TRIG = bitsOf data.toNat 2 1 ∧ t.rd F.VIN_IMUSTAT_STATE = 1 ∧
        t.imu.acceptedAt = some s.now ∧ OnlyRegs [R.VIN_IMUCFG, R.VIN_IMUSTAT] s t)

/-- A boundary: the composition frame, the sheaf, the retime hold, the frame record; refresh and band-slot starts (R31, R32,
  R45, R151, R158, R168, R170, R246, R273). Where these rules leave a point open the clauses hold for the model as
  notes/assumptions/25.md, notes/assumptions/30.md, notes/assumptions/49.md state it. -/
def Obligations.BoundariesTakeTheirSheaf : Prop :=
  (∀ (s : State) (n u : Nat),
    s.on .cmp = true →
    s.cf.next = some (n, u) →
    u ≤ s.now →
    s.armedFor n = false →
    s.cf.fallback = false →
    ∃ t : State, exec (.boundary) s = .next t ∧
      t.tm = s.tm ∧ t.cf.next = some (n + 1, u + cfLen s.tm) ∧ t.cf.cur = some n ∧ t.cf.start = u ∧ t.cf.refDue = some (u, 0) ∧
        t.cf.hold = none ∧
      ((s.comp.frames.head?).isSome = true →
        (t.comp.shown.map fun (f : Frame) => f.num) = s.comp.frames.head?.map fun (f : Frame) => f.num) ∧
      RegsIn ([6, 7, 8, 10] ++ faultBlocks) s t ∧ (s.rd F.CMP_CAPSTAT_STATE ≠ 2 → SameMem s t)) ∧
  (∀ (s : State) (n u : Nat),
    s.on .cmp = true →
    s.cf.next = some (n, u) →
    u ≤ s.now →
    s.armedFor n = true →
    s.rd F.LAY_TIMING_TM = s.tm →
    s.rd F.LAY_TIMING_TM < 2 ∨ (s.oneLane = false ∧ s.cf.fallback = false) →
    ∃ t : State, exec (.boundary) s = .next t ∧
      t.rd F.LAY_SHEAFSTAT_STATE = 0 ∧ t.rd F.LAY_SHEAFSTAT_APPLIED_TAG = s.sheaf.tag % 65536 ∧
        t.rd F.LAY_SHEAFCNT_APPLIED = (s.rd F.LAY_SHEAFCNT_APPLIED + 1) % 65536 ∧
      (∀ a ∈ sheafRegs, t.appReg a = s.regN a) ∧ t.cf.next = some (n + 1, u + cfLen s.tm) ∧ t.cf.cur = some n ∧
        t.cf.refDue = some (u, 0) ∧
      RegsIn ([6, 7, 8, 10] ++ faultBlocks) s t ∧ (s.rd F.CMP_CAPSTAT_STATE ≠ 2 → SameMem s t)) ∧
  (∀ (s : State) (n u : Nat),
    s.on .cmp = true →
    s.cf.next = some (n, u) →
    u ≤ s.now →
    s.armedFor n = true →
    s.rd F.LAY_TIMING_TM ≠ s.tm →
    s.rd F.LAY_TIMING_TM < 2 ∨ (s.oneLane = false ∧ s.cf.fallback = false) →
    ∃ t : State, exec (.boundary) s = .next t ∧
      t.tm = s.rd F.LAY_TIMING_TM ∧ t.rd F.LAY_SHEAFSTAT_STATE = 0 ∧ t.rd F.LAY_SHEAFSTAT_APPLIED_TAG = s.sheaf.tag % 65536 ∧
      t.cf.hold = some ({ until_ := u + holdLen s.tm (s.rd F.LAY_TIMING_TM), cf := n } : Hold) ∧ t.cf.refDue = none ∧
        t.cf.band = none ∧ t.cf.row = none ∧
      t.cf.next = some (n + 1, u + holdLen s.tm (s.rd F.LAY_TIMING_TM) + cfLen (s.rd F.LAY_TIMING_TM)) ∧
      (s.on .scn = true → t.rd F.SCN_STAT_BAND = 16) ∧ OnlyBlocks [7, 8, 10] s t) ∧
  (∀ (s : State) (n u : Nat),
    s.on .cmp = true →
    s.cf.next = some (n, u) →
    u ≤ s.now →
    s.armedFor n = true →
    2 ≤ s.rd F.LAY_TIMING_TM →
    s.oneLane = true ∨ s.cf.fallback = true →
    ∃ t : State, exec (.boundary) s = .next t ∧
      t.rd F.LAY_SHEAFSTAT_STATE = 0 ∧ t.flag F.LAY_SHEAFSTAT_REFUSED = true ∧ t.rd F.LAY_SHEAFSTAT_CAUSE = 9 ∧
        t.flag F.LAY_SHEAFSTAT_GLOBAL = true ∧
      t.rd F.LAY_SHEAFSTAT_APPLIED_TAG = s.rd F.LAY_SHEAFSTAT_APPLIED_TAG ∧
        t.rd F.LAY_SHEAFCNT_REFUSED = (s.rd F.LAY_SHEAFCNT_REFUSED + 1) % 256 ∧
      t.cf.cur = some n ∧ t.cf.fallback = false ∧ RegsIn ([6, 7, 8, 10] ++ faultBlocks) s t ∧ (s.rd F.CMP_CAPSTAT_STATE ≠ 2 →
        SameMem s t)) ∧
  (∀ (s : State) (n u : Nat),
    s.on .cmp = true →
    s.cf.next = some (n, u) →
    u ≤ s.now →
    s.armedFor n = false →
    s.cf.fallback = true →
    s.tm = 2 →
    ∃ t : State, exec (.boundary) s = .next t ∧
      t.tm = 1 ∧ t.regN R.LAY_TIMING = s.regN R.LAY_TIMING ∧ t.cf.fallback = false ∧
        t.cf.hold = some ({ until_ := u + holdLen 2 1, cf := n } : Hold) ∧ t.cf.refDue = none ∧
      t.cf.next = some (n + 1, u + holdLen 2 1 + cfLen 1) ∧ OnlyRegs [R.SCN_STAT] s t) ∧
  (∀ (s : State) (h : Hold),
    s.on .cmp = true →
    s.cf.hold = some h →
    h.until_ ≤ s.now →
    ∃ t : State, exec (.retimeHoldEnd) s = .next t ∧
      t.tm = (if s.cf.fallback = true ∧ s.tm = 2 then 1 else s.tm) ∧ t.cf.hold = none ∧ t.cf.cur = some h.cf ∧
        t.cf.start = h.until_ ∧ t.cf.refDue = some (h.until_, 0) ∧
      t.cf.next = some (h.cf + 1, h.until_ + cfLen t.tm) ∧ RegsIn ([6, 7, 8, 10] ++ faultBlocks) s t ∧
        (s.rd F.CMP_CAPSTAT_STATE ≠ 2 → SameMem s t)) ∧
  (∀ (s : State) (u : Nat),
    s.cf.recordAt = some u →
    ∃ t : State, exec (.frameRecordSwitch) s = .next t ∧
      t.recs = ({ newest := s.recs.copying, previous := s.recs.newest, copying := [] } : Records) ∧ t.cf.recordAt = none ∧
        OnlyRegs [] s t) ∧
  (∀ (s : State) (u r : Nat),
    s.on .cmp = true →
    s.cf.refDue = some (u, r) →
    u ≤ s.now →
    ∃ t : State, exec (.refreshStart) s = .next t ∧
      t.cf.refStart = u ∧ t.cf.refresh = r ∧ t.cf.band = some 0 ∧ t.cf.row = none ∧ t.cf.blank = true ∧ t.cf.charDue = true ∧
      t.cf.refDue = (if r + 1 < refreshesOf s.tm then some (u + refreshLen s.tm r, r + 1) else none) ∧
      (s.on .scn = true → t.rd F.SCN_REFCNT_COUNT = (s.rd F.SCN_REFCNT_COUNT + 1) % 2 ^ 32 ∧ t.rd F.SCN_STAT_REFRESH = r % 4 ∧
        t.rd F.SCN_STAT_SHOW = s.cf.cur.getD 0 % 2) ∧
      OnlyBlocks (9 :: 10 :: faultBlocks) s t) ∧
  (∀ (s : State) (k : Nat),
    s.on .cmp = true →
    s.cf.band = some k →
    s.bandStart s.cf.refStart k ≤ s.now →
    ∃ t : State, exec (.bandSlotStart) s = .next t ∧
      t.cf.row = some (k, 0) ∧ t.cf.band = (if k < 15 then some (k + 1) else none) ∧ (s.on .scn = true → s.scn.rows = true →
        t.rd F.SCN_STAT_BAND = k % 32) ∧ OnlyRegs [R.SCN_STAT] s t)

/-- Arming, checking and disarming a sheaf (R149, R150, R153, R154, R155). Where these rules leave a point open the clauses hold
  for the model as notes/assumptions/25.md, notes/assumptions/27.md, notes/assumptions/49.md state it. -/
def Obligations.SheavesAreArmedAndChecked : Prop :=
  (∀ (s : State) (m : Master) (data : Word),
    s.Accepts m R.LAY_SHEAF data →
    bitAt data.toNat 0 = true →
    bitAt data.toNat 1 = false →
    s.rd F.LAY_SHEAFSTAT_STATE = 0 →
    ∃ t : State, exec (.sheafArm m data) s = .next t ∧
      t.rd F.LAY_SHEAFSTAT_STATE = 1 ∧ t.rd F.LAY_SHEAF_TAG = bitsOf data.toNat 31 16 ∧ t.sheaf.tag = bitsOf data.toNat 31 16 ∧
        t.sheaf.armAt = s.now ∧ OnlyRegs [R.LAY_SHEAF, R.LAY_SHEAFSTAT] s t) ∧
  (∀ (s : State) (m : Master) (data : Word),
    s.Accepts m R.LAY_SHEAF data →
    bitAt data.toNat 0 = true →
    bitAt data.toNat 1 = false →
    s.rd F.LAY_SHEAFSTAT_STATE ≠ 0 →
    ∃ t : State, exec (.sheafArm m data) s = .next t ∧
      t.rd F.LAY_SHEAFSTAT_STATE = s.rd F.LAY_SHEAFSTAT_STATE ∧ t.flag F.LAY_SHEAFSTAT_BLOCKED = true ∧ t.sheaf = s.sheaf ∧
        OnlyRegs [R.LAY_SHEAF, R.LAY_SHEAFSTAT] s t) ∧
  (∀ (s : State) (n : Nat) (l : Layer),
    s.on .cmp = true →
    s.rd F.LAY_SHEAFSTAT_STATE = 1 →
    s.shadowLayers[n]? = some l →
    l.en = true →
    s.layerCause n l ≠ 0 →
    (∀ k, k < n → ((s.shadowLayers[k]?).all fun l => !l.en || s.layerCause k l == 0) = true) →
    ∃ t : State, exec (.sheafCheckComplete) s = .next t ∧
      t.rd F.LAY_SHEAFSTAT_STATE = 0 ∧ t.flag F.LAY_SHEAFSTAT_REFUSED = true ∧ t.rd F.LAY_SHEAFSTAT_CAUSE = s.layerCause n l ∧
        t.rd F.LAY_SHEAFSTAT_LAYER = n ∧ t.flag F.LAY_SHEAFSTAT_GLOBAL = false ∧
      t.rd F.LAY_SHEAFCNT_REFUSED = (s.rd F.LAY_SHEAFCNT_REFUSED + 1) % 256 ∧ t.applied = s.applied ∧ RegsIn [7] s t) ∧
  (∀ (s : State),
    s.on .cmp = true →
    s.rd F.LAY_SHEAFSTAT_STATE = 1 →
    (∀ k, k < 8 → ((s.shadowLayers[k]?).all fun l => !l.en || s.layerCause k l == 0) = true) →
    s.globalCause s.shadowLayers (minLeadOf (s.compCycles s.shadowLayers) s.compAct) ≠ 0 →
    ∃ t : State, exec (.sheafCheckComplete) s = .next t ∧
      t.rd F.LAY_SHEAFSTAT_STATE = 0 ∧ t.flag F.LAY_SHEAFSTAT_REFUSED = true ∧
        t.rd F.LAY_SHEAFSTAT_CAUSE = s.globalCause s.shadowLayers (minLeadOf (s.compCycles s.shadowLayers) s.compAct) ∧
        t.flag F.LAY_SHEAFSTAT_GLOBAL = true ∧
      t.rd F.LAY_SHEAFCNT_REFUSED = (s.rd F.LAY_SHEAFCNT_REFUSED + 1) % 256 ∧ t.applied = s.applied ∧ RegsIn [7] s t) ∧
  (∀ (s : State) (n u : Nat),
    s.on .cmp = true →
    s.rd F.LAY_SHEAFSTAT_STATE = 1 →
    (∀ k, k < 8 → ((s.shadowLayers[k]?).all fun l => !l.en || s.layerCause k l == 0) = true) →
    s.globalCause s.shadowLayers (minLeadOf (s.compCycles s.shadowLayers) s.compAct) = 0 →
    s.sheaf.b0 = some (n, u) →
    ∃ t : State, exec (.sheafCheckComplete) s = .next t ∧
      (s.deadline u (minLeadOf (s.compCycles s.shadowLayers) s.compAct) < s.sheaf.armAt → t.rd F.LAY_SHEAFSTAT_STATE = 3 ∧
        t.flag F.LAY_SHEAFSTAT_LATE = true ∧ t.sheaf.target = n + 1 ∧ t.rd F.LAY_TARGET_CF = (n + 1) % 2 ^ 32) ∧
      ((s.sheaf.armAt : Int) ≤ s.deadline u (minLeadOf (s.compCycles s.shadowLayers) s.compAct) →
        t.rd F.LAY_SHEAFSTAT_STATE = 2 ∧ t.sheaf.target = n ∧ t.rd F.LAY_TARGET_CF = n % 2 ^ 32) ∧
      t.applied = s.applied ∧ RegsIn [6, 7, 8, 10] s t) ∧
  (∀ (s : State),
    s.on .cmp = true →
    s.rd F.LAY_SHEAFSTAT_STATE = 1 →
    (∀ k, k < 8 → ((s.shadowLayers[k]?).all fun l => !l.en || s.layerCause k l == 0) = true) →
    s.globalCause s.shadowLayers (minLeadOf (s.compCycles s.shadowLayers) s.compAct) = 0 →
    s.sheaf.b0 = none →
    s.cf.next = none →
    ∃ t : State, exec (.sheafCheckComplete) s = .next t ∧
      t.rd F.LAY_SHEAFSTAT_STATE = 2 ∧
        t.cf.next = some (((s.comp.frames.head?).map fun (f : Frame) => f.num).getD s.comp.nextNum, s.now + max 138000 (max (600
        * s.rd F.LAY_TIMING_LEAD_US) (minLeadOf (s.compCycles s.shadowLayers) s.compAct))) ∧
      t.sheaf.target = ((s.comp.frames.head?).map fun (f : Frame) => f.num).getD s.comp.nextNum ∧ t.sheaf.first = false ∧
        t.applied = s.applied ∧ RegsIn [6, 7, 8, 10] s t) ∧
  (∀ (s : State) (m : Master) (data : Word),
    s.Accepts m R.LAY_SHEAF data →
    bitAt data.toNat 0 = false →
    bitAt data.toNat 1 = true →
    ∃ t : State, exec (.sheafDisarm m data) s = .next t ∧
      t.rd F.LAY_SHEAF_TAG = bitsOf data.toNat 31 16 ∧ (s.sheafArmed = true → s.disarmInTime = true →
        t.rd F.LAY_SHEAFSTAT_STATE = 0 ∧ t.applied = s.applied ∧ OnlyBlocks [6, 7, 8, 10] s t) ∧
      (s.sheafArmed = false ∨ s.disarmInTime = false → t.flag F.LAY_SHEAFSTAT_DISARM_REFUSED = true ∧
        t.rd F.LAY_SHEAFSTAT_STATE = s.rd F.LAY_SHEAFSTAT_STATE ∧
        OnlyRegs [R.LAY_SHEAF, R.LAY_SHEAFSTAT] s t)) ∧
  (∀ (s : State) (m : Master) (data : Word),
    s.Accepts m R.LAY_SHEAF data →
    bitAt data.toNat 0 = true →
    bitAt data.toNat 1 = true →
    ∃ t : State, exec (.sheafDisarm m data) s = .next t ∧
      t = s)

/-- The composer: frames started, bands completed (R160, R161, R162, R173, R187). Where these rules leave a point open the
  clauses hold for the model as notes/assumptions/16.md, notes/assumptions/26.md, notes/assumptions/49.md state it. -/
def Obligations.FramesAreComposedBandByBand : Prop :=
  (∀ (s : State),
    s.composerOn = true →
    s.composing = none →
    s.comp.frames.length < 2 →
    ∃ t : State, exec (.composeFrameStart) s = .next t ∧
      ((t.comp.frames.getLast?).map fun (f : Frame) => f.num) = some s.comp.nextNum ∧
        ((t.comp.frames.getLast?).map fun (f : Frame) => f.bands) = some (List.replicate 32 none) ∧
      ((t.comp.frames.getLast?).map fun (f : Frame) => f.claims) = some (s.claimFor s.comp.nextNum s.comp.last) ∧
      t.comp.frames.length = s.comp.frames.length + 1 ∧ t.comp.nextNum = s.comp.nextNum + 1 ∧
        OnlyBlocks (6 :: 7 :: 8 :: 10 :: faultBlocks) s t) ∧
  (∀ (s : State),
    s.composerOn = false ∨ s.composing.isSome = true ∨ 2 ≤ s.comp.frames.length →
    ∃ t : State, exec (.composeFrameStart) s = .next t ∧
      t = s) ∧
  (∀ (s : State) (f : Frame) (c : Nat) (d : Bool),
    s.composerOn = true →
    s.composing = some (f.num, c) →
    s.compFrames.find? (fun (g : Frame) => g.num == f.num) = some f →
    f.bands.length = 32 →
    ∃ t : State, exec (.composeBandComplete d) s = .next t ∧
      (∀ i, i < 32 → ∀ x, x < 2048 →
        t.num (composedAddr f.num (32 * c + i) + 2 * x) 2 = s.composePixel f ((s.stack f).map (s.fillWindow (s.armedFor f.num)
        f.num c)) x (32 * c + i) % 65536) ∧
      (∀ a, a < composedAddr f.num (32 * c) ∨ composedAddr f.num (32 * c) + 131072 ≤ a → t.byte a = s.byte a) ∧
      ((t.compFrames.find? fun (g : Frame) => g.num == f.num).map fun (g : Frame) => g.bands.getD c none) = some (some
        (s.armedFor f.num)) ∧
      t.rd F.CMP_STAT_CHK_LANE = (s.checkedLane c).getD 15 ∧ RegsIn (7 :: 8 :: 10 :: faultBlocks) s t)

/-- The symbol cache: LOAD, EVICT, EVICT_UNUSED and the end of a copy (R182, R183, R185, R186). Where these rules leave a point
  open the clauses hold for the model as notes/assumptions/27.md, notes/assumptions/46.md, notes/assumptions/49.md state it. -/
def Obligations.SymbolCache : Prop :=
  (∀ (s : State) (m : Master) (data : Word),
    s.Accepts m R.CMP_SYMLOAD data →
    s.flag F.CMP_SYMSTAT_BUSY = false →
    popcount 3 (bitsOf data.toNat 10 8) ≤ 1 →
    bitAt data.toNat 8 = true →
    s.symUnusable = false →
    (bitsOf data.toNat 7 0) < s.rd F.LAY_SYMCFG_COUNT →
    (s.readDesc (bitsOf data.toNat 7 0)).ok = true →
    inUserDram (bufferRange (s.readDesc (bitsOf data.toNat 7 0)).addr (s.readDesc (bitsOf data.toNat 7 0)).pitch (s.readDesc
      (bitsOf data.toNat 7 0)).height) = true →
    s.comp.cache.any (fun (e : SymEntry) => e.desc == (s.readDesc (bitsOf data.toNat 7 0))) = false →
    s.comp.cache.length < 256 →
    (ceilDiv (lineSize (s.readDesc (bitsOf data.toNat 7 0)).width (s.readDesc (bitsOf data.toNat 7 0)).fmt * (s.readDesc (bitsOf
      data.toNat 7 0)).height) 1024) ≤ s.freeBlocks.length →
    ∃ t : State, exec (.symbolLoad m data) s = .next t ∧
      t.comp.cache = s.comp.cache ++
        [({ index := (bitsOf data.toNat 7 0), desc := (s.readDesc (bitsOf data.toNat 7 0)), blocks := s.freeBlocks.take (ceilDiv (lineSize (s.readDesc (bitsOf data.toNat 7 0)).width (s.readDesc (bitsOf data.toNat 7 0)).fmt * (s.readDesc (bitsOf data.toNat 7 0)).height) 1024), complete := false }
        : SymEntry)] ∧ t.comp.loading = some s.comp.cache.length ∧
      t.flag F.CMP_SYMSTAT_BUSY = true ∧ OnlyRegs [R.CMP_SYMLOAD, R.CMP_SYMSTAT] s t) ∧
  (∀ (s : State) (m : Master) (data : Word),
    s.Accepts m R.CMP_SYMLOAD data →
    s.flag F.CMP_SYMSTAT_BUSY = false →
    popcount 3 (bitsOf data.toNat 10 8) ≤ 1 →
    bitAt data.toNat 8 = true →
    s.symUnusable = true ∨ s.rd F.LAY_SYMCFG_COUNT ≤ (bitsOf data.toNat 7 0) ∨ (s.readDesc (bitsOf data.toNat 7 0)).ok = false ∨
      inUserDram (bufferRange (s.readDesc (bitsOf data.toNat 7 0)).addr (s.readDesc (bitsOf data.toNat 7 0)).pitch (s.readDesc
      (bitsOf data.toNat 7 0)).height) = false ∨
      s.comp.cache.any (fun (e : SymEntry) => e.desc == (s.readDesc (bitsOf data.toNat 7 0))) = true ∨
      256 ≤ s.comp.cache.length ∨
      s.freeBlocks.length < (ceilDiv (lineSize (s.readDesc (bitsOf data.toNat 7 0)).width (s.readDesc (bitsOf data.toNat 7
      0)).fmt * (s.readDesc (bitsOf data.toNat 7 0)).height) 1024) →
    ∃ t : State, exec (.symbolLoad m data) s = .next t ∧
      t.comp = s.comp ∧ t.rd F.CMP_SYMSTAT_RESULT = (if s.symUnusable = true then 8 else if s.rd F.LAY_SYMCFG_COUNT ≤ (bitsOf
        data.toNat 7 0) ∨ (s.readDesc (bitsOf data.toNat 7 0)).ok = false then 4 else
        if inUserDram (bufferRange (s.readDesc (bitsOf data.toNat 7 0)).addr (s.readDesc (bitsOf data.toNat 7 0)).pitch
          (s.readDesc (bitsOf data.toNat 7 0)).height) = false then 5 else if s.comp.cache.any (fun (e : SymEntry) => e.desc ==
          (s.readDesc (bitsOf data.toNat 7 0))) = true then 2 else 3) ∧
      OnlyRegs [R.CMP_SYMLOAD, R.CMP_SYMSTAT] s t) ∧
  (∀ (s : State) (m : Master) (data : Word),
    s.Accepts m R.CMP_SYMLOAD data →
    s.flag F.CMP_SYMSTAT_BUSY = false →
    popcount 3 (bitsOf data.toNat 10 8) ≤ 1 →
    bitAt data.toNat 9 = true →
    s.symUnusable = false →
    ∃ t : State, exec (.symbolEvict m data) s = .next t ∧
      (s.rd F.LAY_SHEAFSTAT_STATE = 0 →
        s.comp.cache.any (fun (e : SymEntry) => e.index == (bitsOf data.toNat 7 0) && s.symUsed e) = false →
        t.comp.cache = s.comp.cache.filter (fun (e : SymEntry) => e.index != (bitsOf data.toNat 7 0)) ∧
          t.rd F.CMP_SYMSTAT_RESULT = 7) ∧
      (s.rd F.LAY_SHEAFSTAT_STATE ≠ 0 ∨
        s.comp.cache.any (fun (e : SymEntry) => e.index == (bitsOf data.toNat 7 0) && s.symUsed e) = true → t.comp = s.comp ∧
        t.rd F.CMP_SYMSTAT_RESULT = 6) ∧
      OnlyRegs [R.CMP_SYMLOAD, R.CMP_SYMSTAT] s t) ∧
  (∀ (s : State) (m : Master) (data : Word),
    s.Accepts m R.CMP_SYMLOAD data →
    s.flag F.CMP_SYMSTAT_BUSY = false →
    popcount 3 (bitsOf data.toNat 10 8) ≤ 1 →
    bitAt data.toNat 10 = true →
    s.symUnusable = false →
    ∃ t : State, exec (.symbolEvictUnused m data) s = .next t ∧
      t.comp.cache = s.comp.cache.filter s.symUsed ∧ t.rd F.CMP_SYMSTAT_RESULT = 7 ∧
        OnlyRegs [R.CMP_SYMLOAD, R.CMP_SYMSTAT] s t) ∧
  (∀ (s : State) (m : Master) (data : Word),
    s.Accepts m R.CMP_SYMLOAD data →
    s.flag F.CMP_SYMSTAT_BUSY = true →
    ∃ t : State, exec (.symbolLoad m data) s = .next t ∧
      t.comp = s.comp ∧ OnlyRegs [R.CMP_SYMLOAD] s t) ∧
  (∀ (s : State) (m : Master) (data : Word),
    s.Accepts m R.CMP_SYMLOAD data →
    s.flag F.CMP_SYMSTAT_BUSY = false →
    1 < popcount 3 (bitsOf data.toNat 10 8) →
    ∃ t : State, exec (.symbolLoad m data) s = .next t ∧
      t.comp = s.comp ∧ t.rd F.CMP_SYMSTAT_RESULT = 4 ∧ OnlyRegs [R.CMP_SYMLOAD, R.CMP_SYMSTAT] s t) ∧
  (∀ (s : State) (k : Nat) (e : SymEntry),
    s.on .cmp = true →
    s.on .mem = true →
    s.comp.loading = some k →
    s.comp.cache[k]? = some e →
    ∃ t : State, exec (.symbolLoadComplete) s = .next t ∧
      t.comp.cache = s.comp.cache.set k { e with complete := true } ∧ t.comp.loading = none ∧
        t.flag F.CMP_SYMSTAT_BUSY = false ∧ t.rd F.CMP_SYMSTAT_RESULT = 1 ∧
      (e.blocks.Nodup → ∀ b, b < e.blocks.length → ∀ j, j < 1024 → 1024 * b + j < (s.symPixels e.desc).length →
        t.byte (0x20880000 + 1024 * e.blocks.getD b 0 + j) = (s.symPixels e.desc).getD (1024 * b + j) 0) ∧
      (∀ a, (∀ b, b < e.blocks.length → a < 0x20880000 + 1024 * e.blocks.getD b 0 ∨
        0x20880000 + 1024 * e.blocks.getD b 0 + 1024 ≤ a) → t.byte a = s.byte a) ∧
      ∀ a, a ≠ R.CMP_SYMSTAT → t.reg a = s.reg a)

/-- Frame capture: START, ABORT and the end of the copy (R188, R189). Where these rules leave a point open the clauses hold for
  the model as notes/assumptions/5.md, notes/assumptions/27.md, notes/assumptions/49.md state it. -/
def Obligations.FrameCapture : Prop :=
  (∀ (s : State) (m : Master) (data : Word),
    s.Accepts m R.CMP_CAPCTRL data →
    bitAt data.toNat 0 = true →
    s.rd F.CMP_CAPSTAT_STATE ≠ 1 →
    s.rd F.CMP_CAPSTAT_STATE ≠ 2 →
    ∃ t : State, exec (.captureStart m data) s = .next t ∧
      (inUserDram (64 * s.rd F.CMP_CAPADDR_ADDR, 64 * s.rd F.CMP_CAPADDR_ADDR + 4194304) = true → t.rd F.CMP_CAPSTAT_STATE = 1 ∧
        t.comp.capAddr = 64 * s.rd F.CMP_CAPADDR_ADDR ∧ t.comp.capAt = s.now) ∧
      (inUserDram (64 * s.rd F.CMP_CAPADDR_ADDR, 64 * s.rd F.CMP_CAPADDR_ADDR + 4194304) = false →
        t.rd F.CMP_CAPSTAT_STATE = 5 ∧ t.comp = s.comp) ∧ OnlyRegs [R.CMP_CAPSTAT] s t) ∧
  (∀ (s : State) (m : Master) (data : Word),
    s.Accepts m R.CMP_CAPCTRL data →
    bitAt data.toNat 0 = true →
    bitAt data.toNat 1 = false →
    s.rd F.CMP_CAPSTAT_STATE = 1 ∨ s.rd F.CMP_CAPSTAT_STATE = 2 →
    ∃ t : State, exec (.captureStart m data) s = .next t ∧
      t.flag F.CMP_CAPSTAT_REFUSED = true ∧ t.rd F.CMP_CAPSTAT_STATE = s.rd F.CMP_CAPSTAT_STATE ∧ t.comp = s.comp ∧
        OnlyRegs [R.CMP_CAPSTAT] s t) ∧
  (∀ (s : State) (m : Master) (data : Word),
    s.Accepts m R.CMP_CAPCTRL data →
    bitAt data.toNat 1 = true →
    s.rd F.CMP_CAPSTAT_STATE = 1 ∨ s.rd F.CMP_CAPSTAT_STATE = 2 →
    ∃ t : State, exec (.captureAbort m data) s = .next t ∧
      t.rd F.CMP_CAPSTAT_STATE = 6 ∧ t.comp.capFrame = none ∧ (∀ a, a < s.comp.capAddr ∨ s.comp.capAddr + 4194304 ≤ a →
        t.byte a = s.byte a) ∧
      ∀ a, a ≠ R.CMP_CAPSTAT → t.reg a = s.reg a) ∧
  (∀ (s : State) (m : Master) (data : Word),
    s.Accepts m R.CMP_CAPCTRL data →
    bitAt data.toNat 0 = false →
    bitAt data.toNat 1 = true →
    s.rd F.CMP_CAPSTAT_STATE ≠ 1 →
    s.rd F.CMP_CAPSTAT_STATE ≠ 2 →
    ∃ t : State, exec (.captureAbort m data) s = .next t ∧
      t = s) ∧
  (∀ (s : State) (m : Nat),
    s.on .cmp = true →
    s.rd F.CMP_CAPSTAT_STATE = 2 →
    s.comp.capFrame = some m →
    ∃ t : State, exec (.captureComplete) s = .next t ∧
      t.rd F.CMP_CAPSTAT_STATE = 3 ∧ t.comp.capFrame = none ∧ (∀ j, j < 4194304 →
        t.byte (s.comp.capAddr + j) = s.byte (composedAddr m 0 + j)) ∧
      (∀ a, a < s.comp.capAddr ∨ s.comp.capAddr + 4194304 ≤ a → t.byte a = s.byte a) ∧ ∀ a, a ≠ R.CMP_CAPSTAT →
        t.reg a = s.reg a)

/-- The glare mask engine: tables, snapshots, renders (R195, R199, R212, R213, R215, R217, R222). Where these rules leave a
  point open the clauses hold for the model as notes/assumptions/6.md, notes/assumptions/24.md, notes/assumptions/27.md state
  it. -/
def Obligations.GlareMaskRenders : Prop :=
  (∀ (s : State) (l : ObjList),
    s.on .gme = true →
    s.gme.handed = some l →
    ∃ t : State, exec (.objectTableBuild) s = .next t ∧
      t.gme.handed = none ∧ (t.gme.table.map fun (x : ObjTable) => (x.usable, x.seq)) = some (s.now, l.seq) ∧
      (t.gme.table.map fun (x : ObjTable) => x.tracks.take l.objs.length) = some (l.objs.map fun (o : ObjRec) => ({ rec_ := o }
        : Track)) ∧
      t.rd F.GME_CNT0_UNUSED = (s.rd F.GME_CNT0_UNUSED + (if s.gme.table.any (fun (x : ObjTable) => !x.snapped) = true then 1
        else 0)) % 65536 ∧ OnlyBlocks [6, 7, 8, 9] s t) ∧
  (∀ (s : State) (k ref : Nat),
    s.on .gme = true →
    s.cf.snap = some (k, ref) →
    s.bandStart ref k ≤ s.now + 138000 →
    ∃ t : State, exec (.gmeSnapshot) s = .next t ∧
      t.cf.snap = some (s.bandAfter ref k) ∧
        (t.gme.renders.map fun (r : Render) => (r.band, r.ref)) = (s.gme.renders.map fun (r : Render) => (r.band, r.ref)) ++
        [(k, ref)] ∧
      ((t.gme.renders.getLast?).map fun (r : Render) => r.snapAt) = some s.now ∧
        OnlyBlocks (6 :: 7 :: 8 :: 9 :: faultBlocks) s t) ∧
  (∀ (s : State) (k ref : Nat),
    s.on .gme = false →
    s.cf.snap = some (k, ref) →
    s.bandStart ref k ≤ s.now + 138000 →
    ∃ t : State, exec (.gmeSnapshot) s = .next t ∧
      t.cf.snap = some (s.bandAfter ref k) ∧ t.gme = s.gme ∧ OnlyRegs [] s t) ∧
  (∀ (s : State) (k ref : Nat),
    s.on .gme = true →
    s.on .safe = true →
    s.cf.snap = some (k, ref) →
    s.bandStart ref k ≤ s.now + 138000 →
    s.lv (s.viewOf ref k).armed F.GME_CTRL_EN = 1 →
    s.bistBad 7 = false →
    s.gme.glare = .shown →
    (s.listAge (s.viewOf ref k).tk).all (fun (x : Int) => decide (200000000 < x)) = true →
    ∃ t : State, exec (.gmeSnapshot) s = .next t ∧
      t.gme.glare = Glare.withdrawing s.boundaryMet ∧ s.Took t Src.GLARE_STALE) ∧
  (∀ (s : State) (d : Bool) (ecc : GmeEcc) (i : Nat),
    s.on .gme = true →
    s.gme.renders.findIdx? (fun (r : Render) => !r.done) = some i →
    ∃ t : State, exec (.gmeRenderComplete d ecc) s = .next t ∧
      t.gme.renders = s.gme.renders.modify i (fun (r : Render) =>
        { r with done := true, bad := ecc == GmeEcc.uncorrectable, crc := some (Config.maskCrc r.buffer) }) ∧
      (ecc = GmeEcc.uncorrectable → s.on .safe = true → s.Took t Src.GME_MEM) ∧ OnlyBlocks (9 :: faultBlocks) s t)

/-- Scan-out: latches, fills, row slots, blanking, clamp tables (R199, R213, R223, R225, R230, R233, R235, R239, R240, R242,
  R243). Where these rules leave a point open the clauses hold for the model as notes/assumptions/17.md,
  notes/assumptions/28.md, notes/assumptions/49.md state it. -/
def Obligations.ScanOutStages : Prop :=
  (∀ (s : State) (k ref : Nat) (r : Bool) (x : RowInput),
    s.on .scn = true →
    s.cf.latch = some (k, ref) →
    s.bandStart ref k ≤ s.now + 6000 →
    ∃ t : State, exec (.maskLatch r x) s = .next t ∧
      t.cf.latch = some (s.bandAfter ref k) ∧
      t.rdS F.SCN_LEVSTAT_APPLIED = (if s.rd F.SCN_LEVCFG_SLEW = 0 then (clampInt (s.rdS F.SCN_LEVLIM_MIN) (s.rdS
        F.SCN_LEVLIM_MAX) (if s.flag F.SCN_LEVCFG_SRC = true then ((s.scn.pitch.find? fun (p : Int × Nat) => decide (p.2 <
        s.now)).map Prod.fst).getD 0 else s.rdS F.SCN_LEVFIX_SHIFT)) else
        clampInt (s.rdS F.SCN_LEVSTAT_APPLIED - (s.rd F.SCN_LEVCFG_SLEW : Int)) (s.rdS F.SCN_LEVSTAT_APPLIED + (s.rd
          F.SCN_LEVCFG_SLEW : Int)) (clampInt (s.rdS F.SCN_LEVLIM_MIN) (s.rdS F.SCN_LEVLIM_MAX) (if s.flag F.SCN_LEVCFG_SRC =
          true then ((s.scn.pitch.find? fun (p : Int × Nat) => decide (p.2 < s.now)).map Prod.fst).getD 0 else s.rdS
          F.SCN_LEVFIX_SHIFT))) ∧
      (s.scn.rows = true → s.cf.hold.isSome = false → r = false →
        t.rd F.SCN_UNDCNT_MAPLATE = (s.rd F.SCN_UNDCNT_MAPLATE + 1) % 256 ∧ (s.on .safe = true → s.Took t Src.SCN_MAPLATE)) ∧
      OnlyBlocks (9 :: 10 :: faultBlocks) s t) ∧
  (∀ (s : State) (k ref : Nat) (r : Bool) (x : RowInput),
    s.on .scn = true →
    s.cf.latch = some (k, ref) →
    s.bandStart ref k ≤ s.now + 6000 →
    s.scn.rows = false ∨ s.cf.hold.isSome = true →
    ∃ t : State, exec (.maskLatch r x) s = .next t ∧
      t.scn.held = some (r, x) ∧ t.scn.row = s.scn.row ∧ t.scn.light = s.scn.light) ∧
  (∀ (s : State) (k ref : Nat) (r : Bool) (x : RowInput) (tiles : List TileMaps),
    s.on .scn = true →
    s.cf.latch = some (k, ref) →
    s.bandStart ref k ≤ s.now + 6000 →
    s.scn.staged.lookup k = some tiles →
    tiles.length = 4 →
    ∃ t : State, exec (.maskLatch r x) s = .next t ∧
      (∀ p, p < 4 → t.scn.bandMaps[p]? = tiles[p]?.map fun (m : TileMaps) => if (r && !s.mapsOff p k m && !m.gain.isEmpty) =
        true then some m else none) ∧
      t.scn.bandCtrl = if k = 0 then s.regN R.SCN_CTRL % 8 else s.scn.ctrl) ∧
  (∀ (s : State) (k ref : Nat) (r : Bool) (x : RowInput) (y : Render),
    s.on .scn = true →
    s.cf.latch = some (k, ref) →
    s.bandStart ref k ≤ s.now + 6000 →
    s.on .gme = true →
    s.lv (s.armedFor (s.frameAt ref)) F.GME_CTRL_EN = 1 →
    s.bistBad 7 = false →
    s.gme.renders.find? (fun (z : Render) => z.band = k && z.ref = ref) = some y →
    y.unity = false →
    y.done = true →
    y.bad = false →
    ∃ t : State, exec (.maskLatch r x) s = .next t ∧
      t.gme.mask = Mask.drawn y.shadows ∧ (y.handed ≠ 0 → t.rd F.GME_LISTSEQ_SEQ = y.seq % 65536)) ∧
  (∀ (s : State) (k ref : Nat) (r : Bool) (x : RowInput),
    s.on .scn = true →
    s.cf.latch = some (k, ref) →
    s.bandStart ref k ≤ s.now + 6000 →
    s.on .gme = true →
    s.lv (s.armedFor (s.frameAt ref)) F.GME_CTRL_EN = 1 →
    s.bistBad 7 = false →
    s.gme.renders.find? (fun (z : Render) => z.band = k && z.ref = ref) = none →
    ∃ t : State, exec (.maskLatch r x) s = .next t ∧
      t.gme.mask = Mask.level (s.lv (s.armedFor (s.frameAt ref)) F.GME_CTRL_OVR_LEVEL) ∧
        t.rd F.GME_FAULT_OVERRUN = min (s.rd F.GME_FAULT_OVERRUN + 1) 255 ∧ (s.on .safe = true → s.Took t Src.GME_OVERRUN)) ∧
  (∀ (s : State) (m c : Nat),
    s.on .scn = true →
    s.on .mem = true →
    s.scn.copies.length = 2 →
    s.fillNext = some (m, c) →
    ∃ t : State, exec (.scanFillBandComplete) s = .next t ∧
      (∀ i, i < 32 → ∀ x, x < 2048 →
        t.scanCode (m % 2) x (32 * c + i) = storeCode (s.frameTm m) (s.num (composedAddr m (32 * c + i) + 2 * x) 2) % 4096) ∧
      ((t.copyOf m).map fun (q : CopySt) => q.filled.contains c && !q.refill.contains c) = some true ∧
      (∀ a, a < 0x20000000 ∨ 0x20600000 ≤ a → t.byte a = s.byte a) ∧ ∀ a, a ≠ R.SCN_STAT → t.reg a = s.reg a) ∧
  (∀ (s : State) (k r : Nat) (x : RowInput) (bad : List GleanSeen),
    s.on .scn = true →
    s.cf.row = some (k, r) →
    s.bandStart s.cf.refStart k + r * rowPitch s.tm ≤ s.now →
    ∃ t : State, exec (.rowSlotStart x bad) s = .next t ∧
      t.cf.row = (if r < 31 then some (k, r + 1) else none) ∧ (s.scn.rows = false → t.scn = s.scn ∧ OnlyRegs [] s t) ∧
      (s.scn.rows = true → ((s.scn.row.map fun (q : Nat × Nat × List (List Nat)) => (q.1, q.2.1)) = some (k, r) → ∀ p, p < 4 →
        s.carries p = true →
          t.rd (F.LNK_ROWCNT_ROWS p) = (s.rd (F.LNK_ROWCNT_ROWS p) + 1) % 2 ^ 32) ∧
        (s.flag F.SCN_TASSEL_EN = true → s.rd F.SCN_TASSEL_LINE % 512 = 32 * k + r → s.flag F.SCN_TASSEL_FIRST = false →
          t.flag F.SCN_EVSTAT_LINE_MATCH = true ∧ t.regN R.SCN_TASSELTIME = s.localTime % 2 ^ 32)) ∧
            OnlyBlocks (10 :: 11 :: faultBlocks) s t) ∧
  (∀ (s : State),
    s.on .scn = true →
    s.cf.blank = true →
    s.blankTime ≤ s.now →
    ∃ t : State, exec (.blankStart) s = .next t ∧
      t.cf.blank = false ∧ t.flag F.SCN_EVSTAT_BLANK_START = true ∧
      (∀ p, p < 4 → t.regN (R.SCN_LIGHT_LO p) = (if bitAt s.scn.sent p = true then (s.scn.light.getD p (0, 0)).1 % 2 ^ 32 else
        0) ∧ t.flag (F.SCN_LIGHT_HI_NOROWS p) = !bitAt s.scn.sent p) ∧
      (∀ m, m = s.cf.cur.getD 0 → s.cf.cur.isSome = true → s.cf.refresh + 1 = refreshesOf s.tm →
        t.flag F.SCN_EVSTAT_FRAME_DONE = true ∧ t.scn.fillUpTo = max s.scn.fillUpTo (m + 2)) ∧
      OnlyBlocks [10] s t) ∧
  (∀ (s : State) (q : ClampTable) (rest : List ClampTable) (e : Option ClampTable),
    s.on .scn = true →
    s.saf.clampOut = q :: rest →
    crc16 (e.getD q).words = (e.getD q).check →
    ∃ t : State, exec (.clampTableReceive e) s = .next t ∧
      t.saf.clampOut = rest ∧ t.scn.tables = (e.getD q, s.now) :: s.scn.tables ∧ OnlyRegs [] s t) ∧
  (∀ (s : State) (q : ClampTable) (rest : List ClampTable) (e : Option ClampTable),
    s.on .scn = true →
    s.on .safe = true →
    s.saf.clampOut = q :: rest →
    crc16 (e.getD q).words ≠ (e.getD q).check →
    ∃ t : State, exec (.clampTableReceive e) s = .next t ∧
      t.saf.clampOut = rest ∧ t.scn.tables = s.scn.tables ∧
        t.rd F.SCN_CLAMPSTAT_DISCARDED = (s.rd F.SCN_CLAMPSTAT_DISCARDED + 1) % 256 ∧ s.Took t Src.SCN_CLAMP ∧
        OnlyBlocks (10 :: faultBlocks) s t)

/-- Training of a tile port, state by state (R265, R266, R267, R270). Where these rules leave a point open the clauses hold for
  the model as notes/assumptions/29.md, notes/assumptions/53.md state it. -/
def Obligations.PortsTrain : Prop :=
  (∀ (s : State) (p : Nat),
    p < 4 →
    s.on (portDom p) = true →
    s.mayTrain p = true →
    s.flag (F.LNK_CTRL_EN p) = true →
    s.link.length = 4 →
    ∃ t : State, exec (.linkTrainStart p) s = .next t ∧
      t.rd (F.LNK_STATE_STATE p) = 1 ∧ t.rd (F.LNK_STATE_LANEMAP p) = 0 ∧
        t.rd (F.LNK_STATE_TRAINCNT p) = min (s.rd (F.LNK_STATE_TRAINCNT p) + 1) 255 ∧ (t.port p).trainedAt = some s.now ∧
        OnlyRegs [R.LNK_STATE p, R.LNK_GLSTAT p, R.LNK_CTRL p] s t) ∧
  (∀ (s : State) (p : Nat),
    p < 4 →
    s.on (portDom p) = true →
    s.rd (F.LNK_STATE_STATE p) = 1 →
    ∃ t : State, exec (.uplinkSignalDetect p) s = .next t ∧
      t.rd (F.LNK_STATE_STATE p) = 2 ∧ OnlyRegs [R.LNK_STATE p] s t) ∧
  (∀ (s : State) (p : Nat) (line : List LineBlock),
    p < 4 →
    s.on (portDom p) = true →
    s.link.length = 4 →
    s.rd (F.LNK_STATE_STATE p) = 2 →
    commaLocked (s.upBlocks p line) = true →
    ∃ t : State, exec (.uplinkBlockLock p line) s = .next t ∧
      t.rd (F.LNK_STATE_STATE p) = 3 ∧
        t.rd (F.LNK_UPCNT_HDRERR p) = (s.rd (F.LNK_UPCNT_HDRERR p) + headerErrors (s.upBlocks p line)) % 65536 ∧
        (t.port p).upLocked = true ∧ OnlyRegs [R.LNK_STATE p, R.LNK_UPCNT p] s t) ∧
  (∀ (s : State) (p : Nat) (line : List LineBlock),
    p < 4 →
    s.on (portDom p) = true →
    commaLocked (s.upBlocks p line) = false →
    ∃ t : State, exec (.uplinkBlockLock p line) s = .next t ∧
      t.rd (F.LNK_STATE_STATE p) = s.rd (F.LNK_STATE_STATE p) ∧
        t.rd (F.LNK_UPCNT_HDRERR p) = (s.rd (F.LNK_UPCNT_HDRERR p) + headerErrors (s.upBlocks p line)) % 65536 ∧
        (t.port p).upLocked = (s.port p).upLocked ∧ OnlyRegs [R.LNK_UPCNT p] s t) ∧
  (∀ (s : State) (p : Nat) (line : List LineBlock) (b : TrainBlock),
    p < 4 →
    s.on (portDom p) = true →
    s.held (portPads p) = false →
    s.rd (F.LNK_STATE_STATE p) = 3 →
    s.link.length = 4 →
    upTrains (s.upBlocks p line) = [b] →
    b.dn0 = true ∨ bitAt (s.port p).locked 0 = true →
    (s.port p).bonded = false ∨ b.dn1 = true ∨ bitAt (s.port p).locked 1 = true →
    ∃ t : State, exec (.uplinkTrainReceive p line) s = .next t ∧
      t.rd (F.LNK_STATE_STATE p) = (if (s.port p).bonded = true then 4 else 5) ∧
        t.sent = (if (s.port p).bonded = true then s.sent else Sent.tileCmd p 2 0 0 [] :: s.sent) ∧
        t.rd (F.LNK_UPCNT_HDRERR p) = (s.rd (F.LNK_UPCNT_HDRERR p) + headerErrors (s.upBlocks p line)) % 65536 ∧
        OnlyRegs [R.LNK_STATE p, R.LNK_UPCNT p] s t) ∧
  (∀ (s : State) (p : Nat) (line : List LineBlock) (b : TrainBlock),
    p < 4 →
    s.on (portDom p) = true →
    s.held (portPads p) = false →
    s.link.length = 4 →
    s.rd (F.LNK_STATE_STATE p) = 4 →
    upTrains (s.upBlocks p line) = [b] →
    b.deskewed = true →
    ∃ t : State, exec (.uplinkTrainReceive p line) s = .next t ∧
      t.rd (F.LNK_STATE_STATE p) = 5 ∧ t.sent = Sent.tileCmd p 2 0 0 [] :: s.sent ∧
        t.rd (F.LNK_UPCNT_HDRERR p) = (s.rd (F.LNK_UPCNT_HDRERR p) + headerErrors (s.upBlocks p line)) % 65536 ∧
        OnlyRegs [R.LNK_STATE p, R.LNK_UPCNT p] s t) ∧
  (∀ (s : State) (p : Nat) (line : List LineBlock) (b : TrainBlock),
    p < 4 →
    s.on (portDom p) = true →
    s.rd (F.LNK_STATE_STATE p) = 6 →
    upTrains (s.upBlocks p line) = [b] →
    b.accepted = true →
    s.link.length = 4 →
    ∃ t : State, exec (.uplinkTrainReceive p line) s = .next t ∧
      t.rd (F.LNK_STATE_STATE p) = 7 ∧ t.rd (F.LNK_STATE_LANEMAP p) = (if (s.port p).bonded = true then 3 else 1) ∧
        ((s.port p).wasLost = true → t.flag (F.LNK_EVENTS_RETURNED p) = true) ∧ (t.port p).wasLost = false ∧
        ((s.port p).bonded = false → s.tm = 3 → t.flag (F.LNK_STATE_WIDTH12 p) = true) ∧ ((s.port p).bonded = false → s.tm = 2 →
        t.cf.fallback = true) ∧
      t.rd (F.LNK_UPCNT_HDRERR p) = (s.rd (F.LNK_UPCNT_HDRERR p) + headerErrors (s.upBlocks p line)) % 65536 ∧
        OnlyRegs [R.LNK_STATE p, R.LNK_GLSTAT p, R.LNK_EVENTS p, R.LNK_UPCNT p] s t) ∧
  (∀ (s : State) (p : Nat),
    p < 4 →
    s.on (portDom p) = true →
    1 ≤ s.rd (F.LNK_STATE_STATE p) →
    s.rd (F.LNK_STATE_STATE p) ≤ 6 →
    s.since (s.port p).since (msec (trainLimit (s.rd (F.LNK_STATE_STATE p)))) = true →
    s.rd (F.LNK_STATE_STATE p) ≠ 3 ∨ (s.port p).bonded = false ∨ bitAt (s.port p).locked 0 = false →
    s.mode ≠ .prepare →
    ∃ t : State, exec (.trainStateTimeout p) s = .next t ∧
      t.rd (F.LNK_STATE_STATE p) = 9 ∧ t.rd (F.LNK_STATE_TRAINFAIL p) = s.rd (F.LNK_STATE_STATE p) ∧
        t.rd (F.LNK_STATE_LOSTCAUSE p) = 4 ∧ t.rd (F.LNK_STATE_LANEMAP p) = 0 ∧
        OnlyRegs [R.LNK_STATE p, R.LNK_GLSTAT p, R.LNK_CTRL p] s t) ∧
  (∀ (s : State) (p : Nat),
    p < 4 →
    s.on (portDom p) = true →
    1 ≤ s.rd (F.LNK_STATE_STATE p) →
    s.rd (F.LNK_STATE_STATE p) ≤ 6 →
    s.since (s.port p).since (msec (trainLimit (s.rd (F.LNK_STATE_STATE p)))) = true →
    s.rd (F.LNK_STATE_STATE p) ≠ 3 ∨ (s.port p).bonded = false ∨ bitAt (s.port p).locked 0 = false →
    s.mode = .prepare →
    s.flag (F.LNK_CTRL_EN p) = true →
    ∃ t : State, exec (.trainStateTimeout p) s = .next t ∧
      t.rd (F.LNK_STATE_STATE p) = (if (s.port p).retried = true then 11 else 1) ∧
        t.rd (F.LNK_STATE_TRAINFAIL p) = s.rd (F.LNK_STATE_STATE p) ∧ t.rd (F.LNK_STATE_LANEMAP p) = 0 ∧
        OnlyRegs [R.LNK_STATE p, R.LNK_GLSTAT p, R.LNK_CTRL p] s t) ∧
  (∀ (s : State) (p : Nat),
    p < 4 →
    s.on (portDom p) = true →
    s.rd (F.LNK_STATE_STATE p) = 3 →
    s.link.length = 4 →
    s.since (s.port p).since (msec 6) = true →
    (s.port p).bonded = true →
    bitAt (s.port p).locked 0 = true →
    s.on .safe = true →
    s.held (portPads p) = false →
    ∃ t : State, exec (.trainStateTimeout p) s = .next t ∧
      t.rd (F.LNK_STATE_STATE p) = 5 ∧ (t.port p).bonded = false ∧ s.Took t (Src.LANE_DEGRADE p) ∧
        t.sent.head? = some (Sent.tileCmd p 2 0 0 []) ∧ OnlyBlocks faultBlocks s t) ∧
  (∀ (s : State) (p : Nat) (line : List LineBlock) (r : UpRecord),
    p < 4 →
    s.on (portDom p) = true →
    s.rd (F.LNK_STATE_STATE p) = 5 →
    s.upRecord p ⟨line, false⟩ = some r →
    r.good = true →
    r.kind = 5 →
    s.identCause p r.ident = 0 →
    ∃ t : State, exec (.identRecord p false line) s = .next t ∧
      t.rd (F.LNK_STATE_STATE p) = 6 ∧ t.rd (F.LNK_IDPART_PART p) = r.ident.part % 65536 ∧
        t.regN (R.LNK_IDSER_LO p) = r.ident.serial % 2 ^ 32 ∧ t.regN (R.LNK_IDHUSK p) = r.ident.husk % 2 ^ 32 ∧
      OnlyRegs [R.LNK_STATE p, R.LNK_IDPART p, R.LNK_IDSER_LO p, R.LNK_IDSER_HI p, R.LNK_IDHUSK p, R.LNK_UPCNT p] s t) ∧
  (∀ (s : State) (p : Nat) (line : List LineBlock) (r : UpRecord),
    p < 4 →
    s.on (portDom p) = true →
    s.rd (F.LNK_STATE_STATE p) = 5 →
    s.upRecord p ⟨line, false⟩ = some r →
    r.good = true →
    r.kind = 5 →
    s.identCause p r.ident ≠ 0 →
    s.on .safe = true →
    ∃ t : State, exec (.identRecord p false line) s = .next t ∧
      t.rd (F.LNK_STATE_STATE p) = 10 ∧ t.rd (F.LNK_STATE_LOSTCAUSE p) = s.identCause p r.ident ∧
        t.flag (F.LNK_EVENTS_FOREIGN p) = true ∧ t.rd (F.LNK_STATE_LANEMAP p) = 0 ∧ s.Took t (Src.TILE_FOREIGN p) ∧
        OnlyBlocks faultBlocks s t)

/-- LNK_CTRL, loss of a port, loss of a lane (R265, R268, R269, R271, R272, R273, R274, R278). Where these rules leave a point
  open the clauses hold for the model as notes/assumptions/29.md, notes/assumptions/30.md, notes/assumptions/53.md state it. -/
def Obligations.PortsComeAndGo : Prop :=
  (∀ (s : State) (m : Master) (p : Nat) (data : Word),
    p < 4 →
    s.on (portDom p) = true →
    s.link.length = 4 →
    s.Accepts m (R.LNK_CTRL p) data →
    s.flag (F.LNK_CTRL_EN p) = false →
    bitAt data.toNat 0 = true →
    ∃ t : State, exec (.linkEnable m p data) s = .next t ∧
      t.rd (F.LNK_STATE_STATE p) = 1 ∧ t.rd (F.LNK_STATE_LANEMAP p) = 0 ∧ (t.port p).trainedAt = some s.now ∧
        OnlyRegs [R.LNK_STATE p, R.LNK_GLSTAT p, R.LNK_CTRL p] s t) ∧
  (∀ (s : State) (m : Master) (p : Nat) (data : Word),
    p < 4 →
    s.on (portDom p) = true →
    s.Accepts m (R.LNK_CTRL p) data →
    s.flag (F.LNK_CTRL_EN p) = true →
    bitAt data.toNat 0 = false →
    ∃ t : State, exec (.linkEnable m p data) s = .next t ∧
      t.rd (F.LNK_STATE_STATE p) = 0 ∧ t.rd (F.LNK_STATE_LANEMAP p) = 0 ∧ t.flag (F.LNK_CTRL_EN p) = false ∧
        OnlyRegs [R.LNK_STATE p, R.LNK_GLSTAT p, R.LNK_CTRL p] s t) ∧
  (∀ (s : State) (m : Master) (p : Nat) (data : Word),
    p < 4 →
    s.on (portDom p) = true →
    s.link.length = 4 →
    s.Accepts m (R.LNK_CTRL p) data →
    s.flag (F.LNK_CTRL_EN p) = true →
    bitAt data.toNat 0 = true →
    bitAt data.toNat 4 = false →
    ∃ t : State, exec (.lightSet m p data) s = .next t ∧
      (s.rd (F.LNK_STATE_STATE p) = 7 → bitAt data.toNat 3 = true → t.rd (F.LNK_STATE_STATE p) = 8 ∧ (t.port p).fresh = true ∧
        t.flag (F.LNK_CTRL_LIGHT p) = true) ∧
      (s.rd (F.LNK_STATE_STATE p) ≠ 7 → s.rd (F.LNK_STATE_STATE p) ≠ 8 → t.flag (F.LNK_CTRL_LIGHT p) = false ∧
        t.rd (F.LNK_STATE_STATE p) = s.rd (F.LNK_STATE_STATE p)) ∧ OnlyRegs [R.LNK_STATE p, R.LNK_GLSTAT p, R.LNK_CTRL p] s t) ∧
  (∀ (s : State) (m : Master) (p : Nat) (data : Word),
    p < 4 →
    s.on (portDom p) = true →
    s.link.length = 4 →
    s.Accepts m (R.LNK_CTRL p) data →
    s.flag (F.LNK_CTRL_EN p) = true →
    bitAt data.toNat 0 = true →
    bitAt data.toNat 4 = true →
    s.mode = .standby ∨ s.rd (F.LNK_STATE_STATE p) = 9 →
    ∃ t : State, exec (.retrain m p data) s = .next t ∧
      t.rd (F.LNK_STATE_STATE p) = 1 ∧ t.rd (F.LNK_STATE_LANEMAP p) = 0 ∧ (t.port p).trainedAt = some s.now ∧
        OnlyRegs [R.LNK_STATE p, R.LNK_GLSTAT p, R.LNK_CTRL p] s t) ∧
  (∀ (s : State) (p : Nat),
    p < 4 →
    s.on (portDom p) = true →
    s.link.length = 4 →
    s.flag (F.LNK_CTRL_EN p) = true →
    s.rd (F.LNK_STATE_STATE p) = 9 →
    s.rd (F.LNK_CTRL_RETRY_MS p) ≠ 0 →
    s.since (s.port p).since (msec (s.rd (F.LNK_CTRL_RETRY_MS p))) = true →
    ∃ t : State, exec (.lostRetry p) s = .next t ∧
      t.rd (F.LNK_STATE_STATE p) = 1 ∧ t.rd (F.LNK_STATE_LANEMAP p) = 0 ∧ (t.port p).wasLost = true ∧
        OnlyRegs [R.LNK_STATE p, R.LNK_GLSTAT p, R.LNK_CTRL p] s t) ∧
  (∀ (s : State) (p : Nat) (line : List LineBlock) (a : Nat),
    p < 4 →
    s.on (portDom p) = true →
    s.portUp p = true →
    s.on .safe = true →
    s.mode ≠ .prepare →
    (s.port p).upLocked = false →
    (s.port p).upLostAt = some a →
    a + msec 1 ≤ s.now →
    ∃ t : State, exec (.uplinkLockLoss p line) s = .next t ∧
      t.rd (F.LNK_STATE_STATE p) = 9 ∧ t.rd (F.LNK_STATE_LOSTCAUSE p) = 1 ∧ t.rd (F.LNK_STATE_LANEMAP p) = 0 ∧
        t.flag (F.LNK_EVENTS_LOST p) = true ∧ s.Took t (Src.TILE_LOST p) ∧ OnlyBlocks faultBlocks s t) ∧
  (∀ (s : State) (p : Nat) (line : List LineBlock),
    p < 4 →
    s.on (portDom p) = true →
    s.link.length = 4 →
    (s.port p).upLocked = true →
    lockLost ((s.upBlocks p line).map Option.isNone) = true →
    ∃ t : State, exec (.uplinkLockLoss p line) s = .next t ∧
      t.rd (F.LNK_STATE_STATE p) = s.rd (F.LNK_STATE_STATE p) ∧ (t.port p).upLocked = false ∧ (t.port p).upLostAt = some s.now ∧
        t.rd (F.LNK_UPCNT_HDRERR p) = (s.rd (F.LNK_UPCNT_HDRERR p) + headerErrors (s.upBlocks p line)) % 65536 ∧
        OnlyRegs [R.LNK_UPCNT p] s t) ∧
  (∀ (s : State) (p : Nat) (before record after : List LineBlock) (r : UpRecord),
    p < 4 →
    s.portUp p = true →
    s.on .safe = true →
    s.on (portDom p) = true →
    s.mode ≠ .prepare →
    s.upRecord p ⟨before ++ record ++ after, false⟩ = some r →
    r.good = true →
    r.kind = 6 →
    bitAt r.info 0 = true →
    bitAt r.info 1 = true →
    bitAt r.info 2 = false →
    s.rd (F.LNK_STATE_LANEMAP p) ≠ 0 →
    ∃ t : State, exec (.alertRecord p false before record after) s = .next t ∧
      t.rd (F.LNK_STATE_STATE p) = 9 ∧ t.rd (F.LNK_STATE_LOSTCAUSE p) = 3 ∧ t.rd (F.LNK_STATE_LANEMAP p) = 0 ∧
        s.Took t (Src.TILE_LOST p) ∧ OnlyBlocks faultBlocks s t) ∧
  (∀ (s : State) (p l : Nat) (before record after : List LineBlock) (r : UpRecord),
    p < 4 →
    s.on (portDom p) = true →
    l < 2 →
    s.portUp p = true →
    s.on .safe = true →
    s.rd (F.LNK_STATE_LANEMAP p) = 3 →
    s.link.length = 4 →
    s.upRecord p ⟨before ++ record ++ after, false⟩ = some r →
    r.good = true →
    r.kind = 6 →
    r.info = 2 ^ l →
    ∃ t : State, exec (.alertRecord p false before record after) s = .next t ∧
      t.rd (F.LNK_STATE_STATE p) = s.rd (F.LNK_STATE_STATE p) ∧ t.rd (F.LNK_STATE_LANEMAP p) = 3 - 2 ^ l ∧
        t.flag (F.LNK_EVENTS_LANE_DEGRADED p) = true ∧ (s.tm = 3 → t.flag (F.LNK_STATE_WIDTH12 p) = true) ∧ (s.tm = 2 →
        t.cf.fallback = true) ∧
      s.Took t (Src.LANE_DEGRADE p) ∧ OnlyBlocks faultBlocks s t) ∧
  (∀ (s : State) (p : Nat) (before record after : List LineBlock) (r : UpRecord),
    p < 4 →
    s.on (portDom p) = true →
    s.mode = .run →
    s.thm.stop = none →
    s.pwr.beamEnding = false →
    s.on .safe = true →
    s.upRecord p ⟨before ++ record ++ after, false⟩ = some r →
    r.good = true →
    r.kind = 6 →
    r.info = 4 →
    ∃ t : State, exec (.alertRecord p false before record after) s = .next t ∧
      t.flag (F.LNK_EVENTS_OVERTEMP p) = true ∧ s.Took t Src.THERM_STOP ∧ OnlyBlocks (4 :: faultBlocks) s t) ∧
  (∀ (s : State) (p l : Nat) (h0 h1 : List Nat),
    p < 4 →
    l < 2 →
    s.portUp p = true →
    s.on .safe = true →
    s.rd (F.LNK_STATE_LANEMAP p) = 3 →
    lockLost (h0.map badHeader) = (l == 0) →
    lockLost (h1.map badHeader) = (l == 1) →
    ∃ t : State, exec (.gleanLockLoss p (h0, h1)) s = .next t ∧
      t.rd (F.LNK_STATE_LANEMAP p) = 3 - 2 ^ l ∧ t.flag (F.LNK_EVENTS_LANE_DEGRADED p) = true ∧ s.Took t (Src.LANE_DEGRADE p) ∧
        OnlyBlocks faultBlocks s t) ∧
  (∀ (s : State) (p l : Nat) (h0 h1 : List Nat),
    p < 4 →
    l < 2 →
    s.portUp p = true →
    s.on .safe = true →
    s.rd (F.LNK_STATE_LANEMAP p) = 2 ^ l →
    s.link.length = 4 →
    lockLost ((if l = 0 then h0 else h1).map badHeader) = true →
    ∃ t : State, exec (.gleanLockLoss p (h0, h1)) s = .next t ∧
      t.rd (F.LNK_STATE_LANEMAP p) = 2 ^ l ∧ t.rd (F.LNK_STATE_STATE p) = s.rd (F.LNK_STATE_STATE p) ∧ (t.port p).muted = true ∧
        t.flag (if l = 0 then F.LNK_GLSTAT_LOCK0 p else F.LNK_GLSTAT_LOCK1 p) = false ∧ s.Took t (Src.GLEAN_LOCK p) ∧
        OnlyBlocks faultBlocks s t) ∧
  (∀ (s : State) (p : Nat) (h0 h1 : List Nat),
    p < 4 →
    s.portUp p = true →
    s.on .safe = true →
    s.rd (F.LNK_STATE_LANEMAP p) = 3 →
    s.link.length = 4 →
    lockLost (h0.map badHeader) = true →
    lockLost (h1.map badHeader) = true →
    ∃ t : State, exec (.gleanLockLoss p (h0, h1)) s = .next t ∧
      t.rd (F.LNK_STATE_LANEMAP p) = 3 ∧ t.rd (F.LNK_STATE_STATE p) = s.rd (F.LNK_STATE_STATE p) ∧ (t.port p).muted = true ∧
        t.flag (F.LNK_GLSTAT_LOCK0 p) = false ∧ t.flag (F.LNK_GLSTAT_LOCK1 p) = false ∧ s.Took t (Src.GLEAN_LOCK p) ∧
        OnlyBlocks faultBlocks s t) ∧
  (∀ (s : State) (p : Nat),
    p < 4 →
    s.on (portDom p) = true →
    s.link.length = 4 →
    s.on .safe = true →
    s.mode ≠ .prepare →
    ∃ t : State, exec (.echoDeadline p) s = .next t ∧
      let late := (s.port p).echoes.filter fun (e : EchoDue) => e.got.isNone && (match e.due with | some u => decide (u ≤ s.now) | none => false);
      t.rd (F.LNK_ECHOCNT_MISSING p) = (s.rd (F.LNK_ECHOCNT_MISSING p) + sumNat (late.map fun (e : EchoDue) => e.rows.length)) %
        65536 ∧
      (late = [] → t = s) ∧ (late ≠ [] → s.portUp p = true →
        (late.foldl (fun (l : LinkSt) (e : EchoDue) => l.settle e.band e.refresh false) (s.port p)).silent = true →
        t.rd (F.LNK_STATE_STATE p) = 9 ∧ t.rd (F.LNK_STATE_LOSTCAUSE p) = 2 ∧ s.Took t (Src.TILE_LOST p)) ∧
          OnlyBlocks faultBlocks s t)

/-- Commands to a tile, their answers and refusals (R258, R259, R260, R261). Where these rules leave a point open the clauses
  hold for the model as notes/assumptions/6.md, notes/assumptions/29.md, notes/assumptions/49.md, notes/assumptions/53.md state
  it. -/
def Obligations.TileCommands : Prop :=
  (∀ (s : State) (m : Master) (p : Nat) (data : Word),
    p < 4 →
    s.held (portPads p) = false →
    s.link.length = 4 →
    s.Accepts m (R.LNK_CMD p) data →
    bitAt data.toNat 16 = true →
    s.flag (F.LNK_CMD_BUSY p) = false →
    bitsOf data.toNat 7 0 = 0x01 →
    s.acceptsCmd p 0x01 = true →
    ∃ t : State, exec (.ping m p data) s = .next t ∧
      t.sent = Sent.tileCmd p 0x01 (bitsOf data.toNat 15 8) (s.regN (R.LNK_CMDARG p)) [] :: s.sent ∧
        t.flag (F.LNK_CMD_BUSY p) = true ∧
        (t.port p).cmd = some (⟨0x01, (bitsOf data.toNat 15 8), s.regN (R.LNK_CMDARG p), (s.rowEnd p).getD s.now⟩ : LinkCmd) ∧
      (t.port p).tx = ((s.sendBlocks p (cmdBlocks 0x01 (bitsOf data.toNat 15 8) (s.regN (R.LNK_CMDARG p)) [])).port p).tx ∧
      OnlyRegs [R.LNK_CMD p] s t) ∧
  (∀ (s : State) (m : Master) (p : Nat) (data : Word),
    p < 4 →
    s.held (portPads p) = false →
    s.link.length = 4 →
    s.Accepts m (R.LNK_CMD p) data →
    bitAt data.toNat 16 = true →
    s.flag (F.LNK_CMD_BUSY p) = false →
    bitsOf data.toNat 7 0 = 0x02 →
    s.acceptsCmd p 0x02 = true →
    ∃ t : State, exec (.ident m p data) s = .next t ∧
      t.sent = Sent.tileCmd p 0x02 (bitsOf data.toNat 15 8) (s.regN (R.LNK_CMDARG p)) [] :: s.sent ∧
        t.flag (F.LNK_CMD_BUSY p) = true ∧
        (t.port p).cmd = some (⟨0x02, (bitsOf data.toNat 15 8), s.regN (R.LNK_CMDARG p), (s.rowEnd p).getD s.now⟩ : LinkCmd) ∧
      (t.port p).tx = ((s.sendBlocks p (cmdBlocks 0x02 (bitsOf data.toNat 15 8) (s.regN (R.LNK_CMDARG p)) [])).port p).tx ∧
      OnlyRegs [R.LNK_CMD p] s t) ∧
  (∀ (s : State) (m : Master) (p : Nat) (data : Word),
    p < 4 →
    s.held (portPads p) = false →
    s.link.length = 4 →
    s.Accepts m (R.LNK_CMD p) data →
    bitAt data.toNat 16 = true →
    s.flag (F.LNK_CMD_BUSY p) = false →
    bitsOf data.toNat 7 0 = 0x10 →
    s.acceptsCmd p 0x10 = true →
    ∃ t : State, exec (.regWrite m p data) s = .next t ∧
      ((s.regN (R.LNK_CMDARG p) = Config.trimCommand → s.trimAllowed p = true ∧ s.sampling p = false) →
      t.sent = Sent.tileCmd p 0x10 (bitsOf data.toNat 15 8) (s.regN (R.LNK_CMDARG p)) [] :: s.sent ∧
        t.flag (F.LNK_CMD_BUSY p) = true ∧
        (t.port p).cmd = some (⟨0x10, (bitsOf data.toNat 15 8), s.regN (R.LNK_CMDARG p), (s.rowEnd p).getD s.now⟩ : LinkCmd) ∧
      (t.port p).tx = ((s.sendBlocks p (cmdBlocks 0x10 (bitsOf data.toNat 15 8) (s.regN (R.LNK_CMDARG p)) [])).port p).tx ∧
      OnlyRegs [R.LNK_CMD p] s t) ∧
      (s.regN (R.LNK_CMDARG p) = Config.trimCommand → s.trimAllowed p = false → s.sampling p = false → t.sent = s.sent ∧
        t.rd (F.LNK_CMDRESP_STATUS p) = 14 ∧
      t.rd (F.LNK_CMDRESP_TAG p) = (bitsOf data.toNat 15 8) ∧ t.flag (F.LNK_CMD_BUSY p) = false ∧
        OnlyRegs [R.LNK_CMD p, R.LNK_CMDRESP p] s t)) ∧
  (∀ (s : State) (m : Master) (p : Nat) (data : Word),
    p < 4 →
    s.held (portPads p) = false →
    s.link.length = 4 →
    s.Accepts m (R.LNK_CMD p) data →
    bitAt data.toNat 16 = true →
    s.flag (F.LNK_CMD_BUSY p) = false →
    bitsOf data.toNat 7 0 = 0x11 →
    s.acceptsCmd p 0x11 = true →
    ∃ t : State, exec (.regRead m p data) s = .next t ∧
      t.sent = Sent.tileCmd p 0x11 (bitsOf data.toNat 15 8) (s.regN (R.LNK_CMDARG p)) [] :: s.sent ∧
        t.flag (F.LNK_CMD_BUSY p) = true ∧
        (t.port p).cmd = some (⟨0x11, (bitsOf data.toNat 15 8), s.regN (R.LNK_CMDARG p), (s.rowEnd p).getD s.now⟩ : LinkCmd) ∧
      (t.port p).tx = ((s.sendBlocks p (cmdBlocks 0x11 (bitsOf data.toNat 15 8) (s.regN (R.LNK_CMDARG p)) [])).port p).tx ∧
      OnlyRegs [R.LNK_CMD p] s t) ∧
  (∀ (s : State) (m : Master) (p : Nat) (data : Word),
    p < 4 →
    s.held (portPads p) = false →
    s.link.length = 4 →
    s.Accepts m (R.LNK_CMD p) data →
    bitAt data.toNat 16 = true →
    s.flag (F.LNK_CMD_BUSY p) = false →
    bitsOf data.toNat 7 0 = 0x30 →
    s.acceptsCmd p 0x30 = true →
    ∃ t : State, exec (.huskUnlock m p data) s = .next t ∧
      t.sent = Sent.tileCmd p 0x30 (bitsOf data.toNat 15 8) (s.regN (R.LNK_CMDARG p)) [] :: s.sent ∧
        t.flag (F.LNK_CMD_BUSY p) = true ∧
        (t.port p).cmd = some (⟨0x30, (bitsOf data.toNat 15 8), s.regN (R.LNK_CMDARG p), (s.rowEnd p).getD s.now⟩ : LinkCmd) ∧
      (t.port p).tx = ((s.sendBlocks p (cmdBlocks 0x30 (bitsOf data.toNat 15 8) (s.regN (R.LNK_CMDARG p)) [])).port p).tx ∧
      OnlyRegs [R.LNK_CMD p] s t) ∧
  (∀ (s : State) (m : Master) (p : Nat) (data : Word),
    p < 4 →
    s.held (portPads p) = false →
    s.link.length = 4 →
    s.Accepts m (R.LNK_CMD p) data →
    bitAt data.toNat 16 = true →
    s.flag (F.LNK_CMD_BUSY p) = false →
    bitsOf data.toNat 7 0 = 0x31 →
    s.acceptsCmd p 0x31 = true →
    ∃ t : State, exec (.huskCommit m p data) s = .next t ∧
      t.sent = Sent.tileCmd p 0x31 (bitsOf data.toNat 15 8) (s.regN (R.LNK_CMDARG p)) [] :: s.sent ∧
        t.flag (F.LNK_CMD_BUSY p) = true ∧
        (t.port p).cmd = some (⟨0x31, (bitsOf data.toNat 15 8), s.regN (R.LNK_CMDARG p), (s.rowEnd p).getD s.now⟩ : LinkCmd) ∧
      (t.port p).tx = ((s.sendBlocks p (cmdBlocks 0x31 (bitsOf data.toNat 15 8) (s.regN (R.LNK_CMDARG p)) [])).port p).tx ∧
      t.flag (F.LNK_HUSK_UNLOCKED p) = false ∧ OnlyRegs [R.LNK_CMD p, R.LNK_HUSK p] s t) ∧
  (∀ (s : State) (m : Master) (p : Nat) (data : Word),
    p < 4 →
    s.on (portDom p) = true →
    s.link.length = 4 →
    s.held (portPads p) = false →
    s.Accepts m (R.LNK_CMD p) data →
    bitAt data.toNat 16 = true →
    s.flag (F.LNK_CMD_BUSY p) = false →
    bitsOf data.toNat 7 0 = 0x40 →
    s.acceptsCmd p 0x40 = true →
    ∃ t : State, exec (.tileReset m p data) s = .next t ∧
      t.sent = Sent.tileCmd p 0x40 (bitsOf data.toNat 15 8) (s.regN (R.LNK_CMDARG p)) [] :: s.sent ∧
        t.rd (F.LNK_STATE_STATE p) = (if s.flag (F.LNK_CTRL_EN p) = true then 1 else s.rd (F.LNK_STATE_STATE p)) ∧
        t.flag (F.LNK_HUSK_UNLOCKED p) = false ∧ t.flag (F.LNK_CMD_BUSY p) = false ∧
      OnlyRegs [R.LNK_CMD p, R.LNK_HUSK p, R.LNK_STATE p, R.LNK_GLSTAT p, R.LNK_CTRL p] s t) ∧
  (∀ (s : State) (m : Master) (p : Nat) (data : Word),
    p < 4 →
    s.Accepts m (R.LNK_CMD p) data →
    bitAt data.toNat 16 = true →
    s.flag (F.LNK_CMD_BUSY p) = false →
    s.acceptsCmd p (bitsOf data.toNat 7 0) = false →
    ∃ t : State, exec (.ping m p data) s = .next t ∧
      t.sent = s.sent ∧ t.rd (F.LNK_CMDRESP_STATUS p) = 14 ∧ t.rd (F.LNK_CMDRESP_TAG p) = (bitsOf data.toNat 15 8) ∧
        t.flag (F.LNK_CMDRESP_VALID p) = true ∧ t.flag (F.LNK_CMD_BUSY p) = false ∧
      OnlyRegs [R.LNK_CMD p, R.LNK_CMDRESP p] s t) ∧
  (∀ (s : State) (m : Master) (p : Nat) (data : Word),
    p < 4 →
    s.Accepts m (R.LNK_CMD p) data →
    s.flag (F.LNK_CMD_BUSY p) = true →
    ∃ t : State, exec (.ping m p data) s = .next t ∧
      t.sent = s.sent ∧ t.link = s.link ∧ t.flag (F.LNK_CMD_BUSY p) = true ∧ OnlyRegs [R.LNK_CMD p] s t) ∧
  (∀ (s : State) (p : Nat) (before record after : List LineBlock) (r : UpRecord) (c : LinkCmd),
    p < 4 →
    s.on (portDom p) = true →
    s.link.length = 4 →
    (s.port p).cmd = some c →
    c.opcode ≠ 2 →
    c.tag = r.tag →
    s.upRecord p ⟨before ++ record ++ after, false⟩ = some r →
    r.good = true →
    r.kind = 4 →
    ∃ t : State, exec (.responseRecord p false before record after) s = .next t ∧
      (t.port p).cmd = none ∧ t.flag (F.LNK_CMD_BUSY p) = false ∧ t.rd (F.LNK_CMDRESP_TAG p) = r.tag ∧
        t.rd (F.LNK_CMDRESP_STATUS p) = r.status ∧ t.flag (F.LNK_CMDRESP_VALID p) = true ∧
      t.regN (R.LNK_CMDVAL p) = r.info % 2 ^ 32 ∧ (c.opcode = 0x30 → r.status = 0 → t.flag (F.LNK_HUSK_UNLOCKED p) = true) ∧
      (c.opcode = 0x31 → r.status = 0 → t.regN (R.LNK_EXPHUSK p) = c.arg % 2 ^ 32) ∧
        OnlyRegs [R.LNK_CMD p, R.LNK_CMDRESP p, R.LNK_CMDVAL p, R.LNK_HUSK p, R.LNK_EXPHUSK p, R.LNK_UPCNT p] s t) ∧
  (∀ (s : State) (p : Nat) (c : LinkCmd),
    p < 4 →
    s.link.length = 4 →
    (s.port p).cmd = some c →
    s.since c.since (usec 100) = true →
    ∃ t : State, exec (.commandTimeout p) s = .next t ∧
      (t.port p).cmd = none ∧ t.flag (F.LNK_CMD_BUSY p) = false ∧ t.rd (F.LNK_CMDRESP_STATUS p) = 15 ∧
        t.flag (F.LNK_CMDRESP_VALID p) = true ∧ OnlyRegs [R.LNK_CMD p, R.LNK_CMDRESP p] s t)

/-- Uplink records: echoes, status, drops, Glean records (R35, R261, R262, R263, R268, R277). Where these rules leave a point
  open the clauses hold for the model as notes/assumptions/53.md states it. -/
def Obligations.UplinkRecords : Prop :=
  (∀ (s : State) (p : Nat) (full : Bool) (line : List LineBlock) (r : UpRecord),
    p < 4 →
    s.on (portDom p) = true →
    s.upRecord p ⟨line, full⟩ = some r →
    r.good = false →
    ∃ t : State, exec (.identRecord p full line) s = .next t ∧
      t.rd (F.LNK_UPCNT_BADREC p) = (s.rd (F.LNK_UPCNT_BADREC p) + 1) % 256 ∧ t.link = (s.hearLine p line).link ∧
        OnlyRegs [R.LNK_UPCNT p] s t) ∧
  (∀ (s : State) (p : Nat) (line : List LineBlock) (r : UpRecord),
    p < 4 →
    s.on (portDom p) = true →
    s.on .safe = true →
    s.upRecord p ⟨line, true⟩ = some r →
    r.good = true →
    r.kind = 5 →
    ∃ t : State, exec (.identRecord p true line) s = .next t ∧
      t.rd (F.LNK_UPCNT_DROP p) = (s.rd (F.LNK_UPCNT_DROP p) + 1) % 256 ∧ t.link = (s.hearLine p line).link ∧
        s.Took t (Src.UPLINK_DROP p) ∧ OnlyBlocks faultBlocks s t) ∧
  (∀ (s : State) (p : Nat) (full : Bool) (line : List LineBlock) (r : UpRecord),
    p < 4 →
    s.on (portDom p) = true →
    s.upRecord p ⟨line, full⟩ = some r →
    r.good = false →
    ∃ t : State, exec (.rowechoRecord p full line) s = .next t ∧
      t.rd (F.LNK_UPCNT_BADREC p) = (s.rd (F.LNK_UPCNT_BADREC p) + 1) % 256 ∧ t.link = (s.hearLine p line).link ∧
        OnlyRegs [R.LNK_UPCNT p] s t) ∧
  (∀ (s : State) (p : Nat) (line : List LineBlock) (r : UpRecord),
    p < 4 →
    s.on (portDom p) = true →
    s.on .safe = true →
    s.upRecord p ⟨line, true⟩ = some r →
    r.good = true →
    r.kind = 1 →
    ∃ t : State, exec (.rowechoRecord p true line) s = .next t ∧
      t.rd (F.LNK_UPCNT_DROP p) = (s.rd (F.LNK_UPCNT_DROP p) + 1) % 256 ∧ t.link = (s.hearLine p line).link ∧
        s.Took t (Src.UPLINK_DROP p) ∧ OnlyBlocks faultBlocks s t) ∧
  (∀ (s : State) (p : Nat) (full : Bool) (line : List LineBlock) (r : UpRecord),
    p < 4 →
    s.on (portDom p) = true →
    s.upRecord p ⟨line, full⟩ = some r →
    r.good = false →
    ∃ t : State, exec (.statusRecord p full line) s = .next t ∧
      t.rd (F.LNK_UPCNT_BADREC p) = (s.rd (F.LNK_UPCNT_BADREC p) + 1) % 256 ∧ t.link = (s.hearLine p line).link ∧
        OnlyRegs [R.LNK_UPCNT p] s t) ∧
  (∀ (s : State) (p : Nat) (line : List LineBlock) (r : UpRecord),
    p < 4 →
    s.on (portDom p) = true →
    s.on .safe = true →
    s.upRecord p ⟨line, true⟩ = some r →
    r.good = true →
    r.kind = 2 →
    ∃ t : State, exec (.statusRecord p true line) s = .next t ∧
      t.rd (F.LNK_UPCNT_DROP p) = (s.rd (F.LNK_UPCNT_DROP p) + 1) % 256 ∧ t.link = (s.hearLine p line).link ∧
        s.Took t (Src.UPLINK_DROP p) ∧ OnlyBlocks faultBlocks s t) ∧
  (∀ (s : State) (p : Nat) (full : Bool) (before record after : List LineBlock) (r : UpRecord),
    p < 4 →
    s.on (portDom p) = true →
    s.upRecord p ⟨before ++ record ++ after, full⟩ = some r →
    r.good = false →
    ∃ t : State, exec (.responseRecord p full before record after) s = .next t ∧
      t.rd (F.LNK_UPCNT_BADREC p) = (s.rd (F.LNK_UPCNT_BADREC p) + 1) % 256 ∧
        t.link = (s.hearLine p (before ++ record ++ after)).link ∧ OnlyRegs [R.LNK_UPCNT p] s t) ∧
  (∀ (s : State) (p : Nat) (before record after : List LineBlock) (r : UpRecord),
    p < 4 →
    s.on (portDom p) = true →
    s.on .safe = true →
    s.upRecord p ⟨before ++ record ++ after, true⟩ = some r →
    r.good = true →
    r.kind = 4 →
    ∃ t : State, exec (.responseRecord p true before record after) s = .next t ∧
      t.rd (F.LNK_UPCNT_DROP p) = (s.rd (F.LNK_UPCNT_DROP p) + 1) % 256 ∧
        t.link = (s.hearLine p (before ++ record ++ after)).link ∧ s.Took t (Src.UPLINK_DROP p) ∧ OnlyBlocks faultBlocks s t) ∧
  (∀ (s : State) (p : Nat) (full : Bool) (before record after : List LineBlock) (r : UpRecord),
    p < 4 →
    s.on (portDom p) = true →
    s.upRecord p ⟨before ++ record ++ after, full⟩ = some r →
    r.good = false →
    ∃ t : State, exec (.alertRecord p full before record after) s = .next t ∧
      t.rd (F.LNK_UPCNT_BADREC p) = (s.rd (F.LNK_UPCNT_BADREC p) + 1) % 256 ∧
        t.link = (s.hearLine p (before ++ record ++ after)).link ∧ OnlyRegs [R.LNK_UPCNT p] s t) ∧
  (∀ (s : State) (p : Nat) (before record after : List LineBlock) (r : UpRecord),
    p < 4 →
    s.on (portDom p) = true →
    s.on .safe = true →
    s.upRecord p ⟨before ++ record ++ after, true⟩ = some r →
    r.good = true →
    r.kind = 6 →
    ∃ t : State, exec (.alertRecord p true before record after) s = .next t ∧
      t.rd (F.LNK_UPCNT_DROP p) = (s.rd (F.LNK_UPCNT_DROP p) + 1) % 256 ∧
        t.link = (s.hearLine p (before ++ record ++ after)).link ∧ s.Took t (Src.UPLINK_DROP p) ∧ OnlyBlocks faultBlocks s t) ∧
  (∀ (s : State) (p : Nat) (line : List LineBlock) (r : UpRecord) (e : EchoDue),
    p < 4 →
    s.on (portDom p) = true →
    s.on .safe = true →
    s.upRecord p ⟨line, false⟩ = some r →
    r.good = true →
    r.kind = 1 →
    (s.port p).echoFor r.echo = some e →
    ∃ t : State, exec (.rowechoRecord p false line) s = .next t ∧
      t.rd (F.LNK_ECHOCNT_MISMATCH p) = (s.rd (F.LNK_ECHOCNT_MISMATCH p) + e.mismatches r.echo) % 65536 ∧
      (((s.port p).tallyFor e.refresh).mism ≤ s.rd (F.LNK_CTRL_ECHO_LIM p) →
        s.rd (F.LNK_CTRL_ECHO_LIM p) < ((s.port p).tallyFor e.refresh).mism + e.mismatches r.echo →
        t.flag (F.LNK_EVENTS_ECHO_LIMIT p) = true ∧ s.Took t (Src.ROW_ECHO p)) ∧ OnlyBlocks faultBlocks s t) ∧
  (∀ (s : State) (p : Nat) (line : List LineBlock) (r : UpRecord),
    p < 4 →
    s.on (portDom p) = true →
    s.upRecord p ⟨line, false⟩ = some r →
    r.good = true →
    r.kind = 2 →
    ∃ t : State, exec (.statusRecord p false line) s = .next t ∧
      t.rdS (F.LNK_TILESTAT_TEMP p) = r.statusRec.temp ∧ t.rdS (F.THM_TILE_TEMP p) = r.statusRec.temp ∧
        t.rd (F.LNK_TILESTAT_VANODE p) = r.statusRec.vanode % 65536 ∧ t.flag (F.LNK_HUSK_SHOWN p) = r.statusRec.huskShown ∧
      t.rd (F.LNK_ERRCNT_DN0 p) = (s.rd (F.LNK_ERRCNT_DN0 p) + r.statusRec.err0) % 65536 ∧
        t.rd (F.LNK_ERRCNT_DN1 p) = (s.rd (F.LNK_ERRCNT_DN1 p) + r.statusRec.err1) % 65536 ∧
      t.flag (F.THM_TILE_VALID p) = true ∧ OnlyBlocks (4 :: faultBlocks) s t) ∧
  (∀ (s : State) (p : Nat) (r l x0 y0 x1 y1 : Nat),
    p < 4 →
    s.on (portDom p) = true →
    s.link.length = 4 →
    r < 32 →
    l < 2 →
    s.gleanRect p r = some (x0, y0, x1, y1) →
    s.gleanDue p r l y1 = true →
    ∃ t : State, exec (.gleanRecord p r l false) s = .next t ∧
      t.flag (F.LNK_GRES_M_VALID p r l) = true ∧ t.rd (F.LNK_GRES_M_REFRESH p r l) = s.regN R.SCN_REFCNT % 256 ∧
      t.rd (F.LNK_GRES_M_MAX p r l) = (((s.port p).glean.find? fun (a : GleanAcc) => decide (a.region = r) && decide (a.lane =
        l)).getD { region := r, lane := l }).max % 65536 ∧
      t.saf.inbox.length = s.saf.inbox.length + 1 ∧ OnlyRegs [R.LNK_GRES_M p r l, R.LNK_GRES_C p r l] s t) ∧
  (∀ (s : State) (p : Nat) (r l x0 y0 x1 y1 : Nat),
    p < 4 →
    s.on (portDom p) = true →
    s.on .safe = true →
    r < 32 →
    l < 2 →
    s.gleanRect p r = some (x0, y0, x1, y1) →
    s.gleanDue p r l y1 = true →
    ∃ t : State, exec (.gleanRecord p r l true) s = .next t ∧
      t.flag (F.LNK_GRES_M_VALID p r l) = true ∧ t.saf.inbox = s.saf.inbox ∧ s.Took t (Src.GLEAN_OVERFLOW p) ∧
        OnlyBlocks faultBlocks s t)

/-- Satellite chains: the update cycle, enumeration, losses, node writes, timing (R283, R284, R285, R286, R287, R288, R289,
  R290, R293). Where these rules leave a point open the clauses hold for the model as notes/assumptions/35.md,
  notes/assumptions/53.md state it. -/
def Obligations.SatelliteChains : Prop :=
  (∀ (s : State) (busy : Nat),
    s.held 4 = false →
    s.on .drv = true →
    s.sat.chains.length = 4 →
    (match s.sat.period with | some u => s.since u (usec (s.rd F.SAT_PERIOD_PERIOD_US)) | none => true) = true →
    s.mode ≠ .dark →
    ∃ t : State, exec (.satPeriodStart busy) s = .next t ∧
      t.sat.period = some s.now ∧ t.sat.latched = false ∧ (∀ c, c < 4 → (t.chain c).collectDue = false ∧
        (t.chain c).censused = false) ∧
      (∀ c, c < 4 → s.satRuns c = true → s.flag (F.SAT_CH_CTRL_LIGHT c) = true → (t.chain c).lit = true ∧
        Sent.satFrame c (satBytes 0xFFFF 1 1 ((s.applyGroup (.satVal c)).satStream c)) ∈ t.sent) ∧
      (∀ c, c < 4 → s.satRuns c = false ∨ s.flag (F.SAT_CH_CTRL_LIGHT c) = false → (t.chain c).lit = false) ∧
        OnlyBlocks [12] s t) ∧
  (∀ (s : State) (busy : Nat),
    s.held 4 = false →
    s.on .drv = true →
    s.sat.chains.length = 4 →
    (match s.sat.period with | some u => s.since u (usec (s.rd F.SAT_PERIOD_PERIOD_US)) | none => true) = true →
    s.mode = .dark →
    ∃ t : State, exec (.satPeriodStart busy) s = .next t ∧
      t.sat.period = some s.now ∧ (∀ c, c < 4 → s.flag (F.SAT_CH_CTRL_EN c) = true →
        Sent.satFrame c (satBytes 0xFFFF 3 0 []) ∈ t.sent) ∧ OnlyBlocks [12] s t) ∧
  (∀ (s : State) (busy u : Nat),
    s.held 4 = false →
    s.on .drv = true →
    s.sat.chains.length = 4 →
    s.sat.period = some u →
    s.sat.latched = false →
    s.since u (usec (s.rd F.SAT_LATCHOFS_OFS_US)) = true →
    ∃ t : State, exec (.satLatchSend busy) s = .next t ∧
      t.sat.latched = true ∧ (∀ c, c < 4 → s.satRuns c = true → (t.chain c).collectDue = true ∧
        ((s.chain c).lit = true → s.flag (F.SAT_CH_CTRL_LIGHT c) = true → Sent.satFrame c (satBytes 0xFFFF 2 0 []) ∈ t.sent)) ∧
          OnlyBlocks [12] s t) ∧
  (∀ (s : State) (c : Nat) (busy : Bool),
    c < 4 →
    s.on .drv = true →
    s.sat.chains.length = 4 →
    s.held 4 = false →
    s.satRuns c = true →
    (s.chain c).collectDue = true →
    (s.chain c).out = none →
    ∃ t : State, exec (.satCollectSend c busy) s = .next t ∧
      t.sent = Sent.satFrame c (satBytes 0xFFFF 0x20 (32 * ((s.chain c).rot % max 1 (ceilDiv (s.satCount c) 32)) + 1) (0#8 ::
        (List.replicate 128 0xFF#8))) :: s.sent ∧ (t.chain c).collectDue = false ∧ (t.chain c).out.isSome = true ∧
      (t.chain c).rot = ((s.chain c).rot % max 1 (ceilDiv (s.satCount c) 32) + 1) % max 1 (ceilDiv (s.satCount c) 32) ∧
        OnlyRegs [R.SAT_CH_ERRCNT c] s t) ∧
  (∀ (s : State) (c : Nat) (busy : Bool),
    c < 4 →
    s.on .drv = true →
    s.sat.chains.length = 4 →
    s.held 4 = false →
    s.satRuns c = true →
    s.sat.period ≠ none →
    s.sat.latched = true →
    (s.chain c).censused = false →
    (s.chain c).collectDue = false →
    (s.chain c).out = none →
    s.since (s.chain c).censusAt (msec (s.rd (F.SAT_CH_CTRL_CENSUS_MS c))) = true →
    ∃ t : State, exec (.satCensusSend c busy) s = .next t ∧
      t.sent = Sent.satFrame c (satBytes 0xFFFF 0x21 0 (List.replicate 6 0#8)) :: s.sent ∧ (t.chain c).censusAt = s.now ∧
        (t.chain c).censused = true ∧ (t.chain c).out.isSome = true ∧ OnlyRegs [R.SAT_CH_ERRCNT c] s t) ∧
  (∀ (s : State) (m : Master) (data : Word) (c : Nat) (busy : Bool),
    c < 4 →
    s.on .drv = true →
    s.sat.chains.length = 4 →
    s.held 4 = false →
    s.Accepts m (R.SAT_CH_CTRL c) data →
    10 ≤ bitsOf data.toNat 25 16 →
    bitsOf data.toNat 25 16 ≤ 1000 →
    bitAt data.toNat 0 = true →
    bitAt data.toNat 3 = true →
    (s.chain c).enum = none →
    ∃ t : State, exec (.satEnumerate (some (m, data)) ⟨c, busy⟩) s = .next t ∧
      t.rd (F.SAT_CH_STAT_STATE c) = 1 ∧ t.flag (F.SAT_CH_CTRL_LIGHT c) = false ∧ (t.chain c).enum = some false ∧
        t.sent = Sent.satFrame c (satBytes 0xFFFF 0x11 0 (leBytes 2 1)) :: Sent.satFrame c (satBytes 0xFFFF 0x10 0 []) ::
        s.sent ∧
      OnlyRegs [R.SAT_CH_CTRL c, R.SAT_CH_STAT c, R.SAT_CH_ERRCNT c] s t) ∧
  (∀ (s : State) (m : Master) (data : Word) (c : Nat) (busy : Bool),
    c < 4 →
    s.on .drv = true →
    s.sat.chains.length = 4 →
    s.Accepts m (R.SAT_CH_CTRL c) data →
    ∃ t : State, exec (.satEnumerate (some (m, data)) ⟨c, busy⟩) s = .next t ∧
      (bitsOf data.toNat 25 16 < 10 ∨ 1000 < bitsOf data.toNat 25 16 → t = s) ∧
      (10 ≤ bitsOf data.toNat 25 16 → bitsOf data.toNat 25 16 ≤ 1000 → bitAt data.toNat 0 = false →
        t.rd (F.SAT_CH_STAT_STATE c) = 0 ∧ t.flag (F.SAT_CH_CTRL_EN c) = false ∧ (t.chain c).enum = none ∧
        (t.chain c).out = none) ∧
      OnlyRegs [R.SAT_CH_CTRL c, R.SAT_CH_STAT c, R.SAT_CH_ERRCNT c] s t) ∧
  (∀ (s : State) (c : Nat) (busy : Bool),
    c < 4 →
    s.on .drv = true →
    s.sat.chains.length = 4 →
    s.held 4 = false →
    s.enumDue c = true →
    ∃ t : State, exec (.satEnumerate none ⟨c, busy⟩) s = .next t ∧
      t.rd (F.SAT_CH_STAT_STATE c) = 1 ∧ t.flag (F.SAT_CH_CTRL_LIGHT c) = false ∧ (t.chain c).enum = some false ∧
      t.sent = Sent.satFrame c (satBytes 0xFFFF 0x11 0 (leBytes 2 1)) :: Sent.satFrame c (satBytes 0xFFFF 0x10 0 []) :: s.sent ∧
      t.rd (F.SAT_CH_ERRCNT_COLLIDE c) = (s.rd (F.SAT_CH_ERRCNT_COLLIDE c) + b2n busy) % 65536 ∧
        OnlyRegs [R.SAT_CH_CTRL c, R.SAT_CH_STAT c, R.SAT_CH_ERRCNT c] s t) ∧
  (∀ (s : State) (c : Nat) (o : SatOut) (turned : Nat) (line : List Bool) (busy : Bool) (f : SatFrame),
    c < 4 →
    s.on .drv = true →
    s.sat.chains.length = 4 →
    (s.chain c).out = some o →
    satDecode line = some f →
    f.cmd = o.cmd →
    s.now ≤ o.until_ →
    s.held 4 = false →
    o.cmd = 0x11 →
    f.ended = true →
    2 ≤ ofLeBytes (f.payload.take 2) →
    ofLeBytes (f.payload.take 2) ≤ 513 →
    ofLeBytes (f.payload.take 2) = turned + 1 →
    ∃ t : State, exec (.satReturnFrame c ⟨turned, line, busy⟩) s = .next t ∧
      t.rd (F.SAT_CH_STAT_COUNT c) = turned ∧
        t.sent = Sent.satFrame c (satBytes 0xFFFF 0x20 1 (1#8 :: (List.replicate 128 0xFF#8))) :: s.sent ∧
        (t.chain c).out.isSome = true ∧ OnlyBlocks [12] s t) ∧
  (∀ (s : State) (c : Nat) (o : SatOut) (turned : Nat) (line : List Bool) (busy : Bool) (f : SatFrame),
    c < 4 →
    s.on .drv = true →
    s.sat.chains.length = 4 →
    (s.chain c).out = some o →
    satDecode line = some f →
    f.cmd = o.cmd →
    s.now ≤ o.until_ →
    o.cmd = 0x20 →
    o.kind ≠ 1 →
    1 ≤ o.first →
    ∃ t : State, exec (.satReturnFrame c ⟨turned, line, busy⟩) s = .next t ∧
      (∀ i, i < 32 → o.first + i ≤ 512 → t.regN (R.SAT_NST c (o.first + i - 1)) = satSlot f.payload i) ∧
      (∀ i, i < 32 → o.first + i ≤ 512 → satSlot f.payload i ≠ 0xFFFFFFFF → bitsOf (satSlot f.payload i) 20 16 ≠ 0 →
        t.flag (F.SAT_CH_EVENTS_NODEALERT c) = true ∧ (s.on .safe = true → s.Took t (Src.SAT_NODE c))) ∧
      (t.chain c).out = none ∧ OnlyBlocks (12 :: faultBlocks) s t) ∧
  (∀ (s : State) (c : Nat) (o : SatOut) (turned : Nat) (line : List Bool) (busy : Bool) (f : SatFrame),
    c < 4 →
    s.on .drv = true →
    s.sat.chains.length = 4 →
    (s.chain c).out = some o →
    satDecode line = some f →
    f.cmd = o.cmd →
    s.now ≤ o.until_ →
    o.cmd = 0x21 →
    f.unaddr = false →
    ofLeBytes (f.payload.take 2) = s.satCount c →
    ofLeBytes ((f.payload.drop 2).take 2) = s.satCount c →
    ∃ t : State, exec (.satReturnFrame c ⟨turned, line, busy⟩) s = .next t ∧
      (t.chain c).out = none ∧ (t.chain c).lost = 0 ∧ OnlyRegs [] s t) ∧
  (∀ (s : State) (c : Nat) (o : SatOut) (turned : Nat) (line : List Bool) (busy : Bool) (f : SatFrame),
    c < 4 →
    s.on .drv = true →
    s.sat.chains.length = 4 →
    (s.chain c).out = some o →
    satDecode line = some f →
    f.cmd = o.cmd →
    s.now ≤ o.until_ →
    s.on .safe = true →
    o.cmd = 0x21 →
    f.unaddr = true ∨ ofLeBytes (f.payload.take 2) ≠ s.satCount c ∨ ofLeBytes ((f.payload.drop 2).take 2) ≠ s.satCount c →
    ∃ t : State, exec (.satReturnFrame c ⟨turned, line, busy⟩) s = .next t ∧
      t.flag (F.SAT_CH_EVENTS_CHANGED c) = true ∧ s.Took t (Src.SAT_CHAIN c) ∧ (s.flag (F.SAT_CH_CTRL_AUTOENUM c) = true →
        t.rd (F.SAT_CH_STAT_STATE c) = 1 ∧ (t.chain c).enum = some false) ∧ OnlyBlocks (12 :: faultBlocks) s t) ∧
  (∀ (s : State) (c : Nat) (o : SatOut) (turned : Nat) (line : List Bool) (busy : Bool) (f : SatFrame),
    c < 4 →
    s.on .drv = true →
    s.sat.chains.length = 4 →
    (s.chain c).out = some o →
    satDecode line = some f →
    f.cmd = o.cmd →
    s.now ≤ o.until_ →
    o.cmd = 0x20 →
    o.kind = 1 →
    1 ≤ o.first →
    s.satCount c < o.first + 32 →
    (List.range 32).all (fun (i : Nat) => decide (s.satCount c < o.first + i) || decide (satSlot f.payload i ≠ 0xFFFFFFFF)) =
      true →
    ∃ t : State, exec (.satReturnFrame c ⟨turned, line, busy⟩) s = .next t ∧
      (∀ i, i < 32 → o.first + i ≤ 512 → t.regN (R.SAT_NID c (o.first + i - 1)) = satSlot f.payload i) ∧
      t.rd (F.SAT_CH_STAT_STATE c) = 2 ∧ t.flag (F.SAT_CH_EVENTS_ENUMERATED c) = true ∧
        t.flag (F.SAT_CH_STAT_OVERSIZE c) = decide (satFit (s.rd F.SAT_LATCHOFS_OFS_US) < s.satCount c) ∧
        (t.chain c).enum = none ∧ (t.chain c).out = none ∧ OnlyBlocks [12] s t) ∧
  (∀ (s : State) (c : Nat) (o : SatOut) (turned : Nat) (line : List Bool) (busy : Bool) (f : SatFrame),
    c < 4 →
    s.on .drv = true →
    s.sat.chains.length = 4 →
    (s.chain c).out = some o →
    satDecode line = some f →
    f.cmd = o.cmd →
    s.now ≤ o.until_ →
    o.cmd = 0x30 →
    ∃ t : State, exec (.satReturnFrame c ⟨turned, line, busy⟩) s = .next t ∧
      (t.chain c).out = none ∧ (t.chain c).todo = (s.chain c).todo.drop 1 ∧ OnlyRegs [R.SAT_CH_CTRL c] s t) ∧
  (∀ (s : State) (c : Nat) (o : SatOut) (turned : Nat) (line : List Bool) (busy : Bool),
    c < 4 →
    s.on .drv = true →
    s.sat.chains.length = 4 →
    (s.chain c).out = some o →
    (satDecode line).all (fun (f : SatFrame) => decide (f.cmd ≠ o.cmd) || decide (o.until_ < s.now)) = true →
    ∃ t : State, exec (.satReturnFrame c ⟨turned, line, busy⟩) s = .next t ∧
      t.rd (F.SAT_CH_ERRCNT_LOST c) = (s.rd (F.SAT_CH_ERRCNT_LOST c) + 1) % 65536 ∧ OnlyBlocks (12 :: faultBlocks) s t) ∧
  (∀ (s : State) (c : Nat) (o : SatOut) (busy : Bool),
    c < 4 →
    s.on .drv = true →
    s.sat.chains.length = 4 →
    (s.chain c).out = some o →
    o.until_ < s.now →
    ∃ t : State, exec (.satReturnTimeout ⟨c, busy⟩) s = .next t ∧
      t.rd (F.SAT_CH_ERRCNT_LOST c) = (s.rd (F.SAT_CH_ERRCNT_LOST c) + 1) % 65536 ∧ ((s.chain c).enum = none → o.cmd ≠ 0x21 →
        (t.chain c).out = none ∧ OnlyRegs [R.SAT_CH_ERRCNT c] s t) ∧
      ((s.chain c).enum = some false → t.rd (F.SAT_CH_STAT_STATE c) = 1 ∧ (t.chain c).enum = some true) ∧
      ((s.chain c).enum = some true → t.rd (F.SAT_CH_STAT_STATE c) = 3 ∧ (s.on .safe = true → s.Took t (Src.SAT_CHAIN c))) ∧
        OnlyBlocks (12 :: faultBlocks) s t) ∧
  (∀ (s : State) (c node r v : Nat) (rest : List (Nat × Nat × Nat)) (busy : Bool),
    c < 4 →
    s.on .drv = true →
    s.sat.chains.length = 4 →
    s.held 4 = false →
    s.firmwareUp = true →
    s.flag (F.SAT_CH_CTRL_EN c) = true →
    s.rd (F.SAT_CH_STAT_STATE c) = 2 →
    (s.chain c).out = none →
    (s.chain c).configured = false →
    (s.chain c).todo = (node, r, v) :: rest →
    ∃ t : State, exec (.satNodeWrite ⟨c, busy⟩ node r v) s = .next t ∧
      t.sent = Sent.satFrame c (satBytes node 0x30 0 (leBytes 1 r ++ leBytes 2 v)) :: s.sent ∧ (node ≠ 0xFFFF →
        (t.chain c).out.isSome = true ∧ (t.chain c).todo = (node, r, v) :: rest) ∧
      (node = 0xFFFF → (t.chain c).out = none ∧ (t.chain c).todo = rest) ∧ OnlyRegs [R.SAT_CH_CTRL c, R.SAT_CH_ERRCNT c] s t) ∧
  (∀ (s : State) (c node r v : Nat) (next : Nat × Nat × Nat) (rest : List (Nat × Nat × Nat)) (busy : Bool),
    (s.chain c).configured = false →
    (s.chain c).todo = next :: rest →
    next ≠ (node, r, v) →
    ∃ t : State, exec (.satNodeWrite ⟨c, busy⟩ node r v) s = .next t ∧
      t = s) ∧
  (∀ (s : State) (m : Master) (data : Word),
    s.Accepts m R.SAT_LATCHOFS data →
    ∃ t : State, exec (.satTimingWrite m true data) s = .next t ∧
      t.rd F.SAT_LATCHOFS_OFS_US = (if s.satTimingOk (s.rd F.SAT_PERIOD_PERIOD_US) (bitsOf data.toNat 16 0) = true then bitsOf
        data.toNat 16 0 else s.rd F.SAT_LATCHOFS_OFS_US) ∧
      (s.satTimingOk (s.rd F.SAT_PERIOD_PERIOD_US) (bitsOf data.toNat 16 0) = true → ∀ c, c < 4 →
        t.flag (F.SAT_CH_STAT_OVERSIZE c) = decide (satFit (bitsOf data.toNat 16 0) < s.satCount c)) ∧
      OnlyRegs [R.SAT_LATCHOFS, R.SAT_CH_STAT 0, R.SAT_CH_STAT 1, R.SAT_CH_STAT 2, R.SAT_CH_STAT 3] s t) ∧
  (∀ (s : State) (m : Master) (data : Word),
    s.Accepts m R.SAT_PERIOD data →
    ∃ t : State, exec (.satTimingWrite m false data) s = .next t ∧
      t.rd F.SAT_PERIOD_PERIOD_US = (if s.satTimingOk (bitsOf data.toNat 16 0) (s.rd F.SAT_LATCHOFS_OFS_US) = true then bitsOf
        data.toNat 16 0 else s.rd F.SAT_PERIOD_PERIOD_US) ∧ OnlyRegs [R.SAT_PERIOD] s t)

/-- Map groups: the check of an arm, and the groups of a refresh (R47, R336, R339, R340, R209, R276). Where these rules leave a
  point open the clauses hold for the model as notes/assumptions/18.md, notes/assumptions/34.md, notes/assumptions/49.md state
  it. -/
def Obligations.MapGroupsAreChecked : Prop :=
  (∀ (s : State) (m : Master) (p : Nat) (data : Word),
    p < 4 →
    s.cal.checks.length = 4 →
    s.Accepts m (R.CAL_MAP_GEN p) data →
    bitAt data.toNat 19 = false →
    s.genFits (.map p) data = true →
    ∃ t : State, exec (.genArm m (.map p) data) s = .next t ∧
      t.rd (F.CAL_MAP_STAT_CHECKING p) = 1 ∧ t.rd (F.CAL_MAP_STAT_CHECK p) = 0 ∧
        ((t.cal.checks.getD p none).map fun (c : MapCheck) => c.data) = some data ∧ t.armed (.map p) = false ∧
      OnlyRegs [R.CAL_MAP_GEN p, R.CAL_MAP_STAT p] s t) ∧
  (∀ (s : State) (p : Nat) (c : MapCheck),
    p < 4 →
    s.cal.checks.length = 4 →
    s.on .mgmt = true →
    (s.cal.checks.getD p none) = some c →
    s.mapCheck p = 0 →
    ∃ t : State, exec (.mapGroupCheckComplete p) s = .next t ∧
      t.armed (.map p) = true ∧ t.rd (Group.map p).fGen = bitsOf c.data.toNat 7 0 ∧ t.rd (F.CAL_MAP_STAT_CHECKING p) = 0 ∧
        t.rd (F.CAL_MAP_STAT_CHECK p) = 0 ∧
      t.regN (R.CAL_MAP_CRC p) = s.mapCrc (4096 * s.rd (F.CAL_MAP_GAIN_ADDR p)) (4096 * s.rd (F.CAL_MAP_DEF_ADDR p)) (s.rd
        (F.CAL_MAP_DEFCNT_COUNT p)) % 2 ^ 32 ∧
      t.cal.checks.getD p none = none ∧ t.applied = s.applied ∧ ∀ a, a ∉ [R.CAL_MAP_GEN p, R.CAL_MAP_STAT p, R.CAL_MAP_CRC p] →
        t.reg a = s.reg a) ∧
  (∀ (s : State) (p : Nat) (c : MapCheck),
    p < 4 →
    s.cal.checks.length = 4 →
    s.on .mgmt = true →
    (s.cal.checks.getD p none) = some c →
    s.mapCheck p ≠ 0 →
    ∃ t : State, exec (.mapGroupCheckComplete p) s = .next t ∧
      t.armed (.map p) = s.armed (.map p) ∧ t.rd (F.CAL_MAP_STAT_CHECKING p) = 0 ∧
        t.rd (F.CAL_MAP_STAT_CHECK p) = s.mapCheck p ∧ t.cal.checks.getD p none = none ∧ t.applied = s.applied ∧
      ∀ a, a ≠ R.CAL_MAP_STAT p → t.reg a = s.reg a) ∧
  (∀ (s : State) (p : Nat) (u : Nat),
    p < 4 →
    s.on .mgmt = true →
    s.refreshNow = some u →
    s.appliesNow (.map p) = true →
    ∃ t : State, exec (.groupApply (.map p)) s = .next t ∧
      (∀ a ∈ (Group.map p).members, t.appReg a = s.regN a) ∧ t.appReg (R.CAL_MAP_CRC p) = s.regN (R.CAL_MAP_CRC p) ∧
        bitAt t.scn.mapBad p = false ∧ t.armed (.map p) = false ∧
      t.rd (Group.map p).fApplied = s.rd (Group.map p).fGen ∧ OnlyRegs [R.CAL_MAP_GEN p] s t) ∧
  (∀ (s : State) (g : Group) (u p : Nat),
    p < 4 →
    s.refreshNow = some u →
    (g = .proj p ∧ s.on .gme = true ∧ s.projReady u p = true) ∨ (g = .glean p ∧ s.on (portDom p) = true) →
    s.appliesNow g = true →
    ∃ t : State, exec (.groupApply g) s = .next t ∧
      (∀ a ∈ g.members, t.appReg a = s.regN a) ∧ t.armed g = false ∧ t.rd g.fApplied = s.rd g.fGen ∧ OnlyRegs [g.gen] s t) ∧
  (∀ (s : State) (g : Group) (p : Nat),
    s.refreshNow = none →
    g = .proj p ∨ g = .map p ∨ g = .glean p →
    ∃ t : State, exec (.groupApply g) s = .next t ∧
      t = s) ∧
  (∀ (s : State) (n : Nat),
    n < 8 →
    s.on .net = true →
    (s.stream n).fill = none →
    s.appliesNow (.stream n) = true →
    ∃ t : State, exec (.groupApply (.stream n)) s = .next t ∧
      (∀ a ∈ (Group.stream n).members, t.appReg a = s.regN a) ∧ t.armed (.stream n) = false ∧ (∀ k, k < 4 →
        t.bufState n k ≠ 2) ∧ OnlyBlocks [6] s t)

/-- Calibration: trims, offsets, characterization, monitors, core supply (R244, R343, R344, R345, R346, R347, R348, R349). Where
  these rules leave a point open the clauses hold for the model as notes/assumptions/5.md, notes/assumptions/19.md,
  notes/assumptions/20.md, notes/assumptions/21.md, notes/assumptions/22.md, notes/assumptions/34.md, notes/assumptions/49.md,
  notes/assumptions/54.md state it. -/
def Obligations.TrimsAndCharacterization : Prop :=
  (∀ (s : State) (n : Nat) (a b : Int × Int),
    n < 4 →
    s.on .drv = true →
    s.rd (F.BUCK_STAT_STATE n) = 0 →
    (match s.cal.offAt.getD n none with | some u => if u < (s.buckN n).offSince then s.since (s.buckN n).offSince (msec 10) else s.since u (sec 1) | none => s.since (s.buckN n).offSince (msec 10)) = true →
    (divRound (a.1 + a.2) 2).natAbs < 32768 →
    (divRound (b.1 + b.2) 2).natAbs < 32768 →
    ∃ t : State, exec (.buckOffsetTrim n a b) s = .next t ∧
      t.rdS (F.CAL_BOFS_CS n) = (if (a.1 - a.2).natAbs ≤ 50 then divRound (a.1 + a.2) 2 else s.rdS (F.CAL_BOFS_CS n)) ∧
      t.rdS (F.CAL_BOFS_II n) = (if (b.1 - b.2).natAbs ≤ 50 then divRound (b.1 + b.2) 2 else s.rdS (F.CAL_BOFS_II n)) ∧
      (50 < (a.1 - a.2).natAbs ∨ 50 < (b.1 - b.2).natAbs → t.flag F.CAL_EVENTS_DISCARD = true) ∧
        OnlyRegs [R.CAL_BOFS n, R.CAL_EVENTS] s t) ∧
  (∀ (s : State) (p : Nat),
    p < 4 →
    s.link.length = 4 →
    s.held (portPads p) = false →
    s.on .mgmt = true →
    s.mode = .run →
    s.portUp p = true →
    s.trimDue p = true →
    s.trimAllowed p = true →
    s.sampling p = false →
    (s.port p).trimWait = none →
    s.cal.trims.length = 4 →
    s.cal.trimFrom.length = 4 →
    s.flag (F.LNK_CMD_BUSY p) = false →
    ∃ t : State, exec (.trimDue p) s = .next t ∧
      (s.dict.deferring = true → t.rd F.ODX_DEFER_DEFERRED = (s.rd F.ODX_DEFER_DEFERRED + 1) % 65536 ∧
        OnlyRegs [R.ODX_DEFER] s t) ∧
      (s.dict.deferring = false → t.sent = Sent.tileCmd p 0x10 0 Config.trimCommand [] :: s.sent ∧
        t.flag (F.LNK_CMD_BUSY p) = true ∧ (t.cal.trims.getD p none).isSome = true ∧ t.cal.trimFrom.getD p none = some s.now ∧
        OnlyRegs [R.LNK_CMD p] s t)) ∧
  (∀ (s : State) (p : Nat) (tag : Nat),
    p < 4 →
    s.link.length = 4 →
    s.cal.trims.length = 4 →
    s.held (portPads p) = false →
    s.portUp p = true →
    s.trimAllowed p = true →
    s.sampling p = false →
    (s.port p).trimWait = some tag →
    ∃ t : State, exec (.trimDue p) s = .next t ∧
      t.sent = Sent.tileCmd p 0x10 tag Config.trimCommand [] :: s.sent ∧ (t.port p).trimWait = none ∧
        (t.cal.trims.getD p none).isSome = true ∧ OnlyRegs [R.LNK_CMD p] s t) ∧
  (∀ (s : State) (p : Nat) (tag : Nat),
    p < 4 →
    s.link.length = 4 →
    s.sampling p = true →
    (s.port p).trimWait = some tag →
    ∃ t : State, exec (.trimDue p) s = .next t ∧
      t.sent = s.sent ∧ (t.port p).trimWait = some tag ∧ t.cal = s.cal ∧ OnlyRegs [R.LNK_CMD p] s t) ∧
  (∀ (s : State) (p : Nat) (since : Nat) (before record : List LineBlock) (r : UpRecord),
    p < 4 →
    s.upRecord p ⟨before ++ record, false⟩ = some r →
    r.good = true →
    r.kind = 3 →
    s.on (portDom p) = true →
    s.on .mgmt = true →
    (s.port p).sample = none →
    s.cal.trims.length = 4 →
    s.cal.trims.getD p none = some { tile := p, since := since, recs := [] } →
    s.now < since + usec 1400 →
    ∃ t : State, exec (.charRecord p false before record) s = .next t ∧
      t.cal.trims.getD p none = some ({ tile := p, since := since, recs := [r.voltages] } : TrimRun) ∧
        OnlyRegs [R.LNK_UPCNT p] s t) ∧
  (∀ (s : State) (p : Nat) (since : Nat) (before record : List LineBlock) (r : UpRecord),
    p < 4 →
    s.upRecord p ⟨before ++ record, false⟩ = some r →
    r.good = true →
    r.kind = 3 →
    s.on (portDom p) = true →
    s.on .mgmt = true →
    (s.port p).sample = none →
    s.cal.trims.length = 4 →
    s.cal.trims.getD p none = some { tile := p, since := since, recs := [r.voltages] } →
    s.now < since + usec 1400 →
    mean8 (r.voltages.drop 8) ≠ mean8 r.voltages →
    ∃ t : State, exec (.charRecord p false before record) s = .next t ∧
      t.cal.trims.getD p none = none ∧ t.rd (F.CAL_TRIM_STAT_DONE p) = (s.rd (F.CAL_TRIM_STAT_DONE p) + 1) % 65536 ∧
        OnlyRegs [R.CAL_TRIM_GAIN p, R.CAL_TRIM_OFS p, R.CAL_TRIM_STAT p, R.LNK_UPCNT p] s t) ∧
  (∀ (s : State) (p : Nat) (before record : List LineBlock) (r : UpRecord) (q : SampleReq),
    p < 4 →
    s.upRecord p ⟨before ++ record, false⟩ = some r →
    r.good = true →
    r.kind = 3 →
    q.tag = r.tag →
    s.link.length = 4 →
    s.on (portDom p) = true →
    s.on .mgmt = true →
    (s.port p).sample = some q →
    s.cal.full = none →
    ∃ t : State, exec (.charRecord p false before record) s = .next t ∧
      (t.port p).sample = none ∧ OnlyBlocks [5, 11] s t) ∧
  (∀ (s : State),
    s.cf.charDue = true →
    s.blankTime + 1000 ≤ s.now →
    s.on .scn = false ∨ bitAt s.scn.ctrl 2 = false →
    ∃ t : State, exec (.charSlot) s = .next t ∧
      t.cf.charDue = false ∧ t.link = s.link ∧ OnlyRegs [] s t) ∧
  (∀ (s : State),
    s.link.length = 4 →
    s.cf.charDue = true →
    s.blankTime + 1000 ≤ s.now →
    s.on .scn = true →
    bitAt s.scn.ctrl 2 = true →
    ∃ t : State, exec (.charSlot) s = .next t ∧
      t.cf.charDue = false ∧ (s.scn.sent = 0 ∨ s.listReady = false →
        t.rd F.SCN_CHARSTAT_SKIPPED = (s.rd F.SCN_CHARSTAT_SKIPPED + 4) % 65536 ∧
        t.rd F.SCN_CHARSTAT_SENT = s.rd F.SCN_CHARSTAT_SENT) ∧
      (∀ p, p < 4 → bitAt s.scn.sent p = true → bitAt s.scn.under p = false → s.listReady = true → s.on (portDom p) = true →
        s.portUp p = true → (t.port p).sample.isSome = true) ∧
      RegsIn (10 :: faultBlocks) s t) ∧
  (∀ (s : State) (m : Master) (data : Word),
    s.Accepts m R.CAL_FULLCTL data →
    bitAt data.toNat 2 = true →
    bitAt data.toNat 3 = false →
    (bitsOf data.toNat 27 16) ≠ 0 →
    s.fullAllowed = true →
    ∃ t : State, exec (.fullcharStart m data) s = .next t ∧
      (∀ d ∈ fullDoms (bitsOf data.toNat 1 0), t.bitF ⟨R.PWR_DOMCTL, 31, 0⟩ d.num = true) ∧
      (s.fullReady (bitsOf data.toNat 1 0) = true →
        (t.cal.full.map fun (r : FullRun) => (r.tile, r.code, r.since, r.batch)) = some ((bitsOf data.toNat 1 0), (bitsOf
        data.toNat 27 16), s.now, 0) ∧ t.flag F.CAL_FULLSTAT_RUNNING = true ∧ t.flag F.SAF_STATE_CHAR = true) ∧
      (s.fullReady (bitsOf data.toNat 1 0) = false → t.cal.full = none ∧
        (t.cal.fullDue.map fun (q : Nat × Nat × Bool) => (q.1, q.2.1)) = some ((bitsOf data.toNat 1 0), (bitsOf data.toNat 27
        16))) ∧ OnlyBlocks [1, 3, 5, 11, 13, 14, 15] s t) ∧
  (∀ (s : State) (m : Master) (data : Word),
    s.Accepts m R.CAL_FULLCTL data →
    bitAt data.toNat 2 = true →
    bitAt data.toNat 3 = false →
    (bitsOf data.toNat 27 16) ≠ 0 →
    s.fullAllowed = false →
    s.cal.full = none →
    s.cal.fullDue = none →
    ∃ t : State, exec (.fullcharStart m data) s = .next t ∧
      t.cal.full = none ∧ t.cal.fullDue = none ∧ t.rd F.CAL_FULLSTAT_RESULT = 2 ∧
        OnlyRegs [R.CAL_FULLCTL, R.CAL_FULLSTAT] s t) ∧
  (∀ (s : State) (m : Master) (data : Word),
    s.Accepts m R.CAL_FULLCTL data →
    (bitsOf data.toNat 27 16) = 0 →
    ∃ t : State, exec (.fullcharStart m data) s = .next t ∧
      t = s) ∧
  (∀ (s : State) (m : Master) (data : Word) (r : FullRun),
    s.Accepts m R.CAL_FULLCTL data →
    (bitsOf data.toNat 27 16) ≠ 0 →
    bitAt data.toNat 2 = false →
    bitAt data.toNat 3 = true →
    s.cal.full = some r →
    ∃ t : State, exec (.fullcharAbort m data) s = .next t ∧
      t.cal.full = none ∧ t.flag F.CAL_FULLSTAT_RUNNING = false ∧ t.rd F.CAL_FULLSTAT_RESULT = 3 ∧
        t.flag F.SAF_STATE_CHAR = false ∧ (r.tile < 4 → t.bitF F.SAF_OUTCMD_HUSKN_HI r.tile = false) ∧
        OnlyBlocks [5, 11, 13, 14, 15] s t) ∧
  (∀ (s : State) (r : FullRun),
    s.link.length = 4 →
    s.cal.full = some r →
    s.mode = .standby →
    (fullDoms r.tile).all s.on = true →
    r.tile < 4 →
    s.since r.since ((r.batch + 1) * batchSlot) = true →
    r.batch < 2 * batches →
    ∃ t : State, exec (.fullcharBatch) s = .next t ∧
      t.cal.full = some { r with batch := r.batch + 1, lit := some r.batch } ∧ t.rd F.CAL_FULLSTAT_BATCH = r.batch % 65536 ∧
        ((t.port r.tile).sample.map fun (q : SampleReq) => (q.pixels, q.codes)) = some (batchPixels (r.batch % batches),
        List.replicate 16 r.code) ∧ OnlyBlocks [5, 11, 15] s t) ∧
  (∀ (s : State) (r : FullRun),
    s.cal.full = some r →
    s.mode = .standby →
    (fullDoms r.tile).all s.on = true →
    s.since r.since ((r.batch + 1) * batchSlot) = true →
    2 * batches ≤ r.batch →
    ∃ t : State, exec (.fullcharBatch) s = .next t ∧
      t.cal.full = none ∧ t.flag F.CAL_FULLSTAT_RUNNING = false ∧ t.rd F.CAL_FULLSTAT_RESULT = 1 ∧ RegsIn faultBlocks s t) ∧
  (∀ (s : State) (r : FullRun),
    s.cal.full = some r →
    s.mode ≠ .standby ∨ (fullDoms r.tile).all s.on = false →
    ∃ t : State, exec (.fullcharBatch) s = .next t ∧
      t.cal.full = none ∧ t.flag F.CAL_FULLSTAT_RUNNING = false ∧ t.rd F.CAL_FULLSTAT_RESULT = 3 ∧
        OnlyBlocks [5, 11, 13, 14, 15] s t) ∧
  (∀ (s : State) (tile code : Nat) (base : Bool),
    s.cal.full = none →
    s.cal.fullDue = some (tile, code, base) →
    s.mode = .standby →
    s.demand = false →
    s.islandUp = true →
    s.fullReady tile = true →
    ∃ t : State, exec (.fullcharBatch) s = .next t ∧
      t.cal.fullDue = none ∧ t.cal.full = some ({ tile := tile, base := base, code := code, since := s.now } : FullRun) ∧
        t.flag F.CAL_FULLSTAT_RUNNING = true ∧ OnlyBlocks [1, 3, 5, 11, 13, 14, 15] s t) ∧
  (∀ (s : State) (l : List (Nat × Nat)),
    s.on .mgmt = true →
    s.mode ≠ .dormant →
    s.dueSince (s.ran.lookup Timer.monitors) (msec 100) = true →
    (l.map Prod.fst).Nodup →
    ∃ t : State, exec (.monitorRead l) s = .next t ∧
      (∀ q ∈ l, q.1 < 24 → t.rd (F.CAL_MON_SLACK q.1) = min q.2 1023 ∧ t.flag (F.CAL_MON_VALID q.1) = true) ∧
        (l.any (fun (q : Nat × Nat) => decide (16 ≤ q.1) && decide (q.1 < 24) && decide (q.2 < 30)) = true → s.on .safe = true →
        t.latched Src.CORE_TIMING = true) ∧
      OnlyBlocks faultBlocks s t) ∧
  (∀ (s : State) (a b : Nat),
    s.firmwareUp = true →
    s.cal.avs.isSome = true →
    s.dueSince s.cal.planAt (sec 1) = true →
    s.flag F.CAL_CTRL_AVS_EN = true →
    s.cal.worsts = [a, b] →
    max a b - min a b ≤ s.rd F.CAL_TOL_TOL_AVS →
    ∃ t : State, exec (.avsPlan) s = .next t ∧
      let mv := s.rd F.CAL_AVSSTAT_SETPT; let tgt := 2 * s.rd F.CAL_AVS_SL_TGT;
      t.rd F.CAL_AVSSTAT_SETPT = (if a + b < tgt then min 880 (mv + 10) else if tgt + 80 < a + b ∧
        9 ≤ s.cal.above then max 720 (mv - 10) else mv) ∧
      (870 ≤ min 880 (mv + 10) → a + b < tgt → s.on .safe = true → s.Took t Src.AVS_MARGIN) ∧ OnlyBlocks faultBlocks s t) ∧
  (∀ (s : State) (a b : Nat),
    s.firmwareUp = true →
    s.cal.avs.isSome = true →
    s.dueSince s.cal.planAt (sec 1) = true →
    s.flag F.CAL_CTRL_AVS_EN = true →
    s.cal.worsts = [a, b] →
    s.rd F.CAL_TOL_TOL_AVS < max a b - min a b →
    ∃ t : State, exec (.avsPlan) s = .next t ∧
      t.flag F.CAL_EVENTS_DISCARD = true ∧ t.cal = { s.cal with planAt := some s.now } ∧ OnlyRegs [R.CAL_EVENTS] s t)

/-- Safety tasks: records, violations, release, HUSK_N, the Husk monitor (R360, R367, R368, R369, R370, R372, R374). Where these
  rules leave a point open the clauses hold for the model as notes/assumptions/1.md, notes/assumptions/31.md state it. -/
def Obligations.SafetyTasksJudgeLight : Prop :=
  (∀ (s : State),
    s.on .safe = true →
    s.flag F.SAF_STATE_READY = true →
    s.dueSince (s.ran.lookup Timer.task) (usec 500) = true →
    ∃ t : State, exec (.safetyTask) s = .next t ∧
      t.rd F.SAF_STATE_TASKS = (s.rd F.SAF_STATE_TASKS + 1) % 65536 ∧ t.saf.inbox = [] ∧ t.saf.lastTask = s.now ∧
        OnlyBlocks (6 :: 7 :: 8 :: faultBlocks) s t) ∧
  (∀ (s : State) (x : GleanRec) (g : GleanPlan),
    s.on .safe = true →
    s.flag F.SAF_STATE_READY = true →
    s.dueSince (s.ran.lookup Timer.task) (usec 500) = true →
    s.saf.inbox = [x] →
    s.planFor x.refresh = some g →
    (g.region x.port x.region).violated x = true →
    s.seenBad g x.port x.region x.refresh = false →
    (match (g.region x.port x.region).use with | .staircase _ | .piece _ => true | _ => false) = true →
    s.violatedBefore (g.region x.port x.region) x = true ∨ s.holdFollows x.refresh = true ∨ 3 ≤ s.singlesOf x.port →
    ∃ t : State, exec (.safetyTask) s = .next t ∧
      t.bitF F.SAF_VIOL_HELD ((g.region x.port x.region).func - 1) = true ∧
        t.rd (violField (g.region x.port x.region).func) = (s.rd (violField (g.region x.port x.region).func) + 1) % 256 ∧
        s.Took t Src.SAF_LIMIT ∧ (s.mode = Mode.run → s.pwr.beamEnding = false → t.mode = Mode.husk ∨ t.mode = Mode.dark) ∧
        OnlyBlocks (6 :: 7 :: 8 :: faultBlocks) s t) ∧
  (∀ (s : State) (x : GleanRec) (g : GleanPlan),
    s.on .safe = true →
    s.flag F.SAF_STATE_READY = true →
    s.dueSince (s.ran.lookup Timer.task) (usec 500) = true →
    s.saf.inbox = [x] →
    s.planFor x.refresh = some g →
    (g.region x.port x.region).violated x = true →
    s.seenBad g x.port x.region x.refresh = false →
    (match (g.region x.port x.region).use with | .staircase _ | .piece _ => true | _ => false) = true →
    s.violatedBefore (g.region x.port x.region) x = false →
    s.holdFollows x.refresh = false →
    s.singlesOf x.port < 3 →
    ∃ t : State, exec (.safetyTask) s = .next t ∧
      t.rd F.SAF_VIOL_HELD = s.rd F.SAF_VIOL_HELD ∧ t.rd F.SAF_VIOLCNT_SINGLE = (s.rd F.SAF_VIOLCNT_SINGLE + 1) % 256 ∧
        t.rd (violField (g.region x.port x.region).func) = s.rd (violField (g.region x.port x.region).func) ∧
        OnlyBlocks (6 :: 7 :: 8 :: faultBlocks) s t) ∧
  (∀ (s : State) (n u : Nat),
    1 ≤ n →
    n ≤ 3 →
    s.saf.violAt.getD (n - 1) none = some u →
    s.since u (sec 1) = true →
    s.bitF F.SAF_VIOL_LOCKED (n - 1) = false →
    ∃ t : State, exec (.violationRelease n) s = .next t ∧
      t.bitF F.SAF_VIOL_HELD (n - 1) = false ∧ t.saf.violAt.getD (n - 1) none = none ∧ (t.rd F.SAF_VIOL_HELD = 0 →
        t.flag F.SAF_OUTCMD_HUSKREQ = false) ∧ OnlyRegs [R.SAF_VIOL, R.SAF_OUTCMD] s t) ∧
  (∀ (s : State) (n : Nat),
    s.on .safe = true →
    s.flag F.SAF_STATE_READY = true →
    s.dueSince (s.ran.lookup Timer.task) (usec 500) = true →
    n < 4 →
    s.saf.inbox = [] →
    s.saf.plans = [] →
    s.rd F.SAF_STATE_TASKS % 2 = 0 →
    s.mayRaise n = true →
    ∃ t : State, exec (.safetyTask) s = .next t ∧
      t.bitF F.SAF_OUTCMD_HUSKN_HI n = true ∧ OnlyBlocks (6 :: 7 :: 8 :: faultBlocks) s t) ∧
  (∀ (s : State) (n u : Nat),
    s.on .safe = true →
    s.flag F.SAF_STATE_READY = true →
    s.dueSince (s.ran.lookup Timer.task) (usec 500) = true →
    n < 4 →
    s.saf.inbox = [] →
    s.saf.plans = [] →
    s.rd F.SAF_STATE_TASKS % 2 = 1 →
    s.mode = .husk →
    s.demand = true →
    s.saf.huskFrom.getD n none = some u →
    s.since u (msec s.saf.params.huskSettle) = true →
    s.saf.huskFails.length = 4 →
    s.saf.huskFails.getD n 0 = 15 →
    s.huskLost n = true →
    ∃ t : State, exec (.safetyTask) s = .next t ∧
      t.mode = Mode.dark ∧ t.latched (Src.HUSK_FAIL n) = true ∧ OnlyBlocks (6 :: 7 :: 8 :: faultBlocks) s t)

/-- Lockstep, watchdog, restart; the tests of the outputs (R361, R373, R376, R381). Where these rules leave a point open the
  clauses hold for the model as notes/assumptions/12.md, notes/assumptions/31.md, notes/assumptions/32.md state it. -/
def Obligations.IslandFaultsAndOutputTests : Prop :=
  (∀ (s : State),
    s.on .safe = true →
    s.rd F.SAF_STATE_RESTARTS = 0 →
    ∃ t : State, exec (.lockstepMismatch) s = .next t ∧
      t.flag F.SAF_STATE_READY = false ∧ t.rd F.SAF_STATE_RESTARTS = 1 ∧
        t.rd F.SAF_LOCKSTEP_MISMATCH = (s.rd F.SAF_LOCKSTEP_MISMATCH + 1) % 256 ∧ t.saf.forcedLow = true ∧
        t.saf.restart = some s.now ∧
      s.Took t Src.SAF_LOCKSTEP ∧ (s.mode = Mode.run → s.pwr.beamEnding = false → t.mode = Mode.husk ∨ t.mode = Mode.dark) ∧
        OnlyBlocks (18 :: 19 :: faultBlocks) s t) ∧
  (∀ (s : State),
    s.on .safe = true →
    s.rd F.SAF_STATE_RESTARTS ≠ 0 →
    s.mode ≠ .dormant →
    ∃ t : State, exec (.lockstepMismatch) s = .next t ∧
      t.flag F.SAF_STATE_READY = false ∧ t.saf.forcedLow = true ∧ t.saf.restart = none ∧ t.mode = Mode.dark ∧
        s.Took t Src.SAF_LOCKSTEP ∧ OnlyBlocks faultBlocks s t) ∧
  (∀ (s : State),
    s.on .safe = true →
    s.rd F.SAF_STATE_RESTARTS = 0 →
    ∃ t : State, exec (.safeSramUncorrectable) s = .next t ∧
      t.flag F.SAF_STATE_READY = false ∧ t.rd F.SAF_STATE_RESTARTS = 1 ∧
        t.rd F.SAF_LOCKSTEP_SRAM_UNC = (s.rd F.SAF_LOCKSTEP_SRAM_UNC + 1) % 256 ∧ t.saf.forcedLow = true ∧
        t.saf.restart = some s.now ∧
      s.Took t Src.SAF_LOCKSTEP ∧ (s.mode = Mode.run → s.pwr.beamEnding = false → t.mode = Mode.husk ∨ t.mode = Mode.dark) ∧
        OnlyBlocks (18 :: 19 :: faultBlocks) s t) ∧
  (∀ (s : State),
    s.on .safe = true →
    s.rd F.SAF_STATE_RESTARTS ≠ 0 →
    s.mode ≠ .dormant →
    ∃ t : State, exec (.safeSramUncorrectable) s = .next t ∧
      t.flag F.SAF_STATE_READY = false ∧ t.saf.forcedLow = true ∧ t.saf.restart = none ∧ t.mode = Mode.dark ∧
        s.Took t Src.SAF_LOCKSTEP ∧ OnlyBlocks faultBlocks s t) ∧
  (∀ (s : State),
    s.on .safe = true →
    s.flag F.SAF_STATE_READY = true →
    s.since s.saf.lastTask (msec 2) = true →
    s.rd F.SAF_STATE_RESTARTS = 0 →
    ∃ t : State, exec (.safeWatchdogExpire) s = .next t ∧
      t.flag F.SAF_STATE_READY = false ∧ t.rd F.SAF_STATE_RESTARTS = 1 ∧
        t.rd F.SAF_LOCKSTEP_WDOG = (s.rd F.SAF_LOCKSTEP_WDOG + 1) % 256 ∧ t.saf.forcedLow = true ∧ t.saf.restart = some s.now ∧
      s.Took t Src.SAF_LOCKSTEP ∧ (s.mode = Mode.run → s.pwr.beamEnding = false → t.mode = Mode.husk ∨ t.mode = Mode.dark) ∧
        OnlyBlocks (18 :: 19 :: faultBlocks) s t) ∧
  (∀ (s : State),
    s.on .safe = true →
    s.flag F.SAF_STATE_READY = true →
    s.since s.saf.lastTask (msec 2) = true →
    s.rd F.SAF_STATE_RESTARTS ≠ 0 →
    s.mode ≠ .dormant →
    ∃ t : State, exec (.safeWatchdogExpire) s = .next t ∧
      t.flag F.SAF_STATE_READY = false ∧ t.saf.forcedLow = true ∧ t.saf.restart = none ∧ t.mode = Mode.dark ∧
        s.Took t Src.SAF_LOCKSTEP ∧ OnlyBlocks faultBlocks s t) ∧
  (∀ (s : State) (k : KeptCopies) (u : Nat),
    s.on .safe = true →
    s.on .mem = true →
    s.saf.restart = some u →
    s.boot.staged.isSome = true →
    ∃ t : State, exec (.islandRestartComplete k) s = .next t ∧
      t.saf.restart = none ∧ (s.stagedOk = true → t.flag F.SAF_STATE_READY = true ∧ t.saf.checkDue = some s.now ∧
        (k.params = false → t.saf.params = s.storedParams.1 ∧ t.rd F.SAF_STATE_FUNC = s.storedParams.1.funcEn % 8) ∧
        (k.params = true → t.saf.params = s.saf.params) ∧ (k.confirm = false → t.rd F.SAF_STATE_CONF = 0 ∧
          t.regN R.SAF_CONFVAL = s.storedParams.2 % 2 ^ 32) ∧
        t.rd F.SAF_STATE_TASKS = (s.rd F.SAF_STATE_TASKS + 1) % 65536 ∧ RegsIn (6 :: 7 :: 8 :: faultBlocks) s t) ∧
      (s.stagedOk = false → t.flag F.SAF_STATE_READY = s.flag F.SAF_STATE_READY ∧ t.boot.safeImage = some false ∧
        OnlyBlocks faultBlocks s t)) ∧
  (∀ (s : State) (k : KeptCopies) (u : Nat),
    s.on .safe = true →
    s.saf.restart = some u →
    s.on .mem = false ∨ s.boot.staged = none →
    ∃ t : State, exec (.islandRestartComplete k) s = .next t ∧
      t.flag F.SAF_STATE_READY = s.flag F.SAF_STATE_READY ∧ t.saf.restart = none ∧ t.boot.safeImage = some false ∧
        OnlyBlocks faultBlocks s t) ∧
  (∀ (s : State) (n : Nat),
    n < 4 →
    s.on .safe = true →
    s.huskDriven n = false →
    ∃ t : State, exec (.husknMismatch n) s = .next t ∧
      t.bitF F.SAF_OUTRB_HUSKN_MIS n = true ∧ t.bitF F.SAF_OUTCMD_LANEIDLE n = true ∧ t.bitF F.SAF_HUSKMON_LANEPATH n = true ∧
        s.Took t (Src.HUSKN_STUCK n) ∧ OnlyBlocks faultBlocks s t) ∧
  (∀ (s : State),
    s.on .safe = true →
    s.flag F.SAF_STATE_READY = true →
    s.dueSince (s.ran.lookup Timer.output) (msec 200) = true →
    s.flag F.PWR_MODE_BUSY = false →
    s.saf.pulse = none →
    s.saf.outNext < 4 →
    s.huskDriven s.saf.outNext = true →
    ∃ t : State, exec (.outputTestDue) s = .next t ∧
      t.saf.pulse = some ({ out := TestedOutput.huskN s.saf.outNext, since := s.now } : OutPulse) ∧
        t.saf.outNext = s.saf.outNext + 1 ∧ OnlyBlocks [11, 15] s t) ∧
  (∀ (s : State),
    s.on .safe = true →
    s.flag F.SAF_STATE_READY = true →
    s.dueSince (s.ran.lookup Timer.output) (msec 200) = true →
    s.flag F.PWR_MODE_BUSY = false →
    s.saf.pulse = none →
    s.saf.outNext = 4 →
    ∃ t : State, exec (.outputTestDue) s = .next t ∧
      t.saf.pulse = (if s.saf.params.lfPulse = true ∧
        s.lampFail = false then some ({ out := TestedOutput.lampFail, since := s.now } : OutPulse) else none) ∧
        t.saf.outNext = 0 ∧ OnlyBlocks [11, 15] s t) ∧
  (∀ (s : State),
    s.on .safe = true →
    s.flag F.SAF_STATE_READY = true →
    s.dueSince (s.ran.lookup Timer.output) (msec 200) = true →
    s.flag F.PWR_MODE_BUSY = true ∨ s.saf.pulse.isSome = true ∨ (s.saf.outNext < 4 ∧ s.huskDriven s.saf.outNext = false) →
    ∃ t : State, exec (.outputTestDue) s = .next t ∧
      t.saf.pulse = s.saf.pulse ∧ t.saf.outNext = (s.saf.outNext + 1) % 5 ∧ OnlyBlocks [11, 15] s t) ∧
  (∀ (s : State) (p : OutPulse) (n : Nat) (a b : Bool),
    n < 4 →
    s.saf.pulse = some p →
    p.out = .huskN n →
    s.since p.since (usec 150) = true →
    s.saf.forcedLow = false →
    s.bitF F.SAF_OUTCMD_HUSKN_HI n = true →
    ∃ t : State, exec (.outputTestPulseEnd a b) s = .next t ∧
      t.saf.pulse = none ∧ t.rd F.SAF_PULSE_LAST = n ∧ t.rd F.SAF_PULSE_COUNT = (s.rd F.SAF_PULSE_COUNT + 1) % 65536 ∧
        (a = true → b = true → t.rd F.SAF_PULSE_FAIL = s.rd F.SAF_PULSE_FAIL) ∧
      (a = false ∨ b = false → t.bitF F.SAF_PULSE_FAIL n = true ∧ (s.on .safe = true → s.Took t (Src.SAF_PULSE_HUSKN n))) ∧
        OnlyBlocks faultBlocks s t) ∧
  (∀ (s : State) (h a : Nat) (l b : Bool),
    s.on .safe = true →
    s.flag F.SAF_STATE_READY = true →
    s.mode = .prepare →
    s.linksOver = true →
    s.saf.round = none →
    h % 16 = 15 →
    a % 16 = 15 →
    ∃ t : State, exec (.startupOutputRound (h, a) (l, b)) s = .next t ∧
      t = (s.startupRound (h, a) (l, b)).goOn ∧ (s.startupRound (h, a) (l, b)).saf.round = some true ∧
        (s.startupRound (h, a) (l, b)).rd F.SAF_PULSE_COUNT = (s.rd F.SAF_PULSE_COUNT + 4 + (if s.saf.params.lfPulse = true ∧
        s.lampFail = false then 1 else 0)) % 65536 ∧
      (l = true → b = true → (s.startupRound (h, a) (l, b)).rd F.SAF_PULSE_FAIL = s.rd F.SAF_PULSE_FAIL) ∧
        OnlyBlocks faultBlocks s (s.startupRound (h, a) (l, b))) ∧
  (∀ (s : State) (h a n : Nat) (l b : Bool),
    s.on .safe = true →
    s.flag F.SAF_STATE_READY = true →
    s.mode = .prepare →
    s.linksOver = true →
    s.saf.round = none →
    n < 4 →
    bitAt h n = false ∨ bitAt a n = false →
    ∃ t : State, exec (.startupOutputRound (h, a) (l, b)) s = .next t ∧
      t = (s.startupRound (h, a) (l, b)).goOn ∧ (s.startupRound (h, a) (l, b)).saf.round = some false ∧
        (s.startupRound (h, a) (l, b)).bitF F.SAF_PULSE_FAIL n = true ∧
        s.Took (s.startupRound (h, a) (l, b)) (Src.SAF_PULSE_HUSKN n) ∧
        (s.startupRound (h, a) (l, b)).flag F.PWR_RUNGATE_PERMIT = false ∧
      OnlyBlocks faultBlocks s (s.startupRound (h, a) (l, b))) ∧
  (∀ (s : State) (h a : Nat) (l b : Bool),
    s.linksOver = false →
    ∃ t : State, exec (.startupOutputRound (h, a) (l, b)) s = .next t ∧
      t = s.goOn)

/-- Writing, checking and confirming the safety parameters (R362, R379, R380, R381, R453). Where these rules leave a point open
  the clauses hold for the model as notes/assumptions/33.md, notes/assumptions/50.md state it. -/
def Obligations.SafetyParametersAndConfirmation : Prop :=
  (∀ (s : State) (w : ParamWrite),
    s.firmwareUp = true →
    s.flag F.PWR_MODE_COMM = true →
    s.islandUp = true →
    bitAt s.dict.sealed 0 = false →
    paramCode w.index w.sub w.value = codeOK →
    s.saf.params.value w.index w.sub ≠ w.value →
    ∃ t : State, exec (.safetyParamWrite w) s = .next t ∧
      t.saf.params = s.saf.params.set w.index w.sub w.value ∧ t.saf.checkDue = some s.now ∧ t.rd F.SAF_STATE_CONF = 0 ∧
        t.rd F.SAF_STATE_FUNC = (s.saf.params.set w.index w.sub w.value).funcEn % 8 ∧
      t.sent = Sent.answer w.index w.sub codeOK :: s.sent ∧
        t.rd (F.MBX_CH_CNT_POSTS 8) = (s.rd (F.MBX_CH_CNT_POSTS 8) + 1) % 65536 ∧
      t.rd (F.MBX_CH_CNT_POSTS 12) = (s.rd (F.MBX_CH_CNT_POSTS 12) + 1) % 65536 ∧ OnlyBlocks (18 :: faultBlocks) s t) ∧
  (∀ (s : State) (w : ParamWrite),
    s.firmwareUp = true →
    (s.paramService w.index w.sub w.value).1 ≠ codeOK →
    ∃ t : State, exec (.safetyParamWrite w) s = .next t ∧
      t.saf = s.saf ∧ t.sent = Sent.answer w.index w.sub (s.paramService w.index w.sub w.value).1 :: s.sent ∧ OnlyRegs [] s t) ∧
  (∀ (s : State),
    s.islandUp = true →
    s.saf.checkDue.isSome = true →
    ∃ t : State, exec (.checkValueComputed) s = .next t ∧
      t.regN R.SAF_CONFCHK = s.saf.params.check % 2 ^ 32 ∧ t.saf.checkDue = none ∧ t.saf.params = s.saf.params ∧
        (s.saf.loading = false → t.rd F.SAF_STATE_CONF = s.rd F.SAF_STATE_CONF) ∧ OnlyBlocks faultBlocks s t) ∧
  (∀ (s : State) (v : Nat),
    s.firmwareUp = true →
    s.flag F.PWR_MODE_COMM = true →
    s.islandUp = true →
    s.saf.params.inOrder = true →
    v = s.saf.params.check →
    ∃ t : State, exec (.confirmWrite v) s = .next t ∧
      t.rd F.SAF_STATE_CONF = 1 ∧ t.regN R.SAF_CONFVAL = v % 2 ^ 32 ∧ t.sent = Sent.answer 0x5FFF 1 codeOK :: s.sent ∧
      t.rd (F.MBX_CH_CNT_POSTS 8) = (s.rd (F.MBX_CH_CNT_POSTS 8) + 1) % 65536 ∧
        t.rd (F.MBX_CH_CNT_POSTS 12) = (s.rd (F.MBX_CH_CNT_POSTS 12) + 1) % 65536 ∧
      OnlyBlocks (18 :: faultBlocks) s t) ∧
  (∀ (s : State) (v : Nat),
    s.firmwareUp = true →
    s.flag F.PWR_MODE_COMM = true →
    s.islandUp = true →
    s.saf.params.inOrder = false ∨ v ≠ s.saf.params.check →
    ∃ t : State, exec (.confirmWrite v) s = .next t ∧
      t.sent = Sent.answer 0x5FFF 1 codeREFUSED :: s.sent ∧ t.saf = s.saf ∧ OnlyRegs [] s t) ∧
  (∀ (s : State) (v : Nat),
    s.firmwareUp = true →
    s.flag F.PWR_MODE_COMM = false ∨ s.islandUp = false →
    ∃ t : State, exec (.confirmWrite v) s = .next t ∧
      t.sent = Sent.answer 0x5FFF 1 codeMODE :: s.sent ∧ t.saf = s.saf ∧ OnlyRegs [] s t)

/-- The field network: ARP, echo, links, CAN frames, segments, bus-off (R404, R405, R406, R411, R412). Where these rules leave a
  point open the clauses hold for the model as notes/assumptions/38.md states it. -/
def Obligations.FieldNetwork : Prop :=
  (∀ (s : State) (n a i target : Nat),
    s.held 2 = false →
    s.macAnswers n target = true →
    ∃ t : State, exec (.arpRequest n a i target) s = .next t ∧
      t.sent = Sent.arpReply n a i :: s.sent ∧ OnlyRegs [] s t) ∧
  (∀ (s : State) (n a i target : Nat),
    s.macAnswers n target = false →
    ∃ t : State, exec (.arpRequest n a i target) s = .next t ∧
      t = s) ∧
  (∀ (s : State) (n a i d : Nat) (bs : List Byte),
    s.held 2 = false →
    s.macAnswers n d = true →
    bs.length ≤ 256 →
    ((s.net.pings.getD n []).filter fun u => decide (s.now < u + sec 1)).length < 10 →
    ∃ t : State, exec (.icmpEcho n a i d bs) s = .next t ∧
      t.sent = Sent.icmpReply n a i bs :: s.sent ∧ OnlyRegs [] s t) ∧
  (∀ (s : State) (n a i d : Nat) (bs : List Byte),
    s.macAnswers n d = false ∨ 256 < bs.length ∨
      10 ≤ ((s.net.pings.getD n []).filter fun u => decide (s.now < u + sec 1)).length →
    ∃ t : State, exec (.icmpEcho n a i d bs) s = .next t ∧
      t = s) ∧
  (∀ (s : State) (n : Nat),
    s.macOn n = true →
    s.net.down.length = 2 →
    s.flag (fMacUp n) = true →
    ∃ t : State, exec (.ethLinkDown n) s = .next t ∧
      t.flag (fMacUp n) = false ∧ t.rd (fMacDown n) = (s.rd (fMacDown n) + 1) % 256 ∧ t.net.down.getD n none = some s.now ∧
        OnlyRegs [R.NET_LINKSTAT] s t) ∧
  (∀ (s : State) (n u : Nat),
    s.macOn n = true →
    s.on .safe = true →
    s.flag (fMacUp n) = false →
    s.net.down.getD n none = some u →
    s.since u (msec 100) = true →
    ∃ t : State, exec (.ethLinkDown n) s = .next t ∧
      t.net.down.getD n none = none ∧ s.Took t (Src.ETH_LINK n) ∧ OnlyBlocks faultBlocks s t) ∧
  (∀ (s : State) (n : Nat),
    s.macOn n = true →
    ∃ t : State, exec (.ethLinkUp n) s = .next t ∧
      t.flag (fMacUp n) = true ∧ t.net.down.getD n none = none ∧ OnlyRegs [R.NET_LINKSTAT] s t) ∧
  (∀ (s : State) (f : CanRecv),
    f.bus < 2 →
    s.canUp f.bus = true →
    f.txErr < 256 →
    f.rxErr < 256 →
    f.sound = false ∨ f.fd = false ∨ f.ide ≠ s.flag (F.NET_CAN_CFG_IDE f.bus) →
    ∃ t : State, exec (.canFrameReceive f) s = .next t ∧
      (t.rd (fCanState f.bus) = if 128 ≤ f.txErr ∨ 128 ≤ f.rxErr then 2 else 1) ∧ t.rd (F.NET_CAN_ERR_TEC f.bus) = f.txErr ∧
        t.rd (F.NET_CAN_ERR_REC f.bus) = f.rxErr ∧ t.onoth = s.onoth ∧ t.net = s.net ∧
        OnlyRegs [R.NET_CAN_ERR f.bus, R.NET_LINKSTAT] s t) ∧
  (∀ (s : State) (f : CanRecv),
    f.bus < 2 →
    f.sound = true →
    s.canUp f.bus = true →
    f.fd = false →
    ∃ t : State, exec (.canFrameReceive f) s = .next t ∧
      t.rd (F.NET_CAN_ERR_CLASSIC f.bus) = (s.rd (F.NET_CAN_ERR_CLASSIC f.bus) + 1) % 256 ∧
        OnlyRegs [R.NET_CAN_ERR f.bus, R.NET_LINKSTAT] s t) ∧
  (∀ (s : State) (f : CanRecv),
    f.bus < 2 →
    f.sound = true →
    s.canUp f.bus = true →
    f.fd = true →
    f.ide = s.flag (F.NET_CAN_CFG_IDE f.bus) →
    f.id = s.rd (F.NET_CAN_REQID_ID f.bus) →
    s.onothOpen (.can f.bus f.id) = true →
    s.net.asm.getD f.bus none = none →
    leAt f.data 0 1 = 0 →
    9 ≤ f.data.length →
    8 ≤ (singleMessage f.data).length →
    s.openRequests (8 + f.bus) < 4 →
    ∃ t : State, exec (.canFrameReceive f) s = .next t ∧
      t.onoth.queue = insertReq
        ({ client := 8 + f.bus, src := NetFrom.can f.bus f.id, at_ := s.now, message := singleMessage f.data } : OnothReq)
        s.onoth.queue ∧
      t.rd F.NET_ONOTH_REQUESTS = (s.rd F.NET_ONOTH_REQUESTS + 1) % 65536 ∧
        OnlyRegs [R.NET_ONOTH, R.NET_CAN_ERR f.bus, R.NET_LINKSTAT] s t) ∧
  (∀ (s : State) (f : CanRecv),
    f.bus < 2 →
    f.sound = true →
    s.canUp f.bus = true →
    f.fd = true →
    f.ide = s.flag (F.NET_CAN_CFG_IDE f.bus) →
    f.id = s.rd (F.NET_CAN_REQID_ID f.bus) →
    s.onothOpen (.can f.bus f.id) = true →
    s.net.asm.length = 2 →
    leAt f.data 0 1 = 0x40 →
    3 ≤ f.data.length →
    leAt f.data 1 2 ≤ 1032 →
    f.data.length - 3 < leAt f.data 1 2 →
    ∃ t : State, exec (.canFrameReceive f) s = .next t ∧
      t.net.asm.getD f.bus none = some ({ total := leAt f.data 1 2, bytes := f.data.drop 3, next := 1, at_ := s.now } : CanAsm)
        ∧ t.onoth = s.onoth ∧ OnlyRegs [R.NET_ONOTH, R.NET_CAN_ERR f.bus, R.NET_LINKSTAT] s t) ∧
  (∀ (s : State) (f : CanRecv) (a : CanAsm),
    f.bus < 2 →
    f.sound = true →
    s.canUp f.bus = true →
    f.fd = true →
    f.ide = s.flag (F.NET_CAN_CFG_IDE f.bus) →
    f.id = s.rd (F.NET_CAN_REQID_ID f.bus) →
    s.onothOpen (.can f.bus f.id) = true →
    s.net.asm.getD f.bus none = some a →
    leAt f.data 0 1 / 64 = 2 →
    leAt f.data 0 1 % 64 ≠ a.next ∨ a.at_ + msec 50 < s.now →
    ∃ t : State, exec (.canFrameReceive f) s = .next t ∧
      t.net.asm.getD f.bus none = none ∧ t.rd F.NET_ONOTH_DROPPED = (s.rd F.NET_ONOTH_DROPPED + 1) % 256 ∧ t.onoth = s.onoth ∧
        OnlyRegs [R.NET_ONOTH, R.NET_CAN_ERR f.bus, R.NET_LINKSTAT] s t) ∧
  (∀ (s : State) (b : Nat) (a : CanAsm),
    s.on .net = true →
    s.net.asm.getD b none = some a →
    a.at_ + msec 50 < s.now →
    ∃ t : State, exec (.segmentTimeout b) s = .next t ∧
      t.net.asm.getD b none = none ∧ t.rd F.NET_ONOTH_DROPPED = (s.rd F.NET_ONOTH_DROPPED + 1) % 256 ∧
        OnlyRegs [R.NET_ONOTH] s t) ∧
  (∀ (s : State) (b : Nat),
    b < 2 →
    s.canUp b = true →
    s.on .safe = true →
    ∃ t : State, exec (.canBusoff b) s = .next t ∧
      t.rd (fCanState b) = 3 ∧ t.rd (F.NET_CAN_ERR_TEC b) = 255 ∧
        t.rd F.NET_LINKSTAT_BUSOFF = (s.rd F.NET_LINKSTAT_BUSOFF + 1) % 256 ∧ t.net.asm.getD b none = none ∧
        s.Took t (Src.CAN_BUSOFF b) ∧ OnlyBlocks faultBlocks s t) ∧
  (∀ (s : State) (b : Nat),
    b < 2 →
    s.on .net = true →
    s.flag (fCanEn b) = true →
    s.rd (fCanState b) = 3 →
    s.flag F.NET_CTRL_AUTOREC = true →
    ∃ t : State, exec (.canBusoffRecover b) s = .next t ∧
      t.rd (fCanState b) = 1 ∧ t.rd (F.NET_CAN_ERR_TEC b) = 0 ∧ t.rd (F.NET_CAN_ERR_REC b) = 0 ∧
        OnlyRegs [R.NET_LINKSTAT, R.NET_CAN_ERR b] s t)

/-- Safety envelopes: acceptance, rejection, copies, timeout, production, configuration (R416, R418, R419, R420, R421, R422).
  Where these rules leave a point open the clauses hold for the model as notes/assumptions/37.md, notes/assumptions/54.md state
  it. -/
def Obligations.SafetyEnvelopes : Prop :=
  (∀ (s : State) (src : NetFrom) (port c : Nat) (bs : List Byte),
    s.envOpen src port = true →
    s.islandUp = true →
    s.on .safe = true →
    s.envFor src port = some c →
    s.net.env.length = 8 →
    c < 8 →
    s.envOpening c src bs = 0 →
    s.envCopy c bs = false →
    s.envRest c bs = 0 →
    ∃ t : State, exec (.envelopeReceive src port bs) s = .next t ∧
      t.rd (F.NET_ENV_STAT_SEQ c) = leAt bs 2 2 ∧ t.rd (F.NET_ENV_STAT_ALIVE c) = leAt bs 4 1 % 16 ∧
        t.rd (F.NET_ENV_CNT_ACCEPTED c) = (s.rd (F.NET_ENV_CNT_ACCEPTED c) + 1) % 65536 ∧
      (1 ≤ (s.envN c).good → t.rd (F.NET_ENV_STAT_STATE c) = 2) ∧ (t.envN c).last = some (envTail bs) ∧
        (t.envN c).good = (s.envN c).good + 1 ∧ (t.envN c).since = s.now ∧ OnlyBlocks [6, 7, 8, 20] s t) ∧
  (∀ (s : State) (src : NetFrom) (port c : Nat) (bs : List Byte),
    s.envOpen src port = true →
    s.islandUp = true →
    s.on .safe = true →
    s.envFor src port = some c →
    s.net.env.length = 8 →
    s.envOpening c src bs ≠ 0 →
    ∃ t : State, exec (.envelopeReceive src port bs) s = .next t ∧
      t.rd (F.NET_ENV_STAT_CAUSE c) = s.envOpening c src bs ∧
        t.rd (F.NET_ENV_CNT_REJECTED c) = (s.rd (F.NET_ENV_CNT_REJECTED c) + 1) % 256 ∧
        t.rd (F.NET_ENV_STAT_SEQ c) = s.rd (F.NET_ENV_STAT_SEQ c) ∧ s.Took t Src.ENV_CHECK ∧
        OnlyBlocks (6 :: faultBlocks) s t) ∧
  (∀ (s : State) (src : NetFrom) (port c : Nat) (bs : List Byte),
    s.envOpen src port = true →
    s.islandUp = true →
    s.on .safe = true →
    s.envFor src port = some c →
    s.net.env.length = 8 →
    s.envOpening c src bs = 0 →
    s.envCopy c bs = false →
    s.envRest c bs ≠ 0 →
    ∃ t : State, exec (.envelopeReceive src port bs) s = .next t ∧
      t.rd (F.NET_ENV_STAT_CAUSE c) = s.envRest c bs ∧
        t.rd (F.NET_ENV_CNT_REJECTED c) = (s.rd (F.NET_ENV_CNT_REJECTED c) + 1) % 256 ∧
        t.rd (F.NET_ENV_STAT_SEQ c) = s.rd (F.NET_ENV_STAT_SEQ c) ∧ s.Took t Src.ENV_CHECK ∧
        OnlyBlocks (6 :: faultBlocks) s t) ∧
  (∀ (s : State) (src : NetFrom) (port c : Nat) (bs : List Byte),
    s.envOpen src port = true →
    s.islandUp = true →
    s.on .safe = true →
    s.envFor src port = some c →
    s.net.env.length = 8 →
    s.envOpening c src bs = 0 →
    s.envCopy c bs = true →
    s.rd (F.NET_ENV_CFG_KIND c) ≠ 0 →
    ∃ t : State, exec (.envelopeReceive src port bs) s = .next t ∧
      t.rd (F.NET_ENV_LOST_COPIES c) = (s.rd (F.NET_ENV_LOST_COPIES c) + 1) % 65536 ∧ t.net = s.net ∧
        OnlyRegs [R.NET_ENV_LOST c] s t) ∧
  (∀ (s : State) (c : Nat),
    c < 8 →
    s.net.env.length = 8 →
    s.on .net = true →
    s.islandUp = true →
    s.on .safe = true →
    s.flag (F.NET_ENV_CFG_EN c) = true →
    s.rd (F.NET_ENV_CFG_KIND c) ≠ 2 →
    s.since (s.envN c).since (msec (s.rd (F.NET_ENV_ID_EXPECT_MS c))) = true →
    s.rd (F.NET_ENV_STAT_STATE c) ≠ 3 →
    ∃ t : State, exec (.envTimerExpiry c) s = .next t ∧
      t.rd (F.NET_ENV_STAT_STATE c) = 3 ∧ t.rd (F.NET_ENV_CNT_TIMEOUTS c) = (s.rd (F.NET_ENV_CNT_TIMEOUTS c) + 1) % 256 ∧
        (t.envN c).skip = true ∧ (t.envN c).good = 0 ∧ (s.rd (F.NET_ENV_CFG_KIND c) = 1 →
        t.flag (F.NET_ENV_STAT_HB_ALLOW c) = false) ∧
      s.Took t Src.ENV_TIMEOUT ∧ OnlyBlocks (6 :: 7 :: 8 :: faultBlocks) s t) ∧
  (∀ (s : State) (c : Nat),
    c < 8 →
    s.net.env.length = 8 →
    s.on .net = true →
    s.islandUp = true →
    s.flag (F.NET_ENV_CFG_EN c) = true →
    s.rd (F.NET_ENV_CFG_KIND c) = 2 →
    s.since (s.envN c).since (msec (s.rd (F.NET_ENV_ID_EXPECT_MS c))) = true →
    ∃ t : State, exec (.envelopeProduce c) s = .next t ∧
      t.rd (F.NET_ENV_STAT_SEQ c) = (s.rd (F.NET_ENV_STAT_SEQ c) + 1) % 65536 ∧
        t.rd (F.NET_ENV_STAT_ALIVE c) = (s.rd (F.NET_ENV_STAT_ALIVE c) + 1) % 16 ∧ (t.envN c).since = s.now ∧
        OnlyRegs [R.NET_ENV_STAT c, R.NET_ENV_CNT c] s t) ∧
  (∀ (s : State) (c sub : Nat) (bs : List Byte),
    s.firmwareUp = true →
    c < 8 →
    ∃ t : State, exec (.envConfigWrite c sub bs) s = .next t ∧
      t.sent.head? = some (Sent.answer (0x1400 + c) sub (s.envService c sub bs).1) ∧
      ((s.envService c sub bs).1 ≠ codeOK → t.dict = s.dict ∧ OnlyRegs [] s t) ∧
      (s.flag F.PWR_MODE_COMM = false → sub ≠ 0 → sub ≤ 11 → (s.envService c sub bs).1 = codeMODE) ∧
      ((s.envService c sub bs).1 = codeOK → t.dict.objs ≠ s.dict.objs → t.rd F.SAF_STATE_CONF = 0)) ∧
  (∀ (s : State) (c sub : Nat) (bs : List Byte),
    s.firmwareUp = true →
    8 ≤ c →
    ∃ t : State, exec (.envConfigWrite c sub bs) s = .next t ∧
      t.sent = Sent.answer (0x1400 + c) sub codeNOOBJECT :: s.sent ∧ OnlyRegs [] s t)

/-- Onoth requests: arrival, the services, write sessions, waiting too long, the host SPI slot (R408, R409, R410, R412, R413,
  R414, R428, R439, R446, R448). Where these rules leave a point open the clauses hold for the model as notes/assumptions/38.md,
  notes/assumptions/44.md, notes/assumptions/45.md, notes/assumptions/50.md state it. -/
def Obligations.RequestsAreServed : Prop :=
  (∀ (s : State) (b n : Nat) (bs : List Byte),
    s.onothOpen (.can b n) = true →
    8 ≤ bs.length →
    s.openRequests (8 + b) < 4 →
    ∃ t : State, exec (.onothRequestArrive (.can b n) bs) s = .next t ∧
      t.onoth.queue = insertReq ({ client := 8 + b, src := NetFrom.can b n, at_ := s.now, message := bs } : OnothReq)
        s.onoth.queue ∧
      t.rd F.NET_ONOTH_REQUESTS = (s.rd F.NET_ONOTH_REQUESTS + 1) % 65536 ∧ OnlyRegs [R.NET_ONOTH] s t) ∧
  (∀ (s : State) (b n : Nat) (bs : List Byte),
    s.onothOpen (.can b n) = true →
    8 ≤ bs.length →
    4 ≤ s.openRequests (8 + b) →
    ∃ t : State, exec (.onothRequestArrive (.can b n) bs) s = .next t ∧
      t.onoth = s.onoth ∧ t.rd F.NET_ONOTH_REQUESTS = (s.rd F.NET_ONOTH_REQUESTS + 1) % 65536 ∧
        t.rd F.NET_ONOTH_BUSY = (s.rd F.NET_ONOTH_BUSY + 1) % 256 ∧
      t.sent = (s.reply (.can b n) 0 (responseTo bs codeBUSY [])).sent ∧ OnlyRegs [R.NET_ONOTH] s t) ∧
  (∀ (s : State) (a b ip port : Nat) (bs : List Byte),
    s.onothOpen (.udp a b ip port) = true →
    s.onoth.udp.length = 8 →
    8 ≤ bs.length →
    s.openRequests (s.udpEntry ip port) < 4 →
    ∃ t : State, exec (.onothRequestArrive (.udp a b ip port) bs) s = .next t ∧
      t.onoth.queue = insertReq ({ client := s.udpEntry ip port, src := NetFrom.udp a b ip port, at_ := s.now, message := bs } :
        OnothReq) s.onoth.queue ∧
      t.onoth.udp.getD (s.udpEntry ip port) none = some ({ ip := ip, port := port, active := s.now } : UdpClient) ∧
        OnlyRegs [R.NET_ONOTH, R.NET_ONOTH2] s t) ∧
  (∀ (s : State) (f : NetFrom) (bs : List Byte),
    s.onothOpen f = false ∨ bs.length < 8 →
    ∃ t : State, exec (.onothRequestArrive f bs) s = .next t ∧
      t = s) ∧
  (∀ (s : State) (q : OnothReq) (c : Instr) (svc : Nat),
    (c, svc) ∈ [(Instr.read, svcRead), (Instr.write, svcWrite), (Instr.readSnap, svcSnap), (Instr.domRead, svcDomRead),
      (Instr.domBegin, svcDomBegin), (Instr.domWrite, svcDomWrite), (Instr.domEnd, svcDomEnd), (Instr.domAbort, svcDomAbort)] →
    s.firmwareUp = false ∨ s.nextRequest = none ∨ (s.nextRequest = some q ∧ formCode q.message = codeOK ∧
      msgSvc q.message ≠ svc) →
    ∃ t : State, exec (c) s = .next t ∧
      t = s) ∧
  (∀ (s : State) (q : OnothReq) (c : Instr) (svc : Nat),
    (c, svc) ∈ [(Instr.read, svcRead), (Instr.write, svcWrite), (Instr.readSnap, svcSnap), (Instr.domRead, svcDomRead),
      (Instr.domBegin, svcDomBegin), (Instr.domWrite, svcDomWrite), (Instr.domEnd, svcDomEnd), (Instr.domAbort, svcDomAbort)] →
    s.firmwareUp = true →
    s.nextRequest = some q →
    formCode q.message ≠ codeOK ∨ msgSvc q.message = svc →
    repeats q.message (s.onoth.last.getD q.client (0, [])) = true →
    ∃ t : State, exec (c) s = .next t ∧
      t.onoth.queue = s.onoth.queue.erase q ∧ t.onoth.last = s.onoth.last ∧ t.dict = s.dict ∧
        t.sent = (s.reply q.src q.token (s.onoth.last.getD q.client (0, [])).2).sent ∧
      (s.on .net = true → t.rd F.NET_ONOTH2_REPLAYED = (s.rd F.NET_ONOTH2_REPLAYED + 1) % 256) ∧ (∀ a, a ≠ R.NET_ONOTH2 →
        t.reg a = s.reg a)) ∧
  (∀ (s : State) (q : OnothReq) (c : Instr) (svc : Nat),
    (c, svc) ∈ [(Instr.read, svcRead), (Instr.write, svcWrite), (Instr.readSnap, svcSnap), (Instr.domRead, svcDomRead),
      (Instr.domBegin, svcDomBegin), (Instr.domWrite, svcDomWrite), (Instr.domEnd, svcDomEnd), (Instr.domAbort, svcDomAbort)] →
    s.firmwareUp = true →
    s.nextRequest = some q →
    formCode q.message ≠ codeOK →
    q.client < 11 →
    s.onoth.last.length = 11 →
    repeats q.message (s.onoth.last.getD q.client (0, [])) = false →
    ∃ t : State, exec (c) s = .next t ∧
      s.Answered t q (formCode q.message) [] ∧ t.dict = s.dict ∧ t.onoth.sessions = s.onoth.sessions ∧
        (∀ a, t.reg a = s.reg a)) ∧
  (∀ (s : State) (q : OnothReq),
    s.Serves q svcRead →
    s.gateRead (msgIndex q.message) (msgSub q.message) = codeOK →
    ((msgData q.message)).isEmpty = true →
    (s.objValue q.client (msgIndex q.message) (msgSub q.message)).length ≤ 1024 →
    (msgIndex q.message) < 0xB000 →
    ∃ t : State, exec (.read) s = .next t ∧
      s.Answered t q codeOK (s.objValue q.client (msgIndex q.message) (msgSub q.message)) ∧ t.dict = s.dict ∧
        (∀ a, t.reg a = s.reg a) ∧ (q.src ≠ NetFrom.hspi → SameMem s t)) ∧
  (∀ (s : State) (q : OnothReq),
    s.Serves q svcRead →
    s.gateRead (msgIndex q.message) (msgSub q.message) ≠ codeOK →
    ∃ t : State, exec (.read) s = .next t ∧
      s.Answered t q (s.gateRead (msgIndex q.message) (msgSub q.message)) [] ∧ t.dict = s.dict ∧ (∀ a, t.reg a = s.reg a) ∧
        (q.src ≠ NetFrom.hspi → SameMem s t)) ∧
  (∀ (s : State) (q : OnothReq) (a : Nat),
    s.Serves q svcWrite →
    entryAddr (msgIndex q.message) (msgSub q.message) = some a →
    s.gateWrite (msgIndex q.message) (msgSub q.message) (msgData q.message) = codeOK →
    ((msgData q.message)).length = 4 →
    s.regCode a (BitVec.ofNat 32 (ofLeBytes (msgData q.message))) = codeOK →
    a ≠ R.LAY_SHEAF →
    ∃ t : State, exec (.write) s = .next t ∧
      t.onoth.last.getD q.client (0, []) = (msgSvc q.message, responseTo q.message codeOK []) ∧
        (∀ r, t.reg r = ((s.takeUp q).writeReg a (BitVec.ofNat 32 (ofLeBytes (msgData q.message)))).reg r) ∧
      ((genGroup a).isSome = false → t.keptWord a = keptPart a (BitVec.ofNat 32 (ofLeBytes (msgData q.message))))) ∧
  (∀ (s : State) (q : OnothReq),
    s.Serves q svcWrite →
    s.gateWrite (msgIndex q.message) (msgSub q.message) (msgData q.message) ≠ codeOK →
    (msgIndex q.message) ≠ 0x2001 →
    ∃ t : State, exec (.write) s = .next t ∧
      s.Answered t q (s.gateWrite (msgIndex q.message) (msgSub q.message) (msgData q.message)) [] ∧ t.dict = s.dict ∧
        (∀ a, t.reg a = s.reg a) ∧ (q.src ≠ NetFrom.hspi → SameMem s t)) ∧
  (∀ (s : State) (q : OnothReq),
    s.Serves q svcWrite →
    (msgIndex q.message) = 0x1009 →
    (msgSub q.message) = 0 →
    s.flag F.PWR_MODE_COMM = true →
    s.isSealed 0x1009 0 = false →
    ((msgData q.message)).length ≤ 32 →
    utf8Ok (msgData q.message) = true →
    ∃ t : State, exec (.write) s = .next t ∧
      s.Answered t q codeOK [] ∧ t.objValue 0 0x1009 0 = (msgData q.message) ∧ (∀ a, t.reg a = s.reg a) ∧
        (q.src ≠ NetFrom.hspi → SameMem s t)) ∧
  (∀ (s : State) (q : OnothReq),
    s.Serves q svcSnap →
    1 ≤ leAt (msgData q.message) 0 1 →
    leAt (msgData q.message) 0 1 ≤ 16 →
    ((msgData q.message)).length = 1 + 3 * leAt (msgData q.message) 0 1 →
    (leBytes 8 s.localTime ++ (List.range (leAt (msgData q.message) 0 1)).flatMap fun (j : Nat) => s.snapEntry q.client
      (((msgData q.message)).drop (1 + 3 * j))).length ≤ 1024 →
    ∃ t : State, exec (.readSnap) s = .next t ∧
      s.Answered t q codeOK (leBytes 8 s.localTime ++ (List.range (leAt (msgData q.message) 0 1)).flatMap fun (j : Nat) =>
        s.snapEntry q.client (((msgData q.message)).drop (1 + 3 * j))) ∧
      t.dict = s.dict ∧ (∀ a, t.reg a = s.reg a) ∧ (q.src ≠ NetFrom.hspi → SameMem s t)) ∧
  (∀ (s : State) (q : OnothReq),
    s.Serves q svcDomRead →
    s.gateRead (msgIndex q.message) (msgSub q.message) = codeOK →
    (s.typeOf (msgIndex q.message) (msgSub q.message)).isDom = true →
    ((msgData q.message)).length = 6 →
    1 ≤ leAt (msgData q.message) 4 2 →
    leAt (msgData q.message) 4 2 ≤ 1024 →
    leAt (msgData q.message) 0 4 + leAt (msgData q.message) 4 2 ≤ (s.objValue q.client (msgIndex q.message) (msgSub
      q.message)).length →
    (msgIndex q.message) < 0xB000 →
    ∃ t : State, exec (.domRead) s = .next t ∧
      s.Answered t q codeOK (((s.objValue q.client (msgIndex q.message) (msgSub q.message)).drop (leAt (msgData q.message) 0
        4)).take (leAt (msgData q.message) 4 2)) ∧ t.dict = s.dict ∧ (∀ a, t.reg a = s.reg a) ∧ (q.src ≠ NetFrom.hspi →
        SameMem s t)) ∧
  (∀ (s : State) (q : OnothReq) (max : Nat),
    s.Serves q svcDomBegin →
    s.gateWrite (msgIndex q.message) (msgSub q.message) [] = codeOK →
    s.typeOf (msgIndex q.message) (msgSub q.message) = .dom max →
    ((msgData q.message)).length = 4 →
    domLengthOk (msgIndex q.message) max (leAt (msgData q.message) 0 4) = true →
    s.mapPending (msgIndex q.message) = false →
    (s.onoth.sessions.any fun (x : DomSession) => x.client ≠ q.client && x.index = (msgIndex q.message) && x.sub = (msgSub
      q.message)) = false →
    ∃ t : State, exec (.domBegin) s = .next t ∧
      s.Answered t q codeOK [] ∧
        t.sessionOf q.client = some
        ({ client := q.client, index := (msgIndex q.message), sub := (msgSub q.message), total := leAt (msgData q.message) 0 4, at_ := s.now }
        : DomSession) ∧
      t.dict = s.dict ∧ (∀ a, a ≠ R.NET_ONOTH2 → t.reg a = s.reg a) ∧ (q.src ≠ NetFrom.hspi → SameMem s t)) ∧
  (∀ (s : State) (q : OnothReq) (max : Nat),
    s.Serves q svcDomBegin →
    s.gateWrite (msgIndex q.message) (msgSub q.message) [] = codeOK →
    s.typeOf (msgIndex q.message) (msgSub q.message) = .dom max →
    ((msgData q.message)).length = 4 →
    domLengthOk (msgIndex q.message) max (leAt (msgData q.message) 0 4) = true →
    s.mapPending (msgIndex q.message) = true ∨
      (s.onoth.sessions.any fun (x : DomSession) => x.client ≠ q.client && x.index = (msgIndex q.message) && x.sub = (msgSub
      q.message)) = true →
    ∃ t : State, exec (.domBegin) s = .next t ∧
      s.Answered t q (if s.mapPending (msgIndex q.message) then codePENDING else codeBUSY) [] ∧
        t.onoth.sessions = s.onoth.sessions ∧ (∀ a, a ≠ R.ODX_LOAD → t.reg a = s.reg a) ∧
      (s.mapPending (msgIndex q.message) = false → t.dict.busyAt = some s.now ∧
        t.dict.busyCount = (s.dict.busyCount + 1) % 2 ^ 32 ∧ t.rd F.ODX_LOAD_BUSY = (s.rd F.ODX_LOAD_BUSY + 1) % 65536)) ∧
  (∀ (s : State) (q : OnothReq) (x : DomSession),
    s.Serves q svcDomWrite →
    s.sessionFor q.client (msgIndex q.message) (msgSub q.message) = some x →
    5 ≤ ((msgData q.message)).length →
    leAt (msgData q.message) 0 4 + (((msgData q.message)).length - 4) ≤ x.total →
    ∃ t : State, exec (.domWrite) s = .next t ∧
      s.Answered t q codeOK [] ∧
        t.sessionOf q.client = some
        { x with at_ := s.now, pieces := x.pieces ++ [(leAt (msgData q.message) 0 4, ((msgData q.message)).drop 4)] } ∧
        t.dict = s.dict ∧ (∀ a, t.reg a = s.reg a) ∧ (q.src ≠ NetFrom.hspi → SameMem s t)) ∧
  (∀ (s : State) (q : OnothReq),
    s.Serves q svcDomWrite ∨ s.Serves q svcDomEnd ∨ s.Serves q svcDomAbort →
    s.sessionFor q.client (msgIndex q.message) (msgSub q.message) = none →
    ∃ t : State, exec ((if msgSvc q.message = svcDomWrite then .domWrite else if msgSvc q.message = svcDomEnd then .domEnd else
      .domAbort)) s = .next t ∧
      s.Answered t q (if msgSvc q.message = svcDomEnd ∧
        s.gateWrite (msgIndex q.message) (msgSub q.message) [] ≠ codeOK then s.gateWrite (msgIndex q.message) (msgSub q.message)
        [] else codeRANGE) [] ∧ t.onoth.sessions = s.onoth.sessions ∧ t.dict = s.dict ∧ (∀ a, t.reg a = s.reg a) ∧
        (q.src ≠ NetFrom.hspi → SameMem s t)) ∧
  (∀ (s : State) (q : OnothReq) (x : DomSession),
    s.Serves q svcDomEnd →
    s.sessionFor q.client (msgIndex q.message) (msgSub q.message) = some x →
    s.gateWrite (msgIndex q.message) (msgSub q.message) [] ≠ codeOK →
    ∃ t : State, exec (.domEnd) s = .next t ∧
      s.Answered t q (s.gateWrite (msgIndex q.message) (msgSub q.message) []) [] ∧ t.sessionOf q.client = none ∧
        t.dict = s.dict ∧ (∀ a, t.reg a = s.reg a) ∧ (q.src ≠ NetFrom.hspi → SameMem s t)) ∧
  (∀ (s : State) (q : OnothReq) (x : DomSession),
    s.Serves q svcDomEnd →
    s.sessionFor q.client (msgIndex q.message) (msgSub q.message) = some x →
    s.gateWrite (msgIndex q.message) (msgSub q.message) [] = codeOK →
    x.whole = none ∨ ((msgData q.message)).length ≠ 4 ∨ x.whole.map crc32 ≠ some (leAt (msgData q.message) 0 4) →
    ∃ t : State, exec (.domEnd) s = .next t ∧
      s.Answered t q codeLENGTH [] ∧ t.sessionOf q.client = some { x with at_ := s.now } ∧ t.dict = s.dict ∧
        (∀ a, t.reg a = s.reg a) ∧ (q.src ≠ NetFrom.hspi → SameMem s t)) ∧
  (∀ (s : State) (q : OnothReq) (x : DomSession) (v : List Byte) (n : Nat),
    s.Serves q svcDomEnd →
    s.sessionFor q.client (msgIndex q.message) (msgSub q.message) = some x →
    n < 8 →
    (msgIndex q.message) = 0xB000 + n →
    (msgSub q.message) = 1 →
    s.gateWrite (msgIndex q.message) (msgSub q.message) [] = codeOK →
    x.whole = some v →
    1 ≤ v.length →
    v.length ≤ 64 →
    ((msgData q.message)).length = 4 →
    crc32 v = leAt (msgData q.message) 0 4 →
    s.flag (F.MBX_CH_STAT_FULL n) = false →
    ∃ t : State, exec (.domEnd) s = .next t ∧
      t.onoth.last.getD q.client (0, []) = (msgSvc q.message, responseTo q.message codeOK []) ∧ t.sessionOf q.client = none ∧
        t.flag (F.MBX_CH_STAT_FULL n) = true ∧ t.rd (F.MBX_CH_STAT_LEN n) = v.length ∧
      t.regN (R.MBX_CH_RX n 0) = (if v.length < 1 then s.regN (R.MBX_CH_TX n 0) else leAt v 0 4) ∧ (∀ a, blockOf a ≠ 18 →
        t.reg a = s.reg a)) ∧
  (∀ (s : State) (q : OnothReq) (x : DomSession) (v : List Byte) (n : Nat),
    s.Serves q svcDomEnd →
    s.sessionFor q.client (msgIndex q.message) (msgSub q.message) = some x →
    n < 4 →
    s.cal.checks.length = 4 →
    (msgIndex q.message) = 0x8110 + n →
    (msgSub q.message) = 0 →
    s.gateWrite (msgIndex q.message) (msgSub q.message) [] = codeOK →
    x.whole = some v →
    domLengthOk (0x8110 + n) 524352 v.length = true →
    ((msgData q.message)).length = 4 →
    crc32 v = leAt (msgData q.message) 0 4 →
    s.armed (.map n) = false →
    s.cal.checks.getD n none = none →
    ∃ t : State, exec (.domEnd) s = .next t ∧
      t.onoth.queue = s.onoth.queue.erase q ∧ t.onoth.serving = s.onoth.serving ++ [(Waits.map n, q)] ∧ t.sent = s.sent ∧
        (t.cal.checks.getD n none).isSome = true ∧ (∀ a, blockOf a ≠ 5 → t.reg a = s.reg a)) ∧
  (∀ (s : State) (q : OnothReq) (x : DomSession),
    s.Serves q svcDomAbort →
    s.sessionFor q.client (msgIndex q.message) (msgSub q.message) = some x →
    ((msgData q.message)).isEmpty = true →
    ∃ t : State, exec (.domAbort) s = .next t ∧
      s.Answered t q codeOK [] ∧ t.sessionOf q.client = none ∧ t.dict = s.dict ∧ (∀ a, a ≠ R.NET_ONOTH2 → t.reg a = s.reg a) ∧
        (q.src ≠ NetFrom.hspi → SameMem s t)) ∧
  (∀ (s : State) (c : Nat) (x : DomSession),
    s.sessionOf c = some x →
    s.firmwareUp = true →
    s.since x.at_ (sec 2) = true →
    ∃ t : State, exec (.domSessionTimeout c) s = .next t ∧
      t.sessionOf c = none ∧ t.sent = s.sent ∧ OnlyRegs [R.NET_ONOTH2] s t) ∧
  (∀ (s : State) (c : Nat),
    s.sessionOf c = none ∨ s.firmwareUp = false →
    ∃ t : State, exec (.domSessionTimeout c) s = .next t ∧
      t = s) ∧
  (∀ (s : State) (q : OnothReq),
    s.firmwareUp = true →
    (s.onoth.queue.filter fun (p : OnothReq) => s.since p.at_ (msec (s.rd F.ODX_CFG_WAIT_MS))) = [q] →
    ∃ t : State, exec (.requestWaitTimeout) s = .next t ∧
      t.onoth.queue = s.onoth.queue.erase q ∧ t.onoth.last = s.onoth.last ∧ t.dict.busyAt = some s.now ∧
        t.rd F.ODX_LOAD_BUSY = (s.rd F.ODX_LOAD_BUSY + 1) % 65536 ∧
      t.sent = (s.reply q.src q.token (responseTo q.message codeBUSY [])).sent ∧ (∀ a, a ≠ R.ODX_LOAD → t.reg a = s.reg a)) ∧
  (∀ (s : State) (data : Word),
    s.memError .hspi 4 true slotDoor = none →
    s.firmwareUp = true →
    data.toNat % 256 ≠ s.onoth.token →
    s.openRequests 10 = 0 →
    ∃ t : State, exec (.hspiDoor .hspi data) s = .next t ∧
      t.onoth.token = data.toNat % 256 ∧ (∃ r ∈ t.onoth.queue, r.client = 10 ∧ r.src = NetFrom.hspi ∧
        r.token = data.toNat % 256 ∧ r.message = s.slotMessage ∧ r.at_ = s.now) ∧
      t.num slotTaken 1 = data.toNat % 256 ∧ (∀ a, t.reg a = s.reg a)) ∧
  (∀ (s : State) (m : Master) (data : Word) (k : Nat),
    s.memError m 4 true slotDoor = some k →
    ∃ t : State, exec (.hspiDoor m data) s = .next t ∧
      t = s.captureError m true slotDoor k)

/-- The dictionary: Commissioning, store, defaults, sealing, rollback, attention, load, tunnel (R76, R108, R433, R436, R437,
  R438, R441, R447, R449, R455, R458, R463). Where these rules leave a point open the clauses hold for the model as
  notes/assumptions/14.md, notes/assumptions/39.md, notes/assumptions/40.md, notes/assumptions/41.md, notes/assumptions/42.md,
  notes/assumptions/43.md, notes/assumptions/46.md state it. -/
def Obligations.DictionaryCommands : Prop :=
  (∀ (s : State) (c : Instr),
    s.firmwareUp = false →
    c ∈ [Instr.commissionEnter, Instr.commissionLeave, Instr.dictStore, Instr.defaults, Instr.clearPeak, Instr.attentionEval] →
    ∃ t : State, exec (c) s = .next t ∧
      t = s) ∧
  (∀ (s : State),
    s.firmwareUp = true →
    s.mode = .standby →
    s.demand = false →
    ∃ t : State, exec (.commissionEnter) s = .next t ∧
      t.flag F.PWR_MODE_COMM = true ∧ t.sent = Sent.answer 0x2001 5 codeOK :: s.sent ∧ OnlyRegs [R.PWR_MODE] s t) ∧
  (∀ (s : State),
    s.firmwareUp = true →
    s.mode ≠ .standby ∨ s.demand = true →
    ∃ t : State, exec (.commissionEnter) s = .next t ∧
      t.sent = Sent.answer 0x2001 5 (if s.mode = Mode.standby then codeREFUSED else codeMODE) :: s.sent ∧ t.dict = s.dict ∧
        OnlyRegs [] s t) ∧
  (∀ (s : State),
    s.firmwareUp = true →
    s.flag F.PWR_MODE_COMM = true →
    ∃ t : State, exec (.commissionLeave) s = .next t ∧
      t.flag F.PWR_MODE_COMM = false ∧ t.dict.storeDue = false ∧ (∀ x ∈ t.onoth.sessions, 0xB000 ≤ x.index) ∧
      (s.retainedChanged = true → t.rd F.ODX_STORE_STATE = 1) ∧ t.sent = Sent.answer 0x2001 5 codeOK :: s.sent ∧
        OnlyRegs [R.PWR_MODE, R.ODX_STORE, R.NET_ONOTH2] s t) ∧
  (∀ (s : State),
    s.firmwareUp = true →
    s.flag F.PWR_MODE_COMM = false →
    ∃ t : State, exec (.commissionLeave) s = .next t ∧
      t.sent = Sent.answer 0x2001 5 codeOK :: s.sent ∧ t.dict = s.dict ∧ OnlyRegs [] s t) ∧
  (∀ (s : State),
    s.firmwareUp = true →
    ∃ t : State, exec (.dictStore) s = .next t ∧
      t.dict.storeDue = false ∧ (s.retainedChanged = true → t.rd F.ODX_STORE_STATE = 1 ∧ OnlyRegs [R.ODX_STORE] s t) ∧
      (s.retainedChanged = false → t.flash = s.flash ∧ OnlyRegs [] s t) ∧ t.sent = Sent.answer 0x2010 1 codeOK :: s.sent) ∧
  (∀ (s : State),
    s.firmwareUp = true →
    s.flag F.PWR_MODE_COMM = false →
    ∃ t : State, exec (.defaults) s = .next t ∧
      t.sent = Sent.answer 0x2010 2 codeMODE :: s.sent ∧ t.dict = s.dict ∧ t.kept = s.kept ∧ t.saf = s.saf ∧ OnlyRegs [] s t) ∧
  (∀ (s : State),
    s.firmwareUp = true →
    s.flag F.PWR_MODE_COMM = true →
    s.mode = .standby →
    Sparse.Wf resetWord s.kept →
    ∃ t : State, exec (.defaults) s = .next t ∧
      t.dict.objs = s.dict.objs.filter (fun (o : (Nat × Nat) × List Byte) => s.isSealed o.1.1 o.1.2) ∧
      (∀ a, t.keptWord a = if (entryOf a).any (fun (e : Nat × Nat) => !s.isSealed e.1 e.2) = true then resetWord a else
        s.keptWord a) ∧
      t.sent.head? = some (Sent.answer 0x2010 2 codeOK)) ∧
  (∀ (s : State) (a : Nat),
    s.firmwareUp = true →
    s.flag F.PWR_MODE_COMM = true →
    s.mode = .standby →
    Sparse.Wf resetWord s.kept →
    a ∈ [R.CAL_TOL, R.THM_EXTLIM, R.SCN_LEVLIM, R.ENG_DIV0] →
    a ∈ s.kept.map Prod.fst →
    s.on (blockDom (blockOf a) (a % 0x10000)) = true →
    (∀ b, b < 12 → s.bitR R.SYS_BLKOWN b = false) →
    ∃ t : State, exec (.defaults) s = .next t ∧
      t.reg a = resetWord a ∧ t.sent.head? = some (Sent.answer 0x2010 2 codeOK)) ∧
  (∀ (s : State) (value : Nat),
    s.firmwareUp = true →
    s.dict.keys.length = 32 →
    s.flag F.PWR_MODE_COMM = true →
    (value / 2 ^ 32 % 2 ^ 32) ≠ 0 →
    (sealGroups value).all (fun (g : Nat) => decide (g ≤ 5)) = true →
    ∃ t : State, exec (.seal value) s = .next t ∧
      (∀ g, g < 32 → bitAt t.dict.sealed g = (bitAt s.dict.sealed g || (sealGroups value).contains g)) ∧ (∀ g, g < 32 →
        t.dict.keys.getD g (0, 0) = if (sealGroups value).contains g then ((value / 2 ^ 32 % 2 ^ 32), value % 2 ^ 32) else
        s.dict.keys.getD g (0, 0)) ∧
      t.sent = Sent.answer 0x2030 2 codeOK :: s.sent ∧ OnlyRegs [] s t) ∧
  (∀ (s : State) (value : Nat),
    s.firmwareUp = true →
    s.flag F.PWR_MODE_COMM = false ∨ (value / 2 ^ 32 % 2 ^ 32) = 0 ∨
      (sealGroups value).any (fun (g : Nat) => decide (5 < g)) = true →
    ∃ t : State, exec (.seal value) s = .next t ∧
      t.sent = Sent.answer 0x2030 2 (if s.flag F.PWR_MODE_COMM then codeRANGE else codeMODE) :: s.sent ∧ t.dict = s.dict ∧
        OnlyRegs [] s t) ∧
  (∀ (s : State) (value : Nat),
    s.firmwareUp = true →
    s.dict.keys.length = 32 →
    s.dict.unsealFails < 3 →
    (sealGroups value).all (fun (g : Nat) => bitAt s.dict.sealed g && s.dict.keys.getD g (0, 0) == ((value / 2 ^ 32 % 2 ^ 32),
      value % 2 ^ 32)) = true →
    ∃ t : State, exec (.unseal value) s = .next t ∧
      (∀ g, g < 32 → bitAt t.dict.sealed g = (bitAt s.dict.sealed g && !(sealGroups value).contains g)) ∧
        t.dict.unsealFails = s.dict.unsealFails ∧ t.sent = Sent.answer 0x2030 3 codeOK :: s.sent ∧ OnlyRegs [] s t) ∧
  (∀ (s : State) (value : Nat),
    s.firmwareUp = true →
    3 ≤ s.dict.unsealFails ∨
      (sealGroups value).any (fun (g : Nat) => !(bitAt s.dict.sealed g && s.dict.keys.getD g (0, 0) == ((value / 2 ^ 32 % 2 ^
      32), value % 2 ^ 32))) = true →
    ∃ t : State, exec (.unseal value) s = .next t ∧
      t.dict.sealed = s.dict.sealed ∧ t.dict.keys = s.dict.keys ∧ t.dict.unsealFails = min 255 (s.dict.unsealFails + 1) ∧
        t.sent = Sent.answer 0x2030 3 codeREFUSED :: s.sent ∧ OnlyRegs [] s t) ∧
  (∀ (s : State) (value : Nat),
    s.firmwareUp = true →
    s.flag F.PWR_MODE_COMM = true →
    value = s.boot.runRollback →
    s.boot.rollback < value →
    value ≤ 63 →
    ∃ t : State, exec (.rollbackAdv value) s = .next t ∧
      t.boot.rollback = value ∧ t.rd F.BIST_BOOT_ROLLBACK = value ∧ t.sent = Sent.answer 0x2040 1 codeOK :: s.sent ∧
        OnlyRegs [R.BIST_BOOT] s t) ∧
  (∀ (s : State) (value : Nat),
    s.firmwareUp = true →
    s.flag F.PWR_MODE_COMM = false ∨ value ≠ s.boot.runRollback ∨ value ≤ s.boot.rollback ∨ 63 < value →
    ∃ t : State, exec (.rollbackAdv value) s = .next t ∧
      t.boot = s.boot ∧ t.sent = Sent.answer 0x2040 1 (if s.flag F.PWR_MODE_COMM then codeRANGE else codeMODE) :: s.sent ∧
        OnlyRegs [] s t) ∧
  (∀ (s : State),
    s.firmwareUp = true →
    ∃ t : State, exec (.clearPeak) s = .next t ∧
      t.rd F.ODX_LOAD_PEAK = 0 ∧ t.rd F.ODX_LOAD_LOAD = s.rd F.ODX_LOAD_LOAD ∧ t.sent = Sent.answer 0x2020 5 codeOK :: s.sent ∧
        OnlyRegs [R.ODX_LOAD] s t) ∧
  (∀ (s : State) (value : Word),
    s.firmwareUp = true →
    ∃ t : State, exec (.risenClear value) s = .next t ∧
      (∀ k, k < 16 → bitAt t.dict.risen k = (bitAt s.dict.risen k && !bitAt value.toNat k)) ∧
        t.sent = Sent.answer 0x1F00 3 codeOK :: s.sent ∧ OnlyRegs [] s t) ∧
  (∀ (s : State),
    s.firmwareUp = true →
    s.dueSince (s.ran.lookup Timer.attention) (msec 1) = true →
    ∃ t : State, exec (.attentionEval) s = .next t ∧
      t.rd F.ODX_ATTN_FLAGS = ofBits s.goOn.attention ∧ (∀ k, k < 16 →
        bitAt t.dict.risen k = (bitAt s.goOn.dict.risen k || (s.goOn.attention.getD k false && !bitAt (s.goOn.rd
        F.ODX_ATTN_FLAGS) k))) ∧
      t.rd F.ODX_ATTN_CHANGES = (s.goOn.rd F.ODX_ATTN_CHANGES + ((List.range 16).filter fun (k : Nat) => s.goOn.attention.getD k
        false && !bitAt (s.goOn.rd F.ODX_ATTN_FLAGS) k).length) % 65536 ∧ OnlyRegs [R.ODX_ATTN] s.goOn t) ∧
  (∀ (s : State) (load : Nat),
    s.firmwareUp = true →
    s.dueSince (s.ran.lookup Timer.load) (msec 10) = true →
    ∃ t : State, exec (.loadUpdate load) s = .next t ∧
      t.rd F.ODX_LOAD_LOAD = min load 100 ∧ t.rd F.ODX_LOAD_PEAK = max (min load 100) (s.rd F.ODX_LOAD_PEAK) ∧
        (s.rd F.ODX_CFG_BG_HIGH ≤ min load 100 → t.dict.deferring = true) ∧
      (s.rd F.ODX_CFG_BG_LOW ≤ min load 100 → min load 100 < s.rd F.ODX_CFG_BG_HIGH → t.dict.deferring = s.dict.deferring) ∧
      (∀ u, s.dict.lowSince = some u → u + msec 100 ≤ s.now → min load 100 < s.rd F.ODX_CFG_BG_LOW →
        min load 100 < s.rd F.ODX_CFG_BG_HIGH → t.dict.deferring = false) ∧ OnlyRegs [R.ODX_LOAD] s t) ∧
  (∀ (s : State) (n : Nat) (bs : List Byte),
    s.firmwareUp = true →
    n < 8 →
    s.flag (F.MBX_CH_CFG_TUNNEL n) = true →
    s.flag (F.MBX_CH_CFG_EN n) = true →
    s.sender n = 1 →
    1 ≤ bs.length →
    bs.length ≤ 64 →
    s.flag (F.MBX_CH_STAT_FULL n) = false →
    ∃ t : State, exec (.tunnelPost n bs) s = .next t ∧
      t.flag (F.MBX_CH_STAT_FULL n) = true ∧ t.rd (F.MBX_CH_STAT_LEN n) = bs.length ∧ (∀ k, k < 16 → 4 * k < bs.length →
        t.regN (R.MBX_CH_RX n k) = leAt bs (4 * k) 4) ∧
      t.rd (F.MBX_CH_STAT_SEQ n) = s.rd (F.MBX_CH_STAT_SEQ n) % 65535 + 1 ∧
        t.sent = Sent.answer (0xB000 + n) 1 codeOK :: s.sent ∧ OnlyBlocks [18] s t) ∧
  (∀ (s : State) (n : Nat) (bs : List Byte),
    s.firmwareUp = true →
    n < 8 →
    s.flag (F.MBX_CH_CFG_TUNNEL n) = true →
    s.flag (F.MBX_CH_CFG_EN n) = true →
    s.sender n = 1 →
    1 ≤ bs.length →
    bs.length ≤ 64 →
    s.flag (F.MBX_CH_STAT_FULL n) = true →
    ∃ t : State, exec (.tunnelPost n bs) s = .next t ∧
      t.sent = Sent.answer (0xB000 + n) 1 codeBUSY :: s.sent ∧ t.rd F.ODX_LOAD_BUSY = (s.rd F.ODX_LOAD_BUSY + 1) % 65536 ∧
        t.dict.busyAt = some s.now ∧ t.dict.busyCount = (s.dict.busyCount + 1) % 2 ^ 32 ∧ OnlyRegs [R.ODX_LOAD] s t) ∧
  (∀ (s : State) (n : Nat) (bs : List Byte),
    s.firmwareUp = true →
    n < 8 →
    s.flag (F.MBX_CH_CFG_TUNNEL n) = false ∨ s.flag (F.MBX_CH_CFG_EN n) = false ∨ s.sender n ≠ 1 →
    ∃ t : State, exec (.tunnelPost n bs) s = .next t ∧
      t.sent = Sent.answer (0xB000 + n) 1 codeACCESS :: s.sent ∧ OnlyRegs [] s t) ∧
  (∀ (s : State) (n : Nat),
    s.firmwareUp = true →
    n < 8 →
    s.mbx.rdseq.length = 16 →
    s.flag (F.MBX_CH_CFG_TUNNEL n) = true →
    s.flag (F.MBX_CH_CFG_EN n) = true →
    s.receiver n = 1 →
    ∃ t : State, exec (.tunnelTake n) s = .next t ∧
      Sent.tunnel n (s.tunnelMessage n) ∈ t.sent ∧ t.sent.head? = some (Sent.answer (0xB000 + n) 2 codeOK) ∧
      (s.flag (F.MBX_CH_STAT_FULL n) = true → t.flag (F.MBX_CH_STAT_NEW n) = false ∧
        t.mbx.rdseq.getD n 0 = s.rd (F.MBX_CH_STAT_SEQ n)) ∧ OnlyRegs [R.MBX_CH_STAT n] s t) ∧
  (∀ (s : State) (n : Nat),
    s.firmwareUp = true →
    n < 8 →
    s.flag (F.MBX_CH_CFG_TUNNEL n) = false ∨ s.flag (F.MBX_CH_CFG_EN n) = false ∨ s.receiver n ≠ 1 →
    ∃ t : State, exec (.tunnelTake n) s = .next t ∧
      t.sent = Sent.answer (0xB000 + n) 2 codeACCESS :: s.sent ∧ OnlyRegs [] s t) ∧
  (∀ (s : State) (n value : Nat),
    s.firmwareUp = true →
    n < 8 →
    value < 2 ^ 32 →
    s.flag (F.MBX_CH_CFG_TUNNEL n) = true →
    s.flag (F.MBX_CH_CFG_EN n) = true →
    s.receiver n = 1 →
    ∃ t : State, exec (.tunnelAck n value) s = .next t ∧
      (s.flag (F.MBX_CH_STAT_FULL n) = true → bitsOf value 31 16 = s.rd (F.MBX_CH_STAT_SEQ n) →
        t.flag (F.MBX_CH_STAT_FULL n) = false ∧ t.rd (F.MBX_CH_ACK_CODE n) = bitsOf value 7 0 ∧
        t.sent = Sent.answer (0xB000 + n) 3 codeOK :: s.sent) ∧
      (s.flag (F.MBX_CH_STAT_FULL n) = false ∨ bitsOf value 31 16 ≠ s.rd (F.MBX_CH_STAT_SEQ n) →
        t.flag (F.MBX_CH_STAT_STALE n) = true ∧ t.sent = Sent.answer (0xB000 + n) 3 codeREFUSED :: s.sent) ∧
        OnlyRegs [R.MBX_CH_STAT n, R.MBX_CH_ACK n, R.MBX_CH_CNT n] s t)

/-- Every step keeps as many units as the device has (the model's form of their hidden state) (R31, R40). -/
def Obligations.UnitsKeepTheirNumber : Prop :=
  ∀ s t : State, s.Shaped → step s = .next t → t.Shaped

/-- Each attention flag that rises adds 1 to CHANGES (R442). -/
def Obligations.AttentionRisesAreCounted : Prop :=
  ∀ (s : State),
    s.firmwareUp = true →
    s.dueSince (s.ran.lookup Timer.attention) (msec 1) = true →
    ∃ t : State, exec (.attentionEval) s = .next t ∧
      t.rd F.ODX_ATTN_CHANGES = (s.rd F.ODX_ATTN_CHANGES + ((List.range 16).filter fun (k : Nat) => bitAt (t.rd
        F.ODX_ATTN_FLAGS) k && !bitAt (s.rd F.ODX_ATTN_FLAGS) k).length) % 65536 ∧
      (∀ c d : Nat, t.objValue c 0x1F00 3 = t.objValue d 0x1F00 3)
end

