-- ==== Sys2Proof/Laws/Bits.lean ====
section
/-!
SUPPORT. Bit fields: what a field reads after a field of the same word is replaced.
-/

namespace Sys2Proof.Machine

theorem testBit_bitsOf (w hi lo i : Nat) :
    (bitsOf w hi lo).testBit i = (decide (i < hi + 1 - lo) && w.testBit (lo + i)) := by
  simp [bitsOf, Nat.testBit_mod_two_pow, Nat.testBit_div_two_pow, Nat.add_comm]

theorem setBits_split (w hi lo v : Nat) :
    setBits w hi lo v =
      2 ^ lo * (2 ^ (hi + 1 - lo) * (w / 2 ^ lo / 2 ^ (hi + 1 - lo)) + v % 2 ^ (hi + 1 - lo)) + w % 2 ^ lo := by
  have h1 := Nat.div_add_mod w (2 ^ lo)
  have h2 := Nat.div_add_mod (w / 2 ^ lo) (2 ^ (hi + 1 - lo))
  unfold setBits bitsOf
  generalize hn : 2 ^ (hi + 1 - lo) = n at *
  generalize hl : 2 ^ lo = l at *
  generalize hq : w / l / n = q at *
  generalize hr : w / l % n = r at *
  generalize ht : w / l = t at *
  generalize hc : w % l = c at *
  have : w = l * (n * q) + r * l + c := by rw [← h1, ← h2]; ring
  rw [this, Nat.mul_add]
  have : l * (n * q) + r * l + c - r * l = l * (n * q) + c := by omega
  rw [this]; ring

theorem testBit_setBits (w hi lo v i : Nat) :
    (setBits w hi lo v).testBit i =
      if lo ≤ i ∧ i < lo + (hi + 1 - lo) then v.testBit (i - lo) else w.testBit i := by
  rw [setBits_split, Nat.testBit_two_pow_mul_add _ (Nat.mod_lt _ (Nat.two_pow_pos _))]
  by_cases h : i < lo
  · rw [if_pos h, if_neg (by omega), Nat.testBit_mod_two_pow]; simp [h]
  · rw [if_neg h, Nat.testBit_two_pow_mul_add _ (Nat.mod_lt _ (Nat.two_pow_pos _))]
    by_cases h2 : i - lo < hi + 1 - lo
    · rw [if_pos h2, if_pos (by omega), Nat.testBit_mod_two_pow]; simp [h2]
    · rw [if_neg h2, if_neg (by omega), Nat.testBit_div_two_pow, Nat.testBit_div_two_pow]
      congr 1; omega

/-- A field of a word reads the value put there, cut to its width. -/
theorem bitsOf_setBits_same (w hi lo v : Nat) : bitsOf (setBits w hi lo v) hi lo = v % 2 ^ (hi + 1 - lo) := by
  apply Nat.eq_of_testBit_eq
  intro i
  rw [testBit_bitsOf, testBit_setBits, Nat.testBit_mod_two_pow]
  by_cases h : i < hi + 1 - lo
  · rw [if_pos (by omega)]; simp [h]
  · simp [h]

/-- A field of a word is unchanged when a field apart from it is replaced. -/
theorem bitsOf_setBits_ne {w hi lo v hi' lo' : Nat} (h : hi < lo' ∨ hi' < lo) :
    bitsOf (setBits w hi lo v) hi' lo' = bitsOf w hi' lo' := by
  apply Nat.eq_of_testBit_eq
  intro i
  rw [testBit_bitsOf, testBit_bitsOf, testBit_setBits]
  by_cases h2 : i < hi' + 1 - lo'
  · rw [if_neg (by omega)]
  · simp [h2]

theorem bitsOf_lt (w hi lo : Nat) : bitsOf w hi lo < 2 ^ (hi + 1 - lo) := Nat.mod_lt _ (Nat.two_pow_pos _)

/-- A word stays below 2^n when a field below bit n is replaced. -/
theorem setBits_lt {w hi lo v n : Nat} (hw : w < 2 ^ n) (h : hi < n) (hl : lo ≤ hi) : setBits w hi lo v < 2 ^ n := by
  apply Nat.lt_pow_two_of_testBit
  intro i hi'
  rw [testBit_setBits, if_neg (by omega)]
  exact Nat.testBit_lt_two_pow (Nat.lt_of_lt_of_le hw (Nat.pow_le_pow_right (by decide) hi'))

@[simp] theorem b2n_true : b2n true = 1 := rfl
@[simp] theorem b2n_false : b2n false = 0 := rfl

theorem b2n_lt (b : Bool) : b2n b < 2 := by cases b <;> decide

theorem bitAt_eq_testBit (w n : Nat) : bitAt w n = w.testBit n := by
  rw [bitAt, Nat.testBit_eq_decide_div_mod_eq]; rfl

end Sys2Proof.Machine
end

