-- ==== Sys2Proof/Laws/Codec.lean ====
section
/-!
SUPPORT. The line code undone: what a receiver recovers from precoded symbols and from scrambled bits is what was sent (R248, R251).
-/

namespace Sys2Proof.Laws

open Sys2Proof.Machine

/-- A receiver recovers the Gray indices from precoded symbols after the same index (R248). -/
theorem unprecode_precode (gs : List Nat) (y : Nat) (h : ∀ g ∈ gs, g < 4) : unprecode y (precode y gs) = gs := by
  induction gs generalizing y with
  | nil => rfl
  | cons g gs ih =>
    have hg : g < 4 := h g (by simp)
    simp only [precode, unprecode, ih _ fun x hx => h x (by simp [hx])]
    congr 1
    omega

/-- A receiver whose register agrees recovers the payload bits from the scrambled ones (R251). -/
theorem descramble_scramble (reg ds : List Bool) : descramble reg (scramble reg ds) = ds := by
  induction ds generalizing reg with
  | nil => rfl
  | cons d ds ih => simp [scramble, descramble, ih]

/-- A bit pair comes back from its Gray index (R247). -/
theorem ofGray_grayOf (n : Nat) (h : n < 4) : ofGray (grayOf n) = n := by interval_cases n <;> rfl

end Sys2Proof.Laws
end

