-- ==== Sys2Proof/Laws/Sparse.lean ====
section
/-!
SUPPORT. What setting and erasing do to a sparse bank, for every key and every bank, and that both keep its canonical form.
-/

namespace Sys2Proof.Machine.Sparse

variable {α : Type}

theorem get_drop (d : Nat → α) (m : List (Nat × α)) (k j : Nat) :
    get d (drop m k) j = if j = k then d j else get d m j := by
  induction m with
  | nil => simp [drop, get]
  | cons p m ih =>
    obtain ⟨a, v⟩ := p
    by_cases h : a = k
    · subst h
      simp only [drop, if_true, ih, get]
      by_cases hj : j = a
      · simp [hj]
      · simp [hj, Ne.symm hj]
    · simp only [drop, h, if_false, get, ih]
      by_cases ha : a = j
      · subst ha; simp [h]
      · simp [ha]

theorem get_insert (d : Nat → α) (m : List (Nat × α)) (k j : Nat) (v : α)
    (hk : ∀ p ∈ m, p.1 ≠ k) : get d (insert m k v) j = if j = k then v else get d m j := by
  induction m with
  | nil => simp [insert, get, eq_comm]
  | cons p m ih =>
    obtain ⟨a, w⟩ := p
    have ha : a ≠ k := hk _ (List.mem_cons_self ..)
    have ih := ih fun q hq => hk q (List.mem_cons_of_mem _ hq)
    by_cases hlt : k < a
    · simp only [insert, hlt, if_true, get]
      by_cases hj : j = k
      · simp [hj]
      · simp [hj, Ne.symm hj]
    · simp only [insert, hlt, if_false, get, ih]
      by_cases haj : a = j
      · subst haj; simp [ha]
      · simp [haj]

theorem mem_drop {m : List (Nat × α)} {k : Nat} {p : Nat × α} (h : p ∈ drop m k) : p ∈ m ∧ p.1 ≠ k := by
  induction m with
  | nil => simp [drop] at h
  | cons q m ih =>
    obtain ⟨a, v⟩ := q
    by_cases ha : a = k
    · simp only [drop, ha, if_true] at h
      exact ⟨List.mem_cons_of_mem _ (ih h).1, (ih h).2⟩
    · simp only [drop, ha, if_false, List.mem_cons] at h
      rcases h with rfl | h
      · exact ⟨List.mem_cons_self .., ha⟩
      · exact ⟨List.mem_cons_of_mem _ (ih h).1, (ih h).2⟩

/-- A bank reads the value set at the key, and every other key as before. -/
theorem get_set [DecidableEq α] (d : Nat → α) (m : List (Nat × α)) (k j : Nat) (v : α) :
    get d (set d m k v) j = if j = k then v else get d m j := by
  unfold set
  split
  · rename_i h; rw [get_drop]; split <;> simp_all
  · rw [get_insert _ _ _ _ _ fun p hp => (mem_drop hp).2, get_drop]; split <;> simp_all

@[simp] theorem get_set_same [DecidableEq α] (d : Nat → α) (m : List (Nat × α)) (k : Nat) (v : α) : get d (set d m k v) k = v := by
  simp [get_set]

theorem get_set_ne [DecidableEq α] (d : Nat → α) (m : List (Nat × α)) {k j : Nat} (v : α) (h : j ≠ k) :
    get d (set d m k v) j = get d m j := by
  simp [get_set, h]

/-- An erased key reads as unlisted, and every other key as before. -/
theorem get_erase (d : Nat → α) (m : List (Nat × α)) (lo hi j : Nat) :
    get d (erase m lo hi) j = if lo ≤ j ∧ j < hi then d j else get d m j := by
  induction m with
  | nil => simp [erase, get]
  | cons p m ih =>
    obtain ⟨a, v⟩ := p
    have ih' : get d (m.filter fun p => !(decide (lo ≤ p.1) && decide (p.1 < hi))) j =
        if lo ≤ j ∧ j < hi then d j else get d m j := ih
    by_cases h : lo ≤ a ∧ a < hi
    · have : erase ((a, v) :: m) lo hi = erase m lo hi := by simp [erase, h]
      rw [this, ih]
      by_cases hj : lo ≤ j ∧ j < hi
      · simp [hj]
      · have : a ≠ j := by rintro rfl; exact hj h
        simp [hj, get, this]
    · have : erase ((a, v) :: m) lo hi = (a, v) :: erase m lo hi := by
        simp only [erase, List.filter_cons]
        split
        · rfl
        · rename_i hc; simp at hc; exact absurd hc h
      rw [this]
      simp only [get]
      by_cases ha : a = j
      · subst ha; simp [h]
      · simp [ha, ih]

theorem drop_pairwise {m : List (Nat × α)} (k : Nat) (h : m.Pairwise fun p q => p.1 < q.1) :
    (drop m k).Pairwise fun p q => p.1 < q.1 := by
  induction m with
  | nil => simp [drop]
  | cons p m ih =>
    obtain ⟨a, v⟩ := p
    rw [List.pairwise_cons] at h
    by_cases ha : a = k
    · simpa [drop, ha] using ih h.2
    · simp only [drop, ha, if_false, List.pairwise_cons]
      exact ⟨fun q hq => h.1 q (mem_drop hq).1, ih h.2⟩

theorem mem_insert {m : List (Nat × α)} {k : Nat} {v : α} {p : Nat × α} (h : p ∈ insert m k v) :
    p = (k, v) ∨ p ∈ m := by
  induction m with
  | nil => simpa [insert] using h
  | cons q m ih =>
    obtain ⟨a, w⟩ := q
    by_cases hlt : k < a
    · simpa [insert, hlt] using h
    · simp only [insert, hlt, if_false, List.mem_cons] at h ⊢
      rcases h with h | h
      · exact .inr (.inl h)
      · rcases ih h with h | h
        · exact .inl h
        · exact .inr (.inr h)

theorem insert_pairwise {m : List (Nat × α)} {k : Nat} {v : α} (h : m.Pairwise fun p q => p.1 < q.1)
    (hk : ∀ p ∈ m, p.1 ≠ k) : (insert m k v).Pairwise fun p q => p.1 < q.1 := by
  induction m with
  | nil => simp [insert]
  | cons p m ih =>
    obtain ⟨a, w⟩ := p
    have ha : a ≠ k := hk _ (List.mem_cons_self ..)
    rw [List.pairwise_cons] at h
    by_cases hlt : k < a
    · simp only [insert, hlt, if_true, List.pairwise_cons, List.mem_cons]
      refine ⟨?_, h⟩
      rintro q (rfl | hq)
      · exact hlt
      · exact Nat.lt_trans hlt (h.1 q hq)
    · simp only [insert, hlt, if_false, List.pairwise_cons]
      refine ⟨fun q hq => ?_, ih h.2 fun q hq => hk q (List.mem_cons_of_mem _ hq)⟩
      rcases mem_insert hq with rfl | hq
      · exact Nat.lt_of_le_of_ne (Nat.le_of_not_lt hlt) ha
      · exact h.1 q hq

/-- Setting a key keeps the canonical form. -/
theorem set_wf [DecidableEq α] {d : Nat → α} {m : List (Nat × α)} (h : Wf d m) (k : Nat) (v : α) : Wf d (set d m k v) := by
  unfold set
  split
  · exact ⟨drop_pairwise k h.1, fun p hp => h.2 p (mem_drop hp).1⟩
  · rename_i hv
    refine ⟨insert_pairwise (drop_pairwise k h.1) fun p hp => (mem_drop hp).2, fun p hp => ?_⟩
    rcases mem_insert hp with rfl | hp
    · exact hv
    · exact h.2 p (mem_drop hp).1

/-- A bank with some keys filtered out keeps the canonical form. -/
theorem filter_wf {d : Nat → α} {m : List (Nat × α)} (h : Wf d m) (q : Nat × α → Bool) : Wf d (m.filter q) :=
  ⟨h.1.filter q, fun p hp => h.2 p (List.mem_of_mem_filter hp)⟩

/-- Erasing keys keeps the canonical form. -/
theorem erase_wf {d : Nat → α} {m : List (Nat × α)} (h : Wf d m) (lo hi : Nat) : Wf d (erase m lo hi) := filter_wf h _

theorem nil_wf (d : Nat → α) : Wf d ([] : List (Nat × α)) := ⟨List.Pairwise.nil, by simp⟩

end Sys2Proof.Machine.Sparse
end

