-- ==== Sys2Proof/Laws/State.lean ====
section
/-!
SUPPORT. One lemma per field of the state and per named update that leaves the field alone.
-/

namespace Sys2Proof.Machine

variable (s : State)

@[simp] theorem State.setReg_now (a : Nat) (w : Word) : (s.setReg a w).now = s.now := rfl
@[simp] theorem State.setReg_free (a : Nat) (w : Word) : (s.setReg a w).free = s.free := rfl
@[simp] theorem State.setReg_pending (a : Nat) (w : Word) : (s.setReg a w).pending = s.pending := rfl
@[simp] theorem State.setReg_sent (a : Nat) (w : Word) : (s.setReg a w).sent = s.sent := rfl
@[simp] theorem State.setReg_mem (a : Nat) (w : Word) : (s.setReg a w).mem = s.mem := rfl
@[simp] theorem State.setReg_applied (a : Nat) (w : Word) : (s.setReg a w).applied = s.applied := rfl
@[simp] theorem State.setReg_armedAt (a : Nat) (w : Word) : (s.setReg a w).armedAt = s.armedAt := rfl
@[simp] theorem State.setReg_marks (a : Nat) (w : Word) : (s.setReg a w).marks = s.marks := rfl
@[simp] theorem State.setReg_lateErr (a : Nat) (w : Word) : (s.setReg a w).lateErr = s.lateErr := rfl
@[simp] theorem State.setReg_ran (a : Nat) (w : Word) : (s.setReg a w).ran = s.ran := rfl
@[simp] theorem State.setReg_pwr (a : Nat) (w : Word) : (s.setReg a w).pwr = s.pwr := rfl
@[simp] theorem State.setReg_boot (a : Nat) (w : Word) : (s.setReg a w).boot = s.boot := rfl
@[simp] theorem State.setReg_brm (a : Nat) (w : Word) : (s.setReg a w).brm = s.brm := rfl
@[simp] theorem State.setReg_gptp (a : Nat) (w : Word) : (s.setReg a w).gptp = s.gptp := rfl
@[simp] theorem State.setReg_pid (a : Nat) (w : Word) : (s.setReg a w).pid = s.pid := rfl
@[simp] theorem State.setReg_buck (a : Nat) (w : Word) : (s.setReg a w).buck = s.buck := rfl
@[simp] theorem State.setReg_sw (a : Nat) (w : Word) : (s.setReg a w).sw = s.sw := rfl
@[simp] theorem State.setReg_eng (a : Nat) (w : Word) : (s.setReg a w).eng = s.eng := rfl
@[simp] theorem State.setReg_thm (a : Nat) (w : Word) : (s.setReg a w).thm = s.thm := rfl
@[simp] theorem State.setReg_saf (a : Nat) (w : Word) : (s.setReg a w).saf = s.saf := rfl
@[simp] theorem State.setReg_flash (a : Nat) (w : Word) : (s.setReg a w).flash = s.flash := rfl
@[simp] theorem State.setReg_vin (a : Nat) (w : Word) : (s.setReg a w).vin = s.vin := rfl
@[simp] theorem State.setReg_imu (a : Nat) (w : Word) : (s.setReg a w).imu = s.imu := rfl
@[simp] theorem State.setReg_cf (a : Nat) (w : Word) : (s.setReg a w).cf = s.cf := rfl
@[simp] theorem State.setReg_sheaf (a : Nat) (w : Word) : (s.setReg a w).sheaf = s.sheaf := rfl
@[simp] theorem State.setReg_comp (a : Nat) (w : Word) : (s.setReg a w).comp = s.comp := rfl
@[simp] theorem State.setReg_recs (a : Nat) (w : Word) : (s.setReg a w).recs = s.recs := rfl
@[simp] theorem State.setReg_gme (a : Nat) (w : Word) : (s.setReg a w).gme = s.gme := rfl
@[simp] theorem State.setReg_scn (a : Nat) (w : Word) : (s.setReg a w).scn = s.scn := rfl
@[simp] theorem State.setReg_link (a : Nat) (w : Word) : (s.setReg a w).link = s.link := rfl
@[simp] theorem State.setReg_cal (a : Nat) (w : Word) : (s.setReg a w).cal = s.cal := rfl
@[simp] theorem State.setReg_sat (a : Nat) (w : Word) : (s.setReg a w).sat = s.sat := rfl
@[simp] theorem State.setReg_mbx (a : Nat) (w : Word) : (s.setReg a w).mbx = s.mbx := rfl
@[simp] theorem State.setReg_cvu (a : Nat) (w : Word) : (s.setReg a w).cvu = s.cvu := rfl
@[simp] theorem State.setReg_dict (a : Nat) (w : Word) : (s.setReg a w).dict = s.dict := rfl
@[simp] theorem State.setReg_net (a : Nat) (w : Word) : (s.setReg a w).net = s.net := rfl
@[simp] theorem State.setReg_onoth (a : Nat) (w : Word) : (s.setReg a w).onoth = s.onoth := rfl
@[simp] theorem State.setReg_kept (a : Nat) (w : Word) : (s.setReg a w).kept = s.kept := rfl

@[simp] theorem State.setN_now (a v : Nat) : (s.setN a v).now = s.now := rfl
@[simp] theorem State.setN_free (a v : Nat) : (s.setN a v).free = s.free := rfl
@[simp] theorem State.setN_pending (a v : Nat) : (s.setN a v).pending = s.pending := rfl
@[simp] theorem State.setN_sent (a v : Nat) : (s.setN a v).sent = s.sent := rfl
@[simp] theorem State.setN_mem (a v : Nat) : (s.setN a v).mem = s.mem := rfl
@[simp] theorem State.setN_applied (a v : Nat) : (s.setN a v).applied = s.applied := rfl
@[simp] theorem State.setN_armedAt (a v : Nat) : (s.setN a v).armedAt = s.armedAt := rfl
@[simp] theorem State.setN_marks (a v : Nat) : (s.setN a v).marks = s.marks := rfl
@[simp] theorem State.setN_lateErr (a v : Nat) : (s.setN a v).lateErr = s.lateErr := rfl
@[simp] theorem State.setN_ran (a v : Nat) : (s.setN a v).ran = s.ran := rfl
@[simp] theorem State.setN_pwr (a v : Nat) : (s.setN a v).pwr = s.pwr := rfl
@[simp] theorem State.setN_boot (a v : Nat) : (s.setN a v).boot = s.boot := rfl
@[simp] theorem State.setN_brm (a v : Nat) : (s.setN a v).brm = s.brm := rfl
@[simp] theorem State.setN_gptp (a v : Nat) : (s.setN a v).gptp = s.gptp := rfl
@[simp] theorem State.setN_pid (a v : Nat) : (s.setN a v).pid = s.pid := rfl
@[simp] theorem State.setN_buck (a v : Nat) : (s.setN a v).buck = s.buck := rfl
@[simp] theorem State.setN_sw (a v : Nat) : (s.setN a v).sw = s.sw := rfl
@[simp] theorem State.setN_eng (a v : Nat) : (s.setN a v).eng = s.eng := rfl
@[simp] theorem State.setN_thm (a v : Nat) : (s.setN a v).thm = s.thm := rfl
@[simp] theorem State.setN_saf (a v : Nat) : (s.setN a v).saf = s.saf := rfl
@[simp] theorem State.setN_flash (a v : Nat) : (s.setN a v).flash = s.flash := rfl
@[simp] theorem State.setN_vin (a v : Nat) : (s.setN a v).vin = s.vin := rfl
@[simp] theorem State.setN_imu (a v : Nat) : (s.setN a v).imu = s.imu := rfl
@[simp] theorem State.setN_cf (a v : Nat) : (s.setN a v).cf = s.cf := rfl
@[simp] theorem State.setN_sheaf (a v : Nat) : (s.setN a v).sheaf = s.sheaf := rfl
@[simp] theorem State.setN_comp (a v : Nat) : (s.setN a v).comp = s.comp := rfl
@[simp] theorem State.setN_recs (a v : Nat) : (s.setN a v).recs = s.recs := rfl
@[simp] theorem State.setN_gme (a v : Nat) : (s.setN a v).gme = s.gme := rfl
@[simp] theorem State.setN_scn (a v : Nat) : (s.setN a v).scn = s.scn := rfl
@[simp] theorem State.setN_link (a v : Nat) : (s.setN a v).link = s.link := rfl
@[simp] theorem State.setN_cal (a v : Nat) : (s.setN a v).cal = s.cal := rfl
@[simp] theorem State.setN_sat (a v : Nat) : (s.setN a v).sat = s.sat := rfl
@[simp] theorem State.setN_mbx (a v : Nat) : (s.setN a v).mbx = s.mbx := rfl
@[simp] theorem State.setN_cvu (a v : Nat) : (s.setN a v).cvu = s.cvu := rfl
@[simp] theorem State.setN_dict (a v : Nat) : (s.setN a v).dict = s.dict := rfl
@[simp] theorem State.setN_net (a v : Nat) : (s.setN a v).net = s.net := rfl
@[simp] theorem State.setN_onoth (a v : Nat) : (s.setN a v).onoth = s.onoth := rfl
@[simp] theorem State.setN_kept (a v : Nat) : (s.setN a v).kept = s.kept := rfl

@[simp] theorem State.wr_now (f : Fld) (v : Nat) : (s.wr f v).now = s.now := rfl
@[simp] theorem State.wr_free (f : Fld) (v : Nat) : (s.wr f v).free = s.free := rfl
@[simp] theorem State.wr_pending (f : Fld) (v : Nat) : (s.wr f v).pending = s.pending := rfl
@[simp] theorem State.wr_sent (f : Fld) (v : Nat) : (s.wr f v).sent = s.sent := rfl
@[simp] theorem State.wr_mem (f : Fld) (v : Nat) : (s.wr f v).mem = s.mem := rfl
@[simp] theorem State.wr_applied (f : Fld) (v : Nat) : (s.wr f v).applied = s.applied := rfl
@[simp] theorem State.wr_armedAt (f : Fld) (v : Nat) : (s.wr f v).armedAt = s.armedAt := rfl
@[simp] theorem State.wr_marks (f : Fld) (v : Nat) : (s.wr f v).marks = s.marks := rfl
@[simp] theorem State.wr_lateErr (f : Fld) (v : Nat) : (s.wr f v).lateErr = s.lateErr := rfl
@[simp] theorem State.wr_ran (f : Fld) (v : Nat) : (s.wr f v).ran = s.ran := rfl
@[simp] theorem State.wr_pwr (f : Fld) (v : Nat) : (s.wr f v).pwr = s.pwr := rfl
@[simp] theorem State.wr_boot (f : Fld) (v : Nat) : (s.wr f v).boot = s.boot := rfl
@[simp] theorem State.wr_brm (f : Fld) (v : Nat) : (s.wr f v).brm = s.brm := rfl
@[simp] theorem State.wr_gptp (f : Fld) (v : Nat) : (s.wr f v).gptp = s.gptp := rfl
@[simp] theorem State.wr_pid (f : Fld) (v : Nat) : (s.wr f v).pid = s.pid := rfl
@[simp] theorem State.wr_buck (f : Fld) (v : Nat) : (s.wr f v).buck = s.buck := rfl
@[simp] theorem State.wr_sw (f : Fld) (v : Nat) : (s.wr f v).sw = s.sw := rfl
@[simp] theorem State.wr_eng (f : Fld) (v : Nat) : (s.wr f v).eng = s.eng := rfl
@[simp] theorem State.wr_thm (f : Fld) (v : Nat) : (s.wr f v).thm = s.thm := rfl
@[simp] theorem State.wr_saf (f : Fld) (v : Nat) : (s.wr f v).saf = s.saf := rfl
@[simp] theorem State.wr_flash (f : Fld) (v : Nat) : (s.wr f v).flash = s.flash := rfl
@[simp] theorem State.wr_vin (f : Fld) (v : Nat) : (s.wr f v).vin = s.vin := rfl
@[simp] theorem State.wr_imu (f : Fld) (v : Nat) : (s.wr f v).imu = s.imu := rfl
@[simp] theorem State.wr_cf (f : Fld) (v : Nat) : (s.wr f v).cf = s.cf := rfl
@[simp] theorem State.wr_sheaf (f : Fld) (v : Nat) : (s.wr f v).sheaf = s.sheaf := rfl
@[simp] theorem State.wr_comp (f : Fld) (v : Nat) : (s.wr f v).comp = s.comp := rfl
@[simp] theorem State.wr_recs (f : Fld) (v : Nat) : (s.wr f v).recs = s.recs := rfl
@[simp] theorem State.wr_gme (f : Fld) (v : Nat) : (s.wr f v).gme = s.gme := rfl
@[simp] theorem State.wr_scn (f : Fld) (v : Nat) : (s.wr f v).scn = s.scn := rfl
@[simp] theorem State.wr_link (f : Fld) (v : Nat) : (s.wr f v).link = s.link := rfl
@[simp] theorem State.wr_cal (f : Fld) (v : Nat) : (s.wr f v).cal = s.cal := rfl
@[simp] theorem State.wr_sat (f : Fld) (v : Nat) : (s.wr f v).sat = s.sat := rfl
@[simp] theorem State.wr_mbx (f : Fld) (v : Nat) : (s.wr f v).mbx = s.mbx := rfl
@[simp] theorem State.wr_cvu (f : Fld) (v : Nat) : (s.wr f v).cvu = s.cvu := rfl
@[simp] theorem State.wr_dict (f : Fld) (v : Nat) : (s.wr f v).dict = s.dict := rfl
@[simp] theorem State.wr_net (f : Fld) (v : Nat) : (s.wr f v).net = s.net := rfl
@[simp] theorem State.wr_onoth (f : Fld) (v : Nat) : (s.wr f v).onoth = s.onoth := rfl
@[simp] theorem State.wr_kept (f : Fld) (v : Nat) : (s.wr f v).kept = s.kept := rfl

@[simp] theorem State.wrB_now (f : Fld) (b : Bool) : (s.wrB f b).now = s.now := rfl
@[simp] theorem State.wrB_free (f : Fld) (b : Bool) : (s.wrB f b).free = s.free := rfl
@[simp] theorem State.wrB_pending (f : Fld) (b : Bool) : (s.wrB f b).pending = s.pending := rfl
@[simp] theorem State.wrB_sent (f : Fld) (b : Bool) : (s.wrB f b).sent = s.sent := rfl
@[simp] theorem State.wrB_mem (f : Fld) (b : Bool) : (s.wrB f b).mem = s.mem := rfl
@[simp] theorem State.wrB_applied (f : Fld) (b : Bool) : (s.wrB f b).applied = s.applied := rfl
@[simp] theorem State.wrB_armedAt (f : Fld) (b : Bool) : (s.wrB f b).armedAt = s.armedAt := rfl
@[simp] theorem State.wrB_marks (f : Fld) (b : Bool) : (s.wrB f b).marks = s.marks := rfl
@[simp] theorem State.wrB_lateErr (f : Fld) (b : Bool) : (s.wrB f b).lateErr = s.lateErr := rfl
@[simp] theorem State.wrB_ran (f : Fld) (b : Bool) : (s.wrB f b).ran = s.ran := rfl
@[simp] theorem State.wrB_pwr (f : Fld) (b : Bool) : (s.wrB f b).pwr = s.pwr := rfl
@[simp] theorem State.wrB_boot (f : Fld) (b : Bool) : (s.wrB f b).boot = s.boot := rfl
@[simp] theorem State.wrB_brm (f : Fld) (b : Bool) : (s.wrB f b).brm = s.brm := rfl
@[simp] theorem State.wrB_gptp (f : Fld) (b : Bool) : (s.wrB f b).gptp = s.gptp := rfl
@[simp] theorem State.wrB_pid (f : Fld) (b : Bool) : (s.wrB f b).pid = s.pid := rfl
@[simp] theorem State.wrB_buck (f : Fld) (b : Bool) : (s.wrB f b).buck = s.buck := rfl
@[simp] theorem State.wrB_sw (f : Fld) (b : Bool) : (s.wrB f b).sw = s.sw := rfl
@[simp] theorem State.wrB_eng (f : Fld) (b : Bool) : (s.wrB f b).eng = s.eng := rfl
@[simp] theorem State.wrB_thm (f : Fld) (b : Bool) : (s.wrB f b).thm = s.thm := rfl
@[simp] theorem State.wrB_saf (f : Fld) (b : Bool) : (s.wrB f b).saf = s.saf := rfl
@[simp] theorem State.wrB_flash (f : Fld) (b : Bool) : (s.wrB f b).flash = s.flash := rfl
@[simp] theorem State.wrB_vin (f : Fld) (b : Bool) : (s.wrB f b).vin = s.vin := rfl
@[simp] theorem State.wrB_imu (f : Fld) (b : Bool) : (s.wrB f b).imu = s.imu := rfl
@[simp] theorem State.wrB_cf (f : Fld) (b : Bool) : (s.wrB f b).cf = s.cf := rfl
@[simp] theorem State.wrB_sheaf (f : Fld) (b : Bool) : (s.wrB f b).sheaf = s.sheaf := rfl
@[simp] theorem State.wrB_comp (f : Fld) (b : Bool) : (s.wrB f b).comp = s.comp := rfl
@[simp] theorem State.wrB_recs (f : Fld) (b : Bool) : (s.wrB f b).recs = s.recs := rfl
@[simp] theorem State.wrB_gme (f : Fld) (b : Bool) : (s.wrB f b).gme = s.gme := rfl
@[simp] theorem State.wrB_scn (f : Fld) (b : Bool) : (s.wrB f b).scn = s.scn := rfl
@[simp] theorem State.wrB_link (f : Fld) (b : Bool) : (s.wrB f b).link = s.link := rfl
@[simp] theorem State.wrB_cal (f : Fld) (b : Bool) : (s.wrB f b).cal = s.cal := rfl
@[simp] theorem State.wrB_sat (f : Fld) (b : Bool) : (s.wrB f b).sat = s.sat := rfl
@[simp] theorem State.wrB_mbx (f : Fld) (b : Bool) : (s.wrB f b).mbx = s.mbx := rfl
@[simp] theorem State.wrB_cvu (f : Fld) (b : Bool) : (s.wrB f b).cvu = s.cvu := rfl
@[simp] theorem State.wrB_dict (f : Fld) (b : Bool) : (s.wrB f b).dict = s.dict := rfl
@[simp] theorem State.wrB_net (f : Fld) (b : Bool) : (s.wrB f b).net = s.net := rfl
@[simp] theorem State.wrB_onoth (f : Fld) (b : Bool) : (s.wrB f b).onoth = s.onoth := rfl
@[simp] theorem State.wrB_kept (f : Fld) (b : Bool) : (s.wrB f b).kept = s.kept := rfl

@[simp] theorem State.wrS_now (f : Fld) (i : Int) : (s.wrS f i).now = s.now := rfl
@[simp] theorem State.wrS_free (f : Fld) (i : Int) : (s.wrS f i).free = s.free := rfl
@[simp] theorem State.wrS_pending (f : Fld) (i : Int) : (s.wrS f i).pending = s.pending := rfl
@[simp] theorem State.wrS_sent (f : Fld) (i : Int) : (s.wrS f i).sent = s.sent := rfl
@[simp] theorem State.wrS_mem (f : Fld) (i : Int) : (s.wrS f i).mem = s.mem := rfl
@[simp] theorem State.wrS_applied (f : Fld) (i : Int) : (s.wrS f i).applied = s.applied := rfl
@[simp] theorem State.wrS_armedAt (f : Fld) (i : Int) : (s.wrS f i).armedAt = s.armedAt := rfl
@[simp] theorem State.wrS_marks (f : Fld) (i : Int) : (s.wrS f i).marks = s.marks := rfl
@[simp] theorem State.wrS_lateErr (f : Fld) (i : Int) : (s.wrS f i).lateErr = s.lateErr := rfl
@[simp] theorem State.wrS_ran (f : Fld) (i : Int) : (s.wrS f i).ran = s.ran := rfl
@[simp] theorem State.wrS_pwr (f : Fld) (i : Int) : (s.wrS f i).pwr = s.pwr := rfl
@[simp] theorem State.wrS_boot (f : Fld) (i : Int) : (s.wrS f i).boot = s.boot := rfl
@[simp] theorem State.wrS_brm (f : Fld) (i : Int) : (s.wrS f i).brm = s.brm := rfl
@[simp] theorem State.wrS_gptp (f : Fld) (i : Int) : (s.wrS f i).gptp = s.gptp := rfl
@[simp] theorem State.wrS_pid (f : Fld) (i : Int) : (s.wrS f i).pid = s.pid := rfl
@[simp] theorem State.wrS_buck (f : Fld) (i : Int) : (s.wrS f i).buck = s.buck := rfl
@[simp] theorem State.wrS_sw (f : Fld) (i : Int) : (s.wrS f i).sw = s.sw := rfl
@[simp] theorem State.wrS_eng (f : Fld) (i : Int) : (s.wrS f i).eng = s.eng := rfl
@[simp] theorem State.wrS_thm (f : Fld) (i : Int) : (s.wrS f i).thm = s.thm := rfl
@[simp] theorem State.wrS_saf (f : Fld) (i : Int) : (s.wrS f i).saf = s.saf := rfl
@[simp] theorem State.wrS_flash (f : Fld) (i : Int) : (s.wrS f i).flash = s.flash := rfl
@[simp] theorem State.wrS_vin (f : Fld) (i : Int) : (s.wrS f i).vin = s.vin := rfl
@[simp] theorem State.wrS_imu (f : Fld) (i : Int) : (s.wrS f i).imu = s.imu := rfl
@[simp] theorem State.wrS_cf (f : Fld) (i : Int) : (s.wrS f i).cf = s.cf := rfl
@[simp] theorem State.wrS_sheaf (f : Fld) (i : Int) : (s.wrS f i).sheaf = s.sheaf := rfl
@[simp] theorem State.wrS_comp (f : Fld) (i : Int) : (s.wrS f i).comp = s.comp := rfl
@[simp] theorem State.wrS_recs (f : Fld) (i : Int) : (s.wrS f i).recs = s.recs := rfl
@[simp] theorem State.wrS_gme (f : Fld) (i : Int) : (s.wrS f i).gme = s.gme := rfl
@[simp] theorem State.wrS_scn (f : Fld) (i : Int) : (s.wrS f i).scn = s.scn := rfl
@[simp] theorem State.wrS_link (f : Fld) (i : Int) : (s.wrS f i).link = s.link := rfl
@[simp] theorem State.wrS_cal (f : Fld) (i : Int) : (s.wrS f i).cal = s.cal := rfl
@[simp] theorem State.wrS_sat (f : Fld) (i : Int) : (s.wrS f i).sat = s.sat := rfl
@[simp] theorem State.wrS_mbx (f : Fld) (i : Int) : (s.wrS f i).mbx = s.mbx := rfl
@[simp] theorem State.wrS_cvu (f : Fld) (i : Int) : (s.wrS f i).cvu = s.cvu := rfl
@[simp] theorem State.wrS_dict (f : Fld) (i : Int) : (s.wrS f i).dict = s.dict := rfl
@[simp] theorem State.wrS_net (f : Fld) (i : Int) : (s.wrS f i).net = s.net := rfl
@[simp] theorem State.wrS_onoth (f : Fld) (i : Int) : (s.wrS f i).onoth = s.onoth := rfl
@[simp] theorem State.wrS_kept (f : Fld) (i : Int) : (s.wrS f i).kept = s.kept := rfl

@[simp] theorem State.bump_now (f : Fld) : (s.bump f).now = s.now := rfl
@[simp] theorem State.bump_free (f : Fld) : (s.bump f).free = s.free := rfl
@[simp] theorem State.bump_pending (f : Fld) : (s.bump f).pending = s.pending := rfl
@[simp] theorem State.bump_sent (f : Fld) : (s.bump f).sent = s.sent := rfl
@[simp] theorem State.bump_mem (f : Fld) : (s.bump f).mem = s.mem := rfl
@[simp] theorem State.bump_applied (f : Fld) : (s.bump f).applied = s.applied := rfl
@[simp] theorem State.bump_armedAt (f : Fld) : (s.bump f).armedAt = s.armedAt := rfl
@[simp] theorem State.bump_marks (f : Fld) : (s.bump f).marks = s.marks := rfl
@[simp] theorem State.bump_lateErr (f : Fld) : (s.bump f).lateErr = s.lateErr := rfl
@[simp] theorem State.bump_ran (f : Fld) : (s.bump f).ran = s.ran := rfl
@[simp] theorem State.bump_pwr (f : Fld) : (s.bump f).pwr = s.pwr := rfl
@[simp] theorem State.bump_boot (f : Fld) : (s.bump f).boot = s.boot := rfl
@[simp] theorem State.bump_brm (f : Fld) : (s.bump f).brm = s.brm := rfl
@[simp] theorem State.bump_gptp (f : Fld) : (s.bump f).gptp = s.gptp := rfl
@[simp] theorem State.bump_pid (f : Fld) : (s.bump f).pid = s.pid := rfl
@[simp] theorem State.bump_buck (f : Fld) : (s.bump f).buck = s.buck := rfl
@[simp] theorem State.bump_sw (f : Fld) : (s.bump f).sw = s.sw := rfl
@[simp] theorem State.bump_eng (f : Fld) : (s.bump f).eng = s.eng := rfl
@[simp] theorem State.bump_thm (f : Fld) : (s.bump f).thm = s.thm := rfl
@[simp] theorem State.bump_saf (f : Fld) : (s.bump f).saf = s.saf := rfl
@[simp] theorem State.bump_flash (f : Fld) : (s.bump f).flash = s.flash := rfl
@[simp] theorem State.bump_vin (f : Fld) : (s.bump f).vin = s.vin := rfl
@[simp] theorem State.bump_imu (f : Fld) : (s.bump f).imu = s.imu := rfl
@[simp] theorem State.bump_cf (f : Fld) : (s.bump f).cf = s.cf := rfl
@[simp] theorem State.bump_sheaf (f : Fld) : (s.bump f).sheaf = s.sheaf := rfl
@[simp] theorem State.bump_comp (f : Fld) : (s.bump f).comp = s.comp := rfl
@[simp] theorem State.bump_recs (f : Fld) : (s.bump f).recs = s.recs := rfl
@[simp] theorem State.bump_gme (f : Fld) : (s.bump f).gme = s.gme := rfl
@[simp] theorem State.bump_scn (f : Fld) : (s.bump f).scn = s.scn := rfl
@[simp] theorem State.bump_link (f : Fld) : (s.bump f).link = s.link := rfl
@[simp] theorem State.bump_cal (f : Fld) : (s.bump f).cal = s.cal := rfl
@[simp] theorem State.bump_sat (f : Fld) : (s.bump f).sat = s.sat := rfl
@[simp] theorem State.bump_mbx (f : Fld) : (s.bump f).mbx = s.mbx := rfl
@[simp] theorem State.bump_cvu (f : Fld) : (s.bump f).cvu = s.cvu := rfl
@[simp] theorem State.bump_dict (f : Fld) : (s.bump f).dict = s.dict := rfl
@[simp] theorem State.bump_net (f : Fld) : (s.bump f).net = s.net := rfl
@[simp] theorem State.bump_onoth (f : Fld) : (s.bump f).onoth = s.onoth := rfl
@[simp] theorem State.bump_kept (f : Fld) : (s.bump f).kept = s.kept := rfl

@[simp] theorem State.bumpBy_now (f : Fld) (n : Nat) : (s.bumpBy f n).now = s.now := rfl
@[simp] theorem State.bumpBy_free (f : Fld) (n : Nat) : (s.bumpBy f n).free = s.free := rfl
@[simp] theorem State.bumpBy_pending (f : Fld) (n : Nat) : (s.bumpBy f n).pending = s.pending := rfl
@[simp] theorem State.bumpBy_sent (f : Fld) (n : Nat) : (s.bumpBy f n).sent = s.sent := rfl
@[simp] theorem State.bumpBy_mem (f : Fld) (n : Nat) : (s.bumpBy f n).mem = s.mem := rfl
@[simp] theorem State.bumpBy_applied (f : Fld) (n : Nat) : (s.bumpBy f n).applied = s.applied := rfl
@[simp] theorem State.bumpBy_armedAt (f : Fld) (n : Nat) : (s.bumpBy f n).armedAt = s.armedAt := rfl
@[simp] theorem State.bumpBy_marks (f : Fld) (n : Nat) : (s.bumpBy f n).marks = s.marks := rfl
@[simp] theorem State.bumpBy_lateErr (f : Fld) (n : Nat) : (s.bumpBy f n).lateErr = s.lateErr := rfl
@[simp] theorem State.bumpBy_ran (f : Fld) (n : Nat) : (s.bumpBy f n).ran = s.ran := rfl
@[simp] theorem State.bumpBy_pwr (f : Fld) (n : Nat) : (s.bumpBy f n).pwr = s.pwr := rfl
@[simp] theorem State.bumpBy_boot (f : Fld) (n : Nat) : (s.bumpBy f n).boot = s.boot := rfl
@[simp] theorem State.bumpBy_brm (f : Fld) (n : Nat) : (s.bumpBy f n).brm = s.brm := rfl
@[simp] theorem State.bumpBy_gptp (f : Fld) (n : Nat) : (s.bumpBy f n).gptp = s.gptp := rfl
@[simp] theorem State.bumpBy_pid (f : Fld) (n : Nat) : (s.bumpBy f n).pid = s.pid := rfl
@[simp] theorem State.bumpBy_buck (f : Fld) (n : Nat) : (s.bumpBy f n).buck = s.buck := rfl
@[simp] theorem State.bumpBy_sw (f : Fld) (n : Nat) : (s.bumpBy f n).sw = s.sw := rfl
@[simp] theorem State.bumpBy_eng (f : Fld) (n : Nat) : (s.bumpBy f n).eng = s.eng := rfl
@[simp] theorem State.bumpBy_thm (f : Fld) (n : Nat) : (s.bumpBy f n).thm = s.thm := rfl
@[simp] theorem State.bumpBy_saf (f : Fld) (n : Nat) : (s.bumpBy f n).saf = s.saf := rfl
@[simp] theorem State.bumpBy_flash (f : Fld) (n : Nat) : (s.bumpBy f n).flash = s.flash := rfl
@[simp] theorem State.bumpBy_vin (f : Fld) (n : Nat) : (s.bumpBy f n).vin = s.vin := rfl
@[simp] theorem State.bumpBy_imu (f : Fld) (n : Nat) : (s.bumpBy f n).imu = s.imu := rfl
@[simp] theorem State.bumpBy_cf (f : Fld) (n : Nat) : (s.bumpBy f n).cf = s.cf := rfl
@[simp] theorem State.bumpBy_sheaf (f : Fld) (n : Nat) : (s.bumpBy f n).sheaf = s.sheaf := rfl
@[simp] theorem State.bumpBy_comp (f : Fld) (n : Nat) : (s.bumpBy f n).comp = s.comp := rfl
@[simp] theorem State.bumpBy_recs (f : Fld) (n : Nat) : (s.bumpBy f n).recs = s.recs := rfl
@[simp] theorem State.bumpBy_gme (f : Fld) (n : Nat) : (s.bumpBy f n).gme = s.gme := rfl
@[simp] theorem State.bumpBy_scn (f : Fld) (n : Nat) : (s.bumpBy f n).scn = s.scn := rfl
@[simp] theorem State.bumpBy_link (f : Fld) (n : Nat) : (s.bumpBy f n).link = s.link := rfl
@[simp] theorem State.bumpBy_cal (f : Fld) (n : Nat) : (s.bumpBy f n).cal = s.cal := rfl
@[simp] theorem State.bumpBy_sat (f : Fld) (n : Nat) : (s.bumpBy f n).sat = s.sat := rfl
@[simp] theorem State.bumpBy_mbx (f : Fld) (n : Nat) : (s.bumpBy f n).mbx = s.mbx := rfl
@[simp] theorem State.bumpBy_cvu (f : Fld) (n : Nat) : (s.bumpBy f n).cvu = s.cvu := rfl
@[simp] theorem State.bumpBy_dict (f : Fld) (n : Nat) : (s.bumpBy f n).dict = s.dict := rfl
@[simp] theorem State.bumpBy_net (f : Fld) (n : Nat) : (s.bumpBy f n).net = s.net := rfl
@[simp] theorem State.bumpBy_onoth (f : Fld) (n : Nat) : (s.bumpBy f n).onoth = s.onoth := rfl
@[simp] theorem State.bumpBy_kept (f : Fld) (n : Nat) : (s.bumpBy f n).kept = s.kept := rfl

@[simp] theorem State.bumpSat_now (f : Fld) : (s.bumpSat f).now = s.now := rfl
@[simp] theorem State.bumpSat_free (f : Fld) : (s.bumpSat f).free = s.free := rfl
@[simp] theorem State.bumpSat_pending (f : Fld) : (s.bumpSat f).pending = s.pending := rfl
@[simp] theorem State.bumpSat_sent (f : Fld) : (s.bumpSat f).sent = s.sent := rfl
@[simp] theorem State.bumpSat_mem (f : Fld) : (s.bumpSat f).mem = s.mem := rfl
@[simp] theorem State.bumpSat_applied (f : Fld) : (s.bumpSat f).applied = s.applied := rfl
@[simp] theorem State.bumpSat_armedAt (f : Fld) : (s.bumpSat f).armedAt = s.armedAt := rfl
@[simp] theorem State.bumpSat_marks (f : Fld) : (s.bumpSat f).marks = s.marks := rfl
@[simp] theorem State.bumpSat_lateErr (f : Fld) : (s.bumpSat f).lateErr = s.lateErr := rfl
@[simp] theorem State.bumpSat_ran (f : Fld) : (s.bumpSat f).ran = s.ran := rfl
@[simp] theorem State.bumpSat_pwr (f : Fld) : (s.bumpSat f).pwr = s.pwr := rfl
@[simp] theorem State.bumpSat_boot (f : Fld) : (s.bumpSat f).boot = s.boot := rfl
@[simp] theorem State.bumpSat_brm (f : Fld) : (s.bumpSat f).brm = s.brm := rfl
@[simp] theorem State.bumpSat_gptp (f : Fld) : (s.bumpSat f).gptp = s.gptp := rfl
@[simp] theorem State.bumpSat_pid (f : Fld) : (s.bumpSat f).pid = s.pid := rfl
@[simp] theorem State.bumpSat_buck (f : Fld) : (s.bumpSat f).buck = s.buck := rfl
@[simp] theorem State.bumpSat_sw (f : Fld) : (s.bumpSat f).sw = s.sw := rfl
@[simp] theorem State.bumpSat_eng (f : Fld) : (s.bumpSat f).eng = s.eng := rfl
@[simp] theorem State.bumpSat_thm (f : Fld) : (s.bumpSat f).thm = s.thm := rfl
@[simp] theorem State.bumpSat_saf (f : Fld) : (s.bumpSat f).saf = s.saf := rfl
@[simp] theorem State.bumpSat_flash (f : Fld) : (s.bumpSat f).flash = s.flash := rfl
@[simp] theorem State.bumpSat_vin (f : Fld) : (s.bumpSat f).vin = s.vin := rfl
@[simp] theorem State.bumpSat_imu (f : Fld) : (s.bumpSat f).imu = s.imu := rfl
@[simp] theorem State.bumpSat_cf (f : Fld) : (s.bumpSat f).cf = s.cf := rfl
@[simp] theorem State.bumpSat_sheaf (f : Fld) : (s.bumpSat f).sheaf = s.sheaf := rfl
@[simp] theorem State.bumpSat_comp (f : Fld) : (s.bumpSat f).comp = s.comp := rfl
@[simp] theorem State.bumpSat_recs (f : Fld) : (s.bumpSat f).recs = s.recs := rfl
@[simp] theorem State.bumpSat_gme (f : Fld) : (s.bumpSat f).gme = s.gme := rfl
@[simp] theorem State.bumpSat_scn (f : Fld) : (s.bumpSat f).scn = s.scn := rfl
@[simp] theorem State.bumpSat_link (f : Fld) : (s.bumpSat f).link = s.link := rfl
@[simp] theorem State.bumpSat_cal (f : Fld) : (s.bumpSat f).cal = s.cal := rfl
@[simp] theorem State.bumpSat_sat (f : Fld) : (s.bumpSat f).sat = s.sat := rfl
@[simp] theorem State.bumpSat_mbx (f : Fld) : (s.bumpSat f).mbx = s.mbx := rfl
@[simp] theorem State.bumpSat_cvu (f : Fld) : (s.bumpSat f).cvu = s.cvu := rfl
@[simp] theorem State.bumpSat_dict (f : Fld) : (s.bumpSat f).dict = s.dict := rfl
@[simp] theorem State.bumpSat_net (f : Fld) : (s.bumpSat f).net = s.net := rfl
@[simp] theorem State.bumpSat_onoth (f : Fld) : (s.bumpSat f).onoth = s.onoth := rfl
@[simp] theorem State.bumpSat_kept (f : Fld) : (s.bumpSat f).kept = s.kept := rfl

@[simp] theorem State.mark_now (f : Fld) : (s.mark f).now = s.now := rfl
@[simp] theorem State.mark_free (f : Fld) : (s.mark f).free = s.free := rfl
@[simp] theorem State.mark_pending (f : Fld) : (s.mark f).pending = s.pending := rfl
@[simp] theorem State.mark_sent (f : Fld) : (s.mark f).sent = s.sent := rfl
@[simp] theorem State.mark_mem (f : Fld) : (s.mark f).mem = s.mem := rfl
@[simp] theorem State.mark_applied (f : Fld) : (s.mark f).applied = s.applied := rfl
@[simp] theorem State.mark_armedAt (f : Fld) : (s.mark f).armedAt = s.armedAt := rfl
@[simp] theorem State.mark_lateErr (f : Fld) : (s.mark f).lateErr = s.lateErr := rfl
@[simp] theorem State.mark_ran (f : Fld) : (s.mark f).ran = s.ran := rfl
@[simp] theorem State.mark_pwr (f : Fld) : (s.mark f).pwr = s.pwr := rfl
@[simp] theorem State.mark_boot (f : Fld) : (s.mark f).boot = s.boot := rfl
@[simp] theorem State.mark_brm (f : Fld) : (s.mark f).brm = s.brm := rfl
@[simp] theorem State.mark_gptp (f : Fld) : (s.mark f).gptp = s.gptp := rfl
@[simp] theorem State.mark_pid (f : Fld) : (s.mark f).pid = s.pid := rfl
@[simp] theorem State.mark_buck (f : Fld) : (s.mark f).buck = s.buck := rfl
@[simp] theorem State.mark_sw (f : Fld) : (s.mark f).sw = s.sw := rfl
@[simp] theorem State.mark_eng (f : Fld) : (s.mark f).eng = s.eng := rfl
@[simp] theorem State.mark_thm (f : Fld) : (s.mark f).thm = s.thm := rfl
@[simp] theorem State.mark_saf (f : Fld) : (s.mark f).saf = s.saf := rfl
@[simp] theorem State.mark_flash (f : Fld) : (s.mark f).flash = s.flash := rfl
@[simp] theorem State.mark_vin (f : Fld) : (s.mark f).vin = s.vin := rfl
@[simp] theorem State.mark_imu (f : Fld) : (s.mark f).imu = s.imu := rfl
@[simp] theorem State.mark_cf (f : Fld) : (s.mark f).cf = s.cf := rfl
@[simp] theorem State.mark_sheaf (f : Fld) : (s.mark f).sheaf = s.sheaf := rfl
@[simp] theorem State.mark_comp (f : Fld) : (s.mark f).comp = s.comp := rfl
@[simp] theorem State.mark_recs (f : Fld) : (s.mark f).recs = s.recs := rfl
@[simp] theorem State.mark_gme (f : Fld) : (s.mark f).gme = s.gme := rfl
@[simp] theorem State.mark_scn (f : Fld) : (s.mark f).scn = s.scn := rfl
@[simp] theorem State.mark_link (f : Fld) : (s.mark f).link = s.link := rfl
@[simp] theorem State.mark_cal (f : Fld) : (s.mark f).cal = s.cal := rfl
@[simp] theorem State.mark_sat (f : Fld) : (s.mark f).sat = s.sat := rfl
@[simp] theorem State.mark_mbx (f : Fld) : (s.mark f).mbx = s.mbx := rfl
@[simp] theorem State.mark_cvu (f : Fld) : (s.mark f).cvu = s.cvu := rfl
@[simp] theorem State.mark_dict (f : Fld) : (s.mark f).dict = s.dict := rfl
@[simp] theorem State.mark_net (f : Fld) : (s.mark f).net = s.net := rfl
@[simp] theorem State.mark_onoth (f : Fld) : (s.mark f).onoth = s.onoth := rfl
@[simp] theorem State.mark_kept (f : Fld) : (s.mark f).kept = s.kept := rfl

@[simp] theorem State.markBit_now (f : Fld) (n : Nat) : (s.markBit f n).now = s.now := rfl
@[simp] theorem State.markBit_free (f : Fld) (n : Nat) : (s.markBit f n).free = s.free := rfl
@[simp] theorem State.markBit_pending (f : Fld) (n : Nat) : (s.markBit f n).pending = s.pending := rfl
@[simp] theorem State.markBit_sent (f : Fld) (n : Nat) : (s.markBit f n).sent = s.sent := rfl
@[simp] theorem State.markBit_mem (f : Fld) (n : Nat) : (s.markBit f n).mem = s.mem := rfl
@[simp] theorem State.markBit_applied (f : Fld) (n : Nat) : (s.markBit f n).applied = s.applied := rfl
@[simp] theorem State.markBit_armedAt (f : Fld) (n : Nat) : (s.markBit f n).armedAt = s.armedAt := rfl
@[simp] theorem State.markBit_lateErr (f : Fld) (n : Nat) : (s.markBit f n).lateErr = s.lateErr := rfl
@[simp] theorem State.markBit_ran (f : Fld) (n : Nat) : (s.markBit f n).ran = s.ran := rfl
@[simp] theorem State.markBit_pwr (f : Fld) (n : Nat) : (s.markBit f n).pwr = s.pwr := rfl
@[simp] theorem State.markBit_boot (f : Fld) (n : Nat) : (s.markBit f n).boot = s.boot := rfl
@[simp] theorem State.markBit_brm (f : Fld) (n : Nat) : (s.markBit f n).brm = s.brm := rfl
@[simp] theorem State.markBit_gptp (f : Fld) (n : Nat) : (s.markBit f n).gptp = s.gptp := rfl
@[simp] theorem State.markBit_pid (f : Fld) (n : Nat) : (s.markBit f n).pid = s.pid := rfl
@[simp] theorem State.markBit_buck (f : Fld) (n : Nat) : (s.markBit f n).buck = s.buck := rfl
@[simp] theorem State.markBit_sw (f : Fld) (n : Nat) : (s.markBit f n).sw = s.sw := rfl
@[simp] theorem State.markBit_eng (f : Fld) (n : Nat) : (s.markBit f n).eng = s.eng := rfl
@[simp] theorem State.markBit_thm (f : Fld) (n : Nat) : (s.markBit f n).thm = s.thm := rfl
@[simp] theorem State.markBit_saf (f : Fld) (n : Nat) : (s.markBit f n).saf = s.saf := rfl
@[simp] theorem State.markBit_flash (f : Fld) (n : Nat) : (s.markBit f n).flash = s.flash := rfl
@[simp] theorem State.markBit_vin (f : Fld) (n : Nat) : (s.markBit f n).vin = s.vin := rfl
@[simp] theorem State.markBit_imu (f : Fld) (n : Nat) : (s.markBit f n).imu = s.imu := rfl
@[simp] theorem State.markBit_cf (f : Fld) (n : Nat) : (s.markBit f n).cf = s.cf := rfl
@[simp] theorem State.markBit_sheaf (f : Fld) (n : Nat) : (s.markBit f n).sheaf = s.sheaf := rfl
@[simp] theorem State.markBit_comp (f : Fld) (n : Nat) : (s.markBit f n).comp = s.comp := rfl
@[simp] theorem State.markBit_recs (f : Fld) (n : Nat) : (s.markBit f n).recs = s.recs := rfl
@[simp] theorem State.markBit_gme (f : Fld) (n : Nat) : (s.markBit f n).gme = s.gme := rfl
@[simp] theorem State.markBit_scn (f : Fld) (n : Nat) : (s.markBit f n).scn = s.scn := rfl
@[simp] theorem State.markBit_link (f : Fld) (n : Nat) : (s.markBit f n).link = s.link := rfl
@[simp] theorem State.markBit_cal (f : Fld) (n : Nat) : (s.markBit f n).cal = s.cal := rfl
@[simp] theorem State.markBit_sat (f : Fld) (n : Nat) : (s.markBit f n).sat = s.sat := rfl
@[simp] theorem State.markBit_mbx (f : Fld) (n : Nat) : (s.markBit f n).mbx = s.mbx := rfl
@[simp] theorem State.markBit_cvu (f : Fld) (n : Nat) : (s.markBit f n).cvu = s.cvu := rfl
@[simp] theorem State.markBit_dict (f : Fld) (n : Nat) : (s.markBit f n).dict = s.dict := rfl
@[simp] theorem State.markBit_net (f : Fld) (n : Nat) : (s.markBit f n).net = s.net := rfl
@[simp] theorem State.markBit_onoth (f : Fld) (n : Nat) : (s.markBit f n).onoth = s.onoth := rfl
@[simp] theorem State.markBit_kept (f : Fld) (n : Nat) : (s.markBit f n).kept = s.kept := rfl

@[simp] theorem State.unmark_now (f : Fld) : (s.unmark f).now = s.now := by unfold State.unmark; split <;> rfl
@[simp] theorem State.unmark_free (f : Fld) : (s.unmark f).free = s.free := by unfold State.unmark; split <;> rfl
@[simp] theorem State.unmark_pending (f : Fld) : (s.unmark f).pending = s.pending := by unfold State.unmark; split <;> rfl
@[simp] theorem State.unmark_sent (f : Fld) : (s.unmark f).sent = s.sent := by unfold State.unmark; split <;> rfl
@[simp] theorem State.unmark_mem (f : Fld) : (s.unmark f).mem = s.mem := by unfold State.unmark; split <;> rfl
@[simp] theorem State.unmark_applied (f : Fld) : (s.unmark f).applied = s.applied := by unfold State.unmark; split <;> rfl
@[simp] theorem State.unmark_armedAt (f : Fld) : (s.unmark f).armedAt = s.armedAt := by unfold State.unmark; split <;> rfl
@[simp] theorem State.unmark_marks (f : Fld) : (s.unmark f).marks = s.marks := by unfold State.unmark; split <;> rfl
@[simp] theorem State.unmark_lateErr (f : Fld) : (s.unmark f).lateErr = s.lateErr := by unfold State.unmark; split <;> rfl
@[simp] theorem State.unmark_ran (f : Fld) : (s.unmark f).ran = s.ran := by unfold State.unmark; split <;> rfl
@[simp] theorem State.unmark_pwr (f : Fld) : (s.unmark f).pwr = s.pwr := by unfold State.unmark; split <;> rfl
@[simp] theorem State.unmark_boot (f : Fld) : (s.unmark f).boot = s.boot := by unfold State.unmark; split <;> rfl
@[simp] theorem State.unmark_brm (f : Fld) : (s.unmark f).brm = s.brm := by unfold State.unmark; split <;> rfl
@[simp] theorem State.unmark_gptp (f : Fld) : (s.unmark f).gptp = s.gptp := by unfold State.unmark; split <;> rfl
@[simp] theorem State.unmark_pid (f : Fld) : (s.unmark f).pid = s.pid := by unfold State.unmark; split <;> rfl
@[simp] theorem State.unmark_buck (f : Fld) : (s.unmark f).buck = s.buck := by unfold State.unmark; split <;> rfl
@[simp] theorem State.unmark_sw (f : Fld) : (s.unmark f).sw = s.sw := by unfold State.unmark; split <;> rfl
@[simp] theorem State.unmark_eng (f : Fld) : (s.unmark f).eng = s.eng := by unfold State.unmark; split <;> rfl
@[simp] theorem State.unmark_thm (f : Fld) : (s.unmark f).thm = s.thm := by unfold State.unmark; split <;> rfl
@[simp] theorem State.unmark_saf (f : Fld) : (s.unmark f).saf = s.saf := by unfold State.unmark; split <;> rfl
@[simp] theorem State.unmark_flash (f : Fld) : (s.unmark f).flash = s.flash := by unfold State.unmark; split <;> rfl
@[simp] theorem State.unmark_vin (f : Fld) : (s.unmark f).vin = s.vin := by unfold State.unmark; split <;> rfl
@[simp] theorem State.unmark_imu (f : Fld) : (s.unmark f).imu = s.imu := by unfold State.unmark; split <;> rfl
@[simp] theorem State.unmark_cf (f : Fld) : (s.unmark f).cf = s.cf := by unfold State.unmark; split <;> rfl
@[simp] theorem State.unmark_sheaf (f : Fld) : (s.unmark f).sheaf = s.sheaf := by unfold State.unmark; split <;> rfl
@[simp] theorem State.unmark_comp (f : Fld) : (s.unmark f).comp = s.comp := by unfold State.unmark; split <;> rfl
@[simp] theorem State.unmark_recs (f : Fld) : (s.unmark f).recs = s.recs := by unfold State.unmark; split <;> rfl
@[simp] theorem State.unmark_gme (f : Fld) : (s.unmark f).gme = s.gme := by unfold State.unmark; split <;> rfl
@[simp] theorem State.unmark_scn (f : Fld) : (s.unmark f).scn = s.scn := by unfold State.unmark; split <;> rfl
@[simp] theorem State.unmark_link (f : Fld) : (s.unmark f).link = s.link := by unfold State.unmark; split <;> rfl
@[simp] theorem State.unmark_cal (f : Fld) : (s.unmark f).cal = s.cal := by unfold State.unmark; split <;> rfl
@[simp] theorem State.unmark_sat (f : Fld) : (s.unmark f).sat = s.sat := by unfold State.unmark; split <;> rfl
@[simp] theorem State.unmark_mbx (f : Fld) : (s.unmark f).mbx = s.mbx := by unfold State.unmark; split <;> rfl
@[simp] theorem State.unmark_cvu (f : Fld) : (s.unmark f).cvu = s.cvu := by unfold State.unmark; split <;> rfl
@[simp] theorem State.unmark_dict (f : Fld) : (s.unmark f).dict = s.dict := by unfold State.unmark; split <;> rfl
@[simp] theorem State.unmark_net (f : Fld) : (s.unmark f).net = s.net := by unfold State.unmark; split <;> rfl
@[simp] theorem State.unmark_onoth (f : Fld) : (s.unmark f).onoth = s.onoth := by unfold State.unmark; split <;> rfl
@[simp] theorem State.unmark_kept (f : Fld) : (s.unmark f).kept = s.kept := by unfold State.unmark; split <;> rfl

@[simp] theorem State.setBitR_now (a n : Nat) (b : Bool) : (s.setBitR a n b).now = s.now := rfl
@[simp] theorem State.setBitR_free (a n : Nat) (b : Bool) : (s.setBitR a n b).free = s.free := rfl
@[simp] theorem State.setBitR_pending (a n : Nat) (b : Bool) : (s.setBitR a n b).pending = s.pending := rfl
@[simp] theorem State.setBitR_sent (a n : Nat) (b : Bool) : (s.setBitR a n b).sent = s.sent := rfl
@[simp] theorem State.setBitR_mem (a n : Nat) (b : Bool) : (s.setBitR a n b).mem = s.mem := rfl
@[simp] theorem State.setBitR_applied (a n : Nat) (b : Bool) : (s.setBitR a n b).applied = s.applied := rfl
@[simp] theorem State.setBitR_armedAt (a n : Nat) (b : Bool) : (s.setBitR a n b).armedAt = s.armedAt := rfl
@[simp] theorem State.setBitR_marks (a n : Nat) (b : Bool) : (s.setBitR a n b).marks = s.marks := rfl
@[simp] theorem State.setBitR_lateErr (a n : Nat) (b : Bool) : (s.setBitR a n b).lateErr = s.lateErr := rfl
@[simp] theorem State.setBitR_ran (a n : Nat) (b : Bool) : (s.setBitR a n b).ran = s.ran := rfl
@[simp] theorem State.setBitR_pwr (a n : Nat) (b : Bool) : (s.setBitR a n b).pwr = s.pwr := rfl
@[simp] theorem State.setBitR_boot (a n : Nat) (b : Bool) : (s.setBitR a n b).boot = s.boot := rfl
@[simp] theorem State.setBitR_brm (a n : Nat) (b : Bool) : (s.setBitR a n b).brm = s.brm := rfl
@[simp] theorem State.setBitR_gptp (a n : Nat) (b : Bool) : (s.setBitR a n b).gptp = s.gptp := rfl
@[simp] theorem State.setBitR_pid (a n : Nat) (b : Bool) : (s.setBitR a n b).pid = s.pid := rfl
@[simp] theorem State.setBitR_buck (a n : Nat) (b : Bool) : (s.setBitR a n b).buck = s.buck := rfl
@[simp] theorem State.setBitR_sw (a n : Nat) (b : Bool) : (s.setBitR a n b).sw = s.sw := rfl
@[simp] theorem State.setBitR_eng (a n : Nat) (b : Bool) : (s.setBitR a n b).eng = s.eng := rfl
@[simp] theorem State.setBitR_thm (a n : Nat) (b : Bool) : (s.setBitR a n b).thm = s.thm := rfl
@[simp] theorem State.setBitR_saf (a n : Nat) (b : Bool) : (s.setBitR a n b).saf = s.saf := rfl
@[simp] theorem State.setBitR_flash (a n : Nat) (b : Bool) : (s.setBitR a n b).flash = s.flash := rfl
@[simp] theorem State.setBitR_vin (a n : Nat) (b : Bool) : (s.setBitR a n b).vin = s.vin := rfl
@[simp] theorem State.setBitR_imu (a n : Nat) (b : Bool) : (s.setBitR a n b).imu = s.imu := rfl
@[simp] theorem State.setBitR_cf (a n : Nat) (b : Bool) : (s.setBitR a n b).cf = s.cf := rfl
@[simp] theorem State.setBitR_sheaf (a n : Nat) (b : Bool) : (s.setBitR a n b).sheaf = s.sheaf := rfl
@[simp] theorem State.setBitR_comp (a n : Nat) (b : Bool) : (s.setBitR a n b).comp = s.comp := rfl
@[simp] theorem State.setBitR_recs (a n : Nat) (b : Bool) : (s.setBitR a n b).recs = s.recs := rfl
@[simp] theorem State.setBitR_gme (a n : Nat) (b : Bool) : (s.setBitR a n b).gme = s.gme := rfl
@[simp] theorem State.setBitR_scn (a n : Nat) (b : Bool) : (s.setBitR a n b).scn = s.scn := rfl
@[simp] theorem State.setBitR_link (a n : Nat) (b : Bool) : (s.setBitR a n b).link = s.link := rfl
@[simp] theorem State.setBitR_cal (a n : Nat) (b : Bool) : (s.setBitR a n b).cal = s.cal := rfl
@[simp] theorem State.setBitR_sat (a n : Nat) (b : Bool) : (s.setBitR a n b).sat = s.sat := rfl
@[simp] theorem State.setBitR_mbx (a n : Nat) (b : Bool) : (s.setBitR a n b).mbx = s.mbx := rfl
@[simp] theorem State.setBitR_cvu (a n : Nat) (b : Bool) : (s.setBitR a n b).cvu = s.cvu := rfl
@[simp] theorem State.setBitR_dict (a n : Nat) (b : Bool) : (s.setBitR a n b).dict = s.dict := rfl
@[simp] theorem State.setBitR_net (a n : Nat) (b : Bool) : (s.setBitR a n b).net = s.net := rfl
@[simp] theorem State.setBitR_onoth (a n : Nat) (b : Bool) : (s.setBitR a n b).onoth = s.onoth := rfl
@[simp] theorem State.setBitR_kept (a n : Nat) (b : Bool) : (s.setBitR a n b).kept = s.kept := rfl

@[simp] theorem State.setBitF_now (f : Fld) (n : Nat) (b : Bool) : (s.setBitF f n b).now = s.now := rfl
@[simp] theorem State.setBitF_free (f : Fld) (n : Nat) (b : Bool) : (s.setBitF f n b).free = s.free := rfl
@[simp] theorem State.setBitF_pending (f : Fld) (n : Nat) (b : Bool) : (s.setBitF f n b).pending = s.pending := rfl
@[simp] theorem State.setBitF_sent (f : Fld) (n : Nat) (b : Bool) : (s.setBitF f n b).sent = s.sent := rfl
@[simp] theorem State.setBitF_mem (f : Fld) (n : Nat) (b : Bool) : (s.setBitF f n b).mem = s.mem := rfl
@[simp] theorem State.setBitF_applied (f : Fld) (n : Nat) (b : Bool) : (s.setBitF f n b).applied = s.applied := rfl
@[simp] theorem State.setBitF_armedAt (f : Fld) (n : Nat) (b : Bool) : (s.setBitF f n b).armedAt = s.armedAt := rfl
@[simp] theorem State.setBitF_marks (f : Fld) (n : Nat) (b : Bool) : (s.setBitF f n b).marks = s.marks := rfl
@[simp] theorem State.setBitF_lateErr (f : Fld) (n : Nat) (b : Bool) : (s.setBitF f n b).lateErr = s.lateErr := rfl
@[simp] theorem State.setBitF_ran (f : Fld) (n : Nat) (b : Bool) : (s.setBitF f n b).ran = s.ran := rfl
@[simp] theorem State.setBitF_pwr (f : Fld) (n : Nat) (b : Bool) : (s.setBitF f n b).pwr = s.pwr := rfl
@[simp] theorem State.setBitF_boot (f : Fld) (n : Nat) (b : Bool) : (s.setBitF f n b).boot = s.boot := rfl
@[simp] theorem State.setBitF_brm (f : Fld) (n : Nat) (b : Bool) : (s.setBitF f n b).brm = s.brm := rfl
@[simp] theorem State.setBitF_gptp (f : Fld) (n : Nat) (b : Bool) : (s.setBitF f n b).gptp = s.gptp := rfl
@[simp] theorem State.setBitF_pid (f : Fld) (n : Nat) (b : Bool) : (s.setBitF f n b).pid = s.pid := rfl
@[simp] theorem State.setBitF_buck (f : Fld) (n : Nat) (b : Bool) : (s.setBitF f n b).buck = s.buck := rfl
@[simp] theorem State.setBitF_sw (f : Fld) (n : Nat) (b : Bool) : (s.setBitF f n b).sw = s.sw := rfl
@[simp] theorem State.setBitF_eng (f : Fld) (n : Nat) (b : Bool) : (s.setBitF f n b).eng = s.eng := rfl
@[simp] theorem State.setBitF_thm (f : Fld) (n : Nat) (b : Bool) : (s.setBitF f n b).thm = s.thm := rfl
@[simp] theorem State.setBitF_saf (f : Fld) (n : Nat) (b : Bool) : (s.setBitF f n b).saf = s.saf := rfl
@[simp] theorem State.setBitF_flash (f : Fld) (n : Nat) (b : Bool) : (s.setBitF f n b).flash = s.flash := rfl
@[simp] theorem State.setBitF_vin (f : Fld) (n : Nat) (b : Bool) : (s.setBitF f n b).vin = s.vin := rfl
@[simp] theorem State.setBitF_imu (f : Fld) (n : Nat) (b : Bool) : (s.setBitF f n b).imu = s.imu := rfl
@[simp] theorem State.setBitF_cf (f : Fld) (n : Nat) (b : Bool) : (s.setBitF f n b).cf = s.cf := rfl
@[simp] theorem State.setBitF_sheaf (f : Fld) (n : Nat) (b : Bool) : (s.setBitF f n b).sheaf = s.sheaf := rfl
@[simp] theorem State.setBitF_comp (f : Fld) (n : Nat) (b : Bool) : (s.setBitF f n b).comp = s.comp := rfl
@[simp] theorem State.setBitF_recs (f : Fld) (n : Nat) (b : Bool) : (s.setBitF f n b).recs = s.recs := rfl
@[simp] theorem State.setBitF_gme (f : Fld) (n : Nat) (b : Bool) : (s.setBitF f n b).gme = s.gme := rfl
@[simp] theorem State.setBitF_scn (f : Fld) (n : Nat) (b : Bool) : (s.setBitF f n b).scn = s.scn := rfl
@[simp] theorem State.setBitF_link (f : Fld) (n : Nat) (b : Bool) : (s.setBitF f n b).link = s.link := rfl
@[simp] theorem State.setBitF_cal (f : Fld) (n : Nat) (b : Bool) : (s.setBitF f n b).cal = s.cal := rfl
@[simp] theorem State.setBitF_sat (f : Fld) (n : Nat) (b : Bool) : (s.setBitF f n b).sat = s.sat := rfl
@[simp] theorem State.setBitF_mbx (f : Fld) (n : Nat) (b : Bool) : (s.setBitF f n b).mbx = s.mbx := rfl
@[simp] theorem State.setBitF_cvu (f : Fld) (n : Nat) (b : Bool) : (s.setBitF f n b).cvu = s.cvu := rfl
@[simp] theorem State.setBitF_dict (f : Fld) (n : Nat) (b : Bool) : (s.setBitF f n b).dict = s.dict := rfl
@[simp] theorem State.setBitF_net (f : Fld) (n : Nat) (b : Bool) : (s.setBitF f n b).net = s.net := rfl
@[simp] theorem State.setBitF_onoth (f : Fld) (n : Nat) (b : Bool) : (s.setBitF f n b).onoth = s.onoth := rfl
@[simp] theorem State.setBitF_kept (f : Fld) (n : Nat) (b : Bool) : (s.setBitF f n b).kept = s.kept := rfl

@[simp] theorem State.add64_now (lo hi v : Nat) : (s.add64 lo hi v).now = s.now := rfl
@[simp] theorem State.add64_free (lo hi v : Nat) : (s.add64 lo hi v).free = s.free := rfl
@[simp] theorem State.add64_pending (lo hi v : Nat) : (s.add64 lo hi v).pending = s.pending := rfl
@[simp] theorem State.add64_sent (lo hi v : Nat) : (s.add64 lo hi v).sent = s.sent := rfl
@[simp] theorem State.add64_mem (lo hi v : Nat) : (s.add64 lo hi v).mem = s.mem := rfl
@[simp] theorem State.add64_applied (lo hi v : Nat) : (s.add64 lo hi v).applied = s.applied := rfl
@[simp] theorem State.add64_armedAt (lo hi v : Nat) : (s.add64 lo hi v).armedAt = s.armedAt := rfl
@[simp] theorem State.add64_marks (lo hi v : Nat) : (s.add64 lo hi v).marks = s.marks := rfl
@[simp] theorem State.add64_lateErr (lo hi v : Nat) : (s.add64 lo hi v).lateErr = s.lateErr := rfl
@[simp] theorem State.add64_ran (lo hi v : Nat) : (s.add64 lo hi v).ran = s.ran := rfl
@[simp] theorem State.add64_pwr (lo hi v : Nat) : (s.add64 lo hi v).pwr = s.pwr := rfl
@[simp] theorem State.add64_boot (lo hi v : Nat) : (s.add64 lo hi v).boot = s.boot := rfl
@[simp] theorem State.add64_brm (lo hi v : Nat) : (s.add64 lo hi v).brm = s.brm := rfl
@[simp] theorem State.add64_gptp (lo hi v : Nat) : (s.add64 lo hi v).gptp = s.gptp := rfl
@[simp] theorem State.add64_pid (lo hi v : Nat) : (s.add64 lo hi v).pid = s.pid := rfl
@[simp] theorem State.add64_buck (lo hi v : Nat) : (s.add64 lo hi v).buck = s.buck := rfl
@[simp] theorem State.add64_sw (lo hi v : Nat) : (s.add64 lo hi v).sw = s.sw := rfl
@[simp] theorem State.add64_eng (lo hi v : Nat) : (s.add64 lo hi v).eng = s.eng := rfl
@[simp] theorem State.add64_thm (lo hi v : Nat) : (s.add64 lo hi v).thm = s.thm := rfl
@[simp] theorem State.add64_saf (lo hi v : Nat) : (s.add64 lo hi v).saf = s.saf := rfl
@[simp] theorem State.add64_flash (lo hi v : Nat) : (s.add64 lo hi v).flash = s.flash := rfl
@[simp] theorem State.add64_vin (lo hi v : Nat) : (s.add64 lo hi v).vin = s.vin := rfl
@[simp] theorem State.add64_imu (lo hi v : Nat) : (s.add64 lo hi v).imu = s.imu := rfl
@[simp] theorem State.add64_cf (lo hi v : Nat) : (s.add64 lo hi v).cf = s.cf := rfl
@[simp] theorem State.add64_sheaf (lo hi v : Nat) : (s.add64 lo hi v).sheaf = s.sheaf := rfl
@[simp] theorem State.add64_comp (lo hi v : Nat) : (s.add64 lo hi v).comp = s.comp := rfl
@[simp] theorem State.add64_recs (lo hi v : Nat) : (s.add64 lo hi v).recs = s.recs := rfl
@[simp] theorem State.add64_gme (lo hi v : Nat) : (s.add64 lo hi v).gme = s.gme := rfl
@[simp] theorem State.add64_scn (lo hi v : Nat) : (s.add64 lo hi v).scn = s.scn := rfl
@[simp] theorem State.add64_link (lo hi v : Nat) : (s.add64 lo hi v).link = s.link := rfl
@[simp] theorem State.add64_cal (lo hi v : Nat) : (s.add64 lo hi v).cal = s.cal := rfl
@[simp] theorem State.add64_sat (lo hi v : Nat) : (s.add64 lo hi v).sat = s.sat := rfl
@[simp] theorem State.add64_mbx (lo hi v : Nat) : (s.add64 lo hi v).mbx = s.mbx := rfl
@[simp] theorem State.add64_cvu (lo hi v : Nat) : (s.add64 lo hi v).cvu = s.cvu := rfl
@[simp] theorem State.add64_dict (lo hi v : Nat) : (s.add64 lo hi v).dict = s.dict := rfl
@[simp] theorem State.add64_net (lo hi v : Nat) : (s.add64 lo hi v).net = s.net := rfl
@[simp] theorem State.add64_onoth (lo hi v : Nat) : (s.add64 lo hi v).onoth = s.onoth := rfl
@[simp] theorem State.add64_kept (lo hi v : Nat) : (s.add64 lo hi v).kept = s.kept := rfl

@[simp] theorem State.srcSet_now (base src : Nat) (b : Bool) : (s.srcSet base src b).now = s.now := rfl
@[simp] theorem State.srcSet_free (base src : Nat) (b : Bool) : (s.srcSet base src b).free = s.free := rfl
@[simp] theorem State.srcSet_pending (base src : Nat) (b : Bool) : (s.srcSet base src b).pending = s.pending := rfl
@[simp] theorem State.srcSet_sent (base src : Nat) (b : Bool) : (s.srcSet base src b).sent = s.sent := rfl
@[simp] theorem State.srcSet_mem (base src : Nat) (b : Bool) : (s.srcSet base src b).mem = s.mem := rfl
@[simp] theorem State.srcSet_applied (base src : Nat) (b : Bool) : (s.srcSet base src b).applied = s.applied := rfl
@[simp] theorem State.srcSet_armedAt (base src : Nat) (b : Bool) : (s.srcSet base src b).armedAt = s.armedAt := rfl
@[simp] theorem State.srcSet_marks (base src : Nat) (b : Bool) : (s.srcSet base src b).marks = s.marks := rfl
@[simp] theorem State.srcSet_lateErr (base src : Nat) (b : Bool) : (s.srcSet base src b).lateErr = s.lateErr := rfl
@[simp] theorem State.srcSet_ran (base src : Nat) (b : Bool) : (s.srcSet base src b).ran = s.ran := rfl
@[simp] theorem State.srcSet_pwr (base src : Nat) (b : Bool) : (s.srcSet base src b).pwr = s.pwr := rfl
@[simp] theorem State.srcSet_boot (base src : Nat) (b : Bool) : (s.srcSet base src b).boot = s.boot := rfl
@[simp] theorem State.srcSet_brm (base src : Nat) (b : Bool) : (s.srcSet base src b).brm = s.brm := rfl
@[simp] theorem State.srcSet_gptp (base src : Nat) (b : Bool) : (s.srcSet base src b).gptp = s.gptp := rfl
@[simp] theorem State.srcSet_pid (base src : Nat) (b : Bool) : (s.srcSet base src b).pid = s.pid := rfl
@[simp] theorem State.srcSet_buck (base src : Nat) (b : Bool) : (s.srcSet base src b).buck = s.buck := rfl
@[simp] theorem State.srcSet_sw (base src : Nat) (b : Bool) : (s.srcSet base src b).sw = s.sw := rfl
@[simp] theorem State.srcSet_eng (base src : Nat) (b : Bool) : (s.srcSet base src b).eng = s.eng := rfl
@[simp] theorem State.srcSet_thm (base src : Nat) (b : Bool) : (s.srcSet base src b).thm = s.thm := rfl
@[simp] theorem State.srcSet_saf (base src : Nat) (b : Bool) : (s.srcSet base src b).saf = s.saf := rfl
@[simp] theorem State.srcSet_flash (base src : Nat) (b : Bool) : (s.srcSet base src b).flash = s.flash := rfl
@[simp] theorem State.srcSet_vin (base src : Nat) (b : Bool) : (s.srcSet base src b).vin = s.vin := rfl
@[simp] theorem State.srcSet_imu (base src : Nat) (b : Bool) : (s.srcSet base src b).imu = s.imu := rfl
@[simp] theorem State.srcSet_cf (base src : Nat) (b : Bool) : (s.srcSet base src b).cf = s.cf := rfl
@[simp] theorem State.srcSet_sheaf (base src : Nat) (b : Bool) : (s.srcSet base src b).sheaf = s.sheaf := rfl
@[simp] theorem State.srcSet_comp (base src : Nat) (b : Bool) : (s.srcSet base src b).comp = s.comp := rfl
@[simp] theorem State.srcSet_recs (base src : Nat) (b : Bool) : (s.srcSet base src b).recs = s.recs := rfl
@[simp] theorem State.srcSet_gme (base src : Nat) (b : Bool) : (s.srcSet base src b).gme = s.gme := rfl
@[simp] theorem State.srcSet_scn (base src : Nat) (b : Bool) : (s.srcSet base src b).scn = s.scn := rfl
@[simp] theorem State.srcSet_link (base src : Nat) (b : Bool) : (s.srcSet base src b).link = s.link := rfl
@[simp] theorem State.srcSet_cal (base src : Nat) (b : Bool) : (s.srcSet base src b).cal = s.cal := rfl
@[simp] theorem State.srcSet_sat (base src : Nat) (b : Bool) : (s.srcSet base src b).sat = s.sat := rfl
@[simp] theorem State.srcSet_mbx (base src : Nat) (b : Bool) : (s.srcSet base src b).mbx = s.mbx := rfl
@[simp] theorem State.srcSet_cvu (base src : Nat) (b : Bool) : (s.srcSet base src b).cvu = s.cvu := rfl
@[simp] theorem State.srcSet_dict (base src : Nat) (b : Bool) : (s.srcSet base src b).dict = s.dict := rfl
@[simp] theorem State.srcSet_net (base src : Nat) (b : Bool) : (s.srcSet base src b).net = s.net := rfl
@[simp] theorem State.srcSet_onoth (base src : Nat) (b : Bool) : (s.srcSet base src b).onoth = s.onoth := rfl
@[simp] theorem State.srcSet_kept (base src : Nat) (b : Bool) : (s.srcSet base src b).kept = s.kept := rfl

@[simp] theorem State.setHandled_now (src : Nat) (b : Bool) : (s.setHandled src b).now = s.now := rfl
@[simp] theorem State.setHandled_free (src : Nat) (b : Bool) : (s.setHandled src b).free = s.free := rfl
@[simp] theorem State.setHandled_pending (src : Nat) (b : Bool) : (s.setHandled src b).pending = s.pending := rfl
@[simp] theorem State.setHandled_sent (src : Nat) (b : Bool) : (s.setHandled src b).sent = s.sent := rfl
@[simp] theorem State.setHandled_mem (src : Nat) (b : Bool) : (s.setHandled src b).mem = s.mem := rfl
@[simp] theorem State.setHandled_applied (src : Nat) (b : Bool) : (s.setHandled src b).applied = s.applied := rfl
@[simp] theorem State.setHandled_armedAt (src : Nat) (b : Bool) : (s.setHandled src b).armedAt = s.armedAt := rfl
@[simp] theorem State.setHandled_marks (src : Nat) (b : Bool) : (s.setHandled src b).marks = s.marks := rfl
@[simp] theorem State.setHandled_lateErr (src : Nat) (b : Bool) : (s.setHandled src b).lateErr = s.lateErr := rfl
@[simp] theorem State.setHandled_ran (src : Nat) (b : Bool) : (s.setHandled src b).ran = s.ran := rfl
@[simp] theorem State.setHandled_pwr (src : Nat) (b : Bool) : (s.setHandled src b).pwr = s.pwr := rfl
@[simp] theorem State.setHandled_boot (src : Nat) (b : Bool) : (s.setHandled src b).boot = s.boot := rfl
@[simp] theorem State.setHandled_brm (src : Nat) (b : Bool) : (s.setHandled src b).brm = s.brm := rfl
@[simp] theorem State.setHandled_gptp (src : Nat) (b : Bool) : (s.setHandled src b).gptp = s.gptp := rfl
@[simp] theorem State.setHandled_pid (src : Nat) (b : Bool) : (s.setHandled src b).pid = s.pid := rfl
@[simp] theorem State.setHandled_buck (src : Nat) (b : Bool) : (s.setHandled src b).buck = s.buck := rfl
@[simp] theorem State.setHandled_sw (src : Nat) (b : Bool) : (s.setHandled src b).sw = s.sw := rfl
@[simp] theorem State.setHandled_eng (src : Nat) (b : Bool) : (s.setHandled src b).eng = s.eng := rfl
@[simp] theorem State.setHandled_thm (src : Nat) (b : Bool) : (s.setHandled src b).thm = s.thm := rfl
@[simp] theorem State.setHandled_saf (src : Nat) (b : Bool) : (s.setHandled src b).saf = s.saf := rfl
@[simp] theorem State.setHandled_flash (src : Nat) (b : Bool) : (s.setHandled src b).flash = s.flash := rfl
@[simp] theorem State.setHandled_vin (src : Nat) (b : Bool) : (s.setHandled src b).vin = s.vin := rfl
@[simp] theorem State.setHandled_imu (src : Nat) (b : Bool) : (s.setHandled src b).imu = s.imu := rfl
@[simp] theorem State.setHandled_cf (src : Nat) (b : Bool) : (s.setHandled src b).cf = s.cf := rfl
@[simp] theorem State.setHandled_sheaf (src : Nat) (b : Bool) : (s.setHandled src b).sheaf = s.sheaf := rfl
@[simp] theorem State.setHandled_comp (src : Nat) (b : Bool) : (s.setHandled src b).comp = s.comp := rfl
@[simp] theorem State.setHandled_recs (src : Nat) (b : Bool) : (s.setHandled src b).recs = s.recs := rfl
@[simp] theorem State.setHandled_gme (src : Nat) (b : Bool) : (s.setHandled src b).gme = s.gme := rfl
@[simp] theorem State.setHandled_scn (src : Nat) (b : Bool) : (s.setHandled src b).scn = s.scn := rfl
@[simp] theorem State.setHandled_link (src : Nat) (b : Bool) : (s.setHandled src b).link = s.link := rfl
@[simp] theorem State.setHandled_cal (src : Nat) (b : Bool) : (s.setHandled src b).cal = s.cal := rfl
@[simp] theorem State.setHandled_sat (src : Nat) (b : Bool) : (s.setHandled src b).sat = s.sat := rfl
@[simp] theorem State.setHandled_mbx (src : Nat) (b : Bool) : (s.setHandled src b).mbx = s.mbx := rfl
@[simp] theorem State.setHandled_cvu (src : Nat) (b : Bool) : (s.setHandled src b).cvu = s.cvu := rfl
@[simp] theorem State.setHandled_dict (src : Nat) (b : Bool) : (s.setHandled src b).dict = s.dict := rfl
@[simp] theorem State.setHandled_net (src : Nat) (b : Bool) : (s.setHandled src b).net = s.net := rfl
@[simp] theorem State.setHandled_onoth (src : Nat) (b : Bool) : (s.setHandled src b).onoth = s.onoth := rfl
@[simp] theorem State.setHandled_kept (src : Nat) (b : Bool) : (s.setHandled src b).kept = s.kept := rfl

@[simp] theorem State.countSrc_now (src : Nat) : (s.countSrc src).now = s.now := rfl
@[simp] theorem State.countSrc_free (src : Nat) : (s.countSrc src).free = s.free := rfl
@[simp] theorem State.countSrc_pending (src : Nat) : (s.countSrc src).pending = s.pending := rfl
@[simp] theorem State.countSrc_sent (src : Nat) : (s.countSrc src).sent = s.sent := rfl
@[simp] theorem State.countSrc_mem (src : Nat) : (s.countSrc src).mem = s.mem := rfl
@[simp] theorem State.countSrc_applied (src : Nat) : (s.countSrc src).applied = s.applied := rfl
@[simp] theorem State.countSrc_armedAt (src : Nat) : (s.countSrc src).armedAt = s.armedAt := rfl
@[simp] theorem State.countSrc_marks (src : Nat) : (s.countSrc src).marks = s.marks := rfl
@[simp] theorem State.countSrc_lateErr (src : Nat) : (s.countSrc src).lateErr = s.lateErr := rfl
@[simp] theorem State.countSrc_ran (src : Nat) : (s.countSrc src).ran = s.ran := rfl
@[simp] theorem State.countSrc_pwr (src : Nat) : (s.countSrc src).pwr = s.pwr := rfl
@[simp] theorem State.countSrc_boot (src : Nat) : (s.countSrc src).boot = s.boot := rfl
@[simp] theorem State.countSrc_brm (src : Nat) : (s.countSrc src).brm = s.brm := rfl
@[simp] theorem State.countSrc_gptp (src : Nat) : (s.countSrc src).gptp = s.gptp := rfl
@[simp] theorem State.countSrc_pid (src : Nat) : (s.countSrc src).pid = s.pid := rfl
@[simp] theorem State.countSrc_buck (src : Nat) : (s.countSrc src).buck = s.buck := rfl
@[simp] theorem State.countSrc_sw (src : Nat) : (s.countSrc src).sw = s.sw := rfl
@[simp] theorem State.countSrc_eng (src : Nat) : (s.countSrc src).eng = s.eng := rfl
@[simp] theorem State.countSrc_thm (src : Nat) : (s.countSrc src).thm = s.thm := rfl
@[simp] theorem State.countSrc_saf (src : Nat) : (s.countSrc src).saf = s.saf := rfl
@[simp] theorem State.countSrc_flash (src : Nat) : (s.countSrc src).flash = s.flash := rfl
@[simp] theorem State.countSrc_vin (src : Nat) : (s.countSrc src).vin = s.vin := rfl
@[simp] theorem State.countSrc_imu (src : Nat) : (s.countSrc src).imu = s.imu := rfl
@[simp] theorem State.countSrc_cf (src : Nat) : (s.countSrc src).cf = s.cf := rfl
@[simp] theorem State.countSrc_sheaf (src : Nat) : (s.countSrc src).sheaf = s.sheaf := rfl
@[simp] theorem State.countSrc_comp (src : Nat) : (s.countSrc src).comp = s.comp := rfl
@[simp] theorem State.countSrc_recs (src : Nat) : (s.countSrc src).recs = s.recs := rfl
@[simp] theorem State.countSrc_gme (src : Nat) : (s.countSrc src).gme = s.gme := rfl
@[simp] theorem State.countSrc_scn (src : Nat) : (s.countSrc src).scn = s.scn := rfl
@[simp] theorem State.countSrc_link (src : Nat) : (s.countSrc src).link = s.link := rfl
@[simp] theorem State.countSrc_cal (src : Nat) : (s.countSrc src).cal = s.cal := rfl
@[simp] theorem State.countSrc_sat (src : Nat) : (s.countSrc src).sat = s.sat := rfl
@[simp] theorem State.countSrc_mbx (src : Nat) : (s.countSrc src).mbx = s.mbx := rfl
@[simp] theorem State.countSrc_cvu (src : Nat) : (s.countSrc src).cvu = s.cvu := rfl
@[simp] theorem State.countSrc_dict (src : Nat) : (s.countSrc src).dict = s.dict := rfl
@[simp] theorem State.countSrc_net (src : Nat) : (s.countSrc src).net = s.net := rfl
@[simp] theorem State.countSrc_onoth (src : Nat) : (s.countSrc src).onoth = s.onoth := rfl
@[simp] theorem State.countSrc_kept (src : Nat) : (s.countSrc src).kept = s.kept := rfl

@[simp] theorem State.lowerHusk_now : (s.lowerHusk).now = s.now := rfl
@[simp] theorem State.lowerHusk_free : (s.lowerHusk).free = s.free := rfl
@[simp] theorem State.lowerHusk_pending : (s.lowerHusk).pending = s.pending := rfl
@[simp] theorem State.lowerHusk_sent : (s.lowerHusk).sent = s.sent := rfl
@[simp] theorem State.lowerHusk_mem : (s.lowerHusk).mem = s.mem := rfl
@[simp] theorem State.lowerHusk_applied : (s.lowerHusk).applied = s.applied := rfl
@[simp] theorem State.lowerHusk_armedAt : (s.lowerHusk).armedAt = s.armedAt := rfl
@[simp] theorem State.lowerHusk_marks : (s.lowerHusk).marks = s.marks := rfl
@[simp] theorem State.lowerHusk_lateErr : (s.lowerHusk).lateErr = s.lateErr := rfl
@[simp] theorem State.lowerHusk_ran : (s.lowerHusk).ran = s.ran := rfl
@[simp] theorem State.lowerHusk_pwr : (s.lowerHusk).pwr = s.pwr := rfl
@[simp] theorem State.lowerHusk_boot : (s.lowerHusk).boot = s.boot := rfl
@[simp] theorem State.lowerHusk_brm : (s.lowerHusk).brm = s.brm := rfl
@[simp] theorem State.lowerHusk_gptp : (s.lowerHusk).gptp = s.gptp := rfl
@[simp] theorem State.lowerHusk_pid : (s.lowerHusk).pid = s.pid := rfl
@[simp] theorem State.lowerHusk_buck : (s.lowerHusk).buck = s.buck := rfl
@[simp] theorem State.lowerHusk_sw : (s.lowerHusk).sw = s.sw := rfl
@[simp] theorem State.lowerHusk_eng : (s.lowerHusk).eng = s.eng := rfl
@[simp] theorem State.lowerHusk_thm : (s.lowerHusk).thm = s.thm := rfl
@[simp] theorem State.lowerHusk_saf : (s.lowerHusk).saf = s.saf := rfl
@[simp] theorem State.lowerHusk_flash : (s.lowerHusk).flash = s.flash := rfl
@[simp] theorem State.lowerHusk_vin : (s.lowerHusk).vin = s.vin := rfl
@[simp] theorem State.lowerHusk_imu : (s.lowerHusk).imu = s.imu := rfl
@[simp] theorem State.lowerHusk_cf : (s.lowerHusk).cf = s.cf := rfl
@[simp] theorem State.lowerHusk_sheaf : (s.lowerHusk).sheaf = s.sheaf := rfl
@[simp] theorem State.lowerHusk_comp : (s.lowerHusk).comp = s.comp := rfl
@[simp] theorem State.lowerHusk_recs : (s.lowerHusk).recs = s.recs := rfl
@[simp] theorem State.lowerHusk_gme : (s.lowerHusk).gme = s.gme := rfl
@[simp] theorem State.lowerHusk_scn : (s.lowerHusk).scn = s.scn := rfl
@[simp] theorem State.lowerHusk_link : (s.lowerHusk).link = s.link := rfl
@[simp] theorem State.lowerHusk_cal : (s.lowerHusk).cal = s.cal := rfl
@[simp] theorem State.lowerHusk_sat : (s.lowerHusk).sat = s.sat := rfl
@[simp] theorem State.lowerHusk_mbx : (s.lowerHusk).mbx = s.mbx := rfl
@[simp] theorem State.lowerHusk_cvu : (s.lowerHusk).cvu = s.cvu := rfl
@[simp] theorem State.lowerHusk_dict : (s.lowerHusk).dict = s.dict := rfl
@[simp] theorem State.lowerHusk_net : (s.lowerHusk).net = s.net := rfl
@[simp] theorem State.lowerHusk_onoth : (s.lowerHusk).onoth = s.onoth := rfl
@[simp] theorem State.lowerHusk_kept : (s.lowerHusk).kept = s.kept := rfl

@[simp] theorem State.setApp_now (a v : Nat) : (s.setApp a v).now = s.now := rfl
@[simp] theorem State.setApp_free (a v : Nat) : (s.setApp a v).free = s.free := rfl
@[simp] theorem State.setApp_pending (a v : Nat) : (s.setApp a v).pending = s.pending := rfl
@[simp] theorem State.setApp_sent (a v : Nat) : (s.setApp a v).sent = s.sent := rfl
@[simp] theorem State.setApp_mem (a v : Nat) : (s.setApp a v).mem = s.mem := rfl
@[simp] theorem State.setApp_regs (a v : Nat) : (s.setApp a v).regs = s.regs := rfl
@[simp] theorem State.setApp_armedAt (a v : Nat) : (s.setApp a v).armedAt = s.armedAt := rfl
@[simp] theorem State.setApp_marks (a v : Nat) : (s.setApp a v).marks = s.marks := rfl
@[simp] theorem State.setApp_lateErr (a v : Nat) : (s.setApp a v).lateErr = s.lateErr := rfl
@[simp] theorem State.setApp_ran (a v : Nat) : (s.setApp a v).ran = s.ran := rfl
@[simp] theorem State.setApp_pwr (a v : Nat) : (s.setApp a v).pwr = s.pwr := rfl
@[simp] theorem State.setApp_boot (a v : Nat) : (s.setApp a v).boot = s.boot := rfl
@[simp] theorem State.setApp_brm (a v : Nat) : (s.setApp a v).brm = s.brm := rfl
@[simp] theorem State.setApp_gptp (a v : Nat) : (s.setApp a v).gptp = s.gptp := rfl
@[simp] theorem State.setApp_pid (a v : Nat) : (s.setApp a v).pid = s.pid := rfl
@[simp] theorem State.setApp_buck (a v : Nat) : (s.setApp a v).buck = s.buck := rfl
@[simp] theorem State.setApp_sw (a v : Nat) : (s.setApp a v).sw = s.sw := rfl
@[simp] theorem State.setApp_eng (a v : Nat) : (s.setApp a v).eng = s.eng := rfl
@[simp] theorem State.setApp_thm (a v : Nat) : (s.setApp a v).thm = s.thm := rfl
@[simp] theorem State.setApp_saf (a v : Nat) : (s.setApp a v).saf = s.saf := rfl
@[simp] theorem State.setApp_flash (a v : Nat) : (s.setApp a v).flash = s.flash := rfl
@[simp] theorem State.setApp_vin (a v : Nat) : (s.setApp a v).vin = s.vin := rfl
@[simp] theorem State.setApp_imu (a v : Nat) : (s.setApp a v).imu = s.imu := rfl
@[simp] theorem State.setApp_cf (a v : Nat) : (s.setApp a v).cf = s.cf := rfl
@[simp] theorem State.setApp_sheaf (a v : Nat) : (s.setApp a v).sheaf = s.sheaf := rfl
@[simp] theorem State.setApp_comp (a v : Nat) : (s.setApp a v).comp = s.comp := rfl
@[simp] theorem State.setApp_recs (a v : Nat) : (s.setApp a v).recs = s.recs := rfl
@[simp] theorem State.setApp_gme (a v : Nat) : (s.setApp a v).gme = s.gme := rfl
@[simp] theorem State.setApp_scn (a v : Nat) : (s.setApp a v).scn = s.scn := rfl
@[simp] theorem State.setApp_link (a v : Nat) : (s.setApp a v).link = s.link := rfl
@[simp] theorem State.setApp_cal (a v : Nat) : (s.setApp a v).cal = s.cal := rfl
@[simp] theorem State.setApp_sat (a v : Nat) : (s.setApp a v).sat = s.sat := rfl
@[simp] theorem State.setApp_mbx (a v : Nat) : (s.setApp a v).mbx = s.mbx := rfl
@[simp] theorem State.setApp_cvu (a v : Nat) : (s.setApp a v).cvu = s.cvu := rfl
@[simp] theorem State.setApp_dict (a v : Nat) : (s.setApp a v).dict = s.dict := rfl
@[simp] theorem State.setApp_net (a v : Nat) : (s.setApp a v).net = s.net := rfl
@[simp] theorem State.setApp_onoth (a v : Nat) : (s.setApp a v).onoth = s.onoth := rfl
@[simp] theorem State.setApp_kept (a v : Nat) : (s.setApp a v).kept = s.kept := rfl

@[simp] theorem State.applyReg_now (a : Nat) : (s.applyReg a).now = s.now := rfl
@[simp] theorem State.applyReg_free (a : Nat) : (s.applyReg a).free = s.free := rfl
@[simp] theorem State.applyReg_pending (a : Nat) : (s.applyReg a).pending = s.pending := rfl
@[simp] theorem State.applyReg_sent (a : Nat) : (s.applyReg a).sent = s.sent := rfl
@[simp] theorem State.applyReg_mem (a : Nat) : (s.applyReg a).mem = s.mem := rfl
@[simp] theorem State.applyReg_regs (a : Nat) : (s.applyReg a).regs = s.regs := rfl
@[simp] theorem State.applyReg_armedAt (a : Nat) : (s.applyReg a).armedAt = s.armedAt := rfl
@[simp] theorem State.applyReg_marks (a : Nat) : (s.applyReg a).marks = s.marks := rfl
@[simp] theorem State.applyReg_lateErr (a : Nat) : (s.applyReg a).lateErr = s.lateErr := rfl
@[simp] theorem State.applyReg_ran (a : Nat) : (s.applyReg a).ran = s.ran := rfl
@[simp] theorem State.applyReg_pwr (a : Nat) : (s.applyReg a).pwr = s.pwr := rfl
@[simp] theorem State.applyReg_boot (a : Nat) : (s.applyReg a).boot = s.boot := rfl
@[simp] theorem State.applyReg_brm (a : Nat) : (s.applyReg a).brm = s.brm := rfl
@[simp] theorem State.applyReg_gptp (a : Nat) : (s.applyReg a).gptp = s.gptp := rfl
@[simp] theorem State.applyReg_pid (a : Nat) : (s.applyReg a).pid = s.pid := rfl
@[simp] theorem State.applyReg_buck (a : Nat) : (s.applyReg a).buck = s.buck := rfl
@[simp] theorem State.applyReg_sw (a : Nat) : (s.applyReg a).sw = s.sw := rfl
@[simp] theorem State.applyReg_eng (a : Nat) : (s.applyReg a).eng = s.eng := rfl
@[simp] theorem State.applyReg_thm (a : Nat) : (s.applyReg a).thm = s.thm := rfl
@[simp] theorem State.applyReg_saf (a : Nat) : (s.applyReg a).saf = s.saf := rfl
@[simp] theorem State.applyReg_flash (a : Nat) : (s.applyReg a).flash = s.flash := rfl
@[simp] theorem State.applyReg_vin (a : Nat) : (s.applyReg a).vin = s.vin := rfl
@[simp] theorem State.applyReg_imu (a : Nat) : (s.applyReg a).imu = s.imu := rfl
@[simp] theorem State.applyReg_cf (a : Nat) : (s.applyReg a).cf = s.cf := rfl
@[simp] theorem State.applyReg_sheaf (a : Nat) : (s.applyReg a).sheaf = s.sheaf := rfl
@[simp] theorem State.applyReg_comp (a : Nat) : (s.applyReg a).comp = s.comp := rfl
@[simp] theorem State.applyReg_recs (a : Nat) : (s.applyReg a).recs = s.recs := rfl
@[simp] theorem State.applyReg_gme (a : Nat) : (s.applyReg a).gme = s.gme := rfl
@[simp] theorem State.applyReg_scn (a : Nat) : (s.applyReg a).scn = s.scn := rfl
@[simp] theorem State.applyReg_link (a : Nat) : (s.applyReg a).link = s.link := rfl
@[simp] theorem State.applyReg_cal (a : Nat) : (s.applyReg a).cal = s.cal := rfl
@[simp] theorem State.applyReg_sat (a : Nat) : (s.applyReg a).sat = s.sat := rfl
@[simp] theorem State.applyReg_mbx (a : Nat) : (s.applyReg a).mbx = s.mbx := rfl
@[simp] theorem State.applyReg_cvu (a : Nat) : (s.applyReg a).cvu = s.cvu := rfl
@[simp] theorem State.applyReg_dict (a : Nat) : (s.applyReg a).dict = s.dict := rfl
@[simp] theorem State.applyReg_net (a : Nat) : (s.applyReg a).net = s.net := rfl
@[simp] theorem State.applyReg_onoth (a : Nat) : (s.applyReg a).onoth = s.onoth := rfl
@[simp] theorem State.applyReg_kept (a : Nat) : (s.applyReg a).kept = s.kept := rfl

@[simp] theorem State.resetRegs_now (lo hi : Nat) : (s.resetRegs lo hi).now = s.now := rfl
@[simp] theorem State.resetRegs_free (lo hi : Nat) : (s.resetRegs lo hi).free = s.free := rfl
@[simp] theorem State.resetRegs_pending (lo hi : Nat) : (s.resetRegs lo hi).pending = s.pending := rfl
@[simp] theorem State.resetRegs_sent (lo hi : Nat) : (s.resetRegs lo hi).sent = s.sent := rfl
@[simp] theorem State.resetRegs_mem (lo hi : Nat) : (s.resetRegs lo hi).mem = s.mem := rfl
@[simp] theorem State.resetRegs_marks (lo hi : Nat) : (s.resetRegs lo hi).marks = s.marks := rfl
@[simp] theorem State.resetRegs_lateErr (lo hi : Nat) : (s.resetRegs lo hi).lateErr = s.lateErr := rfl
@[simp] theorem State.resetRegs_ran (lo hi : Nat) : (s.resetRegs lo hi).ran = s.ran := rfl
@[simp] theorem State.resetRegs_pwr (lo hi : Nat) : (s.resetRegs lo hi).pwr = s.pwr := rfl
@[simp] theorem State.resetRegs_boot (lo hi : Nat) : (s.resetRegs lo hi).boot = s.boot := rfl
@[simp] theorem State.resetRegs_brm (lo hi : Nat) : (s.resetRegs lo hi).brm = s.brm := rfl
@[simp] theorem State.resetRegs_gptp (lo hi : Nat) : (s.resetRegs lo hi).gptp = s.gptp := rfl
@[simp] theorem State.resetRegs_pid (lo hi : Nat) : (s.resetRegs lo hi).pid = s.pid := rfl
@[simp] theorem State.resetRegs_buck (lo hi : Nat) : (s.resetRegs lo hi).buck = s.buck := rfl
@[simp] theorem State.resetRegs_sw (lo hi : Nat) : (s.resetRegs lo hi).sw = s.sw := rfl
@[simp] theorem State.resetRegs_eng (lo hi : Nat) : (s.resetRegs lo hi).eng = s.eng := rfl
@[simp] theorem State.resetRegs_thm (lo hi : Nat) : (s.resetRegs lo hi).thm = s.thm := rfl
@[simp] theorem State.resetRegs_saf (lo hi : Nat) : (s.resetRegs lo hi).saf = s.saf := rfl
@[simp] theorem State.resetRegs_flash (lo hi : Nat) : (s.resetRegs lo hi).flash = s.flash := rfl
@[simp] theorem State.resetRegs_vin (lo hi : Nat) : (s.resetRegs lo hi).vin = s.vin := rfl
@[simp] theorem State.resetRegs_imu (lo hi : Nat) : (s.resetRegs lo hi).imu = s.imu := rfl
@[simp] theorem State.resetRegs_cf (lo hi : Nat) : (s.resetRegs lo hi).cf = s.cf := rfl
@[simp] theorem State.resetRegs_sheaf (lo hi : Nat) : (s.resetRegs lo hi).sheaf = s.sheaf := rfl
@[simp] theorem State.resetRegs_comp (lo hi : Nat) : (s.resetRegs lo hi).comp = s.comp := rfl
@[simp] theorem State.resetRegs_recs (lo hi : Nat) : (s.resetRegs lo hi).recs = s.recs := rfl
@[simp] theorem State.resetRegs_gme (lo hi : Nat) : (s.resetRegs lo hi).gme = s.gme := rfl
@[simp] theorem State.resetRegs_scn (lo hi : Nat) : (s.resetRegs lo hi).scn = s.scn := rfl
@[simp] theorem State.resetRegs_link (lo hi : Nat) : (s.resetRegs lo hi).link = s.link := rfl
@[simp] theorem State.resetRegs_cal (lo hi : Nat) : (s.resetRegs lo hi).cal = s.cal := rfl
@[simp] theorem State.resetRegs_sat (lo hi : Nat) : (s.resetRegs lo hi).sat = s.sat := rfl
@[simp] theorem State.resetRegs_mbx (lo hi : Nat) : (s.resetRegs lo hi).mbx = s.mbx := rfl
@[simp] theorem State.resetRegs_cvu (lo hi : Nat) : (s.resetRegs lo hi).cvu = s.cvu := rfl
@[simp] theorem State.resetRegs_dict (lo hi : Nat) : (s.resetRegs lo hi).dict = s.dict := rfl
@[simp] theorem State.resetRegs_net (lo hi : Nat) : (s.resetRegs lo hi).net = s.net := rfl
@[simp] theorem State.resetRegs_onoth (lo hi : Nat) : (s.resetRegs lo hi).onoth = s.onoth := rfl
@[simp] theorem State.resetRegs_kept (lo hi : Nat) : (s.resetRegs lo hi).kept = s.kept := rfl

@[simp] theorem State.setByte_now (a : Nat) (b : Byte) : (s.setByte a b).now = s.now := rfl
@[simp] theorem State.setByte_free (a : Nat) (b : Byte) : (s.setByte a b).free = s.free := rfl
@[simp] theorem State.setByte_pending (a : Nat) (b : Byte) : (s.setByte a b).pending = s.pending := rfl
@[simp] theorem State.setByte_sent (a : Nat) (b : Byte) : (s.setByte a b).sent = s.sent := rfl
@[simp] theorem State.setByte_regs (a : Nat) (b : Byte) : (s.setByte a b).regs = s.regs := rfl
@[simp] theorem State.setByte_applied (a : Nat) (b : Byte) : (s.setByte a b).applied = s.applied := rfl
@[simp] theorem State.setByte_armedAt (a : Nat) (b : Byte) : (s.setByte a b).armedAt = s.armedAt := rfl
@[simp] theorem State.setByte_marks (a : Nat) (b : Byte) : (s.setByte a b).marks = s.marks := rfl
@[simp] theorem State.setByte_lateErr (a : Nat) (b : Byte) : (s.setByte a b).lateErr = s.lateErr := rfl
@[simp] theorem State.setByte_ran (a : Nat) (b : Byte) : (s.setByte a b).ran = s.ran := rfl
@[simp] theorem State.setByte_pwr (a : Nat) (b : Byte) : (s.setByte a b).pwr = s.pwr := rfl
@[simp] theorem State.setByte_boot (a : Nat) (b : Byte) : (s.setByte a b).boot = s.boot := rfl
@[simp] theorem State.setByte_brm (a : Nat) (b : Byte) : (s.setByte a b).brm = s.brm := rfl
@[simp] theorem State.setByte_gptp (a : Nat) (b : Byte) : (s.setByte a b).gptp = s.gptp := rfl
@[simp] theorem State.setByte_pid (a : Nat) (b : Byte) : (s.setByte a b).pid = s.pid := rfl
@[simp] theorem State.setByte_buck (a : Nat) (b : Byte) : (s.setByte a b).buck = s.buck := rfl
@[simp] theorem State.setByte_sw (a : Nat) (b : Byte) : (s.setByte a b).sw = s.sw := rfl
@[simp] theorem State.setByte_eng (a : Nat) (b : Byte) : (s.setByte a b).eng = s.eng := rfl
@[simp] theorem State.setByte_thm (a : Nat) (b : Byte) : (s.setByte a b).thm = s.thm := rfl
@[simp] theorem State.setByte_saf (a : Nat) (b : Byte) : (s.setByte a b).saf = s.saf := rfl
@[simp] theorem State.setByte_flash (a : Nat) (b : Byte) : (s.setByte a b).flash = s.flash := rfl
@[simp] theorem State.setByte_vin (a : Nat) (b : Byte) : (s.setByte a b).vin = s.vin := rfl
@[simp] theorem State.setByte_imu (a : Nat) (b : Byte) : (s.setByte a b).imu = s.imu := rfl
@[simp] theorem State.setByte_cf (a : Nat) (b : Byte) : (s.setByte a b).cf = s.cf := rfl
@[simp] theorem State.setByte_sheaf (a : Nat) (b : Byte) : (s.setByte a b).sheaf = s.sheaf := rfl
@[simp] theorem State.setByte_comp (a : Nat) (b : Byte) : (s.setByte a b).comp = s.comp := rfl
@[simp] theorem State.setByte_recs (a : Nat) (b : Byte) : (s.setByte a b).recs = s.recs := rfl
@[simp] theorem State.setByte_gme (a : Nat) (b : Byte) : (s.setByte a b).gme = s.gme := rfl
@[simp] theorem State.setByte_scn (a : Nat) (b : Byte) : (s.setByte a b).scn = s.scn := rfl
@[simp] theorem State.setByte_link (a : Nat) (b : Byte) : (s.setByte a b).link = s.link := rfl
@[simp] theorem State.setByte_cal (a : Nat) (b : Byte) : (s.setByte a b).cal = s.cal := rfl
@[simp] theorem State.setByte_sat (a : Nat) (b : Byte) : (s.setByte a b).sat = s.sat := rfl
@[simp] theorem State.setByte_mbx (a : Nat) (b : Byte) : (s.setByte a b).mbx = s.mbx := rfl
@[simp] theorem State.setByte_cvu (a : Nat) (b : Byte) : (s.setByte a b).cvu = s.cvu := rfl
@[simp] theorem State.setByte_dict (a : Nat) (b : Byte) : (s.setByte a b).dict = s.dict := rfl
@[simp] theorem State.setByte_net (a : Nat) (b : Byte) : (s.setByte a b).net = s.net := rfl
@[simp] theorem State.setByte_onoth (a : Nat) (b : Byte) : (s.setByte a b).onoth = s.onoth := rfl
@[simp] theorem State.setByte_kept (a : Nat) (b : Byte) : (s.setByte a b).kept = s.kept := rfl

@[simp] theorem State.clearMem_now (lo hi : Nat) : (s.clearMem lo hi).now = s.now := rfl
@[simp] theorem State.clearMem_free (lo hi : Nat) : (s.clearMem lo hi).free = s.free := rfl
@[simp] theorem State.clearMem_pending (lo hi : Nat) : (s.clearMem lo hi).pending = s.pending := rfl
@[simp] theorem State.clearMem_sent (lo hi : Nat) : (s.clearMem lo hi).sent = s.sent := rfl
@[simp] theorem State.clearMem_regs (lo hi : Nat) : (s.clearMem lo hi).regs = s.regs := rfl
@[simp] theorem State.clearMem_applied (lo hi : Nat) : (s.clearMem lo hi).applied = s.applied := rfl
@[simp] theorem State.clearMem_armedAt (lo hi : Nat) : (s.clearMem lo hi).armedAt = s.armedAt := rfl
@[simp] theorem State.clearMem_marks (lo hi : Nat) : (s.clearMem lo hi).marks = s.marks := rfl
@[simp] theorem State.clearMem_lateErr (lo hi : Nat) : (s.clearMem lo hi).lateErr = s.lateErr := rfl
@[simp] theorem State.clearMem_ran (lo hi : Nat) : (s.clearMem lo hi).ran = s.ran := rfl
@[simp] theorem State.clearMem_pwr (lo hi : Nat) : (s.clearMem lo hi).pwr = s.pwr := rfl
@[simp] theorem State.clearMem_boot (lo hi : Nat) : (s.clearMem lo hi).boot = s.boot := rfl
@[simp] theorem State.clearMem_brm (lo hi : Nat) : (s.clearMem lo hi).brm = s.brm := rfl
@[simp] theorem State.clearMem_gptp (lo hi : Nat) : (s.clearMem lo hi).gptp = s.gptp := rfl
@[simp] theorem State.clearMem_pid (lo hi : Nat) : (s.clearMem lo hi).pid = s.pid := rfl
@[simp] theorem State.clearMem_buck (lo hi : Nat) : (s.clearMem lo hi).buck = s.buck := rfl
@[simp] theorem State.clearMem_sw (lo hi : Nat) : (s.clearMem lo hi).sw = s.sw := rfl
@[simp] theorem State.clearMem_eng (lo hi : Nat) : (s.clearMem lo hi).eng = s.eng := rfl
@[simp] theorem State.clearMem_thm (lo hi : Nat) : (s.clearMem lo hi).thm = s.thm := rfl
@[simp] theorem State.clearMem_saf (lo hi : Nat) : (s.clearMem lo hi).saf = s.saf := rfl
@[simp] theorem State.clearMem_flash (lo hi : Nat) : (s.clearMem lo hi).flash = s.flash := rfl
@[simp] theorem State.clearMem_vin (lo hi : Nat) : (s.clearMem lo hi).vin = s.vin := rfl
@[simp] theorem State.clearMem_imu (lo hi : Nat) : (s.clearMem lo hi).imu = s.imu := rfl
@[simp] theorem State.clearMem_cf (lo hi : Nat) : (s.clearMem lo hi).cf = s.cf := rfl
@[simp] theorem State.clearMem_sheaf (lo hi : Nat) : (s.clearMem lo hi).sheaf = s.sheaf := rfl
@[simp] theorem State.clearMem_comp (lo hi : Nat) : (s.clearMem lo hi).comp = s.comp := rfl
@[simp] theorem State.clearMem_recs (lo hi : Nat) : (s.clearMem lo hi).recs = s.recs := rfl
@[simp] theorem State.clearMem_gme (lo hi : Nat) : (s.clearMem lo hi).gme = s.gme := rfl
@[simp] theorem State.clearMem_scn (lo hi : Nat) : (s.clearMem lo hi).scn = s.scn := rfl
@[simp] theorem State.clearMem_link (lo hi : Nat) : (s.clearMem lo hi).link = s.link := rfl
@[simp] theorem State.clearMem_cal (lo hi : Nat) : (s.clearMem lo hi).cal = s.cal := rfl
@[simp] theorem State.clearMem_sat (lo hi : Nat) : (s.clearMem lo hi).sat = s.sat := rfl
@[simp] theorem State.clearMem_mbx (lo hi : Nat) : (s.clearMem lo hi).mbx = s.mbx := rfl
@[simp] theorem State.clearMem_cvu (lo hi : Nat) : (s.clearMem lo hi).cvu = s.cvu := rfl
@[simp] theorem State.clearMem_dict (lo hi : Nat) : (s.clearMem lo hi).dict = s.dict := rfl
@[simp] theorem State.clearMem_net (lo hi : Nat) : (s.clearMem lo hi).net = s.net := rfl
@[simp] theorem State.clearMem_onoth (lo hi : Nat) : (s.clearMem lo hi).onoth = s.onoth := rfl
@[simp] theorem State.clearMem_kept (lo hi : Nat) : (s.clearMem lo hi).kept = s.kept := rfl

@[simp] theorem State.emit_now (x : Sent) : (s.emit x).now = s.now := rfl
@[simp] theorem State.emit_free (x : Sent) : (s.emit x).free = s.free := rfl
@[simp] theorem State.emit_pending (x : Sent) : (s.emit x).pending = s.pending := rfl
@[simp] theorem State.emit_mem (x : Sent) : (s.emit x).mem = s.mem := rfl
@[simp] theorem State.emit_regs (x : Sent) : (s.emit x).regs = s.regs := rfl
@[simp] theorem State.emit_applied (x : Sent) : (s.emit x).applied = s.applied := rfl
@[simp] theorem State.emit_armedAt (x : Sent) : (s.emit x).armedAt = s.armedAt := rfl
@[simp] theorem State.emit_marks (x : Sent) : (s.emit x).marks = s.marks := rfl
@[simp] theorem State.emit_lateErr (x : Sent) : (s.emit x).lateErr = s.lateErr := rfl
@[simp] theorem State.emit_ran (x : Sent) : (s.emit x).ran = s.ran := rfl
@[simp] theorem State.emit_pwr (x : Sent) : (s.emit x).pwr = s.pwr := rfl
@[simp] theorem State.emit_boot (x : Sent) : (s.emit x).boot = s.boot := rfl
@[simp] theorem State.emit_brm (x : Sent) : (s.emit x).brm = s.brm := rfl
@[simp] theorem State.emit_gptp (x : Sent) : (s.emit x).gptp = s.gptp := rfl
@[simp] theorem State.emit_pid (x : Sent) : (s.emit x).pid = s.pid := rfl
@[simp] theorem State.emit_buck (x : Sent) : (s.emit x).buck = s.buck := rfl
@[simp] theorem State.emit_sw (x : Sent) : (s.emit x).sw = s.sw := rfl
@[simp] theorem State.emit_eng (x : Sent) : (s.emit x).eng = s.eng := rfl
@[simp] theorem State.emit_thm (x : Sent) : (s.emit x).thm = s.thm := rfl
@[simp] theorem State.emit_saf (x : Sent) : (s.emit x).saf = s.saf := rfl
@[simp] theorem State.emit_flash (x : Sent) : (s.emit x).flash = s.flash := rfl
@[simp] theorem State.emit_vin (x : Sent) : (s.emit x).vin = s.vin := rfl
@[simp] theorem State.emit_imu (x : Sent) : (s.emit x).imu = s.imu := rfl
@[simp] theorem State.emit_cf (x : Sent) : (s.emit x).cf = s.cf := rfl
@[simp] theorem State.emit_sheaf (x : Sent) : (s.emit x).sheaf = s.sheaf := rfl
@[simp] theorem State.emit_comp (x : Sent) : (s.emit x).comp = s.comp := rfl
@[simp] theorem State.emit_recs (x : Sent) : (s.emit x).recs = s.recs := rfl
@[simp] theorem State.emit_gme (x : Sent) : (s.emit x).gme = s.gme := rfl
@[simp] theorem State.emit_scn (x : Sent) : (s.emit x).scn = s.scn := rfl
@[simp] theorem State.emit_link (x : Sent) : (s.emit x).link = s.link := rfl
@[simp] theorem State.emit_cal (x : Sent) : (s.emit x).cal = s.cal := rfl
@[simp] theorem State.emit_sat (x : Sent) : (s.emit x).sat = s.sat := rfl
@[simp] theorem State.emit_mbx (x : Sent) : (s.emit x).mbx = s.mbx := rfl
@[simp] theorem State.emit_cvu (x : Sent) : (s.emit x).cvu = s.cvu := rfl
@[simp] theorem State.emit_dict (x : Sent) : (s.emit x).dict = s.dict := rfl
@[simp] theorem State.emit_net (x : Sent) : (s.emit x).net = s.net := rfl
@[simp] theorem State.emit_onoth (x : Sent) : (s.emit x).onoth = s.onoth := rfl
@[simp] theorem State.emit_kept (x : Sent) : (s.emit x).kept = s.kept := rfl

@[simp] theorem State.answer_now (index sub code : Nat) : (s.answer index sub code).now = s.now := rfl
@[simp] theorem State.answer_free (index sub code : Nat) : (s.answer index sub code).free = s.free := rfl
@[simp] theorem State.answer_pending (index sub code : Nat) : (s.answer index sub code).pending = s.pending := rfl
@[simp] theorem State.answer_mem (index sub code : Nat) : (s.answer index sub code).mem = s.mem := rfl
@[simp] theorem State.answer_regs (index sub code : Nat) : (s.answer index sub code).regs = s.regs := rfl
@[simp] theorem State.answer_applied (index sub code : Nat) : (s.answer index sub code).applied = s.applied := rfl
@[simp] theorem State.answer_armedAt (index sub code : Nat) : (s.answer index sub code).armedAt = s.armedAt := rfl
@[simp] theorem State.answer_marks (index sub code : Nat) : (s.answer index sub code).marks = s.marks := rfl
@[simp] theorem State.answer_lateErr (index sub code : Nat) : (s.answer index sub code).lateErr = s.lateErr := rfl
@[simp] theorem State.answer_ran (index sub code : Nat) : (s.answer index sub code).ran = s.ran := rfl
@[simp] theorem State.answer_pwr (index sub code : Nat) : (s.answer index sub code).pwr = s.pwr := rfl
@[simp] theorem State.answer_boot (index sub code : Nat) : (s.answer index sub code).boot = s.boot := rfl
@[simp] theorem State.answer_brm (index sub code : Nat) : (s.answer index sub code).brm = s.brm := rfl
@[simp] theorem State.answer_gptp (index sub code : Nat) : (s.answer index sub code).gptp = s.gptp := rfl
@[simp] theorem State.answer_pid (index sub code : Nat) : (s.answer index sub code).pid = s.pid := rfl
@[simp] theorem State.answer_buck (index sub code : Nat) : (s.answer index sub code).buck = s.buck := rfl
@[simp] theorem State.answer_sw (index sub code : Nat) : (s.answer index sub code).sw = s.sw := rfl
@[simp] theorem State.answer_eng (index sub code : Nat) : (s.answer index sub code).eng = s.eng := rfl
@[simp] theorem State.answer_thm (index sub code : Nat) : (s.answer index sub code).thm = s.thm := rfl
@[simp] theorem State.answer_saf (index sub code : Nat) : (s.answer index sub code).saf = s.saf := rfl
@[simp] theorem State.answer_flash (index sub code : Nat) : (s.answer index sub code).flash = s.flash := rfl
@[simp] theorem State.answer_vin (index sub code : Nat) : (s.answer index sub code).vin = s.vin := rfl
@[simp] theorem State.answer_imu (index sub code : Nat) : (s.answer index sub code).imu = s.imu := rfl
@[simp] theorem State.answer_cf (index sub code : Nat) : (s.answer index sub code).cf = s.cf := rfl
@[simp] theorem State.answer_sheaf (index sub code : Nat) : (s.answer index sub code).sheaf = s.sheaf := rfl
@[simp] theorem State.answer_comp (index sub code : Nat) : (s.answer index sub code).comp = s.comp := rfl
@[simp] theorem State.answer_recs (index sub code : Nat) : (s.answer index sub code).recs = s.recs := rfl
@[simp] theorem State.answer_gme (index sub code : Nat) : (s.answer index sub code).gme = s.gme := rfl
@[simp] theorem State.answer_scn (index sub code : Nat) : (s.answer index sub code).scn = s.scn := rfl
@[simp] theorem State.answer_link (index sub code : Nat) : (s.answer index sub code).link = s.link := rfl
@[simp] theorem State.answer_cal (index sub code : Nat) : (s.answer index sub code).cal = s.cal := rfl
@[simp] theorem State.answer_sat (index sub code : Nat) : (s.answer index sub code).sat = s.sat := rfl
@[simp] theorem State.answer_mbx (index sub code : Nat) : (s.answer index sub code).mbx = s.mbx := rfl
@[simp] theorem State.answer_cvu (index sub code : Nat) : (s.answer index sub code).cvu = s.cvu := rfl
@[simp] theorem State.answer_dict (index sub code : Nat) : (s.answer index sub code).dict = s.dict := rfl
@[simp] theorem State.answer_net (index sub code : Nat) : (s.answer index sub code).net = s.net := rfl
@[simp] theorem State.answer_onoth (index sub code : Nat) : (s.answer index sub code).onoth = s.onoth := rfl
@[simp] theorem State.answer_kept (index sub code : Nat) : (s.answer index sub code).kept = s.kept := rfl

@[simp] theorem State.modBuck_now (n : Nat) (f : BuckSt → BuckSt) : (s.modBuck n f).now = s.now := rfl
@[simp] theorem State.modBuck_free (n : Nat) (f : BuckSt → BuckSt) : (s.modBuck n f).free = s.free := rfl
@[simp] theorem State.modBuck_pending (n : Nat) (f : BuckSt → BuckSt) : (s.modBuck n f).pending = s.pending := rfl
@[simp] theorem State.modBuck_sent (n : Nat) (f : BuckSt → BuckSt) : (s.modBuck n f).sent = s.sent := rfl
@[simp] theorem State.modBuck_mem (n : Nat) (f : BuckSt → BuckSt) : (s.modBuck n f).mem = s.mem := rfl
@[simp] theorem State.modBuck_regs (n : Nat) (f : BuckSt → BuckSt) : (s.modBuck n f).regs = s.regs := rfl
@[simp] theorem State.modBuck_applied (n : Nat) (f : BuckSt → BuckSt) : (s.modBuck n f).applied = s.applied := rfl
@[simp] theorem State.modBuck_armedAt (n : Nat) (f : BuckSt → BuckSt) : (s.modBuck n f).armedAt = s.armedAt := rfl
@[simp] theorem State.modBuck_marks (n : Nat) (f : BuckSt → BuckSt) : (s.modBuck n f).marks = s.marks := rfl
@[simp] theorem State.modBuck_lateErr (n : Nat) (f : BuckSt → BuckSt) : (s.modBuck n f).lateErr = s.lateErr := rfl
@[simp] theorem State.modBuck_ran (n : Nat) (f : BuckSt → BuckSt) : (s.modBuck n f).ran = s.ran := rfl
@[simp] theorem State.modBuck_pwr (n : Nat) (f : BuckSt → BuckSt) : (s.modBuck n f).pwr = s.pwr := rfl
@[simp] theorem State.modBuck_boot (n : Nat) (f : BuckSt → BuckSt) : (s.modBuck n f).boot = s.boot := rfl
@[simp] theorem State.modBuck_brm (n : Nat) (f : BuckSt → BuckSt) : (s.modBuck n f).brm = s.brm := rfl
@[simp] theorem State.modBuck_gptp (n : Nat) (f : BuckSt → BuckSt) : (s.modBuck n f).gptp = s.gptp := rfl
@[simp] theorem State.modBuck_pid (n : Nat) (f : BuckSt → BuckSt) : (s.modBuck n f).pid = s.pid := rfl
@[simp] theorem State.modBuck_sw (n : Nat) (f : BuckSt → BuckSt) : (s.modBuck n f).sw = s.sw := rfl
@[simp] theorem State.modBuck_eng (n : Nat) (f : BuckSt → BuckSt) : (s.modBuck n f).eng = s.eng := rfl
@[simp] theorem State.modBuck_thm (n : Nat) (f : BuckSt → BuckSt) : (s.modBuck n f).thm = s.thm := rfl
@[simp] theorem State.modBuck_saf (n : Nat) (f : BuckSt → BuckSt) : (s.modBuck n f).saf = s.saf := rfl
@[simp] theorem State.modBuck_flash (n : Nat) (f : BuckSt → BuckSt) : (s.modBuck n f).flash = s.flash := rfl
@[simp] theorem State.modBuck_vin (n : Nat) (f : BuckSt → BuckSt) : (s.modBuck n f).vin = s.vin := rfl
@[simp] theorem State.modBuck_imu (n : Nat) (f : BuckSt → BuckSt) : (s.modBuck n f).imu = s.imu := rfl
@[simp] theorem State.modBuck_cf (n : Nat) (f : BuckSt → BuckSt) : (s.modBuck n f).cf = s.cf := rfl
@[simp] theorem State.modBuck_sheaf (n : Nat) (f : BuckSt → BuckSt) : (s.modBuck n f).sheaf = s.sheaf := rfl
@[simp] theorem State.modBuck_comp (n : Nat) (f : BuckSt → BuckSt) : (s.modBuck n f).comp = s.comp := rfl
@[simp] theorem State.modBuck_recs (n : Nat) (f : BuckSt → BuckSt) : (s.modBuck n f).recs = s.recs := rfl
@[simp] theorem State.modBuck_gme (n : Nat) (f : BuckSt → BuckSt) : (s.modBuck n f).gme = s.gme := rfl
@[simp] theorem State.modBuck_scn (n : Nat) (f : BuckSt → BuckSt) : (s.modBuck n f).scn = s.scn := rfl
@[simp] theorem State.modBuck_link (n : Nat) (f : BuckSt → BuckSt) : (s.modBuck n f).link = s.link := rfl
@[simp] theorem State.modBuck_cal (n : Nat) (f : BuckSt → BuckSt) : (s.modBuck n f).cal = s.cal := rfl
@[simp] theorem State.modBuck_sat (n : Nat) (f : BuckSt → BuckSt) : (s.modBuck n f).sat = s.sat := rfl
@[simp] theorem State.modBuck_mbx (n : Nat) (f : BuckSt → BuckSt) : (s.modBuck n f).mbx = s.mbx := rfl
@[simp] theorem State.modBuck_cvu (n : Nat) (f : BuckSt → BuckSt) : (s.modBuck n f).cvu = s.cvu := rfl
@[simp] theorem State.modBuck_dict (n : Nat) (f : BuckSt → BuckSt) : (s.modBuck n f).dict = s.dict := rfl
@[simp] theorem State.modBuck_net (n : Nat) (f : BuckSt → BuckSt) : (s.modBuck n f).net = s.net := rfl
@[simp] theorem State.modBuck_onoth (n : Nat) (f : BuckSt → BuckSt) : (s.modBuck n f).onoth = s.onoth := rfl
@[simp] theorem State.modBuck_kept (n : Nat) (f : BuckSt → BuckSt) : (s.modBuck n f).kept = s.kept := rfl

@[simp] theorem State.endPrep_now : (s.endPrep).now = s.now := rfl
@[simp] theorem State.endPrep_free : (s.endPrep).free = s.free := rfl
@[simp] theorem State.endPrep_pending : (s.endPrep).pending = s.pending := rfl
@[simp] theorem State.endPrep_sent : (s.endPrep).sent = s.sent := rfl
@[simp] theorem State.endPrep_mem : (s.endPrep).mem = s.mem := rfl
@[simp] theorem State.endPrep_regs : (s.endPrep).regs = s.regs := rfl
@[simp] theorem State.endPrep_applied : (s.endPrep).applied = s.applied := rfl
@[simp] theorem State.endPrep_armedAt : (s.endPrep).armedAt = s.armedAt := rfl
@[simp] theorem State.endPrep_marks : (s.endPrep).marks = s.marks := rfl
@[simp] theorem State.endPrep_lateErr : (s.endPrep).lateErr = s.lateErr := rfl
@[simp] theorem State.endPrep_ran : (s.endPrep).ran = s.ran := rfl
@[simp] theorem State.endPrep_boot : (s.endPrep).boot = s.boot := rfl
@[simp] theorem State.endPrep_brm : (s.endPrep).brm = s.brm := rfl
@[simp] theorem State.endPrep_gptp : (s.endPrep).gptp = s.gptp := rfl
@[simp] theorem State.endPrep_pid : (s.endPrep).pid = s.pid := rfl
@[simp] theorem State.endPrep_buck : (s.endPrep).buck = s.buck := rfl
@[simp] theorem State.endPrep_sw : (s.endPrep).sw = s.sw := rfl
@[simp] theorem State.endPrep_eng : (s.endPrep).eng = s.eng := rfl
@[simp] theorem State.endPrep_thm : (s.endPrep).thm = s.thm := rfl
@[simp] theorem State.endPrep_saf : (s.endPrep).saf = s.saf := rfl
@[simp] theorem State.endPrep_flash : (s.endPrep).flash = s.flash := rfl
@[simp] theorem State.endPrep_vin : (s.endPrep).vin = s.vin := rfl
@[simp] theorem State.endPrep_imu : (s.endPrep).imu = s.imu := rfl
@[simp] theorem State.endPrep_cf : (s.endPrep).cf = s.cf := rfl
@[simp] theorem State.endPrep_sheaf : (s.endPrep).sheaf = s.sheaf := rfl
@[simp] theorem State.endPrep_comp : (s.endPrep).comp = s.comp := rfl
@[simp] theorem State.endPrep_recs : (s.endPrep).recs = s.recs := rfl
@[simp] theorem State.endPrep_gme : (s.endPrep).gme = s.gme := rfl
@[simp] theorem State.endPrep_scn : (s.endPrep).scn = s.scn := rfl
@[simp] theorem State.endPrep_link : (s.endPrep).link = s.link := rfl
@[simp] theorem State.endPrep_cal : (s.endPrep).cal = s.cal := rfl
@[simp] theorem State.endPrep_sat : (s.endPrep).sat = s.sat := rfl
@[simp] theorem State.endPrep_mbx : (s.endPrep).mbx = s.mbx := rfl
@[simp] theorem State.endPrep_cvu : (s.endPrep).cvu = s.cvu := rfl
@[simp] theorem State.endPrep_dict : (s.endPrep).dict = s.dict := rfl
@[simp] theorem State.endPrep_net : (s.endPrep).net = s.net := rfl
@[simp] theorem State.endPrep_onoth : (s.endPrep).onoth = s.onoth := rfl
@[simp] theorem State.endPrep_kept : (s.endPrep).kept = s.kept := rfl

@[simp] theorem State.draw_now : s.draw.2.now = s.now := rfl
@[simp] theorem State.draw_pending : s.draw.2.pending = s.pending := rfl
@[simp] theorem State.draw_sent : s.draw.2.sent = s.sent := rfl
@[simp] theorem State.draw_mem : s.draw.2.mem = s.mem := rfl
@[simp] theorem State.draw_regs : s.draw.2.regs = s.regs := rfl
@[simp] theorem State.draw_applied : s.draw.2.applied = s.applied := rfl
@[simp] theorem State.draw_armedAt : s.draw.2.armedAt = s.armedAt := rfl
@[simp] theorem State.draw_marks : s.draw.2.marks = s.marks := rfl
@[simp] theorem State.draw_lateErr : s.draw.2.lateErr = s.lateErr := rfl
@[simp] theorem State.draw_ran : s.draw.2.ran = s.ran := rfl
@[simp] theorem State.draw_pwr : s.draw.2.pwr = s.pwr := rfl
@[simp] theorem State.draw_boot : s.draw.2.boot = s.boot := rfl
@[simp] theorem State.draw_brm : s.draw.2.brm = s.brm := rfl
@[simp] theorem State.draw_gptp : s.draw.2.gptp = s.gptp := rfl
@[simp] theorem State.draw_pid : s.draw.2.pid = s.pid := rfl
@[simp] theorem State.draw_buck : s.draw.2.buck = s.buck := rfl
@[simp] theorem State.draw_sw : s.draw.2.sw = s.sw := rfl
@[simp] theorem State.draw_eng : s.draw.2.eng = s.eng := rfl
@[simp] theorem State.draw_thm : s.draw.2.thm = s.thm := rfl
@[simp] theorem State.draw_saf : s.draw.2.saf = s.saf := rfl
@[simp] theorem State.draw_flash : s.draw.2.flash = s.flash := rfl
@[simp] theorem State.draw_vin : s.draw.2.vin = s.vin := rfl
@[simp] theorem State.draw_imu : s.draw.2.imu = s.imu := rfl
@[simp] theorem State.draw_cf : s.draw.2.cf = s.cf := rfl
@[simp] theorem State.draw_sheaf : s.draw.2.sheaf = s.sheaf := rfl
@[simp] theorem State.draw_comp : s.draw.2.comp = s.comp := rfl
@[simp] theorem State.draw_recs : s.draw.2.recs = s.recs := rfl
@[simp] theorem State.draw_gme : s.draw.2.gme = s.gme := rfl
@[simp] theorem State.draw_scn : s.draw.2.scn = s.scn := rfl
@[simp] theorem State.draw_link : s.draw.2.link = s.link := rfl
@[simp] theorem State.draw_cal : s.draw.2.cal = s.cal := rfl
@[simp] theorem State.draw_sat : s.draw.2.sat = s.sat := rfl
@[simp] theorem State.draw_mbx : s.draw.2.mbx = s.mbx := rfl
@[simp] theorem State.draw_cvu : s.draw.2.cvu = s.cvu := rfl
@[simp] theorem State.draw_dict : s.draw.2.dict = s.dict := rfl
@[simp] theorem State.draw_net : s.draw.2.net = s.net := rfl
@[simp] theorem State.draw_onoth : s.draw.2.onoth = s.onoth := rfl
@[simp] theorem State.draw_kept : s.draw.2.kept = s.kept := rfl
@[simp] theorem State.draw_fst : s.draw.1 = Config.freeValue s.free := rfl
@[simp] theorem State.draw_free : s.draw.2.free = s.free + 1 := rfl

end Sys2Proof.Machine
end

