-- ==== Sys2Proof/Laws/Ops.lean ====
section
/-!
SUPPORT. What the operations over registers and memory do: a field written reads back, every other field and register reads as
before; a byte written reads back, every other byte as before; every operation keeps the canonical forms.
-/

namespace Sys2Proof.Machine

/-! ### Registers -/

theorem State.reg_setReg (s : State) (a b : Nat) (w : Word) : (s.setReg a w).reg b = if b = a then w else s.reg b :=
  Sparse.get_set ..

@[simp] theorem State.reg_setReg_same (s : State) (a : Nat) (w : Word) : (s.setReg a w).reg a = w := Sparse.get_set_same ..

theorem State.reg_setReg_ne (s : State) {a b : Nat} (w : Word) (h : b ≠ a) : (s.setReg a w).reg b = s.reg b :=
  Sparse.get_set_ne _ _ _ h

theorem State.regN_setN (s : State) (a b v : Nat) : (s.setN a v).regN b = if b = a then v % 2 ^ 32 else s.regN b := by
  unfold State.regN State.setN
  rw [State.reg_setReg]
  split <;> simp

@[simp] theorem State.regN_setN_same (s : State) (a v : Nat) : (s.setN a v).regN a = v % 2 ^ 32 := by simp [State.regN_setN]

theorem State.regN_setN_ne (s : State) {a b : Nat} (v : Nat) (h : b ≠ a) : (s.setN a v).regN b = s.regN b := by
  simp [State.regN_setN, h]

theorem State.reg_setN_ne (s : State) {a b : Nat} (v : Nat) (h : b ≠ a) : (s.setN a v).reg b = s.reg b :=
  State.reg_setReg_ne _ _ h

theorem State.regN_lt (s : State) (a : Nat) : s.regN a < 2 ^ 32 := (s.reg a).isLt

theorem State.rd_lt (s : State) (f : Fld) : s.rd f < 2 ^ (f.hi + 1 - f.lo) := bitsOf_lt ..

/-- A register after a field of it is written. -/
theorem State.regN_wr_same (s : State) (f : Fld) (v : Nat) (hi : f.hi < 32) (hl : f.lo ≤ f.hi) :
    (s.wr f v).regN f.addr = setBits (s.regN f.addr) f.hi f.lo v := by
  rw [State.wr, State.regN_setN_same, Nat.mod_eq_of_lt (setBits_lt (s.regN_lt _) hi hl)]

theorem State.regN_wr_ne (s : State) (f : Fld) (v : Nat) {a : Nat} (h : a ≠ f.addr) : (s.wr f v).regN a = s.regN a :=
  State.regN_setN_ne _ _ h

theorem State.reg_wr_ne (s : State) (f : Fld) (v : Nat) {a : Nat} (h : a ≠ f.addr) : (s.wr f v).reg a = s.reg a :=
  State.reg_setN_ne _ _ h

/-- A field written reads back, cut to its width. -/
theorem State.rd_wr_same (s : State) (f : Fld) (v : Nat) (hi : f.hi < 32) (hl : f.lo ≤ f.hi) :
    (s.wr f v).rd f = v % 2 ^ (f.hi + 1 - f.lo) := by
  rw [State.rd, State.regN_wr_same _ _ _ hi hl, bitsOf_setBits_same]

/-- A field of another register reads as before. -/
theorem State.rd_wr_addr (s : State) (f g : Fld) (v : Nat) (h : g.addr ≠ f.addr) : (s.wr f v).rd g = s.rd g := by
  rw [State.rd, State.regN_wr_ne _ _ _ h]; rfl

/-- A field apart from the one written reads as before. -/
theorem State.rd_wr_ne (s : State) (f g : Fld) (v : Nat) (hi : f.hi < 32) (hl : f.lo ≤ f.hi)
    (h : g.addr ≠ f.addr ∨ f.hi < g.lo ∨ g.hi < f.lo) : (s.wr f v).rd g = s.rd g := by
  by_cases ha : g.addr = f.addr
  · rw [State.rd, ha, State.regN_wr_same _ _ _ hi hl, bitsOf_setBits_ne (h.resolve_left (fun h => h ha)), State.rd, ha]
  · exact State.rd_wr_addr _ _ _ _ ha

theorem State.rd_setN_ne (s : State) (f : Fld) {a : Nat} (v : Nat) (h : f.addr ≠ a) : (s.setN a v).rd f = s.rd f := by
  rw [State.rd, State.regN_setN_ne _ _ h]; rfl

theorem State.regN_setBitR_same (s : State) (a n : Nat) (b : Bool) (hn : n < 32) :
    (s.setBitR a n b).regN a = setBits (s.regN a) n n (b2n b) := by
  rw [State.setBitR, State.regN_setN_same, Nat.mod_eq_of_lt (setBits_lt (s.regN_lt _) hn (Nat.le_refl _))]

/-- A bit written reads back. -/
theorem State.bitR_setBitR_same (s : State) (a n : Nat) (b : Bool) (hn : n < 32) : (s.setBitR a n b).bitR a n = b := by
  rw [State.bitR, State.regN_setBitR_same _ _ _ _ hn, bitAt_eq_testBit, testBit_setBits, if_pos (by omega)]
  cases b <;> simp

theorem State.regN_setBitR_ne (s : State) {a c : Nat} (n : Nat) (b : Bool) (h : c ≠ a) :
    (s.setBitR a n b).regN c = s.regN c := State.regN_setN_ne _ _ h

/-- A bit apart from the one written reads as before. -/
theorem State.bitR_setBitR_ne (s : State) (a n c m : Nat) (b : Bool) (hn : n < 32) (h : c ≠ a ∨ m ≠ n) :
    (s.setBitR a n b).bitR c m = s.bitR c m := by
  by_cases ha : c = a
  · subst ha
    rw [State.bitR, State.regN_setBitR_same _ _ _ _ hn, bitAt_eq_testBit, testBit_setBits, if_neg (by omega), State.bitR,
      bitAt_eq_testBit]
  · rw [State.bitR, State.regN_setBitR_ne _ _ _ ha]; rfl

/-! ### W1C bits and the cycle (R17) -/

theorem State.reg_mark_ne (s : State) (f : Fld) {a : Nat} (h : a ≠ f.addr) : (s.mark f).reg a = s.reg a := s.reg_wr_ne f 1 h

/-- A field that an event marks reads 1. -/
theorem State.rd_mark_same (s : State) (f : Fld) (hi : f.hi < 32) (hl : f.lo ≤ f.hi) : (s.mark f).rd f = 1 := by
  rw [show (s.mark f).rd f = (s.wr f 1).rd f from rfl, State.rd_wr_same _ _ _ hi hl]
  exact Nat.mod_eq_of_lt (Nat.one_lt_two_pow (by omega))

@[simp] theorem State.marksNow_mark (s : State) (f : Fld) : (s.mark f).marksNow = f :: s.marksNow := by simp [State.marksNow, State.mark]

/-- A clear of the cycle of the event leaves the bit 1. -/
@[simp] theorem State.unmark_mark (s : State) (f : Fld) : (s.mark f).unmark f = s.mark f := by simp [State.unmark]

/-- A clear of a bit that no event of the cycle has set. -/
theorem State.unmark_of_not_marked {s : State} {f : Fld} (h : f ∉ s.marksNow) : s.unmark f = s.wr f 0 := by simp [State.unmark, h]

/-! ### Applied values -/

theorem State.appReg_setApp (s : State) (a b v : Nat) :
    (s.setApp a v).appReg b = if b = a then v % 2 ^ 32 else s.appReg b := by
  simp only [State.appReg, State.setApp, Sparse.get_set]
  split <;> simp

theorem State.appReg_applyReg (s : State) (a b : Nat) :
    (s.applyReg a).appReg b = if b = a then s.regN a else s.appReg b := by
  rw [State.applyReg, State.appReg_setApp, Nat.mod_eq_of_lt (s.regN_lt _)]

theorem State.reg_resetRegs (s : State) (lo hi a : Nat) :
    (s.resetRegs lo hi).reg a = if lo ≤ a ∧ a < hi then resetWord a else s.reg a := Sparse.get_erase ..

/-! ### Memory -/

theorem State.byte_setByte (s : State) (a c : Nat) (b : Byte) : (s.setByte a b).byte c = if c = a then b else s.byte c :=
  Sparse.get_set ..

theorem State.byte_clearMem (s : State) (lo hi c : Nat) :
    (s.clearMem lo hi).byte c = if lo ≤ c ∧ c < hi then memDefault c else s.byte c := Sparse.get_erase ..

/-- Every byte outside the stored ones reads as before. -/
theorem State.byte_setBytes_out (s : State) (a : Nat) (bs : List Byte) {c : Nat} (h : c < a ∨ a + bs.length ≤ c) :
    (s.setBytes a bs).byte c = s.byte c := by
  induction bs generalizing s a with
  | nil => rfl
  | cons b bs ih =>
    simp only [List.length_cons] at h
    rw [State.setBytes, ih _ _ (by omega), State.byte_setByte, if_neg (by omega)]

/-- Every stored byte reads back. -/
theorem State.byte_setBytes_in (s : State) (a : Nat) (bs : List Byte) {i : Nat} (h : i < bs.length) :
    (s.setBytes a bs).byte (a + i) = bs[i] := by
  induction bs generalizing s a i with
  | nil => simp at h
  | cons b bs ih =>
    rw [State.setBytes]
    cases i with
    | zero =>
      rw [State.byte_setBytes_out _ _ _ (by omega), Nat.add_zero, State.byte_setByte, if_pos rfl]; rfl
    | succ i =>
      rw [show a + (i + 1) = a + 1 + i by omega, ih _ _ (by simpa using h)]; rfl

@[simp] theorem leBytes_length (n v : Nat) : (leBytes n v).length = n := by
  induction n generalizing v with
  | zero => rfl
  | succ n ih => simp [leBytes, ih]

theorem State.byte_setNum_out (s : State) (a n v : Nat) {c : Nat} (h : c < a ∨ a + n ≤ c) :
    (s.setNum a n v).byte c = s.byte c := State.byte_setBytes_out _ _ _ (by simpa using h)

@[simp] theorem State.setBytes_regs (s : State) (a : Nat) (bs : List Byte) : (s.setBytes a bs).regs = s.regs := by
  induction bs generalizing s a with
  | nil => rfl
  | cons b bs ih => rw [State.setBytes, ih]; rfl

/-! ### Canonical forms -/

theorem State.setReg_regs_wf {s : State} (h : Sparse.Wf resetWord s.regs) (a : Nat) (w : Word) :
    Sparse.Wf resetWord (s.setReg a w).regs := Sparse.set_wf h ..

theorem State.setApp_applied_wf {s : State} (h : Sparse.Wf resetWord s.applied) (a v : Nat) :
    Sparse.Wf resetWord (s.setApp a v).applied := Sparse.set_wf h ..

theorem State.setByte_mem_wf {s : State} (h : Sparse.Wf memDefault s.mem) (a : Nat) (b : Byte) :
    Sparse.Wf memDefault (s.setByte a b).mem := Sparse.set_wf h ..

theorem State.setBytes_mem_wf {s : State} (h : Sparse.Wf memDefault s.mem) (a : Nat) (bs : List Byte) :
    Sparse.Wf memDefault (s.setBytes a bs).mem := by
  induction bs generalizing s a with
  | nil => exact h
  | cons b bs ih => exact ih (State.setByte_mem_wf h ..) _

theorem State.setNum_mem_wf {s : State} (h : Sparse.Wf memDefault s.mem) (a n v : Nat) :
    Sparse.Wf memDefault (s.setNum a n v).mem := State.setBytes_mem_wf h ..

theorem State.clearMem_mem_wf {s : State} (h : Sparse.Wf memDefault s.mem) (lo hi : Nat) :
    Sparse.Wf memDefault (s.clearMem lo hi).mem := Sparse.erase_wf h ..

end Sys2Proof.Machine
end

