-- ==== Sys2Proof/Laws/Events.lean ====
section
/-!
SUPPORT. What the operations that commands share can do: a write by bus, an event of a fixed period, a group that is applied, a source that is
raised, and what leaves a port.
-/

namespace Sys2Proof.Machine

/-! ### Writes by bus (R13, R42) -/

theorem State.withBus_error {s : State} {m : Master} {a c : Nat} {data : Word} {k : State → State} (h : s.regError m 4 true a = some c) :
    s.withBus m a data k = .next (s.captureError m true a c) := by simp [State.withBus, h]

theorem State.withBus_reserved {s : State} {m : Master} {a : Nat} {data : Word} {k : State → State} (h : s.regError m 4 true a = none)
    (hr : reservedSet a data = true) : s.withBus m a data k = .fault .reservedBit := by simp [State.withBus, h, hr]

theorem State.withBus_passes {s : State} {m : Master} {a : Nat} {data : Word} {k : State → State} (h : s.regError m 4 true a = none)
    (hr : reservedSet a data = false) : s.withBus m a data k = .next (k s) := by simp [State.withBus, h, hr]

/-- Everything that a write by bus to one register can do. -/
theorem State.withBus_cases (s : State) (m : Master) (a : Nat) (data : Word) (k : State → State) :
    (∃ c, s.regError m 4 true a = some c ∧ s.withBus m a data k = .next (s.captureError m true a c)) ∨
    (s.regError m 4 true a = none ∧ reservedSet a data = true ∧ s.withBus m a data k = .fault .reservedBit) ∨
    (s.regError m 4 true a = none ∧ reservedSet a data = false ∧ s.withBus m a data k = .next (k s)) := by
  cases h : s.regError m 4 true a with
  | some c => exact .inl ⟨c, rfl, State.withBus_error h⟩
  | none =>
    cases hr : reservedSet a data with
    | true => exact .inr (.inl ⟨rfl, rfl, State.withBus_reserved h hr⟩)
    | false => exact .inr (.inr ⟨rfl, rfl, State.withBus_passes h hr⟩)

/-! ### Events of a fixed period -/

@[simp] theorem State.dueSince_none (s : State) (period : Nat) : s.dueSince none period = true := rfl

@[simp] theorem State.dueSince_some (s : State) (t period : Nat) : s.dueSince (some t) period = decide (t + period ≤ s.now) := rfl

theorem State.periodic_early {s : State} {t : Timer} {period last : Nat} {k : State → State} (h : s.ran.lookup t = some last)
    (he : s.now < last + period) : s.periodic t period k = s := by
  simp [State.periodic, h, Nat.not_le.mpr he]

theorem State.periodic_due {s : State} {t : Timer} {period : Nat} {k : State → State} (h : s.dueSince (s.ran.lookup t) period = true) :
    s.periodic t period k = k { s with ran := (t, s.now) :: s.ran.filter fun x => x.1 != t } := by simp [State.periodic, h]

/-- After an event has run at this instant, its timer reads this instant. -/
theorem State.periodic_ran {s : State} {t : Timer} {period : Nat} {k : State → State} (h : s.dueSince (s.ran.lookup t) period = true)
    (hk : ∀ u, (k u).ran = u.ran) : (s.periodic t period k).ran.lookup t = some s.now := by
  rw [State.periodic_due h, hk]
  simp

/-! ### Groups, sources, ports -/

theorem State.applyGroup_not {s : State} {g : Group} (h : s.appliesNow g = false) : s.applyGroup g = s := by simp [State.applyGroup, h]

theorem State.raiseAt_safe_off {s : State} (src a : Nat) (h : s.on .safe = false) : s.raiseAt src a = s := by simp [State.raiseAt, h]

theorem State.raiseAt_reserved {s : State} {src : Nat} (a : Nat) (h : srcRow src = none) : s.raiseAt src a = s := by simp [State.raiseAt, h]

@[simp] theorem State.raiseIf_false (s : State) (src : Nat) : s.raiseIf false src = s := rfl

@[simp] theorem State.raiseIf_true (s : State) (src : Nat) : s.raiseIf true src = s.raise src := rfl

/-- Nothing leaves through pads that are held (R85); anything else is noted first. -/
theorem State.emit_sent (s : State) (x : Sent) : (s.emit x).sent = if x.padGroup.any s.held then s.sent else x :: s.sent := rfl

end Sys2Proof.Machine
end

