-- ==== Sys2Proof/Tests/Slice0.lean ====
section
/-!
SUPPORT. Tests: ill-formed commands are refused, worked examples of the manual come out as it states them, and every hypothesis of every
statement is met by a state and operands written out here.
-/

namespace Sys2Proof.Tests

open Sys2Proof Sys2Proof.Machine

-- One theorem at a time: waiting kernel checks would each hold a thread.
set_option Elab.async false

/-! ### Well-formedness -/

/-- Commands with an operand out of its range are ill-formed. -/
theorem test_wf_refuses_1 :
    ([.registerWrite .mgmt 3 0 0#32,
      .genArm .mgmt (.pid 16) 0#32,
      .genArm .mgmt (.stream 8) 0#32,
      .genArm .mgmt (.map 4) 0#32,
      .genNoarmClear .mgmt (.pid 16) 0#32,
      .genNoarmClear .mgmt (.stream 8) 0#32,
      .genNoarmClear .mgmt (.map 4) 0#32,
      .groupApply (.pid 16),
      .groupApply (.stream 8),
      .groupApply (.map 4),
      .wakePinQualify 4 0,
      .wakePinQualify 0 16] : List Instr).all (fun c => !c.wf) = true := by decide

/-- Commands with an operand out of its range are ill-formed. -/
theorem test_wf_refuses_2 :
    ([.hwhuskStart 4,
      .hwhuskLowsideCheck 4 0,
      .hwhuskHighsideOn 4 false,
      .hwhuskRampEnd 4 0 0,
      .hwhuskRampdownEnd 4,
      .bistSliceEnd 11 ⟨0, .pass⟩,
      .ethFrameReceive ⟨2, 0, true, 0, 64, false, .other⟩,
      .rvfPacket ⟨2, 0, 0, true, true, 0, 0, 0, true, 0, 0, 0, 0, [], false⟩,
      .rvfFrameReady 8,
      .rvfFrameTimeout 8,
      .objectListArrive ⟨2, 0, 0, 0, []⟩,
      .syncMessage ⟨2, 0, 0, 0⟩] : List Instr).all (fun c => !c.wf) = true := by decide

/-- Commands with an operand out of its range are ill-formed. -/
theorem test_wf_refuses_3 :
    ([.syncMessage ⟨0, 256, 0, 0⟩,
      .linkTrainStart 4,
      .uplinkSignalDetect 4,
      .uplinkBlockLock 4 [],
      .uplinkTrainReceive 4 [],
      .trainStateTimeout 4,
      .identRecord 4 false [],
      .linkEnable .mgmt 4 0#32,
      .lightSet .mgmt 4 0#32,
      .retrain .mgmt 4 0#32,
      .ping .mgmt 4 0#32,
      .ident .mgmt 4 0#32] : List Instr).all (fun c => !c.wf) = true := by decide

/-- Commands with an operand out of its range are ill-formed. -/
theorem test_wf_refuses_4 :
    ([.regWrite .mgmt 4 0#32,
      .regRead .mgmt 4 0#32,
      .huskUnlock .mgmt 4 0#32,
      .huskCommit .mgmt 4 0#32,
      .tileReset .mgmt 4 0#32,
      .commandTimeout 4,
      .rowechoRecord 4 false [],
      .echoDeadline 4,
      .statusRecord 4 false [],
      .charRecord 4 false [] [],
      .responseRecord 4 false [] [] [],
      .alertRecord 4 false [] [] []] : List Instr).all (fun c => !c.wf) = true := by decide

/-- Commands with an operand out of its range are ill-formed. -/
theorem test_wf_refuses_5 :
    ([.uplinkLockLoss 4 [],
      .lostRetry 4,
      .gleanRecord 4 0 0 false,
      .gleanRecord 0 32 0 false,
      .gleanRecord 0 0 2 false,
      .gleanLockLoss 4 (([], [])),
      .satPeriodStart 16,
      .satLatchSend 16,
      .satCollectSend 4 false,
      .satCensusSend 4 false,
      .satReturnFrame 4 ⟨0, [], false⟩,
      .satReturnFrame 0 ⟨513, [], false⟩] : List Instr).all (fun c => !c.wf) = true := by decide

/-- Commands with an operand out of its range are ill-formed. -/
theorem test_wf_refuses_6 :
    ([.satReturnTimeout ⟨4, false⟩,
      .satEnumerate none ⟨4, false⟩,
      .pidSample 65536,
      .pidGroupCfgWrite .mgmt 4 0#32,
      .buckSwitchPeriod 4 ⟨0, 0, 0, 0, 0, 0, 0⟩,
      .buckOvervoltage 4 0,
      .buckOvRelease 4 0,
      .buckShortDetect 4,
      .buckEnable .mgmt 4 0#32,
      .swClosedFault ⟨4, []⟩,
      .swUntestedTimeout 8,
      .ledgerTick ⟨0, 0, [], []⟩] : List Instr).all (fun c => !c.wf) = true := by decide

/-- Commands with an operand out of its range are ill-formed. -/
theorem test_wf_refuses_7 :
    ([.harnessGuardTrip ⟨4, 0⟩,
      .dischargeEnd ⟨4, 0⟩,
      .dischargeTimeout 4,
      .thermalSample ⟨[], List.replicate 4 0⟩,
      .thermalSample ⟨List.replicate 10 0, []⟩,
      .thermalTrip 10,
      .mapGroupCheckComplete 4,
      .buckOffsetTrim 4 ((0, 0)) ((0, 0)),
      .monitorRead [(24, 0)],
      .violationRelease 4,
      .violationRelease 0,
      .husknMismatch 4] : List Instr).all (fun c => !c.wf) = true := by decide

/-- Commands with an operand out of its range are ill-formed. -/
theorem test_wf_refuses_8 :
    ([.startupOutputRound ((16, 0)) ((false, false)),
      .startupOutputRound ((0, 16)) ((false, false)),
      .safetyParamWrite ⟨65536, 0, []⟩,
      .safetyParamWrite ⟨0, 256, []⟩,
      .sourceRaise 256 0,
      .graceExpiry 256,
      .sourceHandle .mgmt 8 0#32,
      .sourceShandle .mgmt 8 0#32,
      .sourceClear .mgmt 8 0#32,
      .classWrite .mgmt 16 0#32,
      .graceWrite .mgmt 64 0#32,
      .arpRequest 2 0 0 0] : List Instr).all (fun c => !c.wf) = true := by decide

/-- Commands with an operand out of its range are ill-formed. -/
theorem test_wf_refuses_9 :
    ([.icmpEcho 2 0 0 0 [],
      .ethLinkDown 2,
      .canFrameReceive ({ toCanFrame := ⟨2, 0, false, true, []⟩ }),
      .segmentTimeout 2,
      .canBusoff 2,
      .canBusoffRecover 2,
      .domSessionTimeout 11,
      .envTimerExpiry 8,
      .envelopeProduce 8,
      .envConfigWrite 8 0 [],
      .envConfigWrite 0 256 [],
      .tunnelPost 8 []] : List Instr).all (fun c => !c.wf) = true := by decide

/-- Commands with an operand out of its range are ill-formed. -/
theorem test_wf_refuses_10 :
    ([.tunnelTake 8,
      .tunnelAck 8 0,
      .mbxDoor .mgmt 16 0#32,
      .mbxSeen .mgmt 16 0#32,
      .mbxAck .mgmt 16 0#32,
      .mbxCfgWrite .mgmt 16 0#32,
      .lockAcquire .mgmt 32,
      .lockRelease .mgmt 32 0#32,
      .lockForce .mgmt 32 0#32,
      .cvuStart .mgmt 4 0#32,
      .cvuDin8 .mgmt 4 0#32,
      .cvuDin16 .mgmt 4 0#32] : List Instr).all (fun c => !c.wf) = true := by decide

/-- Commands with an operand out of its range are ill-formed. -/
theorem test_wf_refuses_11 :
    ([.cvuDin32 .mgmt 4 0#32,
      .cvuFeedComplete 4,
      .cvuRawWrite .mgmt 4 0#32,
      .cvuAliveInc .mgmt 4 0#32,
      .cvuAchkWrite .mgmt 4 0#32,
      .cvuAcfgWrite .mgmt 4 0#32,
      .ethLinkUp 2,
      .trimDue 4] : List Instr).all (fun c => !c.wf) = true := by decide

/-- The same commands with every operand in its range are well-formed. -/
theorem test_wf_accepts_1 :
    ([.registerWrite .mgmt 4 0 0#32,
      .genArm .mgmt .imu 0#32,
      .genNoarmClear .mgmt .imu 0#32,
      .groupApply .imu,
      .wakePinQualify 0 0,
      .hwhuskStart 0,
      .hwhuskLowsideCheck 0 0,
      .hwhuskHighsideOn 0 false,
      .hwhuskRampEnd 0 0 0,
      .hwhuskRampdownEnd 0,
      .bistSliceEnd 0 ⟨0, .pass⟩,
      .ethFrameReceive ⟨0, 0, true, 0, 64, false, .other⟩,
      .rvfPacket ⟨0, 0, 0, true, true, 0, 0, 0, true, 0, 0, 0, 0, [], false⟩,
      .rvfFrameReady 0,
      .rvfFrameTimeout 0,
      .objectListArrive ⟨0, 0, 0, 0, []⟩] : List Instr).all (fun c => c.wf) = true := by decide

/-- The same commands with every operand in its range are well-formed. -/
theorem test_wf_accepts_2 :
    ([.syncMessage ⟨0, 0, 0, 0⟩,
      .linkTrainStart 0,
      .uplinkSignalDetect 0,
      .uplinkBlockLock 0 [],
      .uplinkTrainReceive 0 [],
      .trainStateTimeout 0,
      .identRecord 0 false [],
      .linkEnable .mgmt 0 0#32,
      .lightSet .mgmt 0 0#32,
      .retrain .mgmt 0 0#32,
      .ping .mgmt 0 0#32,
      .ident .mgmt 0 0#32,
      .regWrite .mgmt 0 0#32,
      .regRead .mgmt 0 0#32,
      .huskUnlock .mgmt 0 0#32,
      .huskCommit .mgmt 0 0#32] : List Instr).all (fun c => c.wf) = true := by decide

/-- The same commands with every operand in its range are well-formed. -/
theorem test_wf_accepts_3 :
    ([.tileReset .mgmt 0 0#32,
      .commandTimeout 0,
      .rowechoRecord 0 false [],
      .echoDeadline 0,
      .statusRecord 0 false [],
      .charRecord 0 false [] [],
      .responseRecord 0 false [] [] [],
      .alertRecord 0 false [] [] [],
      .uplinkLockLoss 0 [],
      .lostRetry 0,
      .gleanRecord 0 0 0 false,
      .gleanLockLoss 0 (([], [])),
      .satPeriodStart 0,
      .satLatchSend 0,
      .satCollectSend 0 false,
      .satCensusSend 0 false] : List Instr).all (fun c => c.wf) = true := by decide

/-- The same commands with every operand in its range are well-formed. -/
theorem test_wf_accepts_4 :
    ([.satReturnFrame 0 ⟨0, [], false⟩,
      .satReturnTimeout ⟨0, false⟩,
      .satEnumerate none ⟨0, false⟩,
      .pidSample 0,
      .pidGroupCfgWrite .mgmt 0 0#32,
      .buckSwitchPeriod 0 ⟨0, 0, 0, 0, 0, 0, 0⟩,
      .buckOvervoltage 0 0,
      .buckOvRelease 0 0,
      .buckShortDetect 0,
      .buckEnable .mgmt 0 0#32,
      .swClosedFault ⟨0, []⟩,
      .swUntestedTimeout 0,
      .ledgerTick ⟨0, 0, [0, 0, 0, 0], []⟩,
      .harnessGuardTrip ⟨0, 0⟩,
      .dischargeEnd ⟨0, 0⟩,
      .dischargeTimeout 0] : List Instr).all (fun c => c.wf) = true := by decide

/-- The same commands with every operand in its range are well-formed. -/
theorem test_wf_accepts_5 :
    ([.thermalSample ⟨List.replicate 10 0, List.replicate 4 0⟩,
      .thermalTrip 0,
      .mapGroupCheckComplete 0,
      .buckOffsetTrim 0 ((0, 0)) ((0, 0)),
      .monitorRead [],
      .violationRelease 1,
      .husknMismatch 0,
      .startupOutputRound ((0, 0)) ((false, false)),
      .safetyParamWrite ⟨0, 0, []⟩,
      .sourceRaise 0 0,
      .graceExpiry 0,
      .sourceHandle .mgmt 0 0#32,
      .sourceShandle .mgmt 0 0#32,
      .sourceClear .mgmt 0 0#32,
      .classWrite .mgmt 0 0#32,
      .graceWrite .mgmt 0 0#32] : List Instr).all (fun c => c.wf) = true := by decide

/-- The same commands with every operand in its range are well-formed. -/
theorem test_wf_accepts_6 :
    ([.arpRequest 0 0 0 0,
      .icmpEcho 0 0 0 0 [],
      .ethLinkDown 0,
      .canFrameReceive ({ toCanFrame := ⟨0, 0, false, true, []⟩ }),
      .segmentTimeout 0,
      .canBusoff 0,
      .canBusoffRecover 0,
      .domSessionTimeout 0,
      .envTimerExpiry 0,
      .envelopeProduce 0,
      .envConfigWrite 0 0 [],
      .tunnelPost 0 [],
      .tunnelTake 0,
      .tunnelAck 0 0,
      .mbxDoor .mgmt 0 0#32,
      .mbxSeen .mgmt 0 0#32] : List Instr).all (fun c => c.wf) = true := by decide

/-- The same commands with every operand in its range are well-formed. -/
theorem test_wf_accepts_7 :
    ([.mbxAck .mgmt 0 0#32,
      .mbxCfgWrite .mgmt 0 0#32,
      .lockAcquire .mgmt 0,
      .lockRelease .mgmt 0 0#32,
      .lockForce .mgmt 0 0#32,
      .cvuStart .mgmt 0 0#32,
      .cvuDin8 .mgmt 0 0#32,
      .cvuDin16 .mgmt 0 0#32,
      .cvuDin32 .mgmt 0 0#32,
      .cvuFeedComplete 0,
      .cvuRawWrite .mgmt 0 0#32,
      .cvuAliveInc .mgmt 0 0#32,
      .cvuAchkWrite .mgmt 0 0#32,
      .cvuAcfgWrite .mgmt 0 0#32,
      .ethLinkUp 0,
      .trimDue 0] : List Instr).all (fun c => c.wf) = true := by decide

/-! ### States of the tests -/

/-- A machine with every domain on and boot completed, in the mode of a number. -/
def wBase (mode : Nat) : State :=
  (((({ now := 1000000000, pwr := { pwrEn := true } } : State).wr F.PWR_DOMSTAT_ON 0xFFF).wr F.PWR_MODE_MODE mode).wr F.BIST_BOOT_DONE 1).wr
    F.PWR_PADHOLD_GROUP 0

/-- A PREPARE with steps 4 to 9 done, the island's round run and a composed frame. -/
def wPrep (p : Prep) : State :=
  ({ wBase 2 with
      pwr := { pwrEn := true, prep := some p }, dict := { loaded := true }
      saf := { round := some true }, sw := { round := List.range 8 }, comp := { shown := some { num := 0 } } } : State).wr F.SAF_STATE_READY 1

/-- A MAC that is on and takes every group address. -/
def wMac : State := (wBase 3).setN R.NET_CTRL 1

/-- A MAC that takes datagrams and object lists, with an address and an IP address. -/
def wUdp : State := ((wMac.wr F.VIN_CTRL_OL_EN 1).setN (R.NET_IP 0) 0x0A000001).setN (R.NET_MAC_LO 0) 5

/-- Stream 1 of 4 × 2 pixels of 8 bits, identifier 5, buffers in DRAM. -/
def wStream : State :=
  (((((wMac.setN (R.NET_MAC_LO 0) 5).wr F.VIN_CTRL_E0_VID 1).setApp (R.VIN_STR_CFG 1) 0x00010001).setApp (R.VIN_STR_IDLO 1) 5).setApp
    (R.VIN_STR_SIZE 1) 0x20004).setApp (R.VIN_STR_BUF 1 0) 0x81000000

/-- The bytes of an object list without objects, sequence number 5, measured at 0. -/
def wListBytes : List Byte := [0x4C#8, 0x4F#8, 1#8, 0#8, 0#8, 0#8, 5#8, 0#8, 0#8, 0#8, 0#8, 0#8, 0#8, 0#8, 0#8, 0#8]

/-- That list with its check value, arrived. -/
def wListX : OlArrived := ⟨5, true, false, wListBytes ++ leBytes 4 (crc32 wListBytes), 1⟩

/-- The parser has that list, in LOCKED. -/
def wList : State := { ((wBase 3).wr F.VIN_TIMESTAT_STATE 1).setN R.VIN_OLSRC 0 with vin := { checking := some wListX } }

/-- One symbol of 4 × 2 pixels in the table. -/
def wSym : State :=
  (((wBase 3).wr F.LAY_SYMCFG_COUNT 4).setN R.LAY_SYMTAB 0x81000000).setBytes 0x81000000
    [0#8, 0#8, 0#8, 0x82#8, 4#8, 0#8, 2#8, 0#8, 0#8, 1#8, 0#8, 0#8, 0#8, 0#8, 0#8, 0#8]

/-- Port 1 decodes region 2 of 6 × 6 pixels, whose last row slot has ended. -/
def wGlean : State :=
  { (((((wBase 3).wr (F.LNK_STATE_LANEMAP 1) 1).wr (F.LNK_GLSTAT_LOCK0 1) 1).setApp (R.LNK_GR_RECT0 1 2) 0x80000000).setApp
      (R.LNK_GR_RECT1 1 2) 0x50005) with scn := { rows := true }, cf := { cur := some 4, refStart := 5 } }

/-- A frame on the line that the last node has turned. -/
def wRet (cmd : Nat) (p : List Byte) : List Bool :=
  let h := satHeader 0xFFFF cmd 3 p.length 0
  satLevels (h ++ p ++ leBytes 2 (crc16 (h ++ p)))

/-- That frame as received. -/
def wRetF (cmd : Nat) (p : List Byte) : SatFrame := ⟨0xFFFF, cmd, 3, 0, p⟩

/-- An uplink record as it comes to a port whose descrambler stands at reset. -/
def wUp (kind tag status info : Nat) (data : List Byte) : List LineBlock :=
  scrambledAll (({} : LinkSt).upReg) (upBlocks kind tag status info data)

/-- Port 1 meets every condition of R372 in RUN. -/
def wRaise : State :=
  { (((((wBase 3).wr F.SAF_STATE_READY 1).wr (F.LNK_STATE_FULLREF 1) 1).wr (F.LNK_CTRL_LIGHT 1) 1).wr F.SAF_CLAMP_SEQ 3).wr F.SCN_CLAMPSTAT_SEQ 3 with
    saf := { clean := [false, true, false, false] }, sw := { hi := [false, true, false, false], lo := [false, true, false, false] } }

/-! ### Worked examples of the manual -/

/-- A next state satisfies a test; a fault or a refusal satisfies none. -/
def after (o : Host.Outcome State Fault Refusal) (p : State → Bool) : Bool :=
  match o with
  | .next t => p t
  | .fault _ | .refused _ => false

/-- The fault of a reserved bit. -/
def stops (o : Host.Outcome State Fault Refusal) : Bool :=
  match o with
  | .fault .reservedBit => true
  | .next _ | .refused _ => false

/-- The string of the check values. -/
def nine : List Byte := [0x31#8, 0x32#8, 0x33#8, 0x34#8, 0x35#8, 0x36#8, 0x37#8, 0x38#8, 0x39#8]

/-- Check values of the manual for the nine digits, and the signature of one pixel that holds 0 (R191, R257, R418). -/
theorem test_check_values :
    crc32 nine = 0xCBF43926 ∧ envCrcSpec.digest nine = 0x1697D06A ∧ crc16 nine = 0x29B1 ∧
      (⟨8, 0x1D, 0xFF, 0xFF, false, false⟩ : CrcSpec).digest nine = 0x4B ∧ crc32 [0#8, 0#8] = 0x41D91200 + 0xFF := by decide +kernel

/-- The register entries of the example of R445: LAY_L3_POS, its applied copy, SCN_LIGHT2_LO, GME_PM2_P100. -/
theorem test_entries :
    entryAddr 0x3000 93 = some 0x40070170 ∧ entryAddr 0x3040 93 = some 0x40078170 ∧ entryAddr 0x3100 37 = some 0x400A0090 ∧
      entryAddr 0x4019 37 = some 0x40093290 ∧ entryOf 0x40070170 = some (0x3000, 93) := by decide +kernel

/-- The request of that example. -/
def snap6 : List Byte := [3#8, 1#8, 0#8, 0#8, 0#8, 0#8, 19#8, 0#8, 6#8, 0#8, 0x1F#8, 1#8, 0#8, 0x1F#8, 2#8, 0#8, 0x30#8, 93#8, 0x40#8, 0x30#8, 93#8, 0#8, 0x31#8, 37#8,
  0#8, 0x31#8, 38#8]

/-- In RUN its response holds 42 bytes (R445). -/
theorem test_snapshot_in_run : ((wBase 3).serveSnap 0 snap6).data.length = 42 := by decide +kernel

/-- With CMP and SCN off it holds 26 bytes (R445). -/
theorem test_snapshot_in_husk :
    (((wBase 4).wr F.PWR_DOMSTAT_ON (0xFFF - 2 ^ Dom.cmp.num - 2 ^ Dom.scn.num)).serveSnap 0 snap6).data.length = 26 := by decide +kernel

/-- One pixel through every stage of scan-out (R223, R236, R237). -/
theorem test_pixel_stages :
    linearValue 2000 = 32007 ∧ linearValue 2100 = 33608 ∧ levelMix 11 32007 33608 = 33108 ∧ maskMul 33108 200 = 25967 ∧
      gainMul 25967 160 = 27590 ∧ defectShare 20000 96 = 7500 ∧ gainMul 30000 160 = 31875 ∧ outputCode 1 31875 = 1992 := by decide

/-- The scaler at the edge of a symbol: positions, weights and the scaled pixels (R176–R179). -/
theorem test_scaler_edge :
    samplePos 256 512 18 = (8, 48) ∧ samplePos 256 512 19 = (9, 16) ∧
      (tapWeights 256 512 16).map (·.2) = [-144, 1776, 464, -48] ∧ (tapWeights 256 512 48).map (·.2) = [-48, 464, 1776, -144] ∧
      [18, 19, 20, 21, 22, 23].map (fun d => filterAt 256 512 d 65535 fun x => if x < 10 then 0 else 60000)
        = [0, 12188, 47813, 64219, 61406, 60000] := by decide +kernel

/-- Loop 1 of the example of the control engine, in front of its sample at t = 0. -/
def pidLoop : State :=
  let s := ((((wBase 3).wr (F.PID_L_CTRL_EN 1) 1).wr (F.PID_L_CTRL_SRC 1) 1).wr (F.PID_L_CTRL_SRCIDX 1) 1).wr (F.BUCK_STAT_STATE 1) 3
  let s := (s.setN (R.PID_L_SP 1) 5000).wr (F.BUCK_MEAS0_IAVG 1) 4950
  let s := [(R.PID_L_KP 1, 0x8000), (R.PID_L_KIS 1, 0x1000), (R.PID_L_AD 1, 32768), (R.PID_L_BD 1, 0x20000), (R.PID_L_IMAX 1, 8000),
    (R.PID_L_OMAX 1, 8000), (R.PID_L_TRACK 1, 200)].foldl (fun (s : State) p => s.setApp p.1 p.2) s
  s.setLoop 1 { i := 5100 * 65536, d := -20 * 65536, yPrev := 4940, fresh := false, init := false }

/-- The law gives I 5,103.125, D −30 and u 5,098 (R294). -/
theorem test_pid_law :
    (pidLoop.loopLaw 1 4950).1.i = 5103 * 65536 + 8192 ∧ (pidLoop.loopLaw 1 4950).1.d = -30 * 65536 ∧ (pidLoop.loopLaw 1 4950).1.u = 5098 := by
  decide +kernel

/-- A generation: armed with APPLIED + 1, applied at the loop's sample (R47). -/
theorem test_generation_arms :
    after (exec (.genArm .mgmt (.pid 3) 0x18#32) ((wBase 3).wr (Group.pid 3).fApplied 0x17)) (fun t => t.armed (.pid 3)) = true := by decide +kernel

/-- A second arm with the same generation is refused (R47). -/
theorem test_generation_mismatch :
    after (exec (.genArm .mgmt (.pid 3) 0x18#32) ((wBase 3).wr (Group.pid 3).fApplied 0x18))
      (fun t => !t.armed (.pid 3) && t.flag (Group.pid 3).fMismatch) = true := by decide +kernel

/-- A little-endian word in memory (R8), and a two's complement (R9). -/
theorem test_little_endian : leBytes 4 0x12345678 = [0x78#8, 0x56#8, 0x34#8, 0x12#8] ∧ ofSigned 32 (-98304) = 0xFFFE8000 := by decide

/-- A reserved bit stops the machine; an unmapped address and a size other than a word end with a bus error (R13, R38, R42). -/
theorem test_bus_errors :
    stops (exec (.registerWrite .mgmt 4 R.ODX_CFG 0x80000000#32) (wBase 1)) = true ∧
      after (exec (.registerWrite .mgmt 4 0x10000000 0#32) (wBase 1)) (fun t => t.rd F.SYS_BUSERR_INFO_CAUSE == 2) = true ∧
      after (exec (.registerWrite .mgmt 2 R.ODX_CFG 0#32) (wBase 1)) (fun t => t.rd F.SYS_BUSERR_INFO_CAUSE == 1) = true := by decide +kernel

/-- SYS_BLKOWN is taken in STANDBY and ignored in RUN (R41). -/
theorem test_owner_only_in_standby :
    after (exec (.sysBlkownWrite .mgmt 2#32) (wBase 1)) (fun t => t.regN R.SYS_BLKOWN == 2) = true ∧
      after (exec (.sysBlkownWrite .mgmt 2#32) (wBase 3)) (fun t => t.regN R.SYS_BLKOWN == 0) = true := by decide +kernel

/-- After reset the machine is in DORMANT, and the lamp request alone wakes it (R79, R89). -/
theorem test_lamp_wakes : after (exec .lampReqAssert State.reset) (fun t => t.pwr.pwrEn) = true := by decide +kernel

/-! ### Every hypothesis of the statements is met -/

/-- A CRC-16 is a number of 16 bits, so that no table with the check 65,536 passes. -/
theorem crc16_lt (bs : List Byte) : crc16 bs < 65536 := Nat.mod_lt _ (by decide)

/-- A CRC-32 is a number of 32 bits. -/
theorem crc32_lt (bs : List Byte) : crc32 bs < 2 ^ 32 := Nat.mod_lt _ (by decide)

/-- The words of a clamp table do not depend on its check (R235). -/
theorem words_of_check (t : ClampTable) (c : Nat) : ({ t with check := c } : ClampTable).words = t.words := rfl

/-- A table whose check is the CRC over its words passes. -/
theorem test_table_check : crc16 (ClampTable.words { check := crc16 (ClampTable.words {}) }) = crc16 (ClampTable.words {}) :=
  congrArg crc16 (words_of_check {} _)

/-- A payload of 5,000 bytes fills more than one sector (R341). -/
theorem test_two_sectors : 0 + 1 < sectorsFor (List.replicate 5000 7#8).length := by
  rw [List.length_replicate]; decide

theorem witness_EmptyQueueLetsTimePass :
    ∃ (s : State),
      s.pending = [] :=
  ⟨State.reset, by decide +kernel⟩

theorem witness_CanonicalIsKept :
    ∃ (s t : State),
      s.Canonical ∧ step s = .next t :=
  ⟨State.reset, State.reset.idle, by decide +kernel, rfl⟩

theorem witness_RegisterWriteTurnedAway :
    (∃ (s : State) (c : Instr) (m : Master) (size a : Nat) (data : Word) (cause : Nat),
      s.on .mgmt = true ∧ c.wf = true ∧ c.writeAccess = some (m, size, a, data) ∧ s.writeCause m size a = some cause) ∧
    (∃ (s : State) (c : Instr) (m : Master) (size a : Nat) (data : Word) (cause : Nat),
      s.on .mgmt = false ∧ c.wf = true ∧ c.writeAccess = some (m, size, a, data) ∧ s.writeCause m size a = some cause) ∧
    (∃ (s : State) (_m : Master) (size a : Nat) (_data : Word),
      s.on .mgmt = true ∧ isReg a = true ∧ a < 2 ^ 32 ∧ (size ≠ 4 ∨ a % 4 ≠ 0)) ∧
    (∃ (s : State) (_m : Master) (size a : Nat) (_data : Word),
      s.on .mgmt = true ∧ isReg a = false ∧ a < 2 ^ 32 ∧ 0 < size ∧ regionOf a = none) ∧
    (∃ (s : State) (_m : Master) (size a : Nat) (_data : Word) (r : Region),
      s.on .mgmt = true ∧ isReg a = false ∧ a < 2 ^ 32 ∧ 0 < size ∧ regionOf a = some r ∧ s.on r.dom = false) ∧
    (∃ (s : State) (m : Master) (n : Nat) (_data : Word),
      n < 16 ∧ s.on .mgmt = true ∧ s.mode ≠ Mode.dormant ∧ (m = .island ∨ m = .mgmt ∨ m = .hspi) ∧ m.num ≠ s.sender n) ∧
    (∃ (s : State) (m : Master) (n : Nat) (_data : Word),
      n < 16 ∧ s.on .mgmt = true ∧ s.mode ≠ Mode.dormant ∧ (m = .island ∨ m = .mgmt ∨ m = .hspi) ∧ m.num ≠ s.receiver n) ∧
    (∃ (s : State) (m : Master) (n : Nat) (_data : Word),
      n < 16 ∧ s.on .mgmt = true ∧ s.mode ≠ Mode.dormant ∧ (m = .island ∨ m = .mgmt ∨ m = .hspi) ∧ m.num ≠ s.receiver n) ∧
    (∃ (s : State) (n : Nat) (_data : Word),
      n < 16 ∧ s.on .mgmt = true ∧ s.mode ≠ Mode.dormant) ∧
    (∃ (s : State) (m : Master) (n k : Nat) (_data : Word),
      8 ≤ n ∧ n < 16 ∧ k < 32 ∧ s.on .mgmt = true ∧ s.mode ≠ Mode.dormant ∧ (m = .island ∨ m = .mgmt ∨ m = .hspi) ∧
        m.num ≠ s.sender n ∧ m.num ≠ s.receiver n) :=
  ⟨⟨wBase 1, .rungateWrite .mgmt 1#32, .mgmt, 4, R.PWR_RUNGATE, 1#32, 4, by decide +kernel⟩,
   ⟨State.reset, .rungateWrite .mgmt 1#32, .mgmt, 4, R.PWR_RUNGATE, 1#32, 5, by decide +kernel⟩,
   ⟨wBase 1, .hspi, 2, R.PWR_RUNGATE, 1#32, by decide +kernel⟩,
   ⟨wBase 1, .mgmt, 4, 0x10000000, 1#32, by decide +kernel⟩,
   ⟨(wBase 1).wr F.PWR_DOMSTAT_ON 7, .mgmt, 4, 0x80000000, 1#32, .dram, by decide +kernel⟩,
   ⟨wBase 1, .mgmt, 15, 1#32, by decide +kernel⟩,
   ⟨wBase 1, .mgmt, 8, 1#32, by decide +kernel⟩,
   ⟨wBase 1, .mgmt, 8, 1#32, by decide +kernel⟩,
   ⟨wBase 1, 2, 1#32, by decide +kernel⟩,
   ⟨wBase 1, .hspi, 8, 31, 1#32, by decide +kernel⟩⟩

theorem witness_ReservedBitStops :
    ∃ (s : State) (c : Instr) (m : Master) (size a : Nat) (data : Word),
      c.wf = true ∧ c.writeAccess = some (m, size, a, data) ∧ s.writeCause m size a = none ∧ isReg a = true ∧
        reservedSet a data = true :=
  ⟨wBase 1, .mbxCfgWrite .mgmt 2 0xFF000000#32, .mgmt, 4, R.MBX_CH_CFG 2, 0xFF000000#32, by decide +kernel⟩

theorem witness_BusWritesReachRegistersAndMemory :
    (∃ (s : State) (m : Master) (size a : Nat) (_data : Word),
      (size = 1 ∨ size = 2 ∨ size = 4) ∧ isReg a = false ∧ s.memError m size true a = none ∧ (a + size ≤ slotDoor ∨
        slotDoor < a)) ∧
    (∃ (s : State) (m : Master) (a : Nat) (data : Word),
      isReg a = true ∧ plainReg a = true ∧ s.Accepts m a data ∧ (regDef a).isSome = true ∧ s.valueFits a data.toNat = true ∧
        (blockOf a = 6 → s.vinOpen (a % 0x10000) data.toNat = true) ∧ (blockOf a = 20 →
        s.netOpen (a % 0x10000) data.toNat = true)) ∧
    (∃ (s : State) (m : Master) (a : Nat) (data : Word),
      isReg a = true ∧ s.Accepts m a data ∧ blockOf a ≠ 17 ∧ blockOf a ≠ 18 ∧ blockOf a ≠ 19 ∧ (isSheafReg a = false ∨
        s.rd F.LAY_SHEAFSTAT_STATE = 0) ∧ (memberGroup a).any s.armed = false ∧ s.valueFits a data.toNat = false) ∧
    (∃ (s : State) (m : Master) (g : Group) (a : Nat) (data : Word),
      isReg a = true ∧ s.Accepts m a data ∧ genGroup a = none ∧ memberGroup a = some g ∧ (s.armed g = true ∨
        s.valueFits a data.toNat = true) ∧ (regDef a).isSome = true ∧ g.gen ≠ a) ∧
    (∃ (s : State) (m : Master) (a : Nat) (data : Word),
      isReg a = true ∧ s.Accepts m a data ∧ blockOf a ≠ 17 ∧ blockOf a ≠ 18 ∧ blockOf a ≠ 19 ∧ genGroup a = none ∧
        memberGroup a = none ∧ isSheafReg a = true ∧ (regDef a).isSome = true) :=
  ⟨⟨wBase 1, .mgmt, 4, 0x80000010, 0x12345678#32, by decide +kernel⟩,
   ⟨wBase 1, .mgmt, R.THM_EXTLIM, 0x64503C28#32, by decide +kernel⟩,
   ⟨wBase 1, .mgmt, R.THM_EXTLIM, 0#32, by decide +kernel⟩,
   ⟨wBase 1, .mgmt, .energy, R.ENG_WSLOT, 5#32, by decide +kernel⟩,
   ⟨wBase 3, .mgmt, R.CMP_SIG_RECT0 0, 0#32, by decide +kernel⟩⟩

theorem witness_BlockOwnersAndDomains :
    (∃ (s : State) (m : Master) (data : Word),
      s.Accepts m R.SYS_BLKOWN data) ∧
    (∃ (s : State) (m : Master) (data : Word),
      s.Accepts m R.PWR_DOMCTL data) ∧
    (∃ (s : State) (m : Master) (data : Word),
      s.Accepts m R.PWR_PADHOLD data) :=
  ⟨⟨wBase 1, .mgmt, 5#32, by decide +kernel⟩,
   ⟨wBase 1, .mgmt, 0x40#32, by decide +kernel⟩,
   ⟨(wBase 1).wr F.PWR_PADHOLD_GROUP 0x7FF, .mgmt, 0x203#32, by decide +kernel⟩⟩

theorem witness_GroupsArmAndApplyWhole :
    (∃ (s : State) (m : Master) (g : Group) (data : Word),
      g.ok = true ∧ s.Accepts m g.gen data ∧ bitAt data.toNat 19 = false ∧ s.genFits g data = true ∧
        ((s.genClear g data).armCheck g).1 = true ∧ g.isMap = false ∧ (g = .imu → s.flag F.VIN_IMUCFG_EN = true)) ∧
    (∃ (s : State) (m : Master) (g : Group) (data : Word),
      g.ok = true ∧ s.Accepts m g.gen data ∧ bitAt data.toNat 19 = false ∧ s.genFits g data = false) ∧
    (∃ (s : State) (m : Master) (g : Group) (data : Word),
      g.ok = true ∧ s.Accepts m g.gen data ∧ bitAt data.toNat 19 = true) ∧
    (∃ (s : State) (m : Master) (data : Word),
      s.Accepts m Group.imu.gen data ∧ bitAt data.toNat 19 = false ∧ s.genFits .imu data = true ∧ s.imuFits = true ∧
        s.flag F.VIN_IMUCFG_EN = false) ∧
    (∃ (s : State) (g : Group),
      g.ok = true ∧ s.pointNow g = false) ∧
    (∃ (s : State),
      s.pointNow .energy = true ∧ s.appliesNow .energy = true) ∧
    (∃ (s : State) (g : Group),
      g.ok = true ∧ g.bare = true ∧ s.pointNow g = true ∧ s.appliesNow g = true) :=
  ⟨⟨wBase 1, .mgmt, .satVal 1, 1#32, by decide +kernel⟩,
   ⟨wBase 1, .mgmt, .energy, 7#32, by decide +kernel⟩,
   ⟨wBase 1, .mgmt, .satVal 0, 0x80000#32, by decide +kernel⟩,
   ⟨(wBase 1).setN R.VIN_IMUSCALE 5, .mgmt, 1#32, by decide +kernel⟩,
   ⟨wBase 1, .buck 2, by decide +kernel⟩,
   ⟨(wBase 1).armGroup .energy 1#32 |> fun s => { s with now := s.now + 60000 }, by decide +kernel⟩,
   ⟨((wBase 1).armGroup (.buck 2) 1#32).wr (F.BUCK_STAT_STATE 2) 3 |> fun s => { s with now := s.now + 5 }, .buck 2,
     by decide +kernel⟩⟩

theorem witness_DemandAndModeRequests_1 :
    (∃ (s : State) (m : Master),
      s.Accepts m R.PWR_MODEREQ 1#32 ∧ s.mode = Mode.standby ∧ s.demand = false ∧ s.flag F.BIST_TESTSTAT_TESTONLY = false) ∧
    (∃ (s : State) (m : Master) (data : Word),
      s.Accepts m R.PWR_MODEREQ data ∧ bitsOf data.toNat 9 8 = 0 ∧ bitsOf data.toNat 0 0 = s.rd F.PWR_MODEREQ_REQ) ∧
    (∃ (s : State) (m : Master) (data : Word),
      s.Accepts m R.PWR_MODEREQ data ∧ bitsOf data.toNat 9 8 = 1 ∧ bitsOf data.toNat 0 0 = s.rd F.PWR_MODEREQ_REQ ∧
        s.mode = Mode.husk ∧ s.demand = true ∧ s.causesClear = true) ∧
    (∃ (s : State) (m : Master) (data : Word),
      s.Accepts m R.PWR_MODEREQ data ∧ bitsOf data.toNat 9 8 = 1 ∧ bitsOf data.toNat 0 0 = s.rd F.PWR_MODEREQ_REQ ∧
        s.mode ≠ Mode.husk) ∧
    (∃ (s : State) (m : Master) (data : Word),
      s.Accepts m R.PWR_MODEREQ data ∧ bitsOf data.toNat 9 8 = 2 ∧ bitsOf data.toNat 0 0 = s.rd F.PWR_MODEREQ_REQ ∧
        s.mode = Mode.dark ∧ s.demand = false ∧ s.causesClear = true ∧ s.flag F.BIST_TESTSTAT_TESTONLY = false) ∧
    (∃ (s : State) (m : Master) (data : Word),
      s.Accepts m R.PWR_MODEREQ data ∧ bitsOf data.toNat 9 8 = 2 ∧ bitsOf data.toNat 0 0 = s.rd F.PWR_MODEREQ_REQ ∧
        s.mode ≠ Mode.dark) ∧
    (∃ (s : State) (m : Master),
      s.Accepts m R.PWR_MODEREQ 0#32 ∧ s.mode = Mode.husk ∧ s.demand = true ∧ s.flag F.PWR_WAKESTAT_LAMPREQ_LVL = false) ∧
    (∃ (s : State) (m : Master),
      s.Accepts m R.PWR_MODEREQ 0#32 ∧ s.mode = Mode.run ∧ s.cf.hold = none ∧ s.demand = true ∧
        s.flag F.PWR_WAKESTAT_LAMPREQ_LVL = false) ∧
    (∃ (s : State) (m : Master) (data : Word),
      s.Accepts m R.PWR_MODEREQ data ∧ bitsOf data.toNat 9 8 = 1 ∧ bitsOf data.toNat 0 0 = s.rd F.PWR_MODEREQ_REQ ∧
        s.mode = Mode.husk ∧ (s.demand = false ∨ s.causesClear = false)) ∧
    (∃ (s : State) (m : Master) (data : Word),
      s.Accepts m R.PWR_MODEREQ data ∧ bitsOf data.toNat 9 8 = 2 ∧ bitsOf data.toNat 0 0 = s.rd F.PWR_MODEREQ_REQ ∧
        s.mode = Mode.dark ∧ (s.demand = true ∨ s.causesClear = false ∨ s.flag F.BIST_TESTSTAT_TESTONLY = true)) :=
  ⟨⟨wBase 1, .mgmt, by decide +kernel⟩,
   ⟨wBase 1, .mgmt, 0#32, by decide +kernel⟩,
   ⟨(wBase 4).wr F.PWR_MODEREQ_REQ 1, .mgmt, 0x101#32, by decide +kernel⟩,
   ⟨wBase 1, .mgmt, 0x100#32, by decide +kernel⟩,
   ⟨wBase 5, .mgmt, 0x200#32, by decide +kernel⟩,
   ⟨wBase 1, .mgmt, 0x200#32, by decide +kernel⟩,
   ⟨(wBase 4).wr F.PWR_MODEREQ_REQ 1, .mgmt, by decide +kernel⟩,
   ⟨(wBase 3).wr F.PWR_MODEREQ_REQ 1, .mgmt, by decide +kernel⟩,
   ⟨wBase 4, .mgmt, 0x100#32, by decide +kernel⟩,
   ⟨(wBase 5).wr F.PWR_MODEREQ_REQ 1, .mgmt, 0x201#32, by decide +kernel⟩⟩

theorem witness_DemandAndModeRequests_2 :
    (∃ (s : State),
      s.pwr.resetLow = false ∧ s.mode = Mode.dormant ∧ s.demand = false ∧ s.pwr.enHold = none ∧ s.pwr.offAt = none) ∧
    (∃ (s : State),
      s.pwr.resetLow = false ∧ s.mode = Mode.standby ∧ s.demand = false ∧ s.flag F.BIST_TESTSTAT_TESTONLY = false) ∧
    (∃ (s : State),
      s.pwr.resetLow = false ∧ s.mode = Mode.husk ∧ s.demand = true ∧ s.rd F.PWR_MODEREQ_REQ = 0) ∧
    (∃ (s : State),
      s.pwr.resetLow = false ∧ s.mode = Mode.run ∧ s.cf.hold = none ∧ s.demand = true ∧ s.rd F.PWR_MODEREQ_REQ = 0) :=
  ⟨⟨State.reset, by decide +kernel⟩,
   ⟨wBase 1, by decide +kernel⟩,
   ⟨(wBase 4).wr F.PWR_WAKESTAT_LAMPREQ_LVL 1, by decide +kernel⟩,
   ⟨(wBase 3).wr F.PWR_WAKESTAT_LAMPREQ_LVL 1, by decide +kernel⟩⟩

theorem witness_RunGateAndPrepareEnds :
    (∃ (s : State) (data : Word),
      s.Accepts .island R.PWR_RUNGATE data) ∧
    (∃ (s : State),
      s.mode = Mode.run ∧ s.pwr.beamEnding = true ∧ s.beamOver = true) ∧
    (∃ (s : State) (p : Prep),
      s.mode = Mode.prepare ∧ s.pwr.prep = some p ∧ s.stepsToStandby p = true ∧ s.demand = false) ∧
    (∃ (s : State) (p : Prep),
      s.mode = Mode.prepare ∧ s.pwr.prep = some p ∧ s.bootSteps = true ∧ s.lightSteps = true ∧ s.demand = true ∧
        s.flag F.BIST_HUSKPATH_HANDED = true ∧ s.lightingFailed = false ∧ s.huskPending = false ∧
        s.flag F.PWR_RUNGATE_PERMIT = true) ∧
    (∃ (s : State) (p : Prep),
      s.mode = Mode.prepare ∧ s.pwr.prep = some p ∧ s.bootSteps = true ∧ s.lightSteps = true ∧ s.demand = true ∧
        s.flag F.BIST_HUSKPATH_HANDED = false ∧ s.handOver.lightingFailed = false ∧ s.handOver.huskPending = false ∧
        s.handOver.flag F.PWR_RUNGATE_PERMIT = true) ∧
    (∃ (s : State) (p : Prep),
      s.mode = Mode.prepare ∧ s.pwr.prep = some p ∧ s.bootSteps = true ∧ s.lightSteps = true ∧ s.demand = true ∧
        s.flag F.BIST_HUSKPATH_HANDED = true ∧ s.lightingFailed = false ∧ s.huskPending = false ∧
        s.flag F.PWR_RUNGATE_PERMIT = false) ∧
    (∃ (s : State) (p : Prep),
      s.mode = Mode.prepare ∧ s.pwr.prep = some p ∧ p.since + 600000000 ≤ s.now) :=
  ⟨⟨wBase 3, 0x20#32, by decide +kernel⟩,
   ⟨{ wBase 3 with pwr := { pwrEn := true, beamEnding := true } }, by decide +kernel⟩,
   ⟨wPrep {}, {}, by decide +kernel⟩,
   ⟨(((wPrep { toRun := true, tested := [5, 6, 7, 8, 9, 10], swRound := true }).wr F.PWR_RUNGATE_PERMIT 1).wr F.PWR_MODEREQ_REQ
     1).wr F.BIST_HUSKPATH_HANDED 1, { toRun := true, tested := [5, 6, 7, 8, 9, 10], swRound := true }, by decide +kernel⟩,
   ⟨((wPrep { toRun := true, tested := [5, 6, 7, 8, 9, 10], swRound := true }).wr F.PWR_RUNGATE_PERMIT 1).wr F.PWR_MODEREQ_REQ
     1, { toRun := true, tested := [5, 6, 7, 8, 9, 10], swRound := true }, by decide +kernel⟩,
   ⟨((wPrep { toRun := true, tested := [5, 6, 7, 8, 9, 10], swRound := true }).wr F.PWR_MODEREQ_REQ 1).wr F.BIST_HUSKPATH_HANDED
     1, { toRun := true, tested := [5, 6, 7, 8, 9, 10], swRound := true }, by decide +kernel⟩,
   ⟨{ wBase 2 with pwr := { pwrEn := true, prep := some {} } }, {}, by decide +kernel⟩⟩

theorem witness_WakeAndSleep :
    (∃ (s : State) (pin levels : Nat),
      s.pwr.resetLow = false ∧ (s.samplePins levels).pinReady pin s.now = true) ∧
    (∃ (s : State) (pin levels : Nat),
      (s.samplePins levels).pinReady pin s.now = false) ∧
    (∃ (s : State),
      s.mode = Mode.dormant ∧ s.pwr.resetLow = false ∧ s.pwr.enHold = none ∧ s.pwr.offAt = none ∧
        s.rd F.PWR_WAKETIMER_SECONDS ≠ 0 ∧ s.pwr.dormantSince + 600000000 * s.rd F.PWR_WAKETIMER_SECONDS ≤ s.now) ∧
    (∃ (s : State),
      s.firmwareUp = true ∧ s.mode = Mode.standby ∧ s.demand = false) ∧
    (∃ (s : State) (m : Master),
      s.Accepts m R.PWR_SLEEP 1#32 ∧ s.pwr.sleep = SleepStep.ready ∧ s.mode = Mode.standby ∧ s.wakePending = false ∧
        s.demand = false) ∧
    (∃ (s : State) (m : Master),
      s.Accepts m R.PWR_SLEEP 1#32 ∧ s.pwr.sleep = SleepStep.ready ∧ s.mode = Mode.standby ∧ s.wakePending = true ∧
        s.demand = false) ∧
    (∃ (s : State) (u : Nat),
      s.pwr.enHold = some u ∧ u ≤ s.now ∧ s.demand = false ∧ s.rd F.PWR_WAKESTAT_PIN = 0 ∧
        s.flag F.PWR_WAKESTAT_TIMER = false) ∧
    (∃ (s : State) (u : Nat),
      s.pwr.enHold = some u ∧ u ≤ s.now ∧ s.pwr.offAt = none ∧ s.demand = true ∧ s.mode = Mode.dormant ∧
        s.pwr.resetLow = false) :=
  ⟨⟨({ now := 10000000, pwr := { pins := [{}, ⟨true, 0, true⟩, {}, {}] } } : State).wr F.PWR_WAKECFG_EN1 1, 1, 2,
    by decide +kernel⟩,
   ⟨State.reset.wr F.PWR_WAKECFG_EN1 1, 1, 0, by decide +kernel⟩,
   ⟨({ now := 1000000000 } : State).wr F.PWR_WAKETIMER_SECONDS 1, by decide +kernel⟩,
   ⟨wBase 1, by decide +kernel⟩,
   ⟨{ wBase 1 with pwr := { pwrEn := true, sleep := .ready } }, .mgmt, by decide +kernel⟩,
   ⟨{ wBase 1 with pwr := { pwrEn := true, sleep := .ready } }.wr F.PWR_WAKESTAT_TIMER 1, .mgmt, by decide +kernel⟩,
   ⟨{ now := 1200000, pwr := { enHold := some 1200000 } }, 1200000, by decide +kernel⟩,
   ⟨({ now := 1200000, pwr := { enHold := some 1200000 } } : State).wr F.PWR_WAKESTAT_LAMPREQ_LVL 1, 1200000,
     by decide +kernel⟩⟩

theorem witness_ResetsReachDormant :
    (∃ (_s : State) (ns : Nat),
      ns < 1000) ∧
    (∃ (_s : State) (ns : Nat),
      10000 ≤ ns) ∧
    (∃ (_s : State) (ns : Nat),
      1000 ≤ ns ∧ ns < 10000) ∧
    (∃ (s : State),
      s.pwr.resetLow = true ∧ s.demand = false ∧ s.rd F.PWR_WAKESTAT_PIN = 0) ∧
    (∃ (s : State),
      s.pwr.resetLow = true ∧ s.mode = Mode.dormant ∧ s.pwr.enHold = none ∧ s.pwr.offAt = none ∧ s.demand = true) :=
  ⟨⟨wBase 3, 999, by decide +kernel⟩,
   ⟨wBase 3, 10000, by decide +kernel⟩,
   ⟨wBase 3, 5000, by decide +kernel⟩,
   ⟨{ pwr := { resetLow := true } }, by decide +kernel⟩,
   ⟨({ pwr := { resetLow := true } } : State).wr F.PWR_WAKESTAT_LAMPREQ_LVL 1, by decide +kernel⟩⟩

theorem witness_DomainsPowerUpAndDown :
    (∃ (s : State) (d : Dom),
      s.comesUp d = true ∧ s.dict.loaded = false) ∧
    (∃ (s : State) (d : Dom),
      s.comesUp d = true ∧ s.dict.loaded = true ∧ (s.powerOn d).firmwareUp = true ∧ d ≠ .gme ∧ d ≠ .scn ∧ d ≠ .net ∧ d ≠ .safe ∧
        d ≠ .mem) ∧
    (∃ (s : State) (d : Dom),
      s.comesUp d = true ∧ s.on .safe = true) ∧
    (∃ (s : State) (d : Dom),
      s.on d = true ∧ s.wanted d = false) ∧
    (∃ (s : State) (counts : List ClockCount) (c : ClockName) (n : Nat),
      s.on .mgmt = true ∧ s.on .safe = true ∧ c ∈ s.clocks ∧ counts.find? (fun x => x.clock == c) = some ⟨c, n⟩ ∧
        50 * (max n c.nominal - min n c.nominal) > c.nominal) ∧
    (∃ (_s : State) (counts : List ClockCount),
      (∀ x ∈ counts, 50 * (max x.counted x.clock.nominal - min x.counted x.clock.nominal) ≤ x.clock.nominal)) :=
  ⟨⟨{ (wBase 3).wr F.PWR_DOMSTAT_ON 0x0FF with pwr := { pwrEn := true } }, .scn, by decide +kernel⟩,
   ⟨{ (wBase 3).wr F.PWR_DOMSTAT_ON 0x0FF with pwr := { pwrEn := true }, dict := { loaded := true } }, .drv, by decide +kernel⟩,
   ⟨{ (wBase 3).wr F.PWR_DOMSTAT_ON 0x0FF with pwr := { pwrEn := true } }, .scn, by decide +kernel⟩,
   ⟨wBase 1, .drv, by decide +kernel⟩,
   ⟨wBase 1, [⟨.pixel, 5879⟩], .pixel, 5879, by decide +kernel⟩,
   ⟨wBase 1, [⟨.pixel, 6120⟩], by decide +kernel⟩⟩

theorem witness_HardwareHuskPath :
    (∃ (s : State) (ch : Nat),
      ch < 4 ∧ s.hwMayRun = true ∧ s.hwN ch = .idle ∧ s.boot.hw.length = 4 ∧ s.sw.lo.length = 4 ∧ s.pwr.strap < 8) ∧
    (∃ (s : State) (ch mv u : Nat),
      ch < 4 ∧ s.hwN ch = .lowside u ∧ s.now ≤ u + 60000 ∧ s.boot.hw.length = 4 ∧ s.sw.hi.length = 4 ∧ mv ≤ 200 ∧
        s.rd (F.BUCK_MEAS0_VOUT ch) < 1000) ∧
    (∃ (s : State) (ch mv u : Nat),
      ch < 4 ∧ s.hwN ch = .lowside u ∧ s.now ≤ u + 60000 ∧ s.boot.hw.length = 4 ∧ mv ≤ 200 ∧
        1000 ≤ s.rd (F.BUCK_MEAS0_VOUT ch)) ∧
    (∃ (s : State) (ch mv u : Nat),
      ch < 4 ∧ s.hwN ch = .lowside u ∧ s.boot.hw.length = 4 ∧ 200 < mv ∧ u + 60000 ≤ s.now ∧ s.on .safe = true) ∧
    (∃ (s : State) (ch u : Nat) (pump : Bool),
      ch < 4 ∧ s.hwN ch = .highside u ∧ s.boot.hw.length = 4 ∧ (pump = true ∨ u + 240000 ≤ s.now)) ∧
    (∃ (s : State) (ch hr fb u : Nat),
      ch < 4 ∧ s.hwN ch = .ramping u ∧ s.boot.hw.length = 4 ∧ u + rampTime (strapRef s.pwr.strap) ≤ s.now ∧
        max hr fb - min hr fb ≤ 200) ∧
    (∃ (s : State) (ch u v : Nat),
      ch < 4 ∧ s.hwN ch = .rampdown u v ∧ s.boot.hw.length = 4 ∧ v * 600 ≤ (s.now - u) * 2000) :=
  ⟨⟨(({ (wBase 2) with pwr := { pwrEn := true, prep := some { toRun := true } } }).wr F.PWR_MODEREQ_REQ 1).wr
    F.PWR_PADHOLD_GROUP 0x220, 1, by decide +kernel⟩,
   ⟨{ (wBase 2).wr F.PWR_PADHOLD_GROUP 0x220 with boot := { hw := [.idle, .lowside 999999999, .idle, .idle] } }, 1, 150,
     999999999, by decide +kernel⟩,
   ⟨({ wBase 2 with boot := { hw := [.idle, .lowside 999999999, .idle, .idle] } } : State).wr (F.BUCK_MEAS0_VOUT 1) 1000, 1,
     200, 999999999, by decide +kernel⟩,
   ⟨{ wBase 2 with boot := { hw := [.idle, .lowside 0, .idle, .idle] } }, 1, 201, 0, by decide +kernel⟩,
   ⟨{ (wBase 2).wr F.PWR_PADHOLD_GROUP 0x220 with boot := { hw := [.idle, .highside 0, .idle, .idle] } }, 1, 0, true,
     by decide +kernel⟩,
   ⟨{ (wBase 2).wr F.PWR_PADHOLD_GROUP 0x220 with boot := { hw := [.idle, .ramping 0, .idle, .idle] } }, 1, 12000, 12100, 0,
     by decide +kernel⟩,
   ⟨{ wBase 2 with boot := { hw := [.idle, .rampdown 999000000 3000000, .idle, .idle] } }, 1, 999000000, 3000000,
     by decide +kernel⟩⟩

theorem witness_SecureBootAndRecovery :
    (∃ (s : State) (ea eb : Bool),
      s.mayBoot = true ∧ s.slotHead .a ea ≠ 0 ∧ s.slotHead .b eb ≠ 0) ∧
    (∃ (s : State) (ea eb : Bool),
      s.mayBoot = true ∧ s.slotHead .a ea = 0 ∧ s.slotHead .b eb ≠ 0 ∧ s.imageCheck (slotBase .a) ≠ 1) ∧
    (∃ (s : State) (ea eb : Bool),
      s.mayBoot = true ∧ s.slotHead .a ea = 0 ∧ s.slotHead .b eb ≠ 0) ∧
    (∃ (s : State) (ea eb : Bool),
      s.mayBoot = true ∧ s.slotHead .a ea ≠ 0 ∧ s.slotHead .b eb = 0) ∧
    (∃ (s : State) (ea eb : Bool),
      s.mayBoot = true ∧ s.slotHead .a ea = 0 ∧ s.slotHead .b eb = 0 ∧
        (s.header (slotBase .b)).imageVer ≤ (s.header (slotBase .a)).imageVer) ∧
    (∃ (s : State) (ea eb : Bool),
      s.mayBoot = true ∧ s.slotHead .a ea = 0 ∧ s.slotHead .b eb = 0 ∧
        (s.header (slotBase .a)).imageVer < (s.header (slotBase .b)).imageVer) ∧
    (∃ (s : State),
      (s.mode ≠ Mode.prepare ∨ s.testedAll [0, 1] = true) ∧ s.on .safe = true ∧ s.on .mem = true ∧
        s.boot.staged.isNone = false ∧ s.flag F.SAF_STATE_READY = false ∧ s.bistFailed 0 = false ∧ s.bistFailed 1 = false) ∧
    (∃ (s : State) (base : Nat),
      s.boot.recovery = true ∧ s.on .mgmt = true ∧ s.flag F.BIST_BOOT_DONE = false ∧ s.on .mem = true ∧
        (s.header base).magic = 0x32534C50 ∧ (s.header base).hdrVer = 1) :=
  ⟨⟨{ (({ mem := [(0x60100000, 0x50), (0x60100001, 0x4C), (0x60100002, 0x53), (0x60100003, 0x32), (0x60100004, 1), (0x6010001C, 3)], pwr := { pwrEn := true, prep := some { cold := true, tested := [2, 3, 4] } } } : State).wr F.PWR_DOMSTAT_ON 0xFFF).wr F.PWR_MODE_MODE 2 with now := 5 },
    true, true, by decide +kernel⟩,
   ⟨{ (({ mem := [(0x60100000, 0x50), (0x60100001, 0x4C), (0x60100002, 0x53), (0x60100003, 0x32), (0x60100004, 1), (0x6010001C, 3)], pwr := { pwrEn := true, prep := some { cold := true, tested := [2, 3, 4] } } } : State).wr F.PWR_DOMSTAT_ON 0xFFF).wr F.PWR_MODE_MODE 2 with now := 5 },
     false, true, by decide +kernel⟩,
   ⟨{ (({ mem := [(0x60100000, 0x50), (0x60100001, 0x4C), (0x60100002, 0x53), (0x60100003, 0x32), (0x60100004, 1), (0x6010001C, 3)], pwr := { pwrEn := true, prep := some { cold := true, tested := [2, 3, 4] } } } : State).wr F.PWR_DOMSTAT_ON 0xFFF).wr F.PWR_MODE_MODE 2 with now := 5 },
     false, true, by decide +kernel⟩,
   ⟨{ (({ mem := [(0x60100000, 0x50), (0x60100001, 0x4C), (0x60100002, 0x53), (0x60100003, 0x32), (0x60100004, 1), (0x6010001C, 3), (0x60300000, 0x50), (0x60300001, 0x4C), (0x60300002, 0x53), (0x60300003, 0x32), (0x60300004, 1)], pwr := { pwrEn := true, prep := some { cold := true, tested := [2, 3, 4] } } } : State).wr F.PWR_DOMSTAT_ON 0xFFF).wr F.PWR_MODE_MODE 2 with now := 5 },
     true, false, by decide +kernel⟩,
   ⟨{ (({ mem := [(0x60100000, 0x50), (0x60100001, 0x4C), (0x60100002, 0x53), (0x60100003, 0x32), (0x60100004, 1), (0x6010001C, 3), (0x60300000, 0x50), (0x60300001, 0x4C), (0x60300002, 0x53), (0x60300003, 0x32), (0x60300004, 1)], pwr := { pwrEn := true, prep := some { cold := true, tested := [2, 3, 4] } } } : State).wr F.PWR_DOMSTAT_ON 0xFFF).wr F.PWR_MODE_MODE 2 with now := 5 },
     false, false, by decide +kernel⟩,
   ⟨{ (({ mem := [(0x60100000, 0x50), (0x60100001, 0x4C), (0x60100002, 0x53), (0x60100003, 0x32), (0x60100004, 1), (0x6010001C, 3), (0x60300000, 0x50), (0x60300001, 0x4C), (0x60300002, 0x53), (0x60300003, 0x32), (0x60300004, 1), (0x60300008, 1)], pwr := { pwrEn := true, prep := some { cold := true, tested := [2, 3, 4] } } } : State).wr F.PWR_DOMSTAT_ON 0xFFF).wr F.PWR_MODE_MODE 2 with now := 5 },
     false, false, by decide +kernel⟩,
   ⟨{ wBase 2 with boot := { staged := some ⟨.a⟩ }, pwr := { pwrEn := true, prep := some { cold := true, tested := [0, 1] } } },
     by decide +kernel⟩,
   ⟨{ { (({ mem := [(0x60100000, 0x50), (0x60100001, 0x4C), (0x60100002, 0x53), (0x60100003, 0x32), (0x60100004, 1), (0x6010001C, 3)], pwr := { pwrEn := true, prep := some { cold := true, tested := [2, 3, 4] } } } : State).wr F.PWR_DOMSTAT_ON 0xFFF).wr F.PWR_MODE_MODE 2 with now := 5 } with boot := { recovery := true } },
     0x60100000, by decide +kernel⟩⟩

theorem witness_SelfTestAndTestPort_1 :
    (∃ (s : State) (m : Master) (data : Word),
      s.Accepts m R.BIST_CTRL data ∧ bitAt data.toNat 8 = true ∧ bitAt data.toNat 9 = false ∧
        s.mayTest (bitsOf data.toNat 3 0) = true) ∧
    (∃ (s : State) (m : Master) (data : Word),
      s.Accepts m R.BIST_CTRL data ∧ bitAt data.toNat 8 = true ∧ bitAt data.toNat 9 = false ∧
        s.mayTest (bitsOf data.toNat 3 0) = false) ∧
    (∃ (s : State) (m : Master) (data : Word),
      s.Accepts m R.BIST_CTRL data ∧ bitAt data.toNat 8 = false ∧ bitAt data.toNat 9 = true) ∧
    (∃ (s u : State) (target : Nat) (r : SliceResult) (b : BistRun),
      target < 11 ∧ s.bistNow target = some (b, u) ∧ s.sliceFits b r.duration = true ∧ b.abort = false ∧ b.repaired = false ∧
        r.finding = .pass ∧ targetSlices target + b.extra ≤ b.slice + 1) ∧
    (∃ (s u : State) (target : Nat) (r : SliceResult) (b : BistRun),
      target < 11 ∧ target ≠ 7 ∧ s.bistNow target = some (b, u) ∧ s.sliceFits b r.duration = true ∧ b.abort = true ∧
        r.finding = .pass) ∧
    (∃ (s : State),
      s.on .mgmt = true ∧ s.mode = Mode.standby ∧ s.demand = false) ∧
    (∃ (s : State),
      s.on .mgmt = true ∧ (s.mode ≠ Mode.standby ∨ s.demand = true)) ∧
    (∃ (s : State),
      s.on .mgmt = true ∧ s.held 10 = false) ∧
    (∃ (s : State),
      s.on .mgmt = true) ∧
    (∃ (s : State),
      s.on .mgmt = true) :=
  ⟨⟨wBase 1, .mgmt, 0x104#32, by decide +kernel⟩,
   ⟨wBase 3, .mgmt, 0x104#32, by decide +kernel⟩,
   ⟨{ wBase 1 with boot := { bist := [{ target := 4, standby := true }] } }, .mgmt, 0x200#32, by decide +kernel⟩,
   ⟨{ wBase 1 with boot := { bist := [{ target := 4, standby := true }] } },
     { wBase 1 with boot := { bist := [{ target := 4, standby := true }] } }, 4, ⟨5, .pass⟩, { target := 4, standby := true },
     by decide +kernel⟩,
   ⟨{ wBase 1 with boot := { bist := [{ target := 4, standby := true, abort := true }] } },
     { wBase 1 with boot := { bist := [{ target := 4, standby := true, abort := true }] } }, 4, ⟨5, .pass⟩,
     { target := 4, standby := true, abort := true }, by decide +kernel⟩,
   ⟨wBase 1, by decide +kernel⟩,
   ⟨(wBase 1).wr F.PWR_MODEREQ_REQ 1, by decide +kernel⟩,
   ⟨wBase 3, by decide +kernel⟩,
   ⟨wBase 3, by decide +kernel⟩,
   ⟨(wBase 5).wr F.BIST_TESTSTAT_TESTONLY 1, by decide +kernel⟩⟩

theorem witness_SelfTestAndTestPort_2 :
    (∃ (s : State),
      s.on .mgmt = true) ∧
    (∃ (s : State) (_op : Nat),
      s.on .mgmt = true) :=
  ⟨⟨(wBase 5).wr F.BIST_TESTSTAT_TESTONLY 1, by decide +kernel⟩,
   ⟨(wBase 5).wr F.BIST_TESTSTAT_TESTONLY 1, 9, by decide +kernel⟩⟩

theorem witness_FaultsAreTakenUp :
    (∃ (s : State) (src addr : Nat),
      s.on .safe = true ∧ s.on (srcDom src addr) = true ∧ (srcRow src).isSome = true) ∧
    (∃ (s : State) (src : Nat) (u : GraceTimer),
      src < 256 ∧ s.brm.timers.find? (fun x => x.src = src) = some u ∧ u.due ≤ s.now) ∧
    (∃ (s : State) (src : Nat) (u : GraceTimer),
      s.brm.timers.find? (fun x => x.src = src) = some u ∧ s.now < u.due) ∧
    (∃ (s : State),
      s.on .safe = true ∧ s.flag F.SAF_STATE_READY = true ∧ (s.mode = Mode.prepare ∨ s.mode = Mode.run ∨ s.mode = Mode.husk) ∧
        s.dueSince (s.ran.lookup Timer.selfTest) (sec 1) = true) ∧
    (∃ (s : State) (u : BrmTest),
      s.brm.test = some u) ∧
    (∃ (s : State),
      s.on .mgmt = true ∧ s.on .safe = true) :=
  ⟨⟨wBase 3, Src.MGMT_WDOG, 0, by decide +kernel⟩,
   ⟨{ wBase 3 with brm := { timers := [⟨7, 5, 2, 0⟩] } }, 7, ⟨7, 5, 2, 0⟩, by decide +kernel⟩,
   ⟨{ wBase 3 with brm := { timers := [⟨7, 1000000001, 2, 0⟩] } }, 7, ⟨7, 1000000001, 2, 0⟩, by decide +kernel⟩,
   ⟨(wBase 3).wr F.SAF_STATE_READY 1, by decide +kernel⟩,
   ⟨{ wBase 3 with brm := { test := some ⟨0, 0, 0⟩ } }, ⟨0, 0, 0⟩, by decide +kernel⟩,
   ⟨wBase 3, by decide +kernel⟩⟩

theorem witness_FaultsAreHandledAndCleared :
    (∃ (s : State) (m : Master) (w : Nat) (data : Word),
      w < 8 ∧ s.Accepts m (R.BRM_HANDLED w) data ∧ (∀ x ∈ s.brm.timers, s.now < x.due)) ∧
    (∃ (s : State) (m : Master) (w : Nat) (data : Word),
      w < 8 ∧ s.Accepts m (R.BRM_SHANDLED w) data ∧ (∀ x ∈ s.brm.timers, s.now < x.due)) ∧
    (∃ (s : State) (m : Master) (k : Nat) (u : GraceTimer),
      k < 32 ∧ s.Accepts m (R.BRM_SHANDLED 0) (BitVec.ofNat 32 (2 ^ k)) ∧ s.latched k = true ∧ s.escalated k = false ∧
        s.handled k = false ∧ s.brm.timers.find? (fun x => x.src == k && decide (x.due ≤ s.now)) = some u) ∧
    (∃ (s : State) (m : Master) (w : Nat) (data : Word),
      w < 8 ∧ s.Accepts m (R.BRM_STAT w) data) ∧
    (∃ (s : State) (m : Master) (data : Word),
      s.Accepts m R.BRM_CTRL data ∧ bitAt data.toNat 0 = true) ∧
    (∃ (s : State) (m : Master) (r : Nat) (data : Word),
      r < 16 ∧ s.Accepts m (R.BRM_CLASS r) data ∧ s.flag F.PWR_MODE_COMM = true ∧ classFits r data = true) ∧
    (∃ (s : State) (m : Master) (r : Nat) (data : Word),
      r < 16 ∧ s.Accepts m (R.BRM_CLASS r) data ∧ s.flag F.PWR_MODE_COMM = false) ∧
    (∃ (s : State) (m : Master) (r : Nat) (data : Word),
      r < 64 ∧ s.Accepts m (R.BRM_GRACE r) data ∧ s.flag F.PWR_MODE_COMM = true ∧ graceFits r data = true) ∧
    (∃ (s : State) (m : Master) (data : Word),
      s.Accepts m R.BRM_MSGCTRL data ∧ bitAt data.toNat 6 = true ∧ s.flag F.BRM_MSGCTRL_EMPTY = false) :=
  ⟨⟨(wBase 3).srcSet (R.BRM_STAT 0) 3 true, .mgmt, 0, 8#32, by decide +kernel⟩,
   ⟨(wBase 3).srcSet (R.BRM_STAT 0) 3 true, .island, 0, 8#32, by decide +kernel⟩,
   ⟨{ (wBase 3).srcSet (R.BRM_STAT 0) 3 true with brm := { timers := [⟨3, 5, 2, 0⟩] } }, .island, 3, ⟨3, 5, 2, 0⟩,
     by decide +kernel⟩,
   ⟨(wBase 3).srcSet (R.BRM_STAT 0) 3 true, .mgmt, 0, 8#32, by decide +kernel⟩,
   ⟨(wBase 3).countSrc 9, .mgmt, 1#32, by decide +kernel⟩,
   ⟨(wBase 1).wr F.PWR_MODE_COMM 1, .mgmt, 15, (wBase 1).reg (R.BRM_CLASS 15), by decide +kernel⟩,
   ⟨wBase 1, .mgmt, 15, 0#32, by decide +kernel⟩,
   ⟨(wBase 1).wr F.PWR_MODE_COMM 1, .mgmt, 0, 0#32, by decide +kernel⟩,
   ⟨(wBase 1).wr F.BRM_MSGCTRL_EMPTY 0, .mgmt, 0x40#32, by decide +kernel⟩⟩

theorem witness_BrambleActsOnItsOwnFaults :
    (∃ (s : State) (_word : Nat) (_config : Bool),
      s.on .safe = true ∧ s.dueSince (s.ran.lookup Timer.parity) (msec 1) = true) ∧
    (∃ (s : State),
      s.on .safe = true) :=
  ⟨⟨wBase 3, 9, true, by decide +kernel⟩,
   ⟨wBase 3, by decide +kernel⟩⟩

theorem witness_ControlLoopsSampleAndWrite :
    (∃ (s : State) (n : Nat) (y : Int),
      s.on .drv = true ∧ n < 16 ∧ s.pid.loops.length = 16 ∧ s.flag (F.PID_L_CTRL_EN n) = true ∧ s.pidDue n = true ∧
        (s.applyGroup (.pid n)).pidSource n = some y) ∧
    (∃ (s : State) (n : Nat),
      s.on .drv = true ∧ n < 16 ∧ s.pid.loops.length = 16 ∧ s.flag (F.PID_L_CTRL_EN n) = true ∧ s.pidDue n = true ∧
        (s.applyGroup (.pid n)).pidSource n = none) ∧
    (∃ (s : State) (g : Nat) (d : Due),
      s.on .drv = true ∧ g < 4 ∧ s.pid.outs.length = 4 ∧ s.pid.outs.getD g none = some d ∧ d.due ≤ s.now) ∧
    (∃ (s : State) (m : Master) (g : Nat) (data : Word),
      g < 4 ∧ s.Accepts m (R.PID_GRP_CFG g) data) :=
  ⟨⟨(wBase 3).wr (F.PID_L_CTRL_EN 2) 1, 2, 0, by decide +kernel⟩,
   ⟨((wBase 3).wr (F.PID_L_CTRL_EN 2) 1).wr (F.PID_L_CTRL_SRC 2) 4, 2, by decide +kernel⟩,
   ⟨{ wBase 3 with pid := { outs := [none, some ⟨5, -7⟩, none, none] } }, 1, ⟨5, -7⟩, by decide +kernel⟩,
   ⟨wBase 3, .mgmt, 1, 3#32, by decide +kernel⟩⟩

theorem witness_BuckChannels :
    (∃ (s : State) (ch : Nat) (_x : BuckMeas),
      s.on .drv = true ∧ ch < 4 ∧ s.buck.length = 4 ∧ (s.held 5 = false ∨ (s.hwN ch).active = true)) ∧
    (∃ (s : State) (ch fb : Nat),
      ch < 4 ∧ s.buck.length = 4 ∧ 1 ≤ s.rd (F.BUCK_STAT_STATE ch) ∧ s.rd (F.BUCK_STAT_STATE ch) ≤ 3 ∧
        50 * s.rd (F.BUCK_CFG_OVTH ch) < fb ∧ ((s.buckN ch).ovTimes.filter fun u => s.now < u + 600000).length < 7) ∧
    (∃ (s : State) (ch fb : Nat),
      s.on .safe = true ∧ ch < 4 ∧ s.buck.length = 4 ∧ 1 ≤ s.rd (F.BUCK_STAT_STATE ch) ∧ s.rd (F.BUCK_STAT_STATE ch) ≤ 3 ∧
        50 * s.rd (F.BUCK_CFG_OVTH ch) < fb ∧ 7 ≤ ((s.buckN ch).ovTimes.filter fun u => s.now < u + 600000).length) ∧
    (∃ (s : State) (ch fb : Nat),
      ch < 4 ∧ s.rd (F.BUCK_STAT_STATE ch) = 4 ∧ fb + 200 < 50 * s.rd (F.BUCK_CFG_OVTH ch) ∧ (s.buckN ch).disch = none ∧
        (s.buckN ch).stopped = false) ∧
    (∃ (s : State) (ch u : Nat),
      s.on .safe = true ∧ ch < 4 ∧ s.buck.length = 4 ∧ 1 ≤ s.rd (F.BUCK_STAT_STATE ch) ∧ s.rd (F.BUCK_STAT_STATE ch) ≤ 3 ∧
        (s.buckN ch).peakSince = some u ∧ u + 600000 ≤ s.now) ∧
    (∃ (s : State) (m : Master) (ch : Nat) (data : Word),
      ch < 4 ∧ s.buck.length = 4 ∧ s.Accepts m (R.BUCK_CFG ch) data ∧ s.flag (F.BUCK_CFG_EN ch) = false ∧
        s.rd (F.BUCK_STAT_STATE ch) = 0 ∧ buckCfgFits data.toNat = true ∧ bitAt data.toNat 0 = true ∧ s.mode ≠ Mode.dark ∧
        s.held 5 = false ∧ (s.buckN ch).stopped = false) ∧
    (∃ (s : State) (m : Master) (ch : Nat) (data : Word),
      ch < 4 ∧ s.buck.length = 4 ∧ s.Accepts m (R.BUCK_CFG ch) data ∧ s.flag (F.BUCK_CFG_EN ch) = true ∧
        bitAt data.toNat 0 = false ∧ s.mode ≠ Mode.dark ∧ s.held 5 = false) :=
  ⟨⟨wBase 3, 1, ⟨1000, 12000, 9000, 300000, 300000, 50000, 0⟩, by decide +kernel⟩,
   ⟨(wBase 3).wr (F.BUCK_STAT_STATE 1) 3, 1, 6001, by decide +kernel⟩,
   ⟨{ (wBase 3).wr (F.BUCK_STAT_STATE 1) 3 with buck := [{}, { ovTimes := List.replicate 7 999999999 }, {}, {}] }, 1, 6001,
     by decide +kernel⟩,
   ⟨(wBase 3).wr (F.BUCK_STAT_STATE 1) 4, 1, 5000, by decide +kernel⟩,
   ⟨{ (wBase 3).wr (F.BUCK_STAT_STATE 1) 3 with buck := [{}, { peakSince := some 7 }, {}, {}] }, 1, 7, by decide +kernel⟩,
   ⟨wBase 3, .mgmt, 1, 0x784641#32, by decide +kernel⟩,
   ⟨(wBase 3).wr (F.BUCK_CFG_EN 1) 1, .mgmt, 1, 0x784640#32, by decide +kernel⟩⟩

theorem witness_SafeSwitchTests :
    (∃ (s : State) (path : Nat) (xs : List (Int × Int)),
      path < 4 ∧ s.on .safe = true ∧ s.pathClosed path = true ∧ 1 ≤ s.rd (F.BUCK_STAT_STATE path) ∧
        s.rd (F.BUCK_STAT_STATE path) ≤ 3 ∧ s.pulsing path = false ∧ 8 ≤ xs.length ∧ (∀ x ∈ xs, 200 < x.1 ∨ 200 < x.2)) ∧
    (∃ (_s : State) (_path : Nat) (xs : List (Int × Int)),
      xs.length < 8) ∧
    (∃ (s : State),
      s.on .safe = true ∧ s.mode ≠ Mode.prepare ∧ s.flag F.SAF_SWCTL_SEQ_EN = true ∧ s.sw.test = none ∧ s.sw.dueAt ≤ s.now ∧
        s.testBlocked (s.sw.next / 2) (s.port (s.sw.next / 2)).sampleAt = false ∧ s.sw.hi.length = 4 ∧ s.sw.lo.length = 4 ∧
        s.sw.next < 8) ∧
    (∃ (s : State),
      s.on .safe = true ∧ s.mode ≠ Mode.prepare ∧ s.flag F.SAF_SWCTL_SEQ_EN = true ∧ s.sw.test = none ∧ s.sw.dueAt ≤ s.now ∧
        s.testBlocked (s.sw.next / 2) (s.port (s.sw.next / 2)).sampleAt = true ∧ s.sw.deferred = none) ∧
    (∃ (s : State) (mv : Nat) (u : SwTest),
      s.sw.test = some u ∧ 500 ≤ mv ∧ u.sw < 8 ∧ s.now ≤ u.since + 12000) ∧
    (∃ (s : State) (mv : Nat) (u : SwTest),
      s.on .safe = true ∧ s.sw.test = some u ∧ u.cut = false ∧ mv < 300 ∧ u.sw < 8 ∧ u.since + 12000 ≤ s.now ∧
        s.rd (F.BUCK_STAT_STATE (u.sw / 2)) = 3) ∧
    (∃ (s : State) (sw : Nat),
      s.on .safe = true ∧ sw < 8 ∧ s.flag F.SAF_SWCTL_SEQ_EN = true ∧ s.sw.untested.getD sw 0 + 36000000000 ≤ s.now) :=
  ⟨⟨{ (wBase 3).wr (F.BUCK_STAT_STATE 1) 3 with sw := { hi := [true, true, true, true], lo := [true, true, true, true] } }, 1,
    List.replicate 8 (0, 201), by decide +kernel⟩,
   ⟨{ (wBase 3).wr (F.BUCK_STAT_STATE 1) 3 with sw := { hi := [true, true, true, true], lo := [true, true, true, true] } }, 1,
     List.replicate 7 (0, 201), by decide +kernel⟩,
   ⟨{ (((wBase 3).wr (F.BUCK_STAT_STATE 1) 3).wr F.SAF_SWCTL_SEQ_EN 1).wr (F.BUCK_MEAS0_IAVG 1) 500 with sw := { hi := [true, true, true, true], lo := [true, true, true, true], next := 2 } },
     by decide +kernel⟩,
   ⟨(wBase 3).wr F.SAF_SWCTL_SEQ_EN 1, by decide +kernel⟩,
   ⟨{ wBase 3 with sw := { test := some { sw := 2, since := 999999000 } } }, 600, { sw := 2, since := 999999000 },
     by decide +kernel⟩,
   ⟨({ wBase 3 with sw := { test := some { sw := 2, since := 5 } } } : State).wr (F.BUCK_STAT_STATE 1) 3, 100,
     { sw := 2, since := 5 }, by decide +kernel⟩,
   ⟨{ (wBase 3).wr F.SAF_SWCTL_SEQ_EN 1 with now := 36000000000 }, 3, by decide +kernel⟩⟩

theorem witness_EnergyLedgerAndBudgets :
    (∃ (s : State) (_x : LedgerMeas),
      s.on .drv = true ∧ s.flag F.ENG_CTRL_EN = true ∧ s.dueSince (s.ran.lookup Timer.ledger) (usec 100) = true) ∧
    (∃ (s : State) (_x : LedgerMeas),
      s.dueSince (s.ran.lookup Timer.ledger) (usec 100) = false) ∧
    (∃ (s : State),
      s.on .drv = true ∧ s.dueSince (s.ran.lookup Timer.allowed) (msec 1) = true ∧ s.overBudget = false) ∧
    (∃ (s : State),
      s.on .drv = true ∧ s.on .safe = true ∧ s.dueSince (s.ran.lookup Timer.allowed) (msec 1) = true ∧ s.overBudget = true) ∧
    (∃ (s : State) (m : Master) (data : Word),
      s.Accepts m R.ENG_CYC data ∧ bitAt data.toNat 0 = true) ∧
    (∃ (s : State),
      s.on .mgmt = true ∧ s.on .drv = true ∧ s.flag F.ENG_CTRL_PLAN = true ∧ s.bitR R.SYS_BLKOWN 10 = false ∧
        s.dueSince (s.ran.lookup Timer.planner) (msec 100) = true) :=
  ⟨⟨(wBase 3).wr F.ENG_CTRL_EN 1, ⟨1000, 1000, [1, 2, 3, 4], [(1200, 500)]⟩, by decide +kernel⟩,
   ⟨{ wBase 3 with ran := [(.ledger, 999950000)] }, ⟨1000, 1000, [1, 2, 3, 4], [(1200, 500)]⟩, by decide +kernel⟩,
   ⟨wBase 3, by decide +kernel⟩,
   ⟨{ (wBase 3).setApp R.ENG_BWIN 1 with eng := { slots := [5000] } }, by decide +kernel⟩,
   ⟨wBase 3, .mgmt, 1#32, by decide +kernel⟩,
   ⟨(wBase 3).wr F.ENG_CTRL_PLAN 1, by decide +kernel⟩⟩

theorem witness_HarnessGuardAndDischarge :
    (∃ (s : State) (ch fb : Nat),
      ch < 4 ∧ s.on .drv = true ∧ s.on .safe = true ∧ s.flag F.ENG_HARN_GUARD_EN = true ∧ s.guardTrips ch fb = true ∧
        s.buck.length = 4) ∧
    (∃ (s : State) (ch fb : Nat),
      ch < 4 ∧ s.on .drv = true ∧ s.flag F.ENG_HARN_GUARD_EN = true ∧ s.guardTrips ch fb = false ∧ s.mode ≠ Mode.dark) ∧
    (∃ (s : State) (ch fb : Nat),
      ch < 4 ∧ s.on .drv = true ∧ s.flag F.ENG_HARN_GUARD_EN = true ∧ s.guardTrips ch fb = false ∧ s.mode = Mode.dark ∧
        fb < 50 * s.rd F.ENG_HARN_GUARD_VTH) ∧
    (∃ (s : State) (ch fb u : Nat),
      ch < 4 ∧ s.buck.length = 4 ∧ (s.buckN ch).disch = some u ∧ fb < 1000) ∧
    (∃ (_s : State) (_ch fb : Nat),
      1000 ≤ fb) ∧
    (∃ (s : State) (ch u : Nat),
      ch < 4 ∧ s.on .safe = true ∧ s.buck.length = 4 ∧ (s.buckN ch).disch = some u ∧ u + 120000 ≤ s.now) :=
  ⟨⟨(((wBase 3).wr F.ENG_HARN_GUARD_EN 1).wr F.ENG_HARN_GUARD_VTH 100).wr (F.BUCK_STAT_STATE 2) 3, 2, 4999, by decide +kernel⟩,
   ⟨(((wBase 3).wr F.ENG_HARN_GUARD_EN 1).wr F.ENG_HARN_GUARD_VTH 100).wr (F.BUCK_STAT_STATE 2) 3, 2, 5000, by decide +kernel⟩,
   ⟨((wBase 5).wr F.ENG_HARN_GUARD_EN 1).wr F.ENG_HARN_GUARD_VTH 100, 2, 4999, by decide +kernel⟩,
   ⟨{ wBase 3 with buck := [{}, { disch := some 999940000 }, {}, {}] }, 1, 999, 999940000, by decide +kernel⟩,
   ⟨{ wBase 3 with buck := [{}, { disch := some 999940000 }, {}, {}] }, 1, 1000, by decide +kernel⟩,
   ⟨{ wBase 3 with buck := [{}, { disch := some 5 }, {}, {}] }, 1, 5, by decide +kernel⟩⟩

theorem witness_ThermalProtection :
    (∃ (s : State) (_x : ThermMeas),
      s.dueSince (s.ran.lookup Timer.thermal) s.thermalPeriod = true) ∧
    (∃ (s : State) (u : ThermStop),
      s.thm.stop = some u ∧ s.mode = Mode.run ∧ s.pwr.beamEnding = false ∧ u.since + 30000000 ≤ s.now) ∧
    (∃ (s : State) (u : ThermStop) (n : Nat),
      s.thm.stop = some u ∧ s.mode = Mode.run ∧ s.pwr.beamEnding = false ∧ s.now < u.since + 30000000 ∧ n < 4 ∧
        s.rd (F.BUCK_STAT_STATE n) = 3 ∧ 11 * strapRef s.pwr.strap < 10 * s.rd (F.BUCK_MEAS0_IAVG n)) ∧
    (∃ (s : State) (u : ThermStop),
      s.thm.stop = some u ∧ s.mode = Mode.run ∧ s.pwr.beamEnding = true) ∧
    (∃ (s : State) (sensor : Nat),
      sensor < 10 ∧ s.on .safe = true ∧ s.mode ≠ Mode.dormant ∧ s.mode ≠ Mode.dark) :=
  ⟨⟨wBase 3, ⟨[400, 401, 402, 403, 404, 405, 406, 407, 408, 900], [500000, 500000, 500000, 500000]⟩, by decide +kernel⟩,
   ⟨{ wBase 3 with thm := { stop := some ⟨5, 1⟩ } }, ⟨5, 1⟩, by decide +kernel⟩,
   ⟨{ ((wBase 3).wr (F.BUCK_STAT_STATE 0) 3).wr (F.BUCK_MEAS0_IAVG 0) 5000 with thm := { stop := some ⟨999999999, 1⟩ } },
     ⟨999999999, 1⟩, 0, by decide +kernel⟩,
   ⟨{ wBase 3 with thm := { stop := some ⟨5, 1⟩ }, pwr := { beamEnding := true } }, ⟨5, 1⟩, by decide +kernel⟩,
   ⟨wBase 3, 7, by decide +kernel⟩⟩

theorem witness_FlashProgramsAndSupplyLoss :
    (∃ (s : State) (v : Nat) (j : FlashJob) (rest : List FlashJob),
      s.on .mgmt = true ∧ s.on .drv = true ∧ s.flash.prog = none ∧ s.flash.deferred = none ∧ s.dict.storeDue = false ∧
        s.dict.deferring = false ∧ s.flash.jobs = j :: rest ∧ s.known .drv F.ENG_HOLD_C_UF ≠ 0 ∧
        s.known .drv F.ENG_HOLDMIN_MIN_UJ ≤ s.holdupEnergy v ∧ s.pwr.supplyLost = false ∧ s.flash.held = false) ∧
    (∃ (s : State) (v : Nat) (j : FlashJob) (rest : List FlashJob),
      s.on .mgmt = true ∧ s.on .drv = true ∧ s.flash.prog = none ∧ s.flash.deferred = none ∧ s.dict.storeDue = false ∧
        s.dict.deferring = false ∧ s.flash.jobs = j :: rest ∧ s.holdupEnergy v < s.known .drv F.ENG_HOLDMIN_MIN_UJ ∧
        s.pwr.sleep ≠ SleepStep.closing) ∧
    (∃ (s : State) (v : Nat) (j : FlashJob) (rest : List FlashJob) (u : Nat),
      s.on .mgmt = true ∧ s.on .drv = true ∧ s.flash.prog = none ∧ s.flash.deferred = some u ∧
        s.flash.checkedAt + 6000000 ≤ s.now ∧ s.flash.jobs = j :: rest ∧ s.known .drv F.ENG_HOLD_C_UF ≠ 0 ∧
        s.known .drv F.ENG_HOLDMIN_MIN_UJ ≤ s.holdupEnergy v ∧ s.pwr.supplyLost = false ∧ s.flash.held = false ∧
        s.dict.deferring = false) ∧
    (∃ (s : State) (v : Nat) (j : FlashJob) (rest : List FlashJob),
      s.on .mgmt = true ∧ s.on .drv = true ∧ s.flash.prog = none ∧ s.flash.deferred = none ∧ s.dict.storeDue = false ∧
        s.dict.deferring = false ∧ s.flash.jobs = j :: rest ∧ s.holdupEnergy v < s.known .drv F.ENG_HOLDMIN_MIN_UJ ∧
        s.pwr.sleep = SleepStep.closing) ∧
    (∃ (s : State) (p : SectorProg),
      s.flash.prog = some p ∧ p.page < 16 ∧ s.flash.cut = false ∧ p.data.length = 4096) ∧
    (∃ (s : State) (p : SectorProg) (j : FlashJob) (rest : List FlashJob),
      s.flash.prog = some p ∧ s.flash.jobs = j :: rest ∧ s.flash.cut = false ∧ j.index + 1 < sectorsFor j.payload.length) ∧
    (∃ (s : State) (p : SectorProg) (j : FlashJob) (rest : List FlashJob) (mv : Nat),
      s.flash.prog = some p ∧ s.flash.jobs = j :: rest ∧ s.flash.cut = false ∧ sectorsFor j.payload.length ≤ j.index + 1 ∧
        j.kind = .plan mv ∧ s.pwr.sleep ≠ SleepStep.closing) ∧
    (∃ (s : State) (v0 v1 : Nat) (p : SectorProg),
      s.flash.prog = some p ∧ s.supplyLow v0 v1 = true) ∧
    (∃ (s : State),
      s.on .mgmt = true ∧ s.brm.flashWait ≠ [] ∧ (s.flash.jobs.any fun j => j.mapId == faultLogId) = false) :=
  ⟨⟨{ ((wBase 3).wr F.ENG_HOLD_C_UF 1000).wr F.ENG_DIVH_RATIO 0xFFFFFF with flash := { jobs := [⟨.map 1, 0x02200000, 0x10, 1, [7, 8], 0, false⟩] } },
    30000000, ⟨.map 1, 0x02200000, 0x10, 1, [7, 8], 0, false⟩, [], by decide +kernel⟩,
   ⟨{ ((wBase 3).wr F.ENG_HOLD_C_UF 1000).wr F.ENG_DIVH_RATIO 0xFFFFFF with flash := { jobs := [⟨.map 1, 0x02200000, 0x10, 1, [7, 8], 0, false⟩] } },
     0, ⟨.map 1, 0x02200000, 0x10, 1, [7, 8], 0, false⟩, [], by decide +kernel⟩,
   ⟨{ { ((wBase 3).wr F.ENG_HOLD_C_UF 1000).wr F.ENG_DIVH_RATIO 0xFFFFFF with flash := { jobs := [⟨.map 1, 0x02200000, 0x10, 1, [7, 8], 0, false⟩] } } with flash := { jobs := [⟨.map 1, 0x02200000, 0x10, 1, [7, 8], 0, false⟩], deferred := some 5, checkedAt := 5 } },
     30000000, ⟨.map 1, 0x02200000, 0x10, 1, [7, 8], 0, false⟩, [], 5, by decide +kernel⟩,
   ⟨{ { ((wBase 3).wr F.ENG_HOLD_C_UF 1000).wr F.ENG_DIVH_RATIO 0xFFFFFF with flash := { jobs := [⟨.map 1, 0x02200000, 0x10, 1, [7, 8], 0, false⟩] } } with pwr := { pwrEn := true, sleep := .closing } },
     0, ⟨.map 1, 0x02200000, 0x10, 1, [7, 8], 0, false⟩, [], by decide +kernel⟩,
   ⟨{ wBase 3 with flash := { prog := some { at_ := 0, data := List.replicate 4096 5 } } },
     { at_ := 0, data := List.replicate 4096 5 }, rfl, by decide, rfl, List.length_replicate ..⟩,
   ⟨{ wBase 3 with flash := { prog := some { at_ := 0, data := [5, 6] }, jobs := [⟨.map 1, 0, 0x10, 1, List.replicate 5000 7, 0, false⟩] } },
     { at_ := 0, data := [5, 6] }, ⟨.map 1, 0, 0x10, 1, List.replicate 5000 7, 0, false⟩, [], rfl, rfl, rfl, test_two_sectors⟩,
   ⟨{ wBase 3 with flash := { prog := some { at_ := 0, data := [5, 6] }, jobs := [⟨.plan 790, 0, 0x50, 1, [7], 0, false⟩] } },
     { at_ := 0, data := [5, 6] }, ⟨.plan 790, 0, 0x50, 1, [7], 0, false⟩, [], 790, by decide +kernel⟩,
   ⟨{ (wBase 3).wr F.ENG_PFAIL_VTH_MV 6000 with flash := { prog := some { at_ := 0, data := [5] } } }, 0, 1200000,
     { at_ := 0, data := [5] }, by decide +kernel⟩,
   ⟨{ wBase 3 with brm := { flashWait := [[1, 2, 3, 4]] } }, by decide +kernel⟩⟩

theorem witness_MailboxChannels :
    (∃ (s : State) (m : Master) (n : Nat) (data : Word),
      n < 16 ∧ s.Accepts m (R.MBX_CH_CFG n + 0x04) data ∧ s.mbxError m n 0x04 = none ∧ 1 ≤ bitsOf data.toNat 6 0 ∧
        bitsOf data.toNat 6 0 ≤ 64 ∧ s.flag (F.MBX_CH_CFG_EN n) = true) ∧
    (∃ (s : State) (m : Master) (n : Nat) (data : Word),
      n < 16 ∧ s.Accepts m (R.MBX_CH_CFG n + 0x04) data ∧ s.mbxError m n 0x04 = none ∧ (s.flag (F.MBX_CH_CFG_EN n) = false ∨
        bitsOf data.toNat 6 0 = 0 ∨ 64 < bitsOf data.toNat 6 0)) ∧
    (∃ (s : State) (m : Master) (n : Nat) (data : Word),
      n < 16 ∧ s.mbx.rdseq.length = 16 ∧ s.Accepts m (R.MBX_CH_CFG n + 0x10) data ∧ s.mbxError m n 0x10 = none ∧
        bitAt data.toNat 0 = true ∧ s.flag (F.MBX_CH_STAT_FULL n) = true) ∧
    (∃ (s : State) (m : Master) (n : Nat) (data : Word),
      n < 16 ∧ s.Accepts m (R.MBX_CH_CFG n + 0x0C) data ∧ s.mbxError m n 0x0C = none ∧ s.flag (F.MBX_CH_STAT_FULL n) = true ∧
        bitsOf data.toNat 31 16 = s.rd (F.MBX_CH_STAT_SEQ n)) ∧
    (∃ (s : State) (m : Master) (n : Nat) (data : Word),
      n < 16 ∧ s.Accepts m (R.MBX_CH_CFG n + 0x0C) data ∧ s.mbxError m n 0x0C = none ∧ (s.flag (F.MBX_CH_STAT_FULL n) = false ∨
        bitsOf data.toNat 31 16 ≠ s.rd (F.MBX_CH_STAT_SEQ n))) ∧
    (∃ (s : State) (m : Master) (n : Nat) (data : Word),
      n < 16 ∧ s.Accepts m (R.MBX_CH_CFG n) data ∧ s.mbxError m n 0 = none) ∧
    (∃ (s : State) (data : Word),
      s.Accepts .hspi R.MBX_EPRST data ∧ bitAt data.toNat 2 = true) ∧
    (∃ (s : State),
      s.on .mgmt = true) ∧
    (∃ (s : State) (m : Master) (k : Nat),
      k < 32 ∧ s.Accepts m (R.SEM_LOCK k) 1#32) ∧
    (∃ (s : State) (k : Nat),
      k < 32 ∧ s.Accepts .island (R.SEM_LOCK k) 2#32) :=
  ⟨⟨((wBase 3).wr (F.MBX_CH_CFG_EN 3) 1).wr (F.MBX_CH_CFG_SENDER 3) 1, .mgmt, 3, 8#32, by decide +kernel⟩,
   ⟨(wBase 3).wr (F.MBX_CH_CFG_SENDER 3) 1, .mgmt, 3, 8#32, by decide +kernel⟩,
   ⟨((wBase 3).wr (F.MBX_CH_STAT_FULL 3) 1).wr (F.MBX_CH_CFG_RECEIVER 3) 1, .mgmt, 3, 1#32, by decide +kernel⟩,
   ⟨((wBase 3).wr (F.MBX_CH_STAT_FULL 3) 1).wr (F.MBX_CH_CFG_RECEIVER 3) 1, .mgmt, 3, 7#32, by decide +kernel⟩,
   ⟨(wBase 3).wr (F.MBX_CH_CFG_RECEIVER 3) 1, .mgmt, 3, 7#32, by decide +kernel⟩,
   ⟨wBase 3, .mgmt, 3, 0x21#32, by decide +kernel⟩,
   ⟨wBase 3, 4#32, by decide +kernel⟩,
   ⟨wBase 3, by decide +kernel⟩,
   ⟨(wBase 3).wr (F.SEM_LOCK_OWNER 5) 2, .mgmt, 5, by decide +kernel⟩,
   ⟨(wBase 3).wr (F.SEM_LOCK_OWNER 5) 2, 5, by decide +kernel⟩⟩

theorem witness_HardwareLocks :
    (∃ (s : State) (m : Master) (k : Nat),
      k < 32 ∧ s.regError m 4 false (R.SEM_LOCK k) = none ∧ s.lockOwner k = 0) ∧
    (∃ (s : State) (m : Master) (k : Nat),
      k < 32 ∧ s.regError m 4 false (R.SEM_LOCK k) = none ∧ s.lockOwner k ≠ 0) ∧
    (∃ (j i : Nat),
      j < 4 ∧ i < 8) :=
  ⟨⟨wBase 3, .mgmt, 5, by decide +kernel⟩,
   ⟨(wBase 3).wr (F.SEM_LOCK_OWNER 5) 1, .mgmt, 5, by decide +kernel⟩,
   ⟨3, 7, by decide +kernel⟩⟩

theorem witness_CheckValueUnits :
    (∃ (s : State) (m : Master) (n : Nat) (data : Word),
      n < 4 ∧ s.cvu.length = 4 ∧ (s.flag (F.CVU_CFG_LOCKED n) = false ∨ s.lockOwner (28 + n) = m.num + 1) ∧
        s.Accepts m (R.CVU_CTRL n) data ∧ bitAt data.toNat 0 = true ∧ (s.cvuN n).feeding = []) ∧
    (∃ (s : State) (m : Master) (n : Nat) (data : Word),
      n < 4 ∧ s.cvu.length = 4 ∧ (s.flag (F.CVU_CFG_LOCKED n) = false ∨ s.lockOwner (28 + n) = m.num + 1) ∧
        s.Accepts m (R.CVU_DIN8 n) data ∧ (s.cvuN n).feeding = []) ∧
    (∃ (s : State) (m : Master) (n : Nat) (data : Word),
      n < 4 ∧ s.cvu.length = 4 ∧ (s.flag (F.CVU_CFG_LOCKED n) = false ∨ s.lockOwner (28 + n) = m.num + 1) ∧
        s.Accepts m (R.CVU_DIN16 n) data ∧ (s.cvuN n).feeding = []) ∧
    (∃ (s : State) (m : Master) (n : Nat) (data : Word),
      n < 4 ∧ s.cvu.length = 4 ∧ (s.flag (F.CVU_CFG_LOCKED n) = false ∨ s.lockOwner (28 + n) = m.num + 1) ∧
        s.Accepts m (R.CVU_DIN32 n) data ∧ (s.cvuN n).feeding = []) ∧
    (∃ (s : State) (n : Nat),
      s.on .mgmt = true ∧ n < 4 ∧ s.cvu.length = 4 ∧ (s.cvuN n).feeding ≠ [] ∧ (s.cvuN n).held = []) ∧
    (∃ (s : State) (m : Master) (n : Nat) (data : Word),
      n < 4 ∧ s.cvu.length = 4 ∧ (s.flag (F.CVU_CFG_LOCKED n) = false ∨ s.lockOwner (28 + n) = m.num + 1) ∧
        s.Accepts m (R.CVU_RAW n) data ∧ (s.cvuN n).feeding = []) ∧
    (∃ (s : State) (m : Master) (n : Nat) (data : Word),
      n < 4 ∧ s.cvu.length = 4 ∧ (s.flag (F.CVU_CFG_LOCKED n) = false ∨ s.lockOwner (28 + n) = m.num + 1) ∧
        s.Accepts m (R.CVU_ALIVE n) data ∧ bitAt data.toNat 8 = true) ∧
    (∃ (s : State) (m : Master) (n : Nat) (data : Word),
      n < 4 ∧ s.cvu.length = 4 ∧ (s.flag (F.CVU_CFG_LOCKED n) = false ∨ s.lockOwner (28 + n) = m.num + 1) ∧
        s.Accepts m (R.CVU_ACHK n) data ∧ (s.cvuN n).first = false) ∧
    (∃ (s : State) (m : Master) (n : Nat) (data : Word),
      n < 4 ∧ s.cvu.length = 4 ∧ (s.flag (F.CVU_CFG_LOCKED n) = false ∨ s.lockOwner (28 + n) = m.num + 1) ∧
        s.Accepts m (R.CVU_ACFG n) data) ∧
    (∃ (s : State) (m : Master) (n : Nat) (data : Word),
      n < 4 ∧ s.Accepts m (R.CVU_DIN32 n) data ∧ s.flag (F.CVU_CFG_LOCKED n) = true ∧ s.lockOwner (28 + n) ≠ m.num + 1) :=
  ⟨⟨wBase 3, .mgmt, 1, 1#32, by decide +kernel⟩,
   ⟨wBase 3, .mgmt, 1, 0x55#32, by decide +kernel⟩,
   ⟨wBase 3, .mgmt, 1, 0x55#32, by decide +kernel⟩,
   ⟨wBase 3, .mgmt, 1, 0x55#32, by decide +kernel⟩,
   ⟨{ wBase 3 with cvu := [{}, { feeding := [0x31#8] }, {}, {}] }, 1, by decide +kernel⟩,
   ⟨wBase 3, .mgmt, 1, 0x55#32, by decide +kernel⟩,
   ⟨wBase 3, .mgmt, 1, 0x100#32, by decide +kernel⟩,
   ⟨{ wBase 3 with cvu := [{}, { first := false }, {}, {}] }, .mgmt, 1, 0x5#32, by decide +kernel⟩,
   ⟨wBase 3, .mgmt, 1, 0x4#32, by decide +kernel⟩,
   ⟨(wBase 3).wr (F.CVU_CFG_LOCKED 1) 1, .mgmt, 1, 0x4#32, by decide +kernel⟩⟩

theorem witness_FramesArriveAndAreRouted :
    (∃ (s : State) (f : EthFrame),
      (s.macOn f.mac = false ∨ f.sound = false ∨ s.addrAccepts f = false)) ∧
    (∃ (s : State) (f : EthFrame),
      s.macOn f.mac = true ∧ f.sound = true ∧ s.addrAccepts f = true ∧ f.queueFull = true) ∧
    (∃ (s : State) (f : EthFrame),
      s.macOn f.mac = true ∧ f.sound = true ∧ s.addrAccepts f = true ∧ f.queueFull = false ∧ s.classify f ≠ .dropped) :=
  ⟨⟨wBase 3, ⟨0, 0, true, 0, 100, false, .gptp⟩, by decide +kernel⟩,
   ⟨wMac, ⟨0, 0x0E0000C28001, true, 0, 100, true, .gptp⟩, by decide +kernel⟩,
   ⟨wMac, ⟨0, 0x0E0000C28001, true, 0, 100, false, .gptp⟩, by decide +kernel⟩⟩

theorem witness_VideoStreamsFillBuffers :
    (∃ (s : State) (p : RvfPacket),
      s.on .vin = true ∧ s.rvfAccepts p = true ∧ p.mac < 2 ∧ s.bitR R.VIN_CTRL p.mac = true ∧ s.streamOf p.streamId = none) ∧
    (∃ (s : State) (p : RvfPacket) (n : Nat),
      s.on .vin = true ∧ s.rvfAccepts p = true ∧ p.mac < 2 ∧ s.bitR R.VIN_CTRL p.mac = true ∧ s.streamOf p.streamId = some n ∧
        s.appliesNow (.stream n) = false ∧ s.rvfFits n p = false) ∧
    (∃ (s : State) (p : RvfPacket) (n k : Nat),
      s.on .vin = true ∧ s.rvfAccepts p = true ∧ p.mac < 2 ∧ s.bitR R.VIN_CTRL p.mac = true ∧ s.streamOf p.streamId = some n ∧
        s.vin.streams.length = 8 ∧ s.rvfFits n p = true ∧ (s.stream n).fill = none ∧ s.rvfLate n p = false ∧
        s.appliesNow (.stream n) = false ∧ s.freeBuf n = some k ∧ p.endOfFrame = false ∧
        s.strLine n ≤ 64 * s.app (F.VIN_STR_CFG_PITCH n)) ∧
    (∃ (s : State) (n k u : Nat) (rest : List (Nat × Nat)),
      n < 8 ∧ s.vin.streams.length = 8 ∧ s.on .vin = true ∧ (s.stream n).acks = (k, u) :: rest ∧ k < 4) ∧
    (∃ (s : State) (n k : Nat) (f : FillFrame),
      n < 8 ∧ s.vin.streams.length = 8 ∧ (s.stream n).fill = some f ∧ f.buf = some k ∧ k < 4 ∧
        f.since + 600000 * s.app (F.VIN_STR_CFG_TIMEOUT n) ≤ s.now) :=
  ⟨⟨(wMac.setN (R.NET_MAC_LO 0) 5).wr F.VIN_CTRL_E0_VID 1, ⟨0, 5, 0, true, true, 5, 0, 77, true, 4, 2, 8, 0, [1#8, 2#8, 3#8,
    4#8], false⟩, by decide +kernel⟩,
   ⟨wStream, { (⟨0, 5, 0, true, true, 5, 0, 77, true, 4, 2, 8, 0, [1#8, 2#8, 3#8, 4#8], false⟩ : RvfPacket) with width := 9 },
     1, by decide +kernel⟩,
   ⟨wStream, ⟨0, 5, 0, true, true, 5, 0, 77, true, 4, 2, 8, 0, [1#8, 2#8, 3#8, 4#8], false⟩, 1, 0, by decide +kernel⟩,
   ⟨{ wStream with vin := { streams := [{}, { acks := [(2, 77)] }, {}, {}, {}, {}, {}, {}] } }, 1, 2, 77, [],
     by decide +kernel⟩,
   ⟨{ wStream with vin := { streams := [{}, { fill := some { ptime := 7, since := 0, buf := some 2 } }, {}, {}, {}, {}, {}, {}] } },
     1, 2, { ptime := 7, since := 0, buf := some 2 }, by decide +kernel⟩⟩

theorem witness_OneObjectListWaits :
    (∃ (s : State) (d : OlDatagram),
      s.on .vin = true ∧ s.flag F.VIN_CTRL_OL_EN = true ∧ s.flag F.VIN_OLCFG_ENV = false ∧ s.udpOpen d.mac = true ∧
        s.vin.checking = none) ∧
    (∃ (s : State) (d : OlDatagram) (x : OlArrived),
      s.on .vin = true ∧ s.flag F.VIN_CTRL_OL_EN = true ∧ s.flag F.VIN_OLCFG_ENV = false ∧ s.udpOpen d.mac = true ∧
        s.vin.checking = some x ∧ s.vin.waiting = none) ∧
    (∃ (s : State) (d : OlDatagram) (x y : OlArrived),
      s.on .vin = true ∧ s.flag F.VIN_CTRL_OL_EN = true ∧ s.flag F.VIN_OLCFG_ENV = false ∧ s.udpOpen d.mac = true ∧
        s.vin.checking = some x ∧ s.vin.waiting = some y) ∧
    (∃ (s : State) (x : OlArrived),
      x = ⟨5, true, false, [], s.localTime⟩) :=
  ⟨⟨wUdp, ⟨0, 9, 5, 7, []⟩, by decide +kernel⟩,
   ⟨{ wUdp with vin := { checking := some ⟨5, true, false, [], 1⟩ } }, ⟨0, 9, 7, 7, []⟩, ⟨5, true, false, [], 1⟩,
     by decide +kernel⟩,
   ⟨{ wUdp with vin := { checking := some ⟨5, true, false, [], 1⟩, waiting := some ⟨6, true, false, [], 2⟩ } }, ⟨0, 9, 7, 7,
     []⟩, ⟨5, true, false, [], 1⟩, ⟨6, true, false, [], 2⟩, by decide +kernel⟩,
   ⟨wBase 3, ⟨5, true, false, [], (wBase 3).localTime⟩, by decide +kernel⟩⟩

theorem witness_ObjectListsAreParsed :
    (∃ (s : State) (x : OlArrived),
      s.on .vin = true ∧ s.vin.checking = some x ∧ s.listCheck x ≠ 0) ∧
    (∃ (s : State) (x : OlArrived),
      s.on .vin = true ∧ s.vin.checking = some x ∧ x.copy = true) ∧
    (∃ (s : State) (x : OlArrived),
      s.on .vin = true ∧ s.vin.checking = some x ∧ s.listCheck x = 0) ∧
    (∃ (s : State) (m : Master) (data : Word),
      s.Accepts m R.VIN_OLCFG data ∧ bitsOf data.toNat 15 0 ≠ 0 ∧ bitsOf data.toNat 15 0 ≠ 48620 ∧ 1 ≤ bitsOf data.toNat 22 16 ∧
        bitsOf data.toNat 22 16 ≤ 100) ∧
    (∃ (s : State) (m : Master) (data : Word),
      s.Accepts m R.VIN_OLCFG data ∧ (bitsOf data.toNat 15 0 = 48620 ∨ bitsOf data.toNat 15 0 = 0 ∨
        100 < bitsOf data.toNat 22 16 ∨ bitsOf data.toNat 22 16 = 0)) :=
  ⟨⟨{ wBase 3 with vin := { checking := some ⟨5, true, false, [], 1⟩ } }, ⟨5, true, false, [], 1⟩, by decide +kernel⟩,
   ⟨{ wBase 3 with vin := { checking := some ⟨5, true, true, [], 1⟩ } }, ⟨5, true, true, [], 1⟩, by decide +kernel⟩,
   ⟨wList, wListX, by decide +kernel⟩,
   ⟨wBase 3, .mgmt, 0x280100#32, by decide +kernel⟩,
   ⟨wBase 3, .mgmt, 0#32, by decide +kernel⟩⟩

theorem witness_NetworkTime :
    (∃ (s : State) (x : SyncMsg),
      s.macOn x.mac = true ∧ s.flag F.VIN_CTRL_GPTP_EN = true ∧ x.mac = s.rd F.VIN_CTRL_GPTP_PORT ∧ x.domain = 0 ∧
        10000 < ((s.localTime : Int) - ((x.origin + s.gptp.pdelay : Nat) : Int)).natAbs) ∧
    (∃ (s : State) (x : SyncMsg),
      s.macOn x.mac = true ∧ s.flag F.VIN_CTRL_GPTP_EN = true ∧ x.mac = s.rd F.VIN_CTRL_GPTP_PORT ∧ x.domain = 0 ∧
        ((s.localTime : Int) - ((x.origin + s.gptp.pdelay : Nat) : Int)).natAbs ≤ 1000 ∧ 7 ≤ s.gptp.good) ∧
    (∃ (s : State),
      s.macOn (s.rd F.VIN_CTRL_GPTP_PORT) = true ∧ s.flag F.VIN_CTRL_GPTP_EN = true ∧ s.held 2 = false) ∧
    (∃ (s : State) (_d : Nat),
      s.macOn (s.rd F.VIN_CTRL_GPTP_PORT) = true ∧ s.flag F.VIN_CTRL_GPTP_EN = true ∧
        s.dueSince s.gptp.pdelayAt (sec 1) = true ∧ s.held 2 = false) ∧
    (∃ (s : State) (_d : Nat),
      s.dueSince s.gptp.pdelayAt (sec 1) = false) ∧
    (∃ (s : State) (u : Nat),
      s.on .net = true ∧ s.rd F.VIN_TIMESTAT_STATE = 1 ∧ s.gptp.lastSync = some u ∧ u + 3 * cyclesOf s.gptp.interval ≤ s.now) ∧
    (∃ (s : State),
      s.on .net = true ∧ s.on .safe = true ∧ s.rd F.VIN_TIMESTAT_STATE = 2 ∧ 300000000 ≤ s.gptp.holdCount + s.holdSpan) :=
  ⟨⟨wMac, ⟨0, 0, 5, -3⟩, by decide +kernel⟩,
   ⟨{ (State.reset.wr F.PWR_DOMSTAT_ON 0xFFF).setN R.NET_CTRL 1 with gptp := { good := 7 } }, ⟨0, 0, 5, -3⟩, by decide +kernel⟩,
   ⟨wMac, by decide +kernel⟩,
   ⟨wMac, 90, by decide +kernel⟩,
   ⟨{ wBase 3 with gptp := { pdelayAt := some 500000000 } }, 90, by decide +kernel⟩,
   ⟨{ (wBase 3).wr F.VIN_TIMESTAT_STATE 1 with gptp := { lastSync := some 5 } }, 5, by decide +kernel⟩,
   ⟨{ (wBase 3).wr F.VIN_TIMESTAT_STATE 2 with gptp := { holdCount := 300000000 } }, by decide +kernel⟩⟩

theorem witness_ImuPort :
    (∃ (s : State),
      s.on .drv = true ∧ s.flag F.VIN_IMUCFG_EN = true ∧ s.rd F.VIN_IMUCFG_TRIG = 2 ∧
        s.imu.timerAt + 600 * s.rd F.VIN_IMUTIME_PERIOD ≤ s.now ∧ s.held 6 = false ∧ s.imu.busy = none) ∧
    (∃ (s : State) (u : Nat),
      s.on .drv = true ∧ s.flag F.VIN_IMUCFG_EN = true ∧ s.rd F.VIN_IMUCFG_TRIG = 0 ∧ s.imu.busy = some u) ∧
    (∃ (s : State) (resp : List Byte) (u : Nat),
      s.on .drv = true ∧ resp.length = s.rd F.VIN_IMUCFG_RSPLEN + 1 ∧ s.imu.busy = some u ∧
        ((s.applyGroup .imu).app F.VIN_IMUMAP_STAT_EN = 0 ∨
        ((resp.getD ((s.applyGroup .imu).app F.VIN_IMUMAP_STAT_OFS) 0).toNat &&& (s.applyGroup .imu).app F.VIN_IMUMAP_STAT_MASK)
        = (s.applyGroup .imu).app F.VIN_IMUMAP_STAT_MASK) ∧ (s.flag F.VIN_IMUCFG_STUCKCHK = false ∨ s.imu.same < 63) ∧
        ((s.applyGroup .imu).imuRate ((s.applyGroup .imu).imuWord resp ((s.applyGroup .imu).app F.VIN_IMUMAP_YAW_OFS))
        ((s.applyGroup .imu).app F.VIN_IMUMAP_YAW_NEG)).natAbs ≤ 327670 ∧
        ((s.applyGroup .imu).imuRate ((s.applyGroup .imu).imuWord resp ((s.applyGroup .imu).app F.VIN_IMUMAP_PITCH_OFS))
        ((s.applyGroup .imu).app F.VIN_IMUMAP_PITCH_NEG)).natAbs ≤ 327670) ∧
    (∃ (s : State) (resp : List Byte) (u : Nat),
      s.on .drv = true ∧ resp.length = s.rd F.VIN_IMUCFG_RSPLEN + 1 ∧ s.imu.busy = some u) ∧
    (∃ (s : State) (resp : List Byte) (_full : Bool),
      resp.length ≠ s.rd F.VIN_IMUCFG_RSPLEN + 1) ∧
    (∃ (s : State) (resp : List Byte) (u : Nat),
      s.on .drv = true ∧ resp.length = s.rd F.VIN_IMUCFG_RSPLEN + 1 ∧ s.imu.busy = some u ∧
        (s.flag F.VIN_IMUCFG_STUCKCHK = false ∨ s.imu.same < 63) ∧ ((s.applyGroup .imu).app F.VIN_IMUMAP_STAT_EN = 0 ∨
        ((resp.getD ((s.applyGroup .imu).app F.VIN_IMUMAP_STAT_OFS) 0).toNat &&& (s.applyGroup .imu).app F.VIN_IMUMAP_STAT_MASK)
        = (s.applyGroup .imu).app F.VIN_IMUMAP_STAT_MASK) ∧
        327670 < ((s.applyGroup .imu).imuRate ((s.applyGroup .imu).imuWord resp ((s.applyGroup .imu).app F.VIN_IMUMAP_YAW_OFS))
        ((s.applyGroup .imu).app F.VIN_IMUMAP_YAW_NEG)).natAbs) ∧
    (∃ (s : State) (u : Nat),
      s.on .drv = true ∧ s.on .safe = true ∧ s.flag F.VIN_IMUCFG_EN = true ∧ s.rd F.VIN_IMUSTAT_STATE ≠ 2 ∧
        s.imu.acceptedAt = some u ∧ u + 2400 * s.rd F.VIN_IMUTIME_PERIOD ≤ s.now) ∧
    (∃ (s : State) (m : Master) (data : Word),
      s.Accepts m R.VIN_IMUCFG data ∧ s.flag F.VIN_IMUCFG_EN = true ∧ bitAt data.toNat 0 = false) ∧
    (∃ (s : State) (m : Master) (data : Word),
      s.Accepts m R.VIN_IMUCFG data ∧ s.flag F.VIN_IMUCFG_EN = false ∧ bitsOf data.toNat 2 1 ≠ 3 ∧
        bitsOf data.toNat 22 16 ≤ 95 ∧ bitAt data.toNat 0 = true) :=
  ⟨⟨((wBase 3).wr F.VIN_IMUCFG_EN 1).wr F.VIN_IMUCFG_TRIG 2, by decide +kernel⟩,
   ⟨{ (wBase 3).wr F.VIN_IMUCFG_EN 1 with imu := { busy := some 5 } }, 5, by decide +kernel⟩,
   ⟨{ ((wBase 3).wr F.VIN_IMUCFG_EN 1).wr F.VIN_IMUCFG_RSPLEN 3 with imu := { busy := some 5 } }, [1#8, 2#8, 3#8, 4#8], 5,
     by decide +kernel⟩,
   ⟨{ ((wBase 3).wr F.VIN_IMUCFG_EN 1).wr F.VIN_IMUCFG_RSPLEN 3 with imu := { busy := some 5 } }, [1#8, 2#8, 3#8, 4#8], 5,
     by decide +kernel⟩,
   ⟨wBase 3, [], false, by decide +kernel⟩,
   ⟨{ (((wBase 3).wr F.VIN_IMUCFG_EN 1).wr F.VIN_IMUCFG_RSPLEN 3).setApp R.VIN_IMUSCALE 0x7FFFFFFF with imu := { busy := some 5 } },
     [1#8, 2#8, 3#8, 4#8], 5, by decide +kernel⟩,
   ⟨{ ((wBase 3).wr F.VIN_IMUCFG_EN 1).wr F.VIN_IMUSTAT_STATE 1 with imu := { acceptedAt := some 5 } }, 5, by decide +kernel⟩,
   ⟨(wBase 3).wr F.VIN_IMUCFG_EN 1, .mgmt, 0#32, by decide +kernel⟩,
   ⟨wBase 3, .mgmt, 0x3#32, by decide +kernel⟩⟩

theorem witness_BoundariesTakeTheirSheaf :
    (∃ (s : State) (n u : Nat),
      s.on .cmp = true ∧ s.cf.next = some (n, u) ∧ u ≤ s.now ∧ s.armedFor n = false ∧ s.cf.fallback = false) ∧
    (∃ (s : State) (n u : Nat),
      s.on .cmp = true ∧ s.cf.next = some (n, u) ∧ u ≤ s.now ∧ s.armedFor n = true ∧ s.rd F.LAY_TIMING_TM = s.tm ∧
        (s.rd F.LAY_TIMING_TM < 2 ∨ (s.oneLane = false ∧ s.cf.fallback = false))) ∧
    (∃ (s : State) (n u : Nat),
      s.on .cmp = true ∧ s.cf.next = some (n, u) ∧ u ≤ s.now ∧ s.armedFor n = true ∧ s.rd F.LAY_TIMING_TM ≠ s.tm ∧
        (s.rd F.LAY_TIMING_TM < 2 ∨ (s.oneLane = false ∧ s.cf.fallback = false))) ∧
    (∃ (s : State) (n u : Nat),
      s.on .cmp = true ∧ s.cf.next = some (n, u) ∧ u ≤ s.now ∧ s.armedFor n = true ∧ 2 ≤ s.rd F.LAY_TIMING_TM ∧
        (s.oneLane = true ∨ s.cf.fallback = true)) ∧
    (∃ (s : State) (n u : Nat),
      s.on .cmp = true ∧ s.cf.next = some (n, u) ∧ u ≤ s.now ∧ s.armedFor n = false ∧ s.cf.fallback = true ∧ s.tm = 2) ∧
    (∃ (s : State) (h : Hold),
      s.on .cmp = true ∧ s.cf.hold = some h ∧ h.until_ ≤ s.now) ∧
    (∃ (s : State) (u : Nat),
      s.cf.recordAt = some u) ∧
    (∃ (s : State) (u r : Nat),
      s.on .cmp = true ∧ s.cf.refDue = some (u, r) ∧ u ≤ s.now) ∧
    (∃ (s : State) (k : Nat),
      s.on .cmp = true ∧ s.cf.band = some k ∧ s.bandStart s.cf.refStart k ≤ s.now) :=
  ⟨⟨{ wBase 3 with cf := { next := some (7, 5) } }, 7, 5, by decide +kernel⟩,
   ⟨{ ((((wBase 3).wr F.LAY_SHEAFSTAT_STATE 2).wr F.LAY_TIMING_TM 1)) with cf := { next := some (7, 5), fallback := false }, sheaf := { tag := 9, target := 7 } },
     7, 5, by decide +kernel⟩,
   ⟨{ ((((wBase 3).wr F.LAY_SHEAFSTAT_STATE 2).wr F.LAY_TIMING_TM 2)) with cf := { next := some (7, 5), fallback := false }, sheaf := { tag := 9, target := 7 } },
     7, 5, by decide +kernel⟩,
   ⟨{ ((((wBase 3).wr F.LAY_SHEAFSTAT_STATE 2).wr F.LAY_TIMING_TM 2)) with cf := { next := some (7, 5), fallback := true }, sheaf := { tag := 9, target := 7 } },
     7, 5, by decide +kernel⟩,
   ⟨{ (wBase 3).setApp R.LAY_TIMING 2 with cf := { next := some (7, 5), fallback := true } }, 7, 5, by decide +kernel⟩,
   ⟨{ wBase 3 with cf := { hold := some { until_ := 5, cf := 7 } } }, { until_ := 5, cf := 7 }, by decide +kernel⟩,
   ⟨{ wBase 3 with cf := { recordAt := some 5 } }, 5, by decide +kernel⟩,
   ⟨{ wBase 3 with cf := { refDue := some (5, 0) } }, 5, 0, by decide +kernel⟩,
   ⟨{ wBase 3 with cf := { band := some 3, refStart := 5 } }, 3, by decide +kernel⟩⟩

theorem witness_SheavesAreArmedAndChecked :
    (∃ (s : State) (m : Master) (data : Word),
      s.Accepts m R.LAY_SHEAF data ∧ bitAt data.toNat 0 = true ∧ bitAt data.toNat 1 = false ∧ s.rd F.LAY_SHEAFSTAT_STATE = 0) ∧
    (∃ (s : State) (m : Master) (data : Word),
      s.Accepts m R.LAY_SHEAF data ∧ bitAt data.toNat 0 = true ∧ bitAt data.toNat 1 = false ∧ s.rd F.LAY_SHEAFSTAT_STATE ≠ 0) ∧
    (∃ (s : State) (n : Nat) (l : Layer),
      s.on .cmp = true ∧ s.rd F.LAY_SHEAFSTAT_STATE = 1 ∧ s.shadowLayers[n]? = some l ∧ l.en = true ∧ s.layerCause n l ≠ 0 ∧
        (∀ k, k < n → ((s.shadowLayers[k]?).all fun l => !l.en || s.layerCause k l == 0) = true)) ∧
    (∃ (s : State),
      s.on .cmp = true ∧ s.rd F.LAY_SHEAFSTAT_STATE = 1 ∧ (∀ k, k < 8 →
        ((s.shadowLayers[k]?).all fun l => !l.en || s.layerCause k l == 0) = true) ∧
        s.globalCause s.shadowLayers (minLeadOf (s.compCycles s.shadowLayers) s.compAct) ≠ 0) ∧
    (∃ (s : State) (n u : Nat),
      s.on .cmp = true ∧ s.rd F.LAY_SHEAFSTAT_STATE = 1 ∧ (∀ k, k < 8 →
        ((s.shadowLayers[k]?).all fun l => !l.en || s.layerCause k l == 0) = true) ∧
        s.globalCause s.shadowLayers (minLeadOf (s.compCycles s.shadowLayers) s.compAct) = 0 ∧ s.sheaf.b0 = some (n, u)) ∧
    (∃ (s : State),
      s.on .cmp = true ∧ s.rd F.LAY_SHEAFSTAT_STATE = 1 ∧ (∀ k, k < 8 →
        ((s.shadowLayers[k]?).all fun l => !l.en || s.layerCause k l == 0) = true) ∧
        s.globalCause s.shadowLayers (minLeadOf (s.compCycles s.shadowLayers) s.compAct) = 0 ∧ s.sheaf.b0 = none ∧
        s.cf.next = none) ∧
    (∃ (s : State) (m : Master) (data : Word),
      s.Accepts m R.LAY_SHEAF data ∧ bitAt data.toNat 0 = false ∧ bitAt data.toNat 1 = true) ∧
    (∃ (s : State) (m : Master) (data : Word),
      s.Accepts m R.LAY_SHEAF data ∧ bitAt data.toNat 0 = true ∧ bitAt data.toNat 1 = true) :=
  ⟨⟨wBase 3, .mgmt, 0x90001#32, by decide +kernel⟩,
   ⟨(wBase 3).wr F.LAY_SHEAFSTAT_STATE 1, .mgmt, 0x90001#32, by decide +kernel⟩,
   ⟨((wBase 3).wr F.LAY_SHEAFSTAT_STATE 1).wr (F.LAY_L_CTRL_EN 2) 1, 2, (((wBase 3).wr F.LAY_SHEAFSTAT_STATE 1).wr
     (F.LAY_L_CTRL_EN 2) 1).layerWith true 2 none, by decide +kernel⟩,
   ⟨((wBase 3).wr F.LAY_SHEAFSTAT_STATE 1).wr F.LAY_TIMING_LEAD_US 0, by decide +kernel⟩,
   ⟨{ (wBase 3).wr F.LAY_SHEAFSTAT_STATE 1 with cf := { next := some (7, 2000000000) }, sheaf := { armAt := 5, b0 := some (7, 2000000000) } },
     7, 2000000000, by decide +kernel⟩,
   ⟨(wBase 3).wr F.LAY_SHEAFSTAT_STATE 1, by decide +kernel⟩,
   ⟨{ ((((wBase 3).wr F.LAY_SHEAFSTAT_STATE 2).wr F.LAY_TIMING_TM 1)) with cf := { next := some (7, 5), fallback := false }, sheaf := { tag := 9, target := 7 } },
     .mgmt, 0x90002#32, by decide +kernel⟩,
   ⟨(wBase 3).wr F.LAY_SHEAFSTAT_STATE 1, .mgmt, 0x90003#32, by decide +kernel⟩⟩

theorem witness_FramesAreComposedBandByBand :
    (∃ (s : State),
      s.composerOn = true ∧ s.composing = none ∧ s.comp.frames.length < 2) ∧
    (∃ (s : State),
      (s.composerOn = false ∨ s.composing.isSome = true ∨ 2 ≤ s.comp.frames.length)) ∧
    (∃ (s : State) (f : Frame) (c : Nat) (_d : Bool),
      s.composerOn = true ∧ s.composing = some (f.num, c) ∧ s.compFrames.find? (fun (g : Frame) => g.num == f.num) = some f ∧
        f.bands.length = 32) :=
  ⟨⟨wBase 3, by decide +kernel⟩,
   ⟨(wBase 3).wr F.PWR_DOMSTAT_ON 0, by decide +kernel⟩,
   ⟨{ wBase 3 with comp := { frames := [{ num := 0 }], nextNum := 1 } }, { num := 0 }, 0, false, by decide +kernel⟩⟩

theorem witness_SymbolCache :
    (∃ (s : State) (m : Master) (data : Word),
      s.Accepts m R.CMP_SYMLOAD data ∧ s.flag F.CMP_SYMSTAT_BUSY = false ∧ popcount 3 (bitsOf data.toNat 10 8) ≤ 1 ∧
        bitAt data.toNat 8 = true ∧ s.symUnusable = false ∧ (bitsOf data.toNat 7 0) < s.rd F.LAY_SYMCFG_COUNT ∧
        (s.readDesc (bitsOf data.toNat 7 0)).ok = true ∧
        inUserDram (bufferRange (s.readDesc (bitsOf data.toNat 7 0)).addr (s.readDesc (bitsOf data.toNat 7 0)).pitch (s.readDesc
        (bitsOf data.toNat 7 0)).height) = true ∧
        s.comp.cache.any (fun (e : SymEntry) => e.desc == (s.readDesc (bitsOf data.toNat 7 0))) = false ∧
        s.comp.cache.length < 256 ∧
        (ceilDiv (lineSize (s.readDesc (bitsOf data.toNat 7 0)).width (s.readDesc (bitsOf data.toNat 7 0)).fmt * (s.readDesc
        (bitsOf data.toNat 7 0)).height) 1024) ≤ s.freeBlocks.length) ∧
    (∃ (s : State) (m : Master) (data : Word),
      s.Accepts m R.CMP_SYMLOAD data ∧ s.flag F.CMP_SYMSTAT_BUSY = false ∧ popcount 3 (bitsOf data.toNat 10 8) ≤ 1 ∧
        bitAt data.toNat 8 = true ∧ (s.symUnusable = true ∨ s.rd F.LAY_SYMCFG_COUNT ≤ (bitsOf data.toNat 7 0) ∨
        (s.readDesc (bitsOf data.toNat 7 0)).ok = false ∨
        inUserDram (bufferRange (s.readDesc (bitsOf data.toNat 7 0)).addr (s.readDesc (bitsOf data.toNat 7 0)).pitch (s.readDesc
        (bitsOf data.toNat 7 0)).height) = false ∨
        s.comp.cache.any (fun (e : SymEntry) => e.desc == (s.readDesc (bitsOf data.toNat 7 0))) = true ∨
        256 ≤ s.comp.cache.length ∨
        s.freeBlocks.length < (ceilDiv (lineSize (s.readDesc (bitsOf data.toNat 7 0)).width (s.readDesc (bitsOf data.toNat 7
        0)).fmt * (s.readDesc (bitsOf data.toNat 7 0)).height) 1024))) ∧
    (∃ (s : State) (m : Master) (data : Word),
      s.Accepts m R.CMP_SYMLOAD data ∧ s.flag F.CMP_SYMSTAT_BUSY = false ∧ popcount 3 (bitsOf data.toNat 10 8) ≤ 1 ∧
        bitAt data.toNat 9 = true ∧ s.symUnusable = false) ∧
    (∃ (s : State) (m : Master) (data : Word),
      s.Accepts m R.CMP_SYMLOAD data ∧ s.flag F.CMP_SYMSTAT_BUSY = false ∧ popcount 3 (bitsOf data.toNat 10 8) ≤ 1 ∧
        bitAt data.toNat 10 = true ∧ s.symUnusable = false) ∧
    (∃ (s : State) (m : Master) (data : Word),
      s.Accepts m R.CMP_SYMLOAD data ∧ s.flag F.CMP_SYMSTAT_BUSY = true) ∧
    (∃ (s : State) (m : Master) (data : Word),
      s.Accepts m R.CMP_SYMLOAD data ∧ s.flag F.CMP_SYMSTAT_BUSY = false ∧ 1 < popcount 3 (bitsOf data.toNat 10 8)) ∧
    (∃ (s : State) (k : Nat) (e : SymEntry),
      s.on .cmp = true ∧ s.on .mem = true ∧ s.comp.loading = some k ∧ s.comp.cache[k]? = some e) :=
  ⟨⟨wSym, .mgmt, 0x100#32, by decide +kernel⟩,
   ⟨wBase 3, .mgmt, 0x100#32, by decide +kernel⟩,
   ⟨wSym, .mgmt, 0x200#32, by decide +kernel⟩,
   ⟨wSym, .mgmt, 0x400#32, by decide +kernel⟩,
   ⟨wSym.wr F.CMP_SYMSTAT_BUSY 1, .mgmt, 0x100#32, by decide +kernel⟩,
   ⟨wSym, .mgmt, 0x300#32, by decide +kernel⟩,
   ⟨{ wSym with comp := { cache := [⟨0, wSym.readDesc 0, [3], false⟩], loading := some 0 } }, 0, ⟨0, wSym.readDesc 0, [3],
     false⟩, by decide +kernel⟩⟩

theorem witness_FrameCapture :
    (∃ (s : State) (m : Master) (data : Word),
      s.Accepts m R.CMP_CAPCTRL data ∧ bitAt data.toNat 0 = true ∧ s.rd F.CMP_CAPSTAT_STATE ≠ 1 ∧
        s.rd F.CMP_CAPSTAT_STATE ≠ 2) ∧
    (∃ (s : State) (m : Master) (data : Word),
      s.Accepts m R.CMP_CAPCTRL data ∧ bitAt data.toNat 0 = true ∧ bitAt data.toNat 1 = false ∧ (s.rd F.CMP_CAPSTAT_STATE = 1 ∨
        s.rd F.CMP_CAPSTAT_STATE = 2)) ∧
    (∃ (s : State) (m : Master) (data : Word),
      s.Accepts m R.CMP_CAPCTRL data ∧ bitAt data.toNat 1 = true ∧ (s.rd F.CMP_CAPSTAT_STATE = 1 ∨
        s.rd F.CMP_CAPSTAT_STATE = 2)) ∧
    (∃ (s : State) (m : Master) (data : Word),
      s.Accepts m R.CMP_CAPCTRL data ∧ bitAt data.toNat 0 = false ∧ bitAt data.toNat 1 = true ∧ s.rd F.CMP_CAPSTAT_STATE ≠ 1 ∧
        s.rd F.CMP_CAPSTAT_STATE ≠ 2) ∧
    (∃ (s : State) (m : Nat),
      s.on .cmp = true ∧ s.rd F.CMP_CAPSTAT_STATE = 2 ∧ s.comp.capFrame = some m) :=
  ⟨⟨(wBase 3).setN R.CMP_CAPADDR 0x82000000, .mgmt, 1#32, by decide +kernel⟩,
   ⟨(wBase 3).wr F.CMP_CAPSTAT_STATE 1, .mgmt, 1#32, by decide +kernel⟩,
   ⟨{ (wBase 3).wr F.CMP_CAPSTAT_STATE 1 with comp := { capAddr := 0x82000000 } }, .mgmt, 2#32, by decide +kernel⟩,
   ⟨wBase 3, .mgmt, 2#32, by decide +kernel⟩,
   ⟨{ (wBase 3).wr F.CMP_CAPSTAT_STATE 2 with comp := { capFrame := some 3, capAddr := 0x82000000 } }, 3, by decide +kernel⟩⟩

theorem witness_GlareMaskRenders :
    (∃ (s : State) (l : ObjList),
      s.on .gme = true ∧ s.gme.handed = some l) ∧
    (∃ (s : State) (k ref : Nat),
      s.on .gme = true ∧ s.cf.snap = some (k, ref) ∧ s.bandStart ref k ≤ s.now + 138000) ∧
    (∃ (s : State) (k ref : Nat),
      s.on .gme = false ∧ s.cf.snap = some (k, ref) ∧ s.bandStart ref k ≤ s.now + 138000) ∧
    (∃ (s : State) (k ref : Nat),
      s.on .gme = true ∧ s.on .safe = true ∧ s.cf.snap = some (k, ref) ∧ s.bandStart ref k ≤ s.now + 138000 ∧
        s.lv (s.viewOf ref k).armed F.GME_CTRL_EN = 1 ∧ s.bistBad 7 = false ∧ s.gme.glare = .shown ∧
        (s.listAge (s.viewOf ref k).tk).all (fun (x : Int) => decide (200000000 < x)) = true) ∧
    (∃ (s : State) (_d : Bool) (_ecc : GmeEcc) (i : Nat),
      s.on .gme = true ∧ s.gme.renders.findIdx? (fun (r : Render) => !r.done) = some i) :=
  ⟨⟨{ wBase 3 with gme := { handed := some { seq := 4, arrival := 0, objs := [], handed := 0 } } },
    { seq := 4, arrival := 0, objs := [], handed := 0 }, by decide +kernel⟩,
   ⟨{ wBase 3 with cf := { snap := some (3, 5) } }, 3, 5, by decide +kernel⟩,
   ⟨{ (wBase 3).wr F.PWR_DOMSTAT_ON 0 with cf := { snap := some (3, 5) } }, 3, 5, by decide +kernel⟩,
   ⟨{ (wBase 3).setApp R.GME_CTRL 1 with cf := { snap := some (3, 5) }, gme := { lastArrival := some 0 } }, 3, 5,
     by decide +kernel⟩,
   ⟨{ wBase 3 with gme := { renders := [{ band := 2, ref := 5, snapAt := 1 }] } }, false, .uncorrectable, 0, by decide +kernel⟩⟩

theorem witness_ScanOutStages :
    (∃ (s : State) (k ref : Nat) (_r : Bool) (_x : RowInput),
      s.on .scn = true ∧ s.cf.latch = some (k, ref) ∧ s.bandStart ref k ≤ s.now + 6000) ∧
    (∃ (s : State) (k ref : Nat) (_r : Bool) (_x : RowInput),
      s.on .scn = true ∧ s.cf.latch = some (k, ref) ∧ s.bandStart ref k ≤ s.now + 6000 ∧ (s.scn.rows = false ∨
        s.cf.hold.isSome = true)) ∧
    (∃ (s : State) (k ref : Nat) (_r : Bool) (_x : RowInput) (tiles : List TileMaps),
      s.on .scn = true ∧ s.cf.latch = some (k, ref) ∧ s.bandStart ref k ≤ s.now + 6000 ∧ s.scn.staged.lookup k = some tiles ∧
        tiles.length = 4) ∧
    (∃ (s : State) (k ref : Nat) (_r : Bool) (_x : RowInput) (y : Render),
      s.on .scn = true ∧ s.cf.latch = some (k, ref) ∧ s.bandStart ref k ≤ s.now + 6000 ∧ s.on .gme = true ∧
        s.lv (s.armedFor (s.frameAt ref)) F.GME_CTRL_EN = 1 ∧ s.bistBad 7 = false ∧
        s.gme.renders.find? (fun (z : Render) => z.band = k && z.ref = ref) = some y ∧ y.unity = false ∧ y.done = true ∧
        y.bad = false) ∧
    (∃ (s : State) (k ref : Nat) (_r : Bool) (_x : RowInput),
      s.on .scn = true ∧ s.cf.latch = some (k, ref) ∧ s.bandStart ref k ≤ s.now + 6000 ∧ s.on .gme = true ∧
        s.lv (s.armedFor (s.frameAt ref)) F.GME_CTRL_EN = 1 ∧ s.bistBad 7 = false ∧
        s.gme.renders.find? (fun (z : Render) => z.band = k && z.ref = ref) = none) ∧
    (∃ (s : State) (m c : Nat),
      s.on .scn = true ∧ s.on .mem = true ∧ s.scn.copies.length = 2 ∧ s.fillNext = some (m, c)) ∧
    (∃ (s : State) (k r : Nat) (_x : RowInput) (_bad : List GleanSeen),
      s.on .scn = true ∧ s.cf.row = some (k, r) ∧ s.bandStart s.cf.refStart k + r * rowPitch s.tm ≤ s.now) ∧
    (∃ (s : State),
      s.on .scn = true ∧ s.cf.blank = true ∧ s.blankTime ≤ s.now) ∧
    (∃ (s : State) (q : ClampTable) (rest : List ClampTable) (e : Option ClampTable),
      s.on .scn = true ∧ s.saf.clampOut = q :: rest ∧ crc16 (e.getD q).words = (e.getD q).check) ∧
    (∃ (s : State) (q : ClampTable) (rest : List ClampTable) (e : Option ClampTable),
      s.on .scn = true ∧ s.on .safe = true ∧ s.saf.clampOut = q :: rest ∧ crc16 (e.getD q).words ≠ (e.getD q).check) :=
  ⟨⟨{ wBase 3 with cf := { latch := some (3, 5) } }, 3, 5, false, ⟨0, []⟩, by decide +kernel⟩,
   ⟨{ wBase 3 with cf := { latch := some (3, 5) } }, 3, 5, false, ⟨0, []⟩, by decide +kernel⟩,
   ⟨{ wBase 3 with cf := { latch := some (3, 5) }, scn := { staged := [(3, List.replicate 4 { group := (600000, 0, 0), gain := [5], defs := [] })] } },
     3, 5, true, ⟨0, []⟩, List.replicate 4 { group := (600000, 0, 0), gain := [5], defs := [] }, by decide +kernel⟩,
   ⟨{ (wBase 3).setApp R.GME_CTRL 1 with cf := { latch := some (3, 5) }, gme := { renders := [{ band := 3, ref := 5, snapAt := 1, done := true }] } },
     3, 5, true, ⟨0, []⟩, { band := 3, ref := 5, snapAt := 1, done := true }, by decide +kernel⟩,
   ⟨{ (wBase 3).setApp R.GME_CTRL 1 with cf := { latch := some (3, 5) } }, 3, 5, true, ⟨0, []⟩, by decide +kernel⟩,
   ⟨{ wBase 3 with comp := { frames := [{ num := 0, bands := some false :: List.replicate 31 none }], nextNum := 1 } }, 0, 0,
     by decide +kernel⟩,
   ⟨{ wBase 3 with cf := { row := some (3, 4), refStart := 5 }, scn := { rows := true, row := some (3, 4, []) } }, 3, 4, ⟨0,
     []⟩, [], by decide +kernel⟩,
   ⟨{ wBase 3 with cf := { blank := true, refStart := 5, cur := some 4, refresh := 1 } }, by decide +kernel⟩,
   ⟨{ wBase 3 with saf := { clampOut := [{ check := crc16 (ClampTable.words {}) }] } },
     { check := crc16 (ClampTable.words {}) }, [], none, by decide +kernel, rfl, test_table_check⟩,
   ⟨{ wBase 3 with saf := { clampOut := [{ check := 65536 }] } }, { check := 65536 }, [], none, by decide +kernel,
     by decide +kernel, rfl, Nat.ne_of_lt (crc16_lt _)⟩⟩

theorem witness_PortsTrain_1 :
    (∃ (s : State) (p : Nat),
      p < 4 ∧ s.on (portDom p) = true ∧ s.mayTrain p = true ∧ s.flag (F.LNK_CTRL_EN p) = true ∧ s.link.length = 4) ∧
    (∃ (s : State) (p : Nat),
      p < 4 ∧ s.on (portDom p) = true ∧ s.rd (F.LNK_STATE_STATE p) = 1) ∧
    (∃ (s : State) (p : Nat) (line : List LineBlock),
      p < 4 ∧ s.on (portDom p) = true ∧ s.link.length = 4 ∧ s.rd (F.LNK_STATE_STATE p) = 2 ∧
        commaLocked (s.upBlocks p line) = true) ∧
    (∃ (s : State) (p : Nat) (line : List LineBlock),
      p < 4 ∧ s.on (portDom p) = true ∧ commaLocked (s.upBlocks p line) = false) ∧
    (∃ (s : State) (p : Nat) (line : List LineBlock) (b : TrainBlock),
      p < 4 ∧ s.on (portDom p) = true ∧ s.held (portPads p) = false ∧ s.rd (F.LNK_STATE_STATE p) = 3 ∧ s.link.length = 4 ∧
        upTrains (s.upBlocks p line) = [b] ∧ (b.dn0 = true ∨ bitAt (s.port p).locked 0 = true) ∧ ((s.port p).bonded = false ∨
        b.dn1 = true ∨ bitAt (s.port p).locked 1 = true)) ∧
    (∃ (s : State) (p : Nat) (line : List LineBlock) (b : TrainBlock),
      p < 4 ∧ s.on (portDom p) = true ∧ s.held (portPads p) = false ∧ s.link.length = 4 ∧ s.rd (F.LNK_STATE_STATE p) = 4 ∧
        upTrains (s.upBlocks p line) = [b] ∧ b.deskewed = true) ∧
    (∃ (s : State) (p : Nat) (line : List LineBlock) (b : TrainBlock),
      p < 4 ∧ s.on (portDom p) = true ∧ s.rd (F.LNK_STATE_STATE p) = 6 ∧ upTrains (s.upBlocks p line) = [b] ∧
        b.accepted = true ∧ s.link.length = 4) ∧
    (∃ (s : State) (p : Nat),
      p < 4 ∧ s.on (portDom p) = true ∧ 1 ≤ s.rd (F.LNK_STATE_STATE p) ∧ s.rd (F.LNK_STATE_STATE p) ≤ 6 ∧
        s.since (s.port p).since (msec (trainLimit (s.rd (F.LNK_STATE_STATE p)))) = true ∧ (s.rd (F.LNK_STATE_STATE p) ≠ 3 ∨
        (s.port p).bonded = false ∨ bitAt (s.port p).locked 0 = false) ∧ s.mode ≠ .prepare) ∧
    (∃ (s : State) (p : Nat),
      p < 4 ∧ s.on (portDom p) = true ∧ 1 ≤ s.rd (F.LNK_STATE_STATE p) ∧ s.rd (F.LNK_STATE_STATE p) ≤ 6 ∧
        s.since (s.port p).since (msec (trainLimit (s.rd (F.LNK_STATE_STATE p)))) = true ∧ (s.rd (F.LNK_STATE_STATE p) ≠ 3 ∨
        (s.port p).bonded = false ∨ bitAt (s.port p).locked 0 = false) ∧ s.mode = .prepare ∧ s.flag (F.LNK_CTRL_EN p) = true) ∧
    (∃ (s : State) (p : Nat),
      p < 4 ∧ s.on (portDom p) = true ∧ s.rd (F.LNK_STATE_STATE p) = 3 ∧ s.link.length = 4 ∧
        s.since (s.port p).since (msec 6) = true ∧ (s.port p).bonded = true ∧ bitAt (s.port p).locked 0 = true ∧
        s.on .safe = true ∧ s.held (portPads p) = false) :=
  ⟨⟨((((wBase 3).wr (F.LNK_STATE_STATE 1) 0).wr (F.LNK_CTRL_EN 1) 1).wr (F.LNK_STATE_LANEMAP 1) 3), 1, by decide +kernel⟩,
   ⟨((((wBase 3).wr (F.LNK_STATE_STATE 1) 1).wr (F.LNK_CTRL_EN 1) 1).wr (F.LNK_STATE_LANEMAP 1) 3), 1, by decide +kernel⟩,
   ⟨((((wBase 3).wr (F.LNK_STATE_STATE 1) 2).wr (F.LNK_CTRL_EN 1) 1).wr (F.LNK_STATE_LANEMAP 1) 3), 1, scrambledAll (({} :
     LinkSt).upReg) (List.replicate 4 commaBlock), by decide +kernel⟩,
   ⟨((((wBase 3).wr (F.LNK_STATE_STATE 1) 2).wr (F.LNK_CTRL_EN 1) 1).wr (F.LNK_STATE_LANEMAP 1) 3), 1, scrambledAll (({} :
     LinkSt).upReg) (List.replicate 3 commaBlock), by decide +kernel⟩,
   ⟨{ ((((wBase 3).wr (F.LNK_STATE_STATE 1) 3).wr (F.LNK_CTRL_EN 1) 1).wr (F.LNK_STATE_LANEMAP 1) 3) with link := [{}, { bonded := true }, {}, {}] },
     1, scrambledAll (({} : LinkSt).upReg) ([⟨true, [0x2D#8, 3#8, 3#8, 0#8, 0#8, 0#8, 0#8, 0#8]⟩]), ⟨3, true, true, false,
     false⟩, by decide +kernel⟩,
   ⟨((((wBase 3).wr (F.LNK_STATE_STATE 1) 4).wr (F.LNK_CTRL_EN 1) 1).wr (F.LNK_STATE_LANEMAP 1) 3), 1, scrambledAll (({} :
     LinkSt).upReg) ([⟨true, [0x2D#8, 4#8, 7#8, 0#8, 0#8, 0#8, 0#8, 0#8]⟩]), ⟨4, true, true, true, false⟩, by decide +kernel⟩,
   ⟨((((wBase 3).wr (F.LNK_STATE_STATE 1) 6).wr (F.LNK_CTRL_EN 1) 1).wr (F.LNK_STATE_LANEMAP 1) 3), 1, scrambledAll (({} :
     LinkSt).upReg) ([⟨true, [0x2D#8, 6#8, 15#8, 0#8, 0#8, 0#8, 0#8, 0#8]⟩]), ⟨6, true, true, true, true⟩, by decide +kernel⟩,
   ⟨((((wBase 3).wr (F.LNK_STATE_STATE 1) 2).wr (F.LNK_CTRL_EN 1) 1).wr (F.LNK_STATE_LANEMAP 1) 3), 1, by decide +kernel⟩,
   ⟨((((wBase 2).wr (F.LNK_STATE_STATE 1) 2).wr (F.LNK_CTRL_EN 1) 1).wr (F.LNK_STATE_LANEMAP 1) 3), 1, by decide +kernel⟩,
   ⟨{ ((((wBase 3).wr (F.LNK_STATE_STATE 1) 3).wr (F.LNK_CTRL_EN 1) 1).wr (F.LNK_STATE_LANEMAP 1) 3) with link := [{}, { bonded := true, locked := 1 }, {}, {}] },
     1, by decide +kernel⟩⟩

theorem witness_PortsTrain_2 :
    (∃ (s : State) (p : Nat) (line : List LineBlock) (r : UpRecord),
      p < 4 ∧ s.on (portDom p) = true ∧ s.rd (F.LNK_STATE_STATE p) = 5 ∧ s.upRecord p ⟨line, false⟩ = some r ∧ r.good = true ∧
        r.kind = 5 ∧ s.identCause p r.ident = 0) ∧
    (∃ (s : State) (p : Nat) (line : List LineBlock) (r : UpRecord),
      p < 4 ∧ s.on (portDom p) = true ∧ s.rd (F.LNK_STATE_STATE p) = 5 ∧ s.upRecord p ⟨line, false⟩ = some r ∧ r.good = true ∧
        r.kind = 5 ∧ s.identCause p r.ident ≠ 0 ∧ s.on .safe = true) :=
  ⟨⟨((((wBase 3).wr (F.LNK_STATE_STATE 1) 5).wr (F.LNK_CTRL_EN 1) 1).wr (F.LNK_STATE_LANEMAP 1) 3), 1, wUp 5 0 0 0 ([0x12#8,
    5#8, 1#8, 7#8, 0#8, 0#8, 0#8, 0#8, 3#8, 0#8, 0#8, 0#8, 0#8, 0#8, 0#8, 0#8, 4#8, 0#8, 0#8, 0#8, 0#8, 0#8, 0#8, 0#8]), ⟨5, 0,
    0, 0, [0x12#8, 5#8, 1#8, 7#8, 0#8, 0#8, 0#8, 0#8, 3#8, 0#8, 0#8, 0#8, 0#8, 0#8, 0#8, 0#8, 4#8, 0#8, 0#8, 0#8, 0#8, 0#8, 0#8,
    0#8], true⟩, by decide +kernel⟩,
   ⟨((((wBase 3).wr (F.LNK_STATE_STATE 1) 5).wr (F.LNK_CTRL_EN 1) 1).wr (F.LNK_STATE_LANEMAP 1) 3), 1, wUp 5 0 0 0 ([7#8, 0#8,
     1#8, 7#8, 0#8, 0#8, 0#8, 0#8, 3#8, 0#8, 0#8, 0#8, 0#8, 0#8, 0#8, 0#8, 4#8, 0#8, 0#8, 0#8, 0#8, 0#8, 0#8, 0#8]), ⟨5, 0, 0,
     0, [7#8, 0#8, 1#8, 7#8, 0#8, 0#8, 0#8, 0#8, 3#8, 0#8, 0#8, 0#8, 0#8, 0#8, 0#8, 0#8, 4#8, 0#8, 0#8, 0#8, 0#8, 0#8, 0#8,
     0#8], true⟩, by decide +kernel⟩⟩

theorem witness_PortsComeAndGo_1 :
    (∃ (s : State) (m : Master) (p : Nat) (data : Word),
      p < 4 ∧ s.on (portDom p) = true ∧ s.link.length = 4 ∧ s.Accepts m (R.LNK_CTRL p) data ∧ s.flag (F.LNK_CTRL_EN p) = false ∧
        bitAt data.toNat 0 = true) ∧
    (∃ (s : State) (m : Master) (p : Nat) (data : Word),
      p < 4 ∧ s.on (portDom p) = true ∧ s.Accepts m (R.LNK_CTRL p) data ∧ s.flag (F.LNK_CTRL_EN p) = true ∧
        bitAt data.toNat 0 = false) ∧
    (∃ (s : State) (m : Master) (p : Nat) (data : Word),
      p < 4 ∧ s.on (portDom p) = true ∧ s.link.length = 4 ∧ s.Accepts m (R.LNK_CTRL p) data ∧ s.flag (F.LNK_CTRL_EN p) = true ∧
        bitAt data.toNat 0 = true ∧ bitAt data.toNat 4 = false) ∧
    (∃ (s : State) (m : Master) (p : Nat) (data : Word),
      p < 4 ∧ s.on (portDom p) = true ∧ s.link.length = 4 ∧ s.Accepts m (R.LNK_CTRL p) data ∧ s.flag (F.LNK_CTRL_EN p) = true ∧
        bitAt data.toNat 0 = true ∧ bitAt data.toNat 4 = true ∧ (s.mode = .standby ∨ s.rd (F.LNK_STATE_STATE p) = 9)) ∧
    (∃ (s : State) (p : Nat),
      p < 4 ∧ s.on (portDom p) = true ∧ s.link.length = 4 ∧ s.flag (F.LNK_CTRL_EN p) = true ∧ s.rd (F.LNK_STATE_STATE p) = 9 ∧
        s.rd (F.LNK_CTRL_RETRY_MS p) ≠ 0 ∧ s.since (s.port p).since (msec (s.rd (F.LNK_CTRL_RETRY_MS p))) = true) ∧
    (∃ (s : State) (p : Nat) (_line : List LineBlock) (a : Nat),
      p < 4 ∧ s.on (portDom p) = true ∧ s.portUp p = true ∧ s.on .safe = true ∧ s.mode ≠ .prepare ∧
        (s.port p).upLocked = false ∧ (s.port p).upLostAt = some a ∧ a + msec 1 ≤ s.now) ∧
    (∃ (s : State) (p : Nat) (line : List LineBlock),
      p < 4 ∧ s.on (portDom p) = true ∧ s.link.length = 4 ∧ (s.port p).upLocked = true ∧
        lockLost ((s.upBlocks p line).map Option.isNone) = true) ∧
    (∃ (s : State) (p : Nat) (before record after : List LineBlock) (r : UpRecord),
      p < 4 ∧ s.portUp p = true ∧ s.on .safe = true ∧ s.on (portDom p) = true ∧ s.mode ≠ .prepare ∧
        s.upRecord p ⟨before ++ record ++ after, false⟩ = some r ∧ r.good = true ∧ r.kind = 6 ∧ bitAt r.info 0 = true ∧
        bitAt r.info 1 = true ∧ bitAt r.info 2 = false ∧ s.rd (F.LNK_STATE_LANEMAP p) ≠ 0) ∧
    (∃ (s : State) (p l : Nat) (before record after : List LineBlock) (r : UpRecord),
      p < 4 ∧ s.on (portDom p) = true ∧ l < 2 ∧ s.portUp p = true ∧ s.on .safe = true ∧ s.rd (F.LNK_STATE_LANEMAP p) = 3 ∧
        s.link.length = 4 ∧ s.upRecord p ⟨before ++ record ++ after, false⟩ = some r ∧ r.good = true ∧ r.kind = 6 ∧
        r.info = 2 ^ l) ∧
    (∃ (s : State) (p : Nat) (before record after : List LineBlock) (r : UpRecord),
      p < 4 ∧ s.on (portDom p) = true ∧ s.mode = .run ∧ s.thm.stop = none ∧ s.pwr.beamEnding = false ∧ s.on .safe = true ∧
        s.upRecord p ⟨before ++ record ++ after, false⟩ = some r ∧ r.good = true ∧ r.kind = 6 ∧ r.info = 4) :=
  ⟨⟨wBase 3, .mgmt, 1, 0x1#32, by decide +kernel⟩,
   ⟨((((wBase 3).wr (F.LNK_STATE_STATE 1) 7).wr (F.LNK_CTRL_EN 1) 1).wr (F.LNK_STATE_LANEMAP 1) 3), .mgmt, 1, 0x0#32,
     by decide +kernel⟩,
   ⟨((((wBase 3).wr (F.LNK_STATE_STATE 1) 7).wr (F.LNK_CTRL_EN 1) 1).wr (F.LNK_STATE_LANEMAP 1) 3), .mgmt, 1, 0x9#32,
     by decide +kernel⟩,
   ⟨((((wBase 3).wr (F.LNK_STATE_STATE 1) 9).wr (F.LNK_CTRL_EN 1) 1).wr (F.LNK_STATE_LANEMAP 1) 3), .mgmt, 1, 0x11#32,
     by decide +kernel⟩,
   ⟨((((wBase 3).wr (F.LNK_STATE_STATE 1) 9).wr (F.LNK_CTRL_EN 1) 1).wr (F.LNK_STATE_LANEMAP 1) 3), 1, by decide +kernel⟩,
   ⟨{ ((((wBase 3).wr (F.LNK_STATE_STATE 1) 8).wr (F.LNK_CTRL_EN 1) 1).wr (F.LNK_STATE_LANEMAP 1) 3) with link := [{}, { upLostAt := some 5 }, {}, {}] },
     1, [], 5, by decide +kernel⟩,
   ⟨{ ((((wBase 3).wr (F.LNK_STATE_STATE 1) 8).wr (F.LNK_CTRL_EN 1) 1).wr (F.LNK_STATE_LANEMAP 1) 3) with link := [{}, { upLocked := true }, {}, {}] },
     1, List.replicate 16 ⟨0, []⟩, by decide +kernel⟩,
   ⟨((((wBase 3).wr (F.LNK_STATE_STATE 1) 8).wr (F.LNK_CTRL_EN 1) 1).wr (F.LNK_STATE_LANEMAP 1) 3), 1, [], wUp 6 0 0 3 ([]), [],
     ⟨6, 0, 0, 3, [], true⟩, by decide +kernel⟩,
   ⟨((((wBase 3).wr (F.LNK_STATE_STATE 1) 8).wr (F.LNK_CTRL_EN 1) 1).wr (F.LNK_STATE_LANEMAP 1) 3), 1, 1, [], wUp 6 0 0 2 ([]),
     [], ⟨6, 0, 0, 2, [], true⟩, by decide +kernel⟩,
   ⟨((((wBase 3).wr (F.LNK_STATE_STATE 1) 8).wr (F.LNK_CTRL_EN 1) 1).wr (F.LNK_STATE_LANEMAP 1) 3), 1, [], wUp 6 0 0 4 ([]), [],
     ⟨6, 0, 0, 4, [], true⟩, by decide +kernel⟩⟩

theorem witness_PortsComeAndGo_2 :
    (∃ (s : State) (p l : Nat) (h0 h1 : List Nat),
      p < 4 ∧ l < 2 ∧ s.portUp p = true ∧ s.on .safe = true ∧ s.rd (F.LNK_STATE_LANEMAP p) = 3 ∧
        lockLost (h0.map badHeader) = (l == 0) ∧ lockLost (h1.map badHeader) = (l == 1)) ∧
    (∃ (s : State) (p l : Nat) (h0 h1 : List Nat),
      p < 4 ∧ l < 2 ∧ s.portUp p = true ∧ s.on .safe = true ∧ s.rd (F.LNK_STATE_LANEMAP p) = 2 ^ l ∧ s.link.length = 4 ∧
        lockLost ((if l = 0 then h0 else h1).map badHeader) = true) ∧
    (∃ (s : State) (p : Nat) (h0 h1 : List Nat),
      p < 4 ∧ s.portUp p = true ∧ s.on .safe = true ∧ s.rd (F.LNK_STATE_LANEMAP p) = 3 ∧ s.link.length = 4 ∧
        lockLost (h0.map badHeader) = true ∧ lockLost (h1.map badHeader) = true) ∧
    (∃ (s : State) (p : Nat),
      p < 4 ∧ s.on (portDom p) = true ∧ s.link.length = 4 ∧ s.on .safe = true ∧ s.mode ≠ .prepare) :=
  ⟨⟨((((wBase 3).wr (F.LNK_STATE_STATE 1) 8).wr (F.LNK_CTRL_EN 1) 1).wr (F.LNK_STATE_LANEMAP 1) 3), 1, 1, [], List.replicate 16
    3, by decide +kernel⟩,
   ⟨((((wBase 3).wr (F.LNK_STATE_STATE 1) 8).wr (F.LNK_CTRL_EN 1) 1).wr (F.LNK_STATE_LANEMAP 1) 1), 1, 0, List.replicate 16 3,
     [], by decide +kernel⟩,
   ⟨((((wBase 3).wr (F.LNK_STATE_STATE 1) 8).wr (F.LNK_CTRL_EN 1) 1).wr (F.LNK_STATE_LANEMAP 1) 3), 1, List.replicate 16 3,
     List.replicate 16 3, by decide +kernel⟩,
   ⟨{ ((((wBase 3).wr (F.LNK_STATE_STATE 1) 8).wr (F.LNK_CTRL_EN 1) 1).wr (F.LNK_STATE_LANEMAP 1) 3) with link := [{}, { echoes := [⟨0, 0, [(0, 0)], some 5, none⟩, ⟨1, 0, [(0, 0)], some 5, none⟩, ⟨2, 0, [], some 5, none⟩, ⟨3, 0, [], some 5, none⟩] }, {}, {}] },
     1, by decide +kernel⟩⟩

theorem witness_TileCommands_1 :
    (∃ (s : State) (m : Master) (p : Nat) (data : Word),
      p < 4 ∧ s.held (portPads p) = false ∧ s.link.length = 4 ∧ s.Accepts m (R.LNK_CMD p) data ∧ bitAt data.toNat 16 = true ∧
        s.flag (F.LNK_CMD_BUSY p) = false ∧ bitsOf data.toNat 7 0 = 0x01 ∧ s.acceptsCmd p 0x01 = true) ∧
    (∃ (s : State) (m : Master) (p : Nat) (data : Word),
      p < 4 ∧ s.held (portPads p) = false ∧ s.link.length = 4 ∧ s.Accepts m (R.LNK_CMD p) data ∧ bitAt data.toNat 16 = true ∧
        s.flag (F.LNK_CMD_BUSY p) = false ∧ bitsOf data.toNat 7 0 = 0x02 ∧ s.acceptsCmd p 0x02 = true) ∧
    (∃ (s : State) (m : Master) (p : Nat) (data : Word),
      p < 4 ∧ s.held (portPads p) = false ∧ s.link.length = 4 ∧ s.Accepts m (R.LNK_CMD p) data ∧ bitAt data.toNat 16 = true ∧
        s.flag (F.LNK_CMD_BUSY p) = false ∧ bitsOf data.toNat 7 0 = 0x10 ∧ s.acceptsCmd p 0x10 = true) ∧
    (∃ (s : State) (m : Master) (p : Nat) (data : Word),
      p < 4 ∧ s.held (portPads p) = false ∧ s.link.length = 4 ∧ s.Accepts m (R.LNK_CMD p) data ∧ bitAt data.toNat 16 = true ∧
        s.flag (F.LNK_CMD_BUSY p) = false ∧ bitsOf data.toNat 7 0 = 0x11 ∧ s.acceptsCmd p 0x11 = true) ∧
    (∃ (s : State) (m : Master) (p : Nat) (data : Word),
      p < 4 ∧ s.held (portPads p) = false ∧ s.link.length = 4 ∧ s.Accepts m (R.LNK_CMD p) data ∧ bitAt data.toNat 16 = true ∧
        s.flag (F.LNK_CMD_BUSY p) = false ∧ bitsOf data.toNat 7 0 = 0x30 ∧ s.acceptsCmd p 0x30 = true) ∧
    (∃ (s : State) (m : Master) (p : Nat) (data : Word),
      p < 4 ∧ s.held (portPads p) = false ∧ s.link.length = 4 ∧ s.Accepts m (R.LNK_CMD p) data ∧ bitAt data.toNat 16 = true ∧
        s.flag (F.LNK_CMD_BUSY p) = false ∧ bitsOf data.toNat 7 0 = 0x31 ∧ s.acceptsCmd p 0x31 = true) ∧
    (∃ (s : State) (m : Master) (p : Nat) (data : Word),
      p < 4 ∧ s.on (portDom p) = true ∧ s.link.length = 4 ∧ s.held (portPads p) = false ∧ s.Accepts m (R.LNK_CMD p) data ∧
        bitAt data.toNat 16 = true ∧ s.flag (F.LNK_CMD_BUSY p) = false ∧ bitsOf data.toNat 7 0 = 0x40 ∧
        s.acceptsCmd p 0x40 = true) ∧
    (∃ (s : State) (m : Master) (p : Nat) (data : Word),
      p < 4 ∧ s.Accepts m (R.LNK_CMD p) data ∧ bitAt data.toNat 16 = true ∧ s.flag (F.LNK_CMD_BUSY p) = false ∧
        s.acceptsCmd p (bitsOf data.toNat 7 0) = false) ∧
    (∃ (s : State) (m : Master) (p : Nat) (data : Word),
      p < 4 ∧ s.Accepts m (R.LNK_CMD p) data ∧ s.flag (F.LNK_CMD_BUSY p) = true) ∧
    (∃ (s : State) (p : Nat) (before record after : List LineBlock) (r : UpRecord) (c : LinkCmd),
      p < 4 ∧ s.on (portDom p) = true ∧ s.link.length = 4 ∧ (s.port p).cmd = some c ∧ c.opcode ≠ 2 ∧ c.tag = r.tag ∧
        s.upRecord p ⟨before ++ record ++ after, false⟩ = some r ∧ r.good = true ∧ r.kind = 4) :=
  ⟨⟨((((wBase 3).wr (F.LNK_STATE_STATE 1) 8).wr (F.LNK_CTRL_EN 1) 1).wr (F.LNK_STATE_LANEMAP 1) 3), .mgmt, 1, 0x10501#32,
    by decide +kernel⟩,
   ⟨((((wBase 3).wr (F.LNK_STATE_STATE 1) 7).wr (F.LNK_CTRL_EN 1) 1).wr (F.LNK_STATE_LANEMAP 1) 3), .mgmt, 1, 0x10502#32,
     by decide +kernel⟩,
   ⟨((((wBase 3).wr (F.LNK_STATE_STATE 1) 8).wr (F.LNK_CTRL_EN 1) 1).wr (F.LNK_STATE_LANEMAP 1) 3), .mgmt, 1, 0x10510#32,
     by decide +kernel⟩,
   ⟨((((wBase 3).wr (F.LNK_STATE_STATE 1) 8).wr (F.LNK_CTRL_EN 1) 1).wr (F.LNK_STATE_LANEMAP 1) 3), .mgmt, 1, 0x10511#32,
     by decide +kernel⟩,
   ⟨((((wBase 1).wr (F.LNK_STATE_STATE 1) 8).wr (F.LNK_CTRL_EN 1) 1).wr (F.LNK_STATE_LANEMAP 1) 3), .mgmt, 1, 0x10530#32,
     by decide +kernel⟩,
   ⟨((((wBase 3).wr (F.LNK_STATE_STATE 1) 8).wr (F.LNK_CTRL_EN 1) 1).wr (F.LNK_STATE_LANEMAP 1) 3).wr (F.LNK_HUSK_UNLOCKED 1) 1,
     .mgmt, 1, 0x10531#32, by decide +kernel⟩,
   ⟨((((wBase 1).wr (F.LNK_STATE_STATE 1) 8).wr (F.LNK_CTRL_EN 1) 1).wr (F.LNK_STATE_LANEMAP 1) 3), .mgmt, 1, 0x10540#32,
     by decide +kernel⟩,
   ⟨((((wBase 3).wr (F.LNK_STATE_STATE 1) 5).wr (F.LNK_CTRL_EN 1) 1).wr (F.LNK_STATE_LANEMAP 1) 3), .mgmt, 1, 0x10501#32,
     by decide +kernel⟩,
   ⟨((((wBase 3).wr (F.LNK_STATE_STATE 1) 8).wr (F.LNK_CTRL_EN 1) 1).wr (F.LNK_STATE_LANEMAP 1) 3).wr (F.LNK_CMD_BUSY 1) 1,
     .mgmt, 1, 0x10501#32, by decide +kernel⟩,
   ⟨{ ((((wBase 3).wr (F.LNK_STATE_STATE 1) 8).wr (F.LNK_CTRL_EN 1) 1).wr (F.LNK_STATE_LANEMAP 1) 3) with link := [{}, { cmd := some ⟨0x30, 5, 0, 1⟩ }, {}, {}] },
     1, [], wUp 4 5 0 9 ([]), [], ⟨4, 5, 0, 9, [], true⟩, ⟨0x30, 5, 0, 1⟩, by decide +kernel⟩⟩

theorem witness_TileCommands_2 :
    ∃ (s : State) (p : Nat) (c : LinkCmd),
      p < 4 ∧ s.link.length = 4 ∧ (s.port p).cmd = some c ∧ s.since c.since (usec 100) = true :=
  ⟨{ ((((wBase 3).wr (F.LNK_STATE_STATE 1) 8).wr (F.LNK_CTRL_EN 1) 1).wr (F.LNK_STATE_LANEMAP 1) 3) with link := [{}, { cmd := some ⟨1, 5, 0, 1⟩ }, {}, {}] },
    1, ⟨1, 5, 0, 1⟩, by decide +kernel⟩

theorem witness_UplinkRecords_1 :
    (∃ (s : State) (p : Nat) (full : Bool) (line : List LineBlock) (r : UpRecord),
      p < 4 ∧ s.on (portDom p) = true ∧ s.upRecord p ⟨line, full⟩ = some r ∧ r.good = false) ∧
    (∃ (s : State) (p : Nat) (line : List LineBlock) (r : UpRecord),
      p < 4 ∧ s.on (portDom p) = true ∧ s.on .safe = true ∧ s.upRecord p ⟨line, true⟩ = some r ∧ r.good = true ∧ r.kind = 5) ∧
    (∃ (s : State) (p : Nat) (full : Bool) (line : List LineBlock) (r : UpRecord),
      p < 4 ∧ s.on (portDom p) = true ∧ s.upRecord p ⟨line, full⟩ = some r ∧ r.good = false) ∧
    (∃ (s : State) (p : Nat) (line : List LineBlock) (r : UpRecord),
      p < 4 ∧ s.on (portDom p) = true ∧ s.on .safe = true ∧ s.upRecord p ⟨line, true⟩ = some r ∧ r.good = true ∧ r.kind = 1) ∧
    (∃ (s : State) (p : Nat) (full : Bool) (line : List LineBlock) (r : UpRecord),
      p < 4 ∧ s.on (portDom p) = true ∧ s.upRecord p ⟨line, full⟩ = some r ∧ r.good = false) ∧
    (∃ (s : State) (p : Nat) (line : List LineBlock) (r : UpRecord),
      p < 4 ∧ s.on (portDom p) = true ∧ s.on .safe = true ∧ s.upRecord p ⟨line, true⟩ = some r ∧ r.good = true ∧ r.kind = 2) ∧
    (∃ (s : State) (p : Nat) (full : Bool) (before record after : List LineBlock) (r : UpRecord),
      p < 4 ∧ s.on (portDom p) = true ∧ s.upRecord p ⟨before ++ record ++ after, full⟩ = some r ∧ r.good = false) ∧
    (∃ (s : State) (p : Nat) (before record after : List LineBlock) (r : UpRecord),
      p < 4 ∧ s.on (portDom p) = true ∧ s.on .safe = true ∧ s.upRecord p ⟨before ++ record ++ after, true⟩ = some r ∧
        r.good = true ∧ r.kind = 4) ∧
    (∃ (s : State) (p : Nat) (full : Bool) (before record after : List LineBlock) (r : UpRecord),
      p < 4 ∧ s.on (portDom p) = true ∧ s.upRecord p ⟨before ++ record ++ after, full⟩ = some r ∧ r.good = false) ∧
    (∃ (s : State) (p : Nat) (before record after : List LineBlock) (r : UpRecord),
      p < 4 ∧ s.on (portDom p) = true ∧ s.on .safe = true ∧ s.upRecord p ⟨before ++ record ++ after, true⟩ = some r ∧
        r.good = true ∧ r.kind = 6) :=
  ⟨⟨((((wBase 3).wr (F.LNK_STATE_STATE 1) 8).wr (F.LNK_CTRL_EN 1) 1).wr (F.LNK_STATE_LANEMAP 1) 3), 1, false, wUp 9 0 0 0 [],
    ⟨9, 0, 0, 0, [], false⟩, by decide +kernel⟩,
   ⟨((((wBase 3).wr (F.LNK_STATE_STATE 1) 8).wr (F.LNK_CTRL_EN 1) 1).wr (F.LNK_STATE_LANEMAP 1) 3), 1, wUp 5 0 0 0
     (List.replicate 24 0#8), ⟨5, 0, 0, 0, List.replicate 24 0#8, true⟩, by decide +kernel⟩,
   ⟨((((wBase 3).wr (F.LNK_STATE_STATE 1) 8).wr (F.LNK_CTRL_EN 1) 1).wr (F.LNK_STATE_LANEMAP 1) 3), 1, false, wUp 9 0 0 0 [],
     ⟨9, 0, 0, 0, [], false⟩, by decide +kernel⟩,
   ⟨((((wBase 3).wr (F.LNK_STATE_STATE 1) 8).wr (F.LNK_CTRL_EN 1) 1).wr (F.LNK_STATE_LANEMAP 1) 3), 1, wUp 1 0 0 0
     (List.replicate 64 0#8), ⟨1, 0, 0, 0, List.replicate 64 0#8, true⟩, by decide +kernel⟩,
   ⟨((((wBase 3).wr (F.LNK_STATE_STATE 1) 8).wr (F.LNK_CTRL_EN 1) 1).wr (F.LNK_STATE_LANEMAP 1) 3), 1, false, wUp 9 0 0 0 [],
     ⟨9, 0, 0, 0, [], false⟩, by decide +kernel⟩,
   ⟨((((wBase 3).wr (F.LNK_STATE_STATE 1) 8).wr (F.LNK_CTRL_EN 1) 1).wr (F.LNK_STATE_LANEMAP 1) 3), 1, wUp 2 0 0 0
     (List.replicate 16 0#8), ⟨2, 0, 0, 0, List.replicate 16 0#8, true⟩, by decide +kernel⟩,
   ⟨((((wBase 3).wr (F.LNK_STATE_STATE 1) 8).wr (F.LNK_CTRL_EN 1) 1).wr (F.LNK_STATE_LANEMAP 1) 3), 1, false, [], wUp 9 0 0 0
     [], [], ⟨9, 0, 0, 0, [], false⟩, by decide +kernel⟩,
   ⟨((((wBase 3).wr (F.LNK_STATE_STATE 1) 8).wr (F.LNK_CTRL_EN 1) 1).wr (F.LNK_STATE_LANEMAP 1) 3), 1, [], wUp 4 0 0 0 ([]), [],
     ⟨4, 0, 0, 0, [], true⟩, by decide +kernel⟩,
   ⟨((((wBase 3).wr (F.LNK_STATE_STATE 1) 8).wr (F.LNK_CTRL_EN 1) 1).wr (F.LNK_STATE_LANEMAP 1) 3), 1, false, [], wUp 9 0 0 0
     [], [], ⟨9, 0, 0, 0, [], false⟩, by decide +kernel⟩,
   ⟨((((wBase 3).wr (F.LNK_STATE_STATE 1) 8).wr (F.LNK_CTRL_EN 1) 1).wr (F.LNK_STATE_LANEMAP 1) 3), 1, [], wUp 6 0 0 0 ([]), [],
     ⟨6, 0, 0, 0, [], true⟩, by decide +kernel⟩⟩

theorem witness_UplinkRecords_2 :
    (∃ (s : State) (p : Nat) (line : List LineBlock) (r : UpRecord) (e : EchoDue),
      p < 4 ∧ s.on (portDom p) = true ∧ s.on .safe = true ∧ s.upRecord p ⟨line, false⟩ = some r ∧ r.good = true ∧ r.kind = 1 ∧
        (s.port p).echoFor r.echo = some e) ∧
    (∃ (s : State) (p : Nat) (line : List LineBlock) (r : UpRecord),
      p < 4 ∧ s.on (portDom p) = true ∧ s.upRecord p ⟨line, false⟩ = some r ∧ r.good = true ∧ r.kind = 2) ∧
    (∃ (s : State) (p : Nat) (r l x0 y0 x1 y1 : Nat),
      p < 4 ∧ s.on (portDom p) = true ∧ s.link.length = 4 ∧ r < 32 ∧ l < 2 ∧ s.gleanRect p r = some (x0, y0, x1, y1) ∧
        s.gleanDue p r l y1 = true) ∧
    (∃ (s : State) (p : Nat) (r l x0 y0 x1 y1 : Nat),
      p < 4 ∧ s.on (portDom p) = true ∧ s.on .safe = true ∧ r < 32 ∧ l < 2 ∧ s.gleanRect p r = some (x0, y0, x1, y1) ∧
        s.gleanDue p r l y1 = true) :=
  ⟨⟨{ ((((wBase 3).wr (F.LNK_STATE_STATE 1) 8).wr (F.LNK_CTRL_EN 1) 1).wr (F.LNK_STATE_LANEMAP 1) 3).wr (F.LNK_CTRL_ECHO_LIM 1) 1 with link := [{}, { echoes := [⟨0, 0, [(0, 1), (1, 1)], none, none⟩] }, {}, {}] },
    1, wUp 1 0 0 0 (List.replicate 64 0#8), ⟨1, 0, 0, 0, List.replicate 64 0#8, true⟩, ⟨0, 0, [(0, 1), (1, 1)], none, none⟩,
    by decide +kernel⟩,
   ⟨((((wBase 3).wr (F.LNK_STATE_STATE 1) 8).wr (F.LNK_CTRL_EN 1) 1).wr (F.LNK_STATE_LANEMAP 1) 3), 1, wUp 2 0 0 7
     (List.replicate 16 0#8), ⟨2, 0, 0, 7, List.replicate 16 0#8, true⟩, by decide +kernel⟩,
   ⟨wGlean, 1, 2, 0, 0, 0, 5, 5, by decide +kernel⟩,
   ⟨wGlean, 1, 2, 0, 0, 0, 5, 5, by decide +kernel⟩⟩

theorem witness_SatelliteChains_1 :
    (∃ (s : State) (_busy : Nat),
      s.held 4 = false ∧ s.on .drv = true ∧ s.sat.chains.length = 4 ∧ (match s.sat.period with | some u => s.since u (usec (s.rd F.SAT_PERIOD_PERIOD_US)) | none => true) = true ∧ s.mode ≠ .dark) ∧
    (∃ (s : State) (_busy : Nat),
      s.held 4 = false ∧ s.on .drv = true ∧ s.sat.chains.length = 4 ∧ (match s.sat.period with | some u => s.since u (usec (s.rd F.SAT_PERIOD_PERIOD_US)) | none => true) = true ∧ s.mode = .dark) ∧
    (∃ (s : State) (_busy u : Nat),
      s.held 4 = false ∧ s.on .drv = true ∧ s.sat.chains.length = 4 ∧ s.sat.period = some u ∧ s.sat.latched = false ∧
        s.since u (usec (s.rd F.SAT_LATCHOFS_OFS_US)) = true) ∧
    (∃ (s : State) (c : Nat) (_busy : Bool),
      c < 4 ∧ s.on .drv = true ∧ s.sat.chains.length = 4 ∧ s.held 4 = false ∧ s.satRuns c = true ∧
        (s.chain c).collectDue = true ∧ (s.chain c).out = none) ∧
    (∃ (s : State) (c : Nat) (_busy : Bool),
      c < 4 ∧ s.on .drv = true ∧ s.sat.chains.length = 4 ∧ s.held 4 = false ∧ s.satRuns c = true ∧ s.sat.period ≠ none ∧
        s.sat.latched = true ∧ (s.chain c).censused = false ∧ (s.chain c).collectDue = false ∧ (s.chain c).out = none ∧
        s.since (s.chain c).censusAt (msec (s.rd (F.SAT_CH_CTRL_CENSUS_MS c))) = true) ∧
    (∃ (s : State) (m : Master) (data : Word) (c : Nat) (_busy : Bool),
      c < 4 ∧ s.on .drv = true ∧ s.sat.chains.length = 4 ∧ s.held 4 = false ∧ s.Accepts m (R.SAT_CH_CTRL c) data ∧
        10 ≤ bitsOf data.toNat 25 16 ∧ bitsOf data.toNat 25 16 ≤ 1000 ∧ bitAt data.toNat 0 = true ∧ bitAt data.toNat 3 = true ∧
        (s.chain c).enum = none) ∧
    (∃ (s : State) (m : Master) (data : Word) (c : Nat) (_busy : Bool),
      c < 4 ∧ s.on .drv = true ∧ s.sat.chains.length = 4 ∧ s.Accepts m (R.SAT_CH_CTRL c) data) ∧
    (∃ (s : State) (c : Nat) (_busy : Bool),
      c < 4 ∧ s.on .drv = true ∧ s.sat.chains.length = 4 ∧ s.held 4 = false ∧ s.enumDue c = true) ∧
    (∃ (s : State) (c : Nat) (o : SatOut) (turned : Nat) (line : List Bool) (_busy : Bool) (f : SatFrame),
      c < 4 ∧ s.on .drv = true ∧ s.sat.chains.length = 4 ∧ (s.chain c).out = some o ∧ satDecode line = some f ∧ f.cmd = o.cmd ∧
        s.now ≤ o.until_ ∧ s.held 4 = false ∧ o.cmd = 0x11 ∧ f.ended = true ∧ 2 ≤ ofLeBytes (f.payload.take 2) ∧
        ofLeBytes (f.payload.take 2) ≤ 513 ∧ ofLeBytes (f.payload.take 2) = turned + 1) ∧
    (∃ (s : State) (c : Nat) (o : SatOut) (_turned : Nat) (line : List Bool) (_busy : Bool) (f : SatFrame),
      c < 4 ∧ s.on .drv = true ∧ s.sat.chains.length = 4 ∧ (s.chain c).out = some o ∧ satDecode line = some f ∧ f.cmd = o.cmd ∧
        s.now ≤ o.until_ ∧ o.cmd = 0x20 ∧ o.kind ≠ 1 ∧ 1 ≤ o.first) :=
  ⟨⟨{ ((((wBase 3).wr (F.SAT_CH_CTRL_EN 1) 1).wr (F.SAT_CH_CTRL_LIGHT 1) 1).wr (F.SAT_CH_STAT_COUNT 1) 3) with sat := { period := none } },
    0, by decide +kernel⟩,
   ⟨{ ((((wBase 5).wr (F.SAT_CH_CTRL_EN 1) 1).wr (F.SAT_CH_CTRL_LIGHT 1) 1).wr (F.SAT_CH_STAT_COUNT 1) 3) with sat := { period := none } },
     0, by decide +kernel⟩,
   ⟨{ ((((wBase 3).wr (F.SAT_CH_CTRL_EN 1) 1).wr (F.SAT_CH_CTRL_LIGHT 1) 1).wr (F.SAT_CH_STAT_COUNT 1) 3) with sat := { period := some 5, chains := [{}, { lit := true }, {}, {}], latched := false } },
     0, 5, by decide +kernel⟩,
   ⟨{ ((((wBase 3).wr (F.SAT_CH_CTRL_EN 1) 1).wr (F.SAT_CH_CTRL_LIGHT 1) 1).wr (F.SAT_CH_STAT_COUNT 1) 3) with sat := { chains := [{}, { collectDue := true }, {}, {}], latched := false } },
     1, true, by decide +kernel⟩,
   ⟨{ ((((wBase 3).wr (F.SAT_CH_CTRL_EN 1) 1).wr (F.SAT_CH_CTRL_LIGHT 1) 1).wr (F.SAT_CH_STAT_COUNT 1) 3) with sat := { period := some 5, chains := [{}, { collectDue := false }, {}, {}], latched := true } },
     1, true, by decide +kernel⟩,
   ⟨{ ((((wBase 3).wr (F.SAT_CH_CTRL_EN 1) 1).wr (F.SAT_CH_CTRL_LIGHT 1) 1).wr (F.SAT_CH_STAT_COUNT 1) 3) with sat := { latched := true } },
     .mgmt, 0x64000B#32, 1, false, by decide +kernel⟩,
   ⟨{ ((((wBase 3).wr (F.SAT_CH_CTRL_EN 1) 1).wr (F.SAT_CH_CTRL_LIGHT 1) 1).wr (F.SAT_CH_STAT_COUNT 1) 3) with sat := { latched := true } },
     .mgmt, 0x640002#32, 1, false, by decide +kernel⟩,
   ⟨{ (wBase 2).wr (F.SAT_CH_CTRL_EN 1) 1 with pwr := { pwrEn := true, prep := some { toRun := true, since := 5, tested := [5, 6, 7, 8, 9, 10] } } },
     1, true, by decide +kernel⟩,
   ⟨{ ((((wBase 3).wr (F.SAT_CH_CTRL_EN 1) 1).wr (F.SAT_CH_CTRL_LIGHT 1) 1).wr (F.SAT_CH_STAT_COUNT 1) 3) with sat := { chains := [{}, { enum := some false, out := some { cmd := 17, kind := 0, first := 1, until_ := 2000000000 } }, {}, {}], latched := false } },
     1, { cmd := 17, kind := 0, first := 1, until_ := 2000000000 }, 3, wRet 0x11 [4#8, 0#8], false, wRetF 0x11 [4#8, 0#8],
     by decide +kernel⟩,
   ⟨{ ((((wBase 3).wr (F.SAT_CH_CTRL_EN 1) 1).wr (F.SAT_CH_CTRL_LIGHT 1) 1).wr (F.SAT_CH_STAT_COUNT 1) 3) with sat := { chains := [{}, { out := some { cmd := 32, kind := 0, first := 1, until_ := 2000000000 } }, {}, {}], latched := false } },
     1, { cmd := 32, kind := 0, first := 1, until_ := 2000000000 }, 3, wRet 0x20 [0#8, 1#8, 0#8, 1#8, 0#8], false, wRetF 0x20
     [0#8, 1#8, 0#8, 1#8, 0#8], by decide +kernel⟩⟩

theorem witness_SatelliteChains_2 :
    (∃ (s : State) (c : Nat) (o : SatOut) (_turned : Nat) (line : List Bool) (_busy : Bool) (f : SatFrame),
      c < 4 ∧ s.on .drv = true ∧ s.sat.chains.length = 4 ∧ (s.chain c).out = some o ∧ satDecode line = some f ∧ f.cmd = o.cmd ∧
        s.now ≤ o.until_ ∧ o.cmd = 0x21 ∧ f.unaddr = false ∧ ofLeBytes (f.payload.take 2) = s.satCount c ∧
        ofLeBytes ((f.payload.drop 2).take 2) = s.satCount c) ∧
    (∃ (s : State) (c : Nat) (o : SatOut) (_turned : Nat) (line : List Bool) (_busy : Bool) (f : SatFrame),
      c < 4 ∧ s.on .drv = true ∧ s.sat.chains.length = 4 ∧ (s.chain c).out = some o ∧ satDecode line = some f ∧ f.cmd = o.cmd ∧
        s.now ≤ o.until_ ∧ s.on .safe = true ∧ o.cmd = 0x21 ∧ (f.unaddr = true ∨ ofLeBytes (f.payload.take 2) ≠ s.satCount c ∨
        ofLeBytes ((f.payload.drop 2).take 2) ≠ s.satCount c)) ∧
    (∃ (s : State) (c : Nat) (o : SatOut) (_turned : Nat) (line : List Bool) (_busy : Bool) (f : SatFrame),
      c < 4 ∧ s.on .drv = true ∧ s.sat.chains.length = 4 ∧ (s.chain c).out = some o ∧ satDecode line = some f ∧ f.cmd = o.cmd ∧
        s.now ≤ o.until_ ∧ o.cmd = 0x20 ∧ o.kind = 1 ∧ 1 ≤ o.first ∧ s.satCount c < o.first + 32 ∧
        (List.range 32).all (fun (i : Nat) => decide (s.satCount c < o.first + i) || decide (satSlot f.payload i ≠ 0xFFFFFFFF))
        = true) ∧
    (∃ (s : State) (c : Nat) (o : SatOut) (_turned : Nat) (line : List Bool) (_busy : Bool) (f : SatFrame),
      c < 4 ∧ s.on .drv = true ∧ s.sat.chains.length = 4 ∧ (s.chain c).out = some o ∧ satDecode line = some f ∧ f.cmd = o.cmd ∧
        s.now ≤ o.until_ ∧ o.cmd = 0x30) ∧
    (∃ (s : State) (c : Nat) (o : SatOut) (_turned : Nat) (line : List Bool) (_busy : Bool),
      c < 4 ∧ s.on .drv = true ∧ s.sat.chains.length = 4 ∧ (s.chain c).out = some o ∧
        (satDecode line).all (fun (f : SatFrame) => decide (f.cmd ≠ o.cmd) || decide (o.until_ < s.now)) = true) ∧
    (∃ (s : State) (c : Nat) (o : SatOut) (_busy : Bool),
      c < 4 ∧ s.on .drv = true ∧ s.sat.chains.length = 4 ∧ (s.chain c).out = some o ∧ o.until_ < s.now) ∧
    (∃ (s : State) (c node r v : Nat) (rest : List (Nat × Nat × Nat)) (_busy : Bool),
      c < 4 ∧ s.on .drv = true ∧ s.sat.chains.length = 4 ∧ s.held 4 = false ∧ s.firmwareUp = true ∧
        s.flag (F.SAT_CH_CTRL_EN c) = true ∧ s.rd (F.SAT_CH_STAT_STATE c) = 2 ∧ (s.chain c).out = none ∧
        (s.chain c).configured = false ∧ (s.chain c).todo = (node, r, v) :: rest) ∧
    (∃ (s : State) (c node r v : Nat) (next : Nat × Nat × Nat) (rest : List (Nat × Nat × Nat)) (_busy : Bool),
      (s.chain c).configured = false ∧ (s.chain c).todo = next :: rest ∧ next ≠ (node, r, v)) ∧
    (∃ (s : State) (m : Master) (data : Word),
      s.Accepts m R.SAT_LATCHOFS data) ∧
    (∃ (s : State) (m : Master) (data : Word),
      s.Accepts m R.SAT_PERIOD data) :=
  ⟨⟨{ ((((wBase 3).wr (F.SAT_CH_CTRL_EN 1) 1).wr (F.SAT_CH_CTRL_LIGHT 1) 1).wr (F.SAT_CH_STAT_COUNT 1) 3) with sat := { chains := [{}, { out := some { cmd := 33, kind := 0, first := 1, until_ := 2000000000 } }, {}, {}], latched := false } },
    1, { cmd := 33, kind := 0, first := 1, until_ := 2000000000 }, 3, wRet 0x21 [3#8, 0#8, 3#8, 0#8], false, wRetF 0x21 [3#8,
    0#8, 3#8, 0#8], by decide +kernel⟩,
   ⟨{ ((((wBase 3).wr (F.SAT_CH_CTRL_EN 1) 1).wr (F.SAT_CH_CTRL_LIGHT 1) 1).wr (F.SAT_CH_STAT_COUNT 1) 3) with sat := { chains := [{}, { out := some { cmd := 33, kind := 0, first := 1, until_ := 2000000000 } }, {}, {}], latched := false } },
     1, { cmd := 33, kind := 0, first := 1, until_ := 2000000000 }, 3, wRet 0x21 [], false, wRetF 0x21 [], by decide +kernel⟩,
   ⟨{ ((((wBase 3).wr (F.SAT_CH_CTRL_EN 1) 1).wr (F.SAT_CH_CTRL_LIGHT 1) 1).wr (F.SAT_CH_STAT_COUNT 1) 3) with sat := { chains := [{}, { enum := some false, out := some { cmd := 32, kind := 1, first := 1, until_ := 2000000000 } }, {}, {}], latched := false } },
     1, { cmd := 32, kind := 1, first := 1, until_ := 2000000000 }, 3, wRet 0x20 (List.replicate 14 1#8), false, wRetF 0x20
     (List.replicate 14 1#8), by decide +kernel⟩,
   ⟨{ ((((wBase 3).wr (F.SAT_CH_CTRL_EN 1) 1).wr (F.SAT_CH_CTRL_LIGHT 1) 1).wr (F.SAT_CH_STAT_COUNT 1) 3).wr (F.SAT_CH_STAT_STATE 1) 2 with sat := { chains := [{}, { todo := [(3, 1, 2)], out := some { cmd := 48, kind := 0, first := 1, until_ := 2000000000 } }, {}, {}], latched := false } },
     1, { cmd := 48, kind := 0, first := 1, until_ := 2000000000 }, 3, wRet 0x30 [], false, wRetF 0x30 [], by decide +kernel⟩,
   ⟨{ ((((wBase 3).wr (F.SAT_CH_CTRL_EN 1) 1).wr (F.SAT_CH_CTRL_LIGHT 1) 1).wr (F.SAT_CH_STAT_COUNT 1) 3) with sat := { chains := [{}, { out := some { cmd := 33, kind := 0, first := 1, until_ := 2000000000 } }, {}, {}], latched := false } },
     1, { cmd := 33, kind := 0, first := 1, until_ := 2000000000 }, 3, wRet 0x20 [], false, by decide +kernel⟩,
   ⟨{ ((((wBase 3).wr (F.SAT_CH_CTRL_EN 1) 1).wr (F.SAT_CH_CTRL_LIGHT 1) 1).wr (F.SAT_CH_STAT_COUNT 1) 3) with sat := { chains := [{}, { enum := some true, out := some { cmd := 17, kind := 0, first := 1, until_ := 5 } }, {}, {}], latched := false } },
     1, { cmd := 17, kind := 0, first := 1, until_ := 5 }, true, by decide +kernel⟩,
   ⟨{ ((((wBase 3).wr (F.SAT_CH_CTRL_EN 1) 1).wr (F.SAT_CH_CTRL_LIGHT 1) 1).wr (F.SAT_CH_STAT_COUNT 1) 3).wr (F.SAT_CH_STAT_STATE 1) 2 with sat := { chains := [{}, { todo := [(2, 1, 7)] }, {}, {}], latched := false } },
     1, 2, 1, 7, [], true, by decide +kernel⟩,
   ⟨{ ((((wBase 3).wr (F.SAT_CH_CTRL_EN 1) 1).wr (F.SAT_CH_CTRL_LIGHT 1) 1).wr (F.SAT_CH_STAT_COUNT 1) 3).wr (F.SAT_CH_STAT_STATE 1) 2 with sat := { chains := [{}, { todo := [(2, 1, 7)] }, {}, {}], latched := false } },
     1, 2, 1, 6, (2, 1, 7), [], true, by decide +kernel⟩,
   ⟨wBase 3, .mgmt, 4000#32, by decide +kernel⟩,
   ⟨wBase 3, .mgmt, 1000#32, by decide +kernel⟩⟩

theorem witness_MapGroupsAreChecked :
    (∃ (s : State) (m : Master) (p : Nat) (data : Word),
      p < 4 ∧ s.cal.checks.length = 4 ∧ s.Accepts m (R.CAL_MAP_GEN p) data ∧ bitAt data.toNat 19 = false ∧
        s.genFits (.map p) data = true) ∧
    (∃ (s : State) (p : Nat) (c : MapCheck),
      p < 4 ∧ s.cal.checks.length = 4 ∧ s.on .mgmt = true ∧ (s.cal.checks.getD p none) = some c ∧ s.mapCheck p = 0) ∧
    (∃ (s : State) (p : Nat) (c : MapCheck),
      p < 4 ∧ s.cal.checks.length = 4 ∧ s.on .mgmt = true ∧ (s.cal.checks.getD p none) = some c ∧ s.mapCheck p ≠ 0) ∧
    (∃ (s : State) (p : Nat) (u : Nat),
      p < 4 ∧ s.on .mgmt = true ∧ s.refreshNow = some u ∧ s.appliesNow (.map p) = true) ∧
    (∃ (s : State) (g : Group) (u p : Nat),
      p < 4 ∧ s.refreshNow = some u ∧ ((g = .proj p ∧ s.on .gme = true ∧ s.projReady u p = true) ∨ (g = .glean p ∧
        s.on (portDom p) = true)) ∧ s.appliesNow g = true) ∧
    (∃ (s : State) (g : Group) (p : Nat),
      s.refreshNow = none ∧ (g = .proj p ∨ g = .map p ∨ g = .glean p)) ∧
    (∃ (s : State) (n : Nat),
      n < 8 ∧ s.on .net = true ∧ (s.stream n).fill = none ∧ s.appliesNow (.stream n) = true) :=
  ⟨⟨wBase 3, .mgmt, 1, 1#32, by decide +kernel⟩,
   ⟨{ (wBase 3).setN (R.CAL_MAP_GAIN 1) 0x82000000 with cal := { checks := [none, some { since := 5, data := 1#32 }, none, none] } },
     1, { since := 5, data := 1#32 }, by decide +kernel⟩,
   ⟨{ (wBase 3) with cal := { checks := [none, some { since := 5, data := 1#32 }, none, none] } }, 1,
     { since := 5, data := 1#32 }, by decide +kernel⟩,
   ⟨{ (wBase 1).armGroup (.map 1) 1#32 with now := 2000000000, cf := { refDue := some (5, 0) } }, 1, 5, by decide +kernel⟩,
   ⟨{ (wBase 1).armGroup (.glean 1) 1#32 with now := 2000000000, cf := { refDue := some (5, 0) } }, .glean 1, 5, 1,
     by decide +kernel⟩,
   ⟨wBase 1, .map 2, 2, by decide +kernel⟩,
   ⟨{ (wBase 1).armGroup (.stream 1) 1#32 with now := 2000000000 }, 1, by decide +kernel⟩⟩

theorem witness_TrimsAndCharacterization_1 :
    (∃ (s : State) (n : Nat) (a b : Int × Int),
      n < 4 ∧ s.on .drv = true ∧ s.rd (F.BUCK_STAT_STATE n) = 0 ∧ (match s.cal.offAt.getD n none with | some u => if u < (s.buckN n).offSince then s.since (s.buckN n).offSince (msec 10) else s.since u (sec 1) | none => s.since (s.buckN n).offSince (msec 10)) = true ∧ (divRound (a.1 + a.2) 2).natAbs < 32768 ∧ (divRound (b.1 + b.2) 2).natAbs < 32768) ∧
    (∃ (s : State) (p : Nat),
      p < 4 ∧ s.link.length = 4 ∧ s.held (portPads p) = false ∧ s.on .mgmt = true ∧ s.mode = .run ∧ s.portUp p = true ∧
        s.trimDue p = true ∧ s.trimAllowed p = true ∧ s.sampling p = false ∧ (s.port p).trimWait = none ∧
        s.cal.trims.length = 4 ∧ s.cal.trimFrom.length = 4 ∧ s.flag (F.LNK_CMD_BUSY p) = false) ∧
    (∃ (s : State) (p : Nat) (tag : Nat),
      p < 4 ∧ s.link.length = 4 ∧ s.cal.trims.length = 4 ∧ s.held (portPads p) = false ∧ s.portUp p = true ∧
        s.trimAllowed p = true ∧ s.sampling p = false ∧ (s.port p).trimWait = some tag) ∧
    (∃ (s : State) (p : Nat) (tag : Nat),
      p < 4 ∧ s.link.length = 4 ∧ s.sampling p = true ∧ (s.port p).trimWait = some tag) ∧
    (∃ (s : State) (p : Nat) (since : Nat) (before record : List LineBlock) (r : UpRecord),
      p < 4 ∧ s.upRecord p ⟨before ++ record, false⟩ = some r ∧ r.good = true ∧ r.kind = 3 ∧ s.on (portDom p) = true ∧
        s.on .mgmt = true ∧ (s.port p).sample = none ∧ s.cal.trims.length = 4 ∧
        s.cal.trims.getD p none = some { tile := p, since := since, recs := [] } ∧ s.now < since + usec 1400) ∧
    (∃ (s : State) (p : Nat) (since : Nat) (before record : List LineBlock) (r : UpRecord),
      p < 4 ∧ s.upRecord p ⟨before ++ record, false⟩ = some r ∧ r.good = true ∧ r.kind = 3 ∧ s.on (portDom p) = true ∧
        s.on .mgmt = true ∧ (s.port p).sample = none ∧ s.cal.trims.length = 4 ∧
        s.cal.trims.getD p none = some { tile := p, since := since, recs := [r.voltages] } ∧ s.now < since + usec 1400 ∧
        mean8 (r.voltages.drop 8) ≠ mean8 r.voltages) ∧
    (∃ (s : State) (p : Nat) (before record : List LineBlock) (r : UpRecord) (q : SampleReq),
      p < 4 ∧ s.upRecord p ⟨before ++ record, false⟩ = some r ∧ r.good = true ∧ r.kind = 3 ∧ q.tag = r.tag ∧ s.link.length = 4 ∧
        s.on (portDom p) = true ∧ s.on .mgmt = true ∧ (s.port p).sample = some q ∧ s.cal.full = none) ∧
    (∃ (s : State),
      s.cf.charDue = true ∧ s.blankTime + 1000 ≤ s.now ∧ (s.on .scn = false ∨ bitAt s.scn.ctrl 2 = false)) ∧
    (∃ (s : State),
      s.link.length = 4 ∧ s.cf.charDue = true ∧ s.blankTime + 1000 ≤ s.now ∧ s.on .scn = true ∧ bitAt s.scn.ctrl 2 = true) ∧
    (∃ (s : State) (m : Master) (data : Word),
      s.Accepts m R.CAL_FULLCTL data ∧ bitAt data.toNat 2 = true ∧ bitAt data.toNat 3 = false ∧ (bitsOf data.toNat 27 16) ≠ 0 ∧
        s.fullAllowed = true) :=
  ⟨⟨wBase 3, 1, (40, 20), (400, 20), by decide +kernel⟩,
   ⟨(((wBase 3).wr (F.LNK_STATE_STATE 1) 8).wr F.CAL_TRIMPER_TRIM_S 5).wr F.CAL_CTRL_TRIM_RUN 1, 1, by decide +kernel⟩,
   ⟨{ ((wBase 1).wr (F.LNK_STATE_STATE 1) 8).wr (F.LNK_CMD_BUSY 1) 1 with link := [{}, { trimWait := some 3 }, {}, {}] }, 1, 3,
     by decide +kernel⟩,
   ⟨{ (wBase 1).wr (F.LNK_CMD_BUSY 1) 1 with link := [{}, { sample := some ⟨3, [], [], 999999999⟩, trimWait := some 3 }, {}, {}] },
     1, 3, by decide +kernel⟩,
   ⟨{ wBase 1 with cal := { trims := [none, some { tile := 1, since := 1000000000, recs := [] }, none, none] } }, 1, 1000000000,
     [], wUp 3 0 0 0 (List.replicate 32 0#8), ⟨3, 0, 0, 0, List.replicate 32 0#8, true⟩, by decide +kernel⟩,
   ⟨{ wBase 1 with cal := { trims := [none, some { tile := 1, since := 1000000000, recs := [[257, 257, 257, 257, 257, 257, 257, 257, 514, 514, 514, 514, 514, 514, 514, 514]] }, none, none] } },
     1, 1000000000, [], wUp 3 0 0 0 (List.replicate 16 1#8 ++ List.replicate 16 2#8), ⟨3, 0, 0, 0, List.replicate 16 1#8 ++
     List.replicate 16 2#8, true⟩, by decide +kernel⟩,
   ⟨{ wBase 3 with link := [{}, { sample := some ⟨3, [], [], 0⟩ }, {}, {}] }, 1, [], wUp 3 3 0 0 (List.replicate 32 0#8), ⟨3, 3,
     0, 0, List.replicate 32 0#8, true⟩, ⟨3, [], [], 0⟩, by decide +kernel⟩,
   ⟨{ wBase 3 with cf := { charDue := true, refStart := 5 } }, by decide +kernel⟩,
   ⟨{ wBase 3 with cf := { charDue := true, refStart := 5 }, scn := { ctrl := 7 } }, by decide +kernel⟩,
   ⟨((wBase 1).wr F.SAF_STATE_READY 1).wr (F.LNK_STATE_STATE 1) 8, .mgmt, 0x90005#32, by decide +kernel⟩⟩

theorem witness_TrimsAndCharacterization_2 :
    (∃ (s : State) (m : Master) (data : Word),
      s.Accepts m R.CAL_FULLCTL data ∧ bitAt data.toNat 2 = true ∧ bitAt data.toNat 3 = false ∧ (bitsOf data.toNat 27 16) ≠ 0 ∧
        s.fullAllowed = false ∧ s.cal.full = none ∧ s.cal.fullDue = none) ∧
    (∃ (s : State) (m : Master) (data : Word),
      s.Accepts m R.CAL_FULLCTL data ∧ (bitsOf data.toNat 27 16) = 0) ∧
    (∃ (s : State) (m : Master) (data : Word) (r : FullRun),
      s.Accepts m R.CAL_FULLCTL data ∧ (bitsOf data.toNat 27 16) ≠ 0 ∧ bitAt data.toNat 2 = false ∧ bitAt data.toNat 3 = true ∧
        s.cal.full = some r) ∧
    (∃ (s : State) (r : FullRun),
      s.link.length = 4 ∧ s.cal.full = some r ∧ s.mode = .standby ∧ (fullDoms r.tile).all s.on = true ∧ r.tile < 4 ∧
        s.since r.since ((r.batch + 1) * batchSlot) = true ∧ r.batch < 2 * batches) ∧
    (∃ (s : State) (r : FullRun),
      s.cal.full = some r ∧ s.mode = .standby ∧ (fullDoms r.tile).all s.on = true ∧
        s.since r.since ((r.batch + 1) * batchSlot) = true ∧ 2 * batches ≤ r.batch) ∧
    (∃ (s : State) (r : FullRun),
      s.cal.full = some r ∧ (s.mode ≠ .standby ∨ (fullDoms r.tile).all s.on = false)) ∧
    (∃ (s : State) (tile code : Nat) (base : Bool),
      s.cal.full = none ∧ s.cal.fullDue = some (tile, code, base) ∧ s.mode = .standby ∧ s.demand = false ∧ s.islandUp = true ∧
        s.fullReady tile = true) ∧
    (∃ (s : State) (l : List (Nat × Nat)),
      s.on .mgmt = true ∧ s.mode ≠ .dormant ∧ s.dueSince (s.ran.lookup Timer.monitors) (msec 100) = true ∧
        (l.map Prod.fst).Nodup) ∧
    (∃ (s : State) (a b : Nat),
      s.firmwareUp = true ∧ s.cal.avs.isSome = true ∧ s.dueSince s.cal.planAt (sec 1) = true ∧ s.flag F.CAL_CTRL_AVS_EN = true ∧
        s.cal.worsts = [a, b] ∧ max a b - min a b ≤ s.rd F.CAL_TOL_TOL_AVS) ∧
    (∃ (s : State) (a b : Nat),
      s.firmwareUp = true ∧ s.cal.avs.isSome = true ∧ s.dueSince s.cal.planAt (sec 1) = true ∧ s.flag F.CAL_CTRL_AVS_EN = true ∧
        s.cal.worsts = [a, b] ∧ s.rd F.CAL_TOL_TOL_AVS < max a b - min a b) :=
  ⟨⟨wBase 3, .mgmt, 0x90005#32, by decide +kernel⟩,
   ⟨wBase 1, .mgmt, 5#32, by decide +kernel⟩,
   ⟨{ wBase 1 with cal := { full := some { tile := 1, base := false, code := 9, since := 5 } } }, .mgmt, 0x90009#32,
     { tile := 1, base := false, code := 9, since := 5 }, by decide +kernel⟩,
   ⟨{ wBase 1 with cal := { full := some { tile := 1, base := false, code := 9, since := 5 } } },
     { tile := 1, base := false, code := 9, since := 5 }, by decide +kernel⟩,
   ⟨{ { wBase 1 with now := 100000000000, dict := { deferring := true } } with cal := { full := some { tile := 1, base := false, code := 9, since := 5, batch := 65536 } } },
     { tile := 1, base := false, code := 9, since := 5, batch := 65536 }, by decide +kernel⟩,
   ⟨{ (wBase 1).wr F.PWR_DOMSTAT_ON 0x1FF with cal := { full := some { tile := 1, base := false, code := 9, since := 5 } } },
     { tile := 1, base := false, code := 9, since := 5 }, by decide +kernel⟩,
   ⟨{ ((wBase 1).wr F.SAF_STATE_READY 1).wr (F.LNK_STATE_STATE 1) 8 with cal := { fullDue := some (1, 9, false) } }, 1, 9,
     false, by decide +kernel⟩,
   ⟨wBase 3, [(3, 50), (17, 20)], by decide +kernel⟩,
   ⟨{ wBase 3 with cal := { worsts := [20, 21], avs := some 128 } }, 20, 21, by decide +kernel⟩,
   ⟨{ wBase 3 with cal := { worsts := [20, 60], avs := some 128 } }, 20, 60, by decide +kernel⟩⟩

theorem witness_SafetyTasksJudgeLight :
    (∃ (s : State),
      s.on .safe = true ∧ s.flag F.SAF_STATE_READY = true ∧ s.dueSince (s.ran.lookup Timer.task) (usec 500) = true) ∧
    (∃ (s : State) (x : GleanRec) (g : GleanPlan),
      s.on .safe = true ∧ s.flag F.SAF_STATE_READY = true ∧ s.dueSince (s.ran.lookup Timer.task) (usec 500) = true ∧ s.saf.inbox = [x] ∧ s.planFor x.refresh = some g ∧ (g.region x.port x.region).violated x = true ∧ s.seenBad g x.port x.region x.refresh = false ∧ (match (g.region x.port x.region).use with | .staircase _ | .piece _ => true | _ => false) = true ∧ (s.violatedBefore (g.region x.port x.region) x = true ∨ s.holdFollows x.refresh = true ∨ 3 ≤ s.singlesOf x.port)) ∧
    (∃ (s : State) (x : GleanRec) (g : GleanPlan),
      s.on .safe = true ∧ s.flag F.SAF_STATE_READY = true ∧ s.dueSince (s.ran.lookup Timer.task) (usec 500) = true ∧ s.saf.inbox = [x] ∧ s.planFor x.refresh = some g ∧ (g.region x.port x.region).violated x = true ∧ s.seenBad g x.port x.region x.refresh = false ∧ (match (g.region x.port x.region).use with | .staircase _ | .piece _ => true | _ => false) = true ∧ s.violatedBefore (g.region x.port x.region) x = false ∧ s.holdFollows x.refresh = false ∧ s.singlesOf x.port < 3) ∧
    (∃ (s : State) (n u : Nat),
      1 ≤ n ∧ n ≤ 3 ∧ s.saf.violAt.getD (n - 1) none = some u ∧ s.since u (sec 1) = true ∧
        s.bitF F.SAF_VIOL_LOCKED (n - 1) = false) ∧
    (∃ (s : State) (n : Nat),
      s.on .safe = true ∧ s.flag F.SAF_STATE_READY = true ∧ s.dueSince (s.ran.lookup Timer.task) (usec 500) = true ∧ n < 4 ∧
        s.saf.inbox = [] ∧ s.saf.plans = [] ∧ s.rd F.SAF_STATE_TASKS % 2 = 0 ∧ s.mayRaise n = true) ∧
    (∃ (s : State) (n u : Nat),
      s.on .safe = true ∧ s.flag F.SAF_STATE_READY = true ∧ s.dueSince (s.ran.lookup Timer.task) (usec 500) = true ∧ n < 4 ∧
        s.saf.inbox = [] ∧ s.saf.plans = [] ∧ s.rd F.SAF_STATE_TASKS % 2 = 1 ∧ s.mode = .husk ∧ s.demand = true ∧
        s.saf.huskFrom.getD n none = some u ∧ s.since u (msec s.saf.params.huskSettle) = true ∧ s.saf.huskFails.length = 4 ∧
        s.saf.huskFails.getD n 0 = 15 ∧ s.huskLost n = true) :=
  ⟨⟨(wBase 3).wr F.SAF_STATE_READY 1, by decide +kernel⟩,
   ⟨{ (wBase 3).wr F.SAF_STATE_READY 1 with saf := { inbox := [{ port := 1, lane := 0, region := 0, refresh := 4, wide := false, max := 50, crc := 0, partialRows := false, laneChg := false }], plans := [{ refresh := 4, run := true, ports := [[], [{ use := .staircase 2, x0 := 0, y0 := 0, x1 := 5, y1 := 5, limit12 := 10 }]] }], first := [{ port := 1, region := 0, use := .staircase 2, refresh := 3, at_ := 5 }] } },
     { port := 1, lane := 0, region := 0, refresh := 4, wide := false, max := 50, crc := 0, partialRows := false, laneChg := false },
     { refresh := 4, run := true, ports := [[], [{ use := .staircase 2, x0 := 0, y0 := 0, x1 := 5, y1 := 5, limit12 := 10 }]] },
     by decide +kernel⟩,
   ⟨{ (wBase 3).wr F.SAF_STATE_READY 1 with saf := { inbox := [{ port := 1, lane := 0, region := 0, refresh := 4, wide := false, max := 50, crc := 0, partialRows := false, laneChg := false }], plans := [{ refresh := 4, run := true, ports := [[], [{ use := .staircase 2, x0 := 0, y0 := 0, x1 := 5, y1 := 5, limit12 := 10 }]] }] } },
     { port := 1, lane := 0, region := 0, refresh := 4, wide := false, max := 50, crc := 0, partialRows := false, laneChg := false },
     { refresh := 4, run := true, ports := [[], [{ use := .staircase 2, x0 := 0, y0 := 0, x1 := 5, y1 := 5, limit12 := 10 }]] },
     by decide +kernel⟩,
   ⟨{ (wBase 3).wr F.SAF_STATE_READY 1 with saf := { violAt := [some 5, none, none] } }, 1, 5, by decide +kernel⟩,
   ⟨wRaise, 1, by decide +kernel⟩,
   ⟨{ (((wBase 4).wr F.SAF_STATE_READY 1).wr F.SAF_STATE_TASKS 1).wr F.PWR_WAKESTAT_LAMPREQ_LVL 1 with saf := { huskFrom := [none, some 5, none, none], huskFails := [0, 15, 0, 0] } },
     1, 5, by decide +kernel⟩⟩

theorem witness_IslandFaultsAndOutputTests_1 :
    (∃ (s : State),
      s.on .safe = true ∧ s.rd F.SAF_STATE_RESTARTS = 0) ∧
    (∃ (s : State),
      s.on .safe = true ∧ s.rd F.SAF_STATE_RESTARTS ≠ 0 ∧ s.mode ≠ .dormant) ∧
    (∃ (s : State),
      s.on .safe = true ∧ s.rd F.SAF_STATE_RESTARTS = 0) ∧
    (∃ (s : State),
      s.on .safe = true ∧ s.rd F.SAF_STATE_RESTARTS ≠ 0 ∧ s.mode ≠ .dormant) ∧
    (∃ (s : State),
      s.on .safe = true ∧ s.flag F.SAF_STATE_READY = true ∧ s.since s.saf.lastTask (msec 2) = true ∧
        s.rd F.SAF_STATE_RESTARTS = 0) ∧
    (∃ (s : State),
      s.on .safe = true ∧ s.flag F.SAF_STATE_READY = true ∧ s.since s.saf.lastTask (msec 2) = true ∧
        s.rd F.SAF_STATE_RESTARTS ≠ 0 ∧ s.mode ≠ .dormant) ∧
    (∃ (s : State) (_k : KeptCopies) (u : Nat),
      s.on .safe = true ∧ s.on .mem = true ∧ s.saf.restart = some u ∧ s.boot.staged.isSome = true) ∧
    (∃ (s : State) (_k : KeptCopies) (u : Nat),
      s.on .safe = true ∧ s.saf.restart = some u ∧ (s.on .mem = false ∨ s.boot.staged = none)) ∧
    (∃ (s : State) (n : Nat),
      n < 4 ∧ s.on .safe = true ∧ s.huskDriven n = false) ∧
    (∃ (s : State),
      s.on .safe = true ∧ s.flag F.SAF_STATE_READY = true ∧ s.dueSince (s.ran.lookup Timer.output) (msec 200) = true ∧
        s.flag F.PWR_MODE_BUSY = false ∧ s.saf.pulse = none ∧ s.saf.outNext < 4 ∧ s.huskDriven s.saf.outNext = true) :=
  ⟨⟨(wBase 3).wr F.SAF_STATE_READY 1, by decide +kernel⟩,
   ⟨((wBase 3).wr F.SAF_STATE_READY 1).wr F.SAF_STATE_RESTARTS 1, by decide +kernel⟩,
   ⟨(wBase 3).wr F.SAF_STATE_READY 1, by decide +kernel⟩,
   ⟨((wBase 3).wr F.SAF_STATE_READY 1).wr F.SAF_STATE_RESTARTS 1, by decide +kernel⟩,
   ⟨(wBase 3).wr F.SAF_STATE_READY 1, by decide +kernel⟩,
   ⟨((wBase 3).wr F.SAF_STATE_READY 1).wr F.SAF_STATE_RESTARTS 1, by decide +kernel⟩,
   ⟨{ wBase 3 with saf := { restart := some 5 }, boot := { staged := some ⟨.a⟩ } }, ⟨true, true, true⟩, 5, by decide +kernel⟩,
   ⟨{ wBase 3 with saf := { restart := some 5 } }, ⟨true, true, true⟩, 5, by decide +kernel⟩,
   ⟨wBase 3, 1, by decide +kernel⟩,
   ⟨((wBase 3).wr F.SAF_STATE_READY 1).wr F.SAF_OUTCMD_HUSKN_HI 15, by decide +kernel⟩⟩

theorem witness_IslandFaultsAndOutputTests_2 :
    (∃ (s : State),
      s.on .safe = true ∧ s.flag F.SAF_STATE_READY = true ∧ s.dueSince (s.ran.lookup Timer.output) (msec 200) = true ∧
        s.flag F.PWR_MODE_BUSY = false ∧ s.saf.pulse = none ∧ s.saf.outNext = 4) ∧
    (∃ (s : State),
      s.on .safe = true ∧ s.flag F.SAF_STATE_READY = true ∧ s.dueSince (s.ran.lookup Timer.output) (msec 200) = true ∧
        (s.flag F.PWR_MODE_BUSY = true ∨ s.saf.pulse.isSome = true ∨ (s.saf.outNext < 4 ∧
        s.huskDriven s.saf.outNext = false))) ∧
    (∃ (s : State) (p : OutPulse) (n : Nat) (_a _b : Bool),
      n < 4 ∧ s.saf.pulse = some p ∧ p.out = .huskN n ∧ s.since p.since (usec 150) = true ∧ s.saf.forcedLow = false ∧
        s.bitF F.SAF_OUTCMD_HUSKN_HI n = true) ∧
    (∃ (s : State) (h a : Nat) (_l _b : Bool),
      s.on .safe = true ∧ s.flag F.SAF_STATE_READY = true ∧ s.mode = .prepare ∧ s.linksOver = true ∧ s.saf.round = none ∧
        h % 16 = 15 ∧ a % 16 = 15) ∧
    (∃ (s : State) (h a n : Nat) (_l _b : Bool),
      s.on .safe = true ∧ s.flag F.SAF_STATE_READY = true ∧ s.mode = .prepare ∧ s.linksOver = true ∧ s.saf.round = none ∧
        n < 4 ∧ (bitAt h n = false ∨ bitAt a n = false)) ∧
    (∃ (s : State) (_h _a : Nat) (_l _b : Bool),
      s.linksOver = false) :=
  ⟨⟨{ (wBase 3).wr F.SAF_STATE_READY 1 with saf := { outNext := 4 } }, by decide +kernel⟩,
   ⟨(wBase 3).wr F.SAF_STATE_READY 1, by decide +kernel⟩,
   ⟨{ ((wBase 3).wr F.SAF_STATE_READY 1).wr F.SAF_OUTCMD_HUSKN_HI 15 with saf := { pulse := some { out := .huskN 2, since := 5 } } },
     { out := .huskN 2, since := 5 }, 2, true, false, by decide +kernel⟩,
   ⟨{ (wBase 2).wr F.SAF_STATE_READY 1 with pwr := { pwrEn := true, prep := some { toRun := true, tested := [5, 6, 7, 8, 9, 10] } } },
     15, 15, true, true, by decide +kernel⟩,
   ⟨{ (wBase 2).wr F.SAF_STATE_READY 1 with pwr := { pwrEn := true, prep := some { toRun := true, tested := [5, 6, 7, 8, 9, 10] } } },
     7, 15, 3, true, true, by decide +kernel⟩,
   ⟨{ (wBase 2) with pwr := { pwrEn := true, prep := some { toRun := true } } }, 15, 15, true, true, by decide +kernel⟩⟩

theorem witness_SafetyParametersAndConfirmation :
    (∃ (s : State) (w : ParamWrite),
      s.firmwareUp = true ∧ s.flag F.PWR_MODE_COMM = true ∧ s.islandUp = true ∧ bitAt s.dict.sealed 0 = false ∧
        paramCode w.index w.sub w.value = codeOK ∧ s.saf.params.value w.index w.sub ≠ w.value) ∧
    (∃ (s : State) (w : ParamWrite),
      s.firmwareUp = true ∧ (s.paramService w.index w.sub w.value).1 ≠ codeOK) ∧
    (∃ (s : State),
      s.islandUp = true ∧ s.saf.checkDue.isSome = true) ∧
    (∃ (s : State) (v : Nat),
      s.firmwareUp = true ∧ s.flag F.PWR_MODE_COMM = true ∧ s.islandUp = true ∧ s.saf.params.inOrder = true ∧
        v = s.saf.params.check) ∧
    (∃ (s : State) (v : Nat),
      s.firmwareUp = true ∧ s.flag F.PWR_MODE_COMM = true ∧ s.islandUp = true ∧ (s.saf.params.inOrder = false ∨
        v ≠ s.saf.params.check)) ∧
    (∃ (s : State) (_v : Nat),
      s.firmwareUp = true ∧ (s.flag F.PWR_MODE_COMM = false ∨ s.islandUp = false)) :=
  ⟨⟨((wBase 1).wr F.SAF_STATE_READY 1).wr F.PWR_MODE_COMM 1, { index := 0x5030, sub := 2, value := [9#8] }, by decide +kernel⟩,
   ⟨(wBase 1).wr F.SAF_STATE_READY 1, { index := 0x5030, sub := 2, value := [9#8] }, by decide +kernel⟩,
   ⟨{ (wBase 3).wr F.SAF_STATE_READY 1 with saf := { checkDue := some 5 } }, by decide +kernel⟩,
   ⟨((wBase 1).wr F.SAF_STATE_READY 1).wr F.PWR_MODE_COMM 1, ({} : SafParams).check, by decide +kernel, by decide +kernel,
     by decide +kernel, by decide +kernel, rfl⟩,
   ⟨((wBase 1).wr F.SAF_STATE_READY 1).wr F.PWR_MODE_COMM 1, 2 ^ 32, by decide +kernel, by decide +kernel, by decide +kernel,
     Or.inr (Nat.ne_of_gt (crc32_lt _))⟩,
   ⟨wBase 1, 3, by decide +kernel⟩⟩

theorem witness_FieldNetwork_1 :
    (∃ (s : State) (n _a _i target : Nat),
      s.held 2 = false ∧ s.macAnswers n target = true) ∧
    (∃ (s : State) (n _a _i target : Nat),
      s.macAnswers n target = false) ∧
    (∃ (s : State) (n _a _i d : Nat) (bs : List Byte),
      s.held 2 = false ∧ s.macAnswers n d = true ∧ bs.length ≤ 256 ∧
        ((s.net.pings.getD n []).filter fun u => decide (s.now < u + sec 1)).length < 10) ∧
    (∃ (s : State) (n _a _i d : Nat) (bs : List Byte),
      (s.macAnswers n d = false ∨ 256 < bs.length ∨
        10 ≤ ((s.net.pings.getD n []).filter fun u => decide (s.now < u + sec 1)).length)) ∧
    (∃ (s : State) (n : Nat),
      s.macOn n = true ∧ s.net.down.length = 2 ∧ s.flag (fMacUp n) = true) ∧
    (∃ (s : State) (n u : Nat),
      s.macOn n = true ∧ s.on .safe = true ∧ s.flag (fMacUp n) = false ∧ s.net.down.getD n none = some u ∧
        s.since u (msec 100) = true) ∧
    (∃ (s : State) (n : Nat),
      s.macOn n = true) ∧
    (∃ (s : State) (f : CanRecv),
      f.bus < 2 ∧ s.canUp f.bus = true ∧ f.txErr < 256 ∧ f.rxErr < 256 ∧ (f.sound = false ∨ f.fd = false ∨
        f.ide ≠ s.flag (F.NET_CAN_CFG_IDE f.bus))) ∧
    (∃ (s : State) (f : CanRecv),
      f.bus < 2 ∧ f.sound = true ∧ s.canUp f.bus = true ∧ f.fd = false) ∧
    (∃ (s : State) (f : CanRecv),
      f.bus < 2 ∧ f.sound = true ∧ s.canUp f.bus = true ∧ f.fd = true ∧ f.ide = s.flag (F.NET_CAN_CFG_IDE f.bus) ∧
        f.id = s.rd (F.NET_CAN_REQID_ID f.bus) ∧ s.onothOpen (.can f.bus f.id) = true ∧ s.net.asm.getD f.bus none = none ∧
        leAt f.data 0 1 = 0 ∧ 9 ≤ f.data.length ∧ 8 ≤ (singleMessage f.data).length ∧ s.openRequests (8 + f.bus) < 4) :=
  ⟨⟨(((wBase 3).setN R.NET_CTRL 0xCFF).setN (R.NET_MAC_LO 0) 7).setN (R.NET_IP 0) 9, 0, 1, 2, 9, by decide +kernel⟩,
   ⟨(((wBase 3).setN R.NET_CTRL 0xCFF).setN (R.NET_MAC_LO 0) 7).setN (R.NET_IP 0) 9, 0, 1, 2, 8, by decide +kernel⟩,
   ⟨(((wBase 3).setN R.NET_CTRL 0xCFF).setN (R.NET_MAC_LO 0) 7).setN (R.NET_IP 0) 9, 0, 1, 2, 9, [1#8], by decide +kernel⟩,
   ⟨(((wBase 3).setN R.NET_CTRL 0xCFF).setN (R.NET_MAC_LO 0) 7).setN (R.NET_IP 0) 9, 0, 1, 2, 8, [1#8], by decide +kernel⟩,
   ⟨((((wBase 3).setN R.NET_CTRL 0xCFF).setN (R.NET_MAC_LO 0) 7).setN (R.NET_IP 0) 9).wr F.NET_LINKSTAT_E0_UP 1, 0,
     by decide +kernel⟩,
   ⟨{ (((wBase 3).setN R.NET_CTRL 0xCFF).setN (R.NET_MAC_LO 0) 7).setN (R.NET_IP 0) 9 with net := { down := [some 5, none] } },
     0, 5, by decide +kernel⟩,
   ⟨(((wBase 3).setN R.NET_CTRL 0xCFF).setN (R.NET_MAC_LO 0) 7).setN (R.NET_IP 0) 9, 0, by decide +kernel⟩,
   ⟨(((((wBase 3).setN R.NET_CTRL 0xFFF).wr F.NET_LINKSTAT_C1_STATE 1).wr F.NET_LINKSTAT_C0_STATE 1).wr F.SAF_STATE_READY 1),
     { toCanFrame := ⟨1, 1536, false, true, []⟩, sound := false, txErr := 130 }, by decide +kernel⟩,
   ⟨(((((wBase 3).setN R.NET_CTRL 0xFFF).wr F.NET_LINKSTAT_C1_STATE 1).wr F.NET_LINKSTAT_C0_STATE 1).wr F.SAF_STATE_READY 1),
     { toCanFrame := ⟨1, 1536, false, false, []⟩, txErr := 130 }, by decide +kernel⟩,
   ⟨(((((wBase 3).setN R.NET_CTRL 0xFFF).wr F.NET_LINKSTAT_C1_STATE 1).wr F.NET_LINKSTAT_C0_STATE 1).wr F.SAF_STATE_READY 1),
     { toCanFrame := ⟨1, 1536, false, true, [0#8, 1#8, 2#8, 3#8, 4#8, 5#8, 6#8, 0#8, 0#8]⟩, txErr := 130 }, by decide +kernel⟩⟩

theorem witness_FieldNetwork_2 :
    (∃ (s : State) (f : CanRecv),
      f.bus < 2 ∧ f.sound = true ∧ s.canUp f.bus = true ∧ f.fd = true ∧ f.ide = s.flag (F.NET_CAN_CFG_IDE f.bus) ∧
        f.id = s.rd (F.NET_CAN_REQID_ID f.bus) ∧ s.onothOpen (.can f.bus f.id) = true ∧ s.net.asm.length = 2 ∧
        leAt f.data 0 1 = 0x40 ∧ 3 ≤ f.data.length ∧ leAt f.data 1 2 ≤ 1032 ∧ f.data.length - 3 < leAt f.data 1 2) ∧
    (∃ (s : State) (f : CanRecv) (a : CanAsm),
      f.bus < 2 ∧ f.sound = true ∧ s.canUp f.bus = true ∧ f.fd = true ∧ f.ide = s.flag (F.NET_CAN_CFG_IDE f.bus) ∧
        f.id = s.rd (F.NET_CAN_REQID_ID f.bus) ∧ s.onothOpen (.can f.bus f.id) = true ∧ s.net.asm.getD f.bus none = some a ∧
        leAt f.data 0 1 / 64 = 2 ∧ (leAt f.data 0 1 % 64 ≠ a.next ∨ a.at_ + msec 50 < s.now)) ∧
    (∃ (s : State) (b : Nat) (a : CanAsm),
      s.on .net = true ∧ s.net.asm.getD b none = some a ∧ a.at_ + msec 50 < s.now) ∧
    (∃ (s : State) (b : Nat),
      b < 2 ∧ s.canUp b = true ∧ s.on .safe = true) ∧
    (∃ (s : State) (b : Nat),
      b < 2 ∧ s.on .net = true ∧ s.flag (fCanEn b) = true ∧ s.rd (fCanState b) = 3 ∧ s.flag F.NET_CTRL_AUTOREC = true) :=
  ⟨⟨(((((wBase 3).setN R.NET_CTRL 0xFFF).wr F.NET_LINKSTAT_C1_STATE 1).wr F.NET_LINKSTAT_C0_STATE 1).wr F.SAF_STATE_READY 1),
    { toCanFrame := ⟨1, 1536, false, true, [0x40#8, 80#8, 0#8, 1#8]⟩, txErr := 130 }, by decide +kernel⟩,
   ⟨{ (((((wBase 3).setN R.NET_CTRL 0xFFF).wr F.NET_LINKSTAT_C1_STATE 1).wr F.NET_LINKSTAT_C0_STATE 1).wr F.SAF_STATE_READY 1) with net := { asm := [none, some ⟨80, [], 1, 999999999⟩] } },
     { toCanFrame := ⟨1, 1536, false, true, [0x82#8]⟩, txErr := 130 }, ⟨80, [], 1, 999999999⟩, by decide +kernel⟩,
   ⟨{ (((((wBase 3).setN R.NET_CTRL 0xFFF).wr F.NET_LINKSTAT_C1_STATE 1).wr F.NET_LINKSTAT_C0_STATE 1).wr F.SAF_STATE_READY 1) with net := { asm := [none, some ⟨80, [], 1, 5⟩] } },
     1, ⟨80, [], 1, 5⟩, by decide +kernel⟩,
   ⟨(((((wBase 3).setN R.NET_CTRL 0xFFF).wr F.NET_LINKSTAT_C1_STATE 1).wr F.NET_LINKSTAT_C0_STATE 1).wr F.SAF_STATE_READY 1), 1,
     by decide +kernel⟩,
   ⟨((((((wBase 3).setN R.NET_CTRL 0xFFF).wr F.NET_LINKSTAT_C1_STATE 1).wr F.NET_LINKSTAT_C0_STATE 1).wr F.SAF_STATE_READY
     1)).wr F.NET_LINKSTAT_C1_STATE 3, 1, by decide +kernel⟩⟩

theorem witness_SafetyEnvelopes :
    (∃ (s : State) (src : NetFrom) (port c : Nat) (bs : List Byte),
      s.envOpen src port = true ∧ s.islandUp = true ∧ s.on .safe = true ∧ s.envFor src port = some c ∧ s.net.env.length = 8 ∧
        c < 8 ∧ s.envOpening c src bs = 0 ∧ s.envCopy c bs = false ∧ s.envRest c bs = 0) ∧
    (∃ (s : State) (src : NetFrom) (port c : Nat) (bs : List Byte),
      s.envOpen src port = true ∧ s.islandUp = true ∧ s.on .safe = true ∧ s.envFor src port = some c ∧ s.net.env.length = 8 ∧
        s.envOpening c src bs ≠ 0) ∧
    (∃ (s : State) (src : NetFrom) (port c : Nat) (bs : List Byte),
      s.envOpen src port = true ∧ s.islandUp = true ∧ s.on .safe = true ∧ s.envFor src port = some c ∧ s.net.env.length = 8 ∧
        s.envOpening c src bs = 0 ∧ s.envCopy c bs = false ∧ s.envRest c bs ≠ 0) ∧
    (∃ (s : State) (src : NetFrom) (port c : Nat) (bs : List Byte),
      s.envOpen src port = true ∧ s.islandUp = true ∧ s.on .safe = true ∧ s.envFor src port = some c ∧ s.net.env.length = 8 ∧
        s.envOpening c src bs = 0 ∧ s.envCopy c bs = true ∧ s.rd (F.NET_ENV_CFG_KIND c) ≠ 0) ∧
    (∃ (s : State) (c : Nat),
      c < 8 ∧ s.net.env.length = 8 ∧ s.on .net = true ∧ s.islandUp = true ∧ s.on .safe = true ∧
        s.flag (F.NET_ENV_CFG_EN c) = true ∧ s.rd (F.NET_ENV_CFG_KIND c) ≠ 2 ∧
        s.since (s.envN c).since (msec (s.rd (F.NET_ENV_ID_EXPECT_MS c))) = true ∧ s.rd (F.NET_ENV_STAT_STATE c) ≠ 3) ∧
    (∃ (s : State) (c : Nat),
      c < 8 ∧ s.net.env.length = 8 ∧ s.on .net = true ∧ s.islandUp = true ∧ s.flag (F.NET_ENV_CFG_EN c) = true ∧
        s.rd (F.NET_ENV_CFG_KIND c) = 2 ∧ s.since (s.envN c).since (msec (s.rd (F.NET_ENV_ID_EXPECT_MS c))) = true) ∧
    (∃ (s : State) (c _sub : Nat) (_bs : List Byte),
      s.firmwareUp = true ∧ c < 8) ∧
    (∃ (s : State) (c _sub : Nat) (_bs : List Byte),
      s.firmwareUp = true ∧ 8 ≤ c) :=
  ⟨⟨(((((((((((wBase 3).setN R.NET_CTRL 0xFFF).wr F.NET_LINKSTAT_C1_STATE 1).wr F.NET_LINKSTAT_C0_STATE 1).wr F.SAF_STATE_READY
    1).wr (F.NET_ENV_CFG_EN 2) 1).wr (F.NET_ENV_CFG_KIND 2) 1).wr (F.NET_ENV_CFG_PATH 2) 4).setN (R.NET_ENV_ADDR 2) 77).wr
    (F.NET_ENV_ID_IDENT 2) 5).wr (F.NET_ENV_CFG_TSCHK 2) 0), .can 1 77, 0, 2, (envelopeBytes 5 9 1 0 0 [1#8, 0#8, 0#8, 0#8]),
    by decide +kernel⟩,
   ⟨(((((((((((wBase 3).setN R.NET_CTRL 0xFFF).wr F.NET_LINKSTAT_C1_STATE 1).wr F.NET_LINKSTAT_C0_STATE 1).wr F.SAF_STATE_READY
     1).wr (F.NET_ENV_CFG_EN 2) 1).wr (F.NET_ENV_CFG_KIND 2) 1).wr (F.NET_ENV_CFG_PATH 2) 4).setN (R.NET_ENV_ADDR 2) 77).wr
     (F.NET_ENV_ID_IDENT 2) 5).wr (F.NET_ENV_CFG_TSCHK 2) 0), .can 1 77, 0, 2, [], by decide +kernel⟩,
   ⟨{ ((((((((((((wBase 3).setN R.NET_CTRL 0xFFF).wr F.NET_LINKSTAT_C1_STATE 1).wr F.NET_LINKSTAT_C0_STATE 1).wr F.SAF_STATE_READY 1).wr (F.NET_ENV_CFG_EN 2) 1).wr (F.NET_ENV_CFG_KIND 2) 1).wr (F.NET_ENV_CFG_PATH 2) 4).setN (R.NET_ENV_ADDR 2) 77).wr (F.NET_ENV_ID_IDENT 2) 5).wr (F.NET_ENV_CFG_TSCHK 2) 0)).wr (F.NET_ENV_STAT_SEQ 2) 9 with net := { env := [{}, {}, { skip := false, last := some 3 }, {}, {}, {}, {}, {}] } },
     .can 1 77, 0, 2, (envelopeBytes 5 9 1 0 0 [1#8, 0#8, 0#8, 0#8]), by decide +kernel⟩,
   ⟨{ ((((((((((((wBase 3).setN R.NET_CTRL 0xFFF).wr F.NET_LINKSTAT_C1_STATE 1).wr F.NET_LINKSTAT_C0_STATE 1).wr F.SAF_STATE_READY 1).wr (F.NET_ENV_CFG_EN 2) 1).wr (F.NET_ENV_CFG_KIND 2) 1).wr (F.NET_ENV_CFG_PATH 2) 4).setN (R.NET_ENV_ADDR 2) 77).wr (F.NET_ENV_ID_IDENT 2) 5).wr (F.NET_ENV_CFG_TSCHK 2) 0)).wr (F.NET_ENV_STAT_SEQ 2) 9 with net := { env := [{}, {}, { skip := false, last := some (envTail (envelopeBytes 5 9 1 0 0 [1#8, 0#8, 0#8, 0#8])) }, {}, {}, {}, {}, {}] } },
     .can 1 77, 0, 2, (envelopeBytes 5 9 1 0 0 [1#8, 0#8, 0#8, 0#8]), by decide +kernel⟩,
   ⟨(((((((((((wBase 3).setN R.NET_CTRL 0xFFF).wr F.NET_LINKSTAT_C1_STATE 1).wr F.NET_LINKSTAT_C0_STATE 1).wr F.SAF_STATE_READY
     1).wr (F.NET_ENV_CFG_EN 2) 1).wr (F.NET_ENV_CFG_KIND 2) 1).wr (F.NET_ENV_CFG_PATH 2) 4).setN (R.NET_ENV_ADDR 2) 77).wr
     (F.NET_ENV_ID_IDENT 2) 5).wr (F.NET_ENV_CFG_TSCHK 2) 0), 2, by decide +kernel⟩,
   ⟨((((((((((((wBase 3).setN R.NET_CTRL 0xFFF).wr F.NET_LINKSTAT_C1_STATE 1).wr F.NET_LINKSTAT_C0_STATE 1).wr F.SAF_STATE_READY
     1).wr (F.NET_ENV_CFG_EN 2) 1).wr (F.NET_ENV_CFG_KIND 2) 1).wr (F.NET_ENV_CFG_PATH 2) 4).setN (R.NET_ENV_ADDR 2) 77).wr
     (F.NET_ENV_ID_IDENT 2) 5).wr (F.NET_ENV_CFG_TSCHK 2) 0)).wr (F.NET_ENV_CFG_KIND 2) 2, 2, by decide +kernel⟩,
   ⟨((wBase 1).wr F.SAF_STATE_READY 1).wr F.PWR_MODE_COMM 1, 2, 1, [1#8], by decide +kernel⟩,
   ⟨wBase 1, 9, 1, [], by decide +kernel⟩⟩

theorem witness_RequestsAreServed_1 :
    (∃ (s : State) (b n : Nat) (bs : List Byte),
      s.onothOpen (.can b n) = true ∧ 8 ≤ bs.length ∧ s.openRequests (8 + b) < 4) ∧
    (∃ (s : State) (b n : Nat) (bs : List Byte),
      s.onothOpen (.can b n) = true ∧ 8 ≤ bs.length ∧ 4 ≤ s.openRequests (8 + b)) ∧
    (∃ (s : State) (a b ip port : Nat) (bs : List Byte),
      s.onothOpen (.udp a b ip port) = true ∧ s.onoth.udp.length = 8 ∧ 8 ≤ bs.length ∧
        s.openRequests (s.udpEntry ip port) < 4) ∧
    (∃ (s : State) (f : NetFrom) (bs : List Byte),
      (s.onothOpen f = false ∨ bs.length < 8)) ∧
    (∃ (s : State) (q : OnothReq) (c : Instr) (svc : Nat),
      (c, svc) ∈ [(Instr.read, svcRead), (Instr.write, svcWrite), (Instr.readSnap, svcSnap), (Instr.domRead, svcDomRead),
        (Instr.domBegin, svcDomBegin), (Instr.domWrite, svcDomWrite), (Instr.domEnd, svcDomEnd), (Instr.domAbort, svcDomAbort)]
        ∧ (s.firmwareUp = false ∨ s.nextRequest = none ∨ (s.nextRequest = some q ∧ formCode q.message = codeOK ∧
        msgSvc q.message ≠ svc))) ∧
    (∃ (s : State) (q : OnothReq) (c : Instr) (svc : Nat),
      (c, svc) ∈ [(Instr.read, svcRead), (Instr.write, svcWrite), (Instr.readSnap, svcSnap), (Instr.domRead, svcDomRead),
        (Instr.domBegin, svcDomBegin), (Instr.domWrite, svcDomWrite), (Instr.domEnd, svcDomEnd), (Instr.domAbort, svcDomAbort)]
        ∧ s.firmwareUp = true ∧ s.nextRequest = some q ∧ (formCode q.message ≠ codeOK ∨ msgSvc q.message = svc) ∧
        repeats q.message (s.onoth.last.getD q.client (0, [])) = true) ∧
    (∃ (s : State) (q : OnothReq) (c : Instr) (svc : Nat),
      (c, svc) ∈ [(Instr.read, svcRead), (Instr.write, svcWrite), (Instr.readSnap, svcSnap), (Instr.domRead, svcDomRead),
        (Instr.domBegin, svcDomBegin), (Instr.domWrite, svcDomWrite), (Instr.domEnd, svcDomEnd), (Instr.domAbort, svcDomAbort)]
        ∧ s.firmwareUp = true ∧ s.nextRequest = some q ∧ formCode q.message ≠ codeOK ∧ q.client < 11 ∧
        s.onoth.last.length = 11 ∧ repeats q.message (s.onoth.last.getD q.client (0, [])) = false) ∧
    (∃ (s : State) (q : OnothReq),
      s.Serves q svcRead ∧ s.gateRead (msgIndex q.message) (msgSub q.message) = codeOK ∧ ((msgData q.message)).isEmpty = true ∧
        (s.objValue q.client (msgIndex q.message) (msgSub q.message)).length ≤ 1024 ∧ (msgIndex q.message) < 0xB000) ∧
    (∃ (s : State) (q : OnothReq),
      s.Serves q svcRead ∧ s.gateRead (msgIndex q.message) (msgSub q.message) ≠ codeOK) ∧
    (∃ (s : State) (q : OnothReq) (a : Nat),
      s.Serves q svcWrite ∧ entryAddr (msgIndex q.message) (msgSub q.message) = some a ∧
        s.gateWrite (msgIndex q.message) (msgSub q.message) (msgData q.message) = codeOK ∧ ((msgData q.message)).length = 4 ∧
        s.regCode a (BitVec.ofNat 32 (ofLeBytes (msgData q.message))) = codeOK ∧ a ≠ R.LAY_SHEAF) :=
  ⟨⟨(((wBase 3).setN R.NET_CTRL 0xFFF).wr F.NET_LINKSTAT_C1_STATE 1), 1, 1536, [1#8, 7#8, 0#8, 16#8, 1#8, 0#8, 0#8, 0#8],
    by decide +kernel⟩,
   ⟨{ (((wBase 3).setN R.NET_CTRL 0xFFF).wr F.NET_LINKSTAT_C1_STATE 1) with onoth := { queue := List.replicate 4 { client := 9, src := .can 1 1536, at_ := 5, message := [1#8, 7#8, 0#8, 16#8, 1#8, 0#8, 0#8, 0#8] } } },
     1, 1536, [1#8, 7#8, 0#8, 16#8, 1#8, 0#8, 0#8, 0#8], by decide +kernel⟩,
   ⟨((((wBase 3).setN R.NET_CTRL 0xFFF).setN (R.NET_MAC_LO 0) 7).setN (R.NET_IP 0) 9), 0, 5, 6, 7, [1#8, 7#8, 0#8, 16#8, 1#8,
     0#8, 0#8, 0#8], by decide +kernel⟩,
   ⟨wBase 3, .hspi, [], by decide +kernel⟩,
   ⟨wBase 3, { client := 9, src := .can 1 1536, at_ := 5, message := [] }, Instr.read, svcRead, by decide +kernel⟩,
   ⟨{ wBase 1 with onoth := { queue := [{ client := 9, src := .can 1 1536, at_ := 5, message := [1#8, 7#8, 0#8, 16#8, 1#8, 0#8, 0#8, 0#8] }], last := List.replicate 11 (1, [129#8, 7#8, 0#8, 16#8, 1#8, 0#8, 0#8, 0#8]) } },
     { client := 9, src := .can 1 1536, at_ := 5, message := [1#8, 7#8, 0#8, 16#8, 1#8, 0#8, 0#8, 0#8] }, Instr.read, svcRead,
     by decide +kernel⟩,
   ⟨{ wBase 1 with onoth := { queue := [{ client := 9, src := .can 1 1536, at_ := 5, message := [119#8, 7#8, 0#8, 16#8, 1#8, 0#8, 0#8, 0#8] }] } },
     { client := 9, src := .can 1 1536, at_ := 5, message := [119#8, 7#8, 0#8, 16#8, 1#8, 0#8, 0#8, 0#8] }, Instr.read, svcRead,
     by decide +kernel⟩,
   ⟨{ wBase 1 with onoth := { queue := [{ client := 9, src := .can 1 1536, at_ := 5, message := [1#8, 7#8, 0#8, 16#8, 1#8, 0#8, 0#8, 0#8] }] } },
     { client := 9, src := .can 1 1536, at_ := 5, message := [1#8, 7#8, 0#8, 16#8, 1#8, 0#8, 0#8, 0#8] }, by decide +kernel⟩,
   ⟨{ wBase 1 with onoth := { queue := [{ client := 9, src := .can 1 1536, at_ := 5, message := [1#8, 7#8, 52#8, 18#8, 1#8, 0#8, 0#8, 0#8] }] } },
     { client := 9, src := .can 1 1536, at_ := 5, message := [1#8, 7#8, 52#8, 18#8, 1#8, 0#8, 0#8, 0#8] }, by decide +kernel⟩,
   ⟨{ wBase 1 with onoth := { queue := [{ client := 9, src := .can 1 1536, at_ := 5, message := [2#8, 7#8, 0#8, 35#8, 2#8, 0#8, 4#8, 0#8, 100#8, 70#8, 50#8, 0#8] }] } },
     { client := 9, src := .can 1 1536, at_ := 5, message := [2#8, 7#8, 0#8, 35#8, 2#8, 0#8, 4#8, 0#8, 100#8, 70#8, 50#8, 0#8] },
     R.ODX_CFG, by decide +kernel⟩⟩

theorem witness_RequestsAreServed_2 :
    (∃ (s : State) (q : OnothReq),
      s.Serves q svcWrite ∧ s.gateWrite (msgIndex q.message) (msgSub q.message) (msgData q.message) ≠ codeOK ∧
        (msgIndex q.message) ≠ 0x2001) ∧
    (∃ (s : State) (q : OnothReq),
      s.Serves q svcWrite ∧ (msgIndex q.message) = 0x1009 ∧ (msgSub q.message) = 0 ∧ s.flag F.PWR_MODE_COMM = true ∧
        s.isSealed 0x1009 0 = false ∧ ((msgData q.message)).length ≤ 32 ∧ utf8Ok (msgData q.message) = true) ∧
    (∃ (s : State) (q : OnothReq),
      s.Serves q svcSnap ∧ 1 ≤ leAt (msgData q.message) 0 1 ∧ leAt (msgData q.message) 0 1 ≤ 16 ∧
        ((msgData q.message)).length = 1 + 3 * leAt (msgData q.message) 0 1 ∧
        (leBytes 8 s.localTime ++ (List.range (leAt (msgData q.message) 0 1)).flatMap fun (j : Nat) => s.snapEntry q.client
        (((msgData q.message)).drop (1 + 3 * j))).length ≤ 1024) ∧
    (∃ (s : State) (q : OnothReq),
      s.Serves q svcDomRead ∧ s.gateRead (msgIndex q.message) (msgSub q.message) = codeOK ∧
        (s.typeOf (msgIndex q.message) (msgSub q.message)).isDom = true ∧ ((msgData q.message)).length = 6 ∧
        1 ≤ leAt (msgData q.message) 4 2 ∧ leAt (msgData q.message) 4 2 ≤ 1024 ∧
        leAt (msgData q.message) 0 4 + leAt (msgData q.message) 4 2 ≤ (s.objValue q.client (msgIndex q.message) (msgSub
        q.message)).length ∧ (msgIndex q.message) < 0xB000) ∧
    (∃ (s : State) (q : OnothReq) (max : Nat),
      s.Serves q svcDomBegin ∧ s.gateWrite (msgIndex q.message) (msgSub q.message) [] = codeOK ∧
        s.typeOf (msgIndex q.message) (msgSub q.message) = .dom max ∧ ((msgData q.message)).length = 4 ∧
        domLengthOk (msgIndex q.message) max (leAt (msgData q.message) 0 4) = true ∧ s.mapPending (msgIndex q.message) = false ∧
        (s.onoth.sessions.any fun (x : DomSession) => x.client ≠ q.client && x.index = (msgIndex q.message) && x.sub = (msgSub
        q.message)) = false) ∧
    (∃ (s : State) (q : OnothReq) (max : Nat),
      s.Serves q svcDomBegin ∧ s.gateWrite (msgIndex q.message) (msgSub q.message) [] = codeOK ∧
        s.typeOf (msgIndex q.message) (msgSub q.message) = .dom max ∧ ((msgData q.message)).length = 4 ∧
        domLengthOk (msgIndex q.message) max (leAt (msgData q.message) 0 4) = true ∧ (s.mapPending (msgIndex q.message) = true ∨
        (s.onoth.sessions.any fun (x : DomSession) => x.client ≠ q.client && x.index = (msgIndex q.message) && x.sub = (msgSub
        q.message)) = true)) ∧
    (∃ (s : State) (q : OnothReq) (x : DomSession),
      s.Serves q svcDomWrite ∧ s.sessionFor q.client (msgIndex q.message) (msgSub q.message) = some x ∧
        5 ≤ ((msgData q.message)).length ∧ leAt (msgData q.message) 0 4 + (((msgData q.message)).length - 4) ≤ x.total) ∧
    (∃ (s : State) (q : OnothReq),
      (s.Serves q svcDomWrite ∨ s.Serves q svcDomEnd ∨ s.Serves q svcDomAbort) ∧
        s.sessionFor q.client (msgIndex q.message) (msgSub q.message) = none) ∧
    (∃ (s : State) (q : OnothReq) (x : DomSession),
      s.Serves q svcDomEnd ∧ s.sessionFor q.client (msgIndex q.message) (msgSub q.message) = some x ∧
        s.gateWrite (msgIndex q.message) (msgSub q.message) [] ≠ codeOK) ∧
    (∃ (s : State) (q : OnothReq) (x : DomSession),
      s.Serves q svcDomEnd ∧ s.sessionFor q.client (msgIndex q.message) (msgSub q.message) = some x ∧
        s.gateWrite (msgIndex q.message) (msgSub q.message) [] = codeOK ∧ (x.whole = none ∨ ((msgData q.message)).length ≠ 4 ∨
        x.whole.map crc32 ≠ some (leAt (msgData q.message) 0 4))) :=
  ⟨⟨{ wBase 1 with onoth := { queue := [{ client := 9, src := .can 1 1536, at_ := 5, message := [2#8, 7#8, 0#8, 16#8, 1#8, 0#8, 1#8, 0#8, 0#8] }] } },
    { client := 9, src := .can 1 1536, at_ := 5, message := [2#8, 7#8, 0#8, 16#8, 1#8, 0#8, 1#8, 0#8, 0#8] },
    by decide +kernel⟩,
   ⟨{ (((wBase 1).wr F.PWR_MODE_COMM 1).wr F.SAF_STATE_READY 1) with onoth := { queue := [{ client := 9, src := .can 1 1536, at_ := 5, message := [2#8, 7#8, 9#8, 16#8, 0#8, 0#8, 2#8, 0#8, 65#8, 66#8] }] } },
     { client := 9, src := .can 1 1536, at_ := 5, message := [2#8, 7#8, 9#8, 16#8, 0#8, 0#8, 2#8, 0#8, 65#8, 66#8] },
     by decide +kernel⟩,
   ⟨{ wBase 1 with onoth := { queue := [{ client := 9, src := .can 1 1536, at_ := 5, message := [3#8, 7#8, 0#8, 0#8, 0#8, 0#8, 4#8, 0#8, 1#8, 0#8, 16#8, 1#8] }] } },
     { client := 9, src := .can 1 1536, at_ := 5, message := [3#8, 7#8, 0#8, 0#8, 0#8, 0#8, 4#8, 0#8, 1#8, 0#8, 16#8, 1#8] },
     by decide +kernel⟩,
   ⟨{ wBase 1 with onoth := { queue := [{ client := 9, src := .can 1 1536, at_ := 5, message := [16#8, 7#8, 0#8, 113#8, 1#8, 0#8, 6#8, 0#8, 2#8, 0#8, 0#8, 0#8, 3#8, 0#8] }] } },
     { client := 9, src := .can 1 1536, at_ := 5, message := [16#8, 7#8, 0#8, 113#8, 1#8, 0#8, 6#8, 0#8, 2#8, 0#8, 0#8, 0#8, 3#8, 0#8] },
     by decide +kernel⟩,
   ⟨{ (((wBase 1).wr F.PWR_MODE_COMM 1).wr F.SAF_STATE_READY 1) with onoth := { queue := [{ client := 9, src := .can 1 1536, at_ := 5, message := [17#8, 7#8, 1#8, 80#8, 0#8, 0#8, 4#8, 0#8, 0#8, 16#8, 0#8, 0#8] }] } },
     { client := 9, src := .can 1 1536, at_ := 5, message := [17#8, 7#8, 1#8, 80#8, 0#8, 0#8, 4#8, 0#8, 0#8, 16#8, 0#8, 0#8] },
     4096, by decide +kernel⟩,
   ⟨{ (((wBase 1).wr F.PWR_MODE_COMM 1).wr F.SAF_STATE_READY 1) with onoth := { queue := [{ client := 9, src := .can 1 1536, at_ := 5, message := [17#8, 7#8, 1#8, 80#8, 0#8, 0#8, 4#8, 0#8, 0#8, 16#8, 0#8, 0#8] }], sessions := [{ client := 4, index := 20481, sub := 0, total := 4096, pieces := [], at_ := 5 }] } },
     { client := 9, src := .can 1 1536, at_ := 5, message := [17#8, 7#8, 1#8, 80#8, 0#8, 0#8, 4#8, 0#8, 0#8, 16#8, 0#8, 0#8] },
     4096, by decide +kernel⟩,
   ⟨{ (((wBase 1).wr F.PWR_MODE_COMM 1).wr F.SAF_STATE_READY 1) with onoth := { queue := [{ client := 9, src := .can 1 1536, at_ := 5, message := [18#8, 7#8, 1#8, 80#8, 0#8, 0#8, 5#8, 0#8, 0#8, 0#8, 0#8, 0#8, 7#8] }], sessions := [{ client := 9, index := 20481, sub := 0, total := 4096, pieces := [], at_ := 5 }] } },
     { client := 9, src := .can 1 1536, at_ := 5, message := [18#8, 7#8, 1#8, 80#8, 0#8, 0#8, 5#8, 0#8, 0#8, 0#8, 0#8, 0#8, 7#8] },
     { client := 9, index := 20481, sub := 0, total := 4096, pieces := [], at_ := 5 }, by decide +kernel⟩,
   ⟨{ wBase 1 with onoth := { queue := [{ client := 9, src := .can 1 1536, at_ := 5, message := [18#8, 7#8, 1#8, 80#8, 0#8, 0#8, 5#8, 0#8, 0#8, 0#8, 0#8, 0#8, 7#8] }] } },
     { client := 9, src := .can 1 1536, at_ := 5, message := [18#8, 7#8, 1#8, 80#8, 0#8, 0#8, 5#8, 0#8, 0#8, 0#8, 0#8, 0#8, 7#8] },
     by decide +kernel⟩,
   ⟨{ wBase 1 with onoth := { queue := [{ client := 9, src := .can 1 1536, at_ := 5, message := [19#8, 7#8, 1#8, 80#8, 0#8, 0#8, 4#8, 0#8, 0#8, 0#8, 0#8, 0#8] }], sessions := [{ client := 9, index := 20481, sub := 0, total := 4096, pieces := [], at_ := 5 }] } },
     { client := 9, src := .can 1 1536, at_ := 5, message := [19#8, 7#8, 1#8, 80#8, 0#8, 0#8, 4#8, 0#8, 0#8, 0#8, 0#8, 0#8] },
     { client := 9, index := 20481, sub := 0, total := 4096, pieces := [], at_ := 5 }, by decide +kernel⟩,
   ⟨{ (((wBase 1).wr F.PWR_MODE_COMM 1).wr F.SAF_STATE_READY 1) with onoth := { queue := [{ client := 9, src := .can 1 1536, at_ := 5, message := [19#8, 7#8, 1#8, 80#8, 0#8, 0#8, 4#8, 0#8, 0#8, 0#8, 0#8, 0#8] }], sessions := [{ client := 9, index := 20481, sub := 0, total := 4096, pieces := [], at_ := 5 }] } },
     { client := 9, src := .can 1 1536, at_ := 5, message := [19#8, 7#8, 1#8, 80#8, 0#8, 0#8, 4#8, 0#8, 0#8, 0#8, 0#8, 0#8] },
     { client := 9, index := 20481, sub := 0, total := 4096, pieces := [], at_ := 5 }, by decide +kernel⟩⟩

theorem witness_RequestsAreServed_3 :
    (∃ (s : State) (q : OnothReq) (x : DomSession) (v : List Byte) (n : Nat),
      s.Serves q svcDomEnd ∧ s.sessionFor q.client (msgIndex q.message) (msgSub q.message) = some x ∧ n < 8 ∧
        (msgIndex q.message) = 0xB000 + n ∧ (msgSub q.message) = 1 ∧
        s.gateWrite (msgIndex q.message) (msgSub q.message) [] = codeOK ∧ x.whole = some v ∧ 1 ≤ v.length ∧ v.length ≤ 64 ∧
        ((msgData q.message)).length = 4 ∧ crc32 v = leAt (msgData q.message) 0 4 ∧ s.flag (F.MBX_CH_STAT_FULL n) = false) ∧
    (∃ (s : State) (q : OnothReq) (x : DomSession) (v : List Byte) (n : Nat),
      s.Serves q svcDomEnd ∧ s.sessionFor q.client (msgIndex q.message) (msgSub q.message) = some x ∧ n < 4 ∧
        s.cal.checks.length = 4 ∧ (msgIndex q.message) = 0x8110 + n ∧ (msgSub q.message) = 0 ∧
        s.gateWrite (msgIndex q.message) (msgSub q.message) [] = codeOK ∧ x.whole = some v ∧
        domLengthOk (0x8110 + n) 524352 v.length = true ∧ ((msgData q.message)).length = 4 ∧
        crc32 v = leAt (msgData q.message) 0 4 ∧ s.armed (.map n) = false ∧ s.cal.checks.getD n none = none) ∧
    (∃ (s : State) (q : OnothReq) (x : DomSession),
      s.Serves q svcDomAbort ∧ s.sessionFor q.client (msgIndex q.message) (msgSub q.message) = some x ∧
        ((msgData q.message)).isEmpty = true) ∧
    (∃ (s : State) (c : Nat) (x : DomSession),
      s.sessionOf c = some x ∧ s.firmwareUp = true ∧ s.since x.at_ (sec 2) = true) ∧
    (∃ (s : State) (c : Nat),
      (s.sessionOf c = none ∨ s.firmwareUp = false)) ∧
    (∃ (s : State) (q : OnothReq),
      s.firmwareUp = true ∧ (s.onoth.queue.filter fun (p : OnothReq) => s.since p.at_ (msec (s.rd F.ODX_CFG_WAIT_MS))) = [q]) ∧
    (∃ (s : State) (data : Word),
      s.memError .hspi 4 true slotDoor = none ∧ s.firmwareUp = true ∧ data.toNat % 256 ≠ s.onoth.token ∧
        s.openRequests 10 = 0) ∧
    (∃ (s : State) (m : Master) (_data : Word) (k : Nat),
      s.memError m 4 true slotDoor = some k) :=
  ⟨⟨{ (((wBase 1).wr (F.MBX_CH_CFG_EN 2) 1).wr (F.MBX_CH_CFG_TUNNEL 2) 1).wr (F.MBX_CH_CFG_SENDER 2) 1 with onoth := { queue := [{ client := 9, src := .can 1 1536, at_ := 5, message := [19#8, 7#8, 2#8, 176#8, 1#8, 0#8, 4#8, 0#8, 246#8, 74#8, 3#8, 201#8] }], sessions := [{ client := 9, index := 45058, sub := 1, total := 1, pieces := [(0, [0x55#8])], at_ := 5 }] } },
    { client := 9, src := .can 1 1536, at_ := 5, message := [19#8, 7#8, 2#8, 176#8, 1#8, 0#8, 4#8, 0#8, 246#8, 74#8, 3#8, 201#8] },
    { client := 9, index := 45058, sub := 1, total := 1, pieces := [(0, [0x55#8])], at_ := 5 }, [0x55#8], 2, by decide +kernel⟩,
   ⟨{ ((wBase 1).wr F.PWR_MODE_COMM 1) with onoth := { queue := [{ client := 9, src := .can 1 1536, at_ := 5, message := [19#8, 7#8, 18#8, 129#8, 0#8, 0#8, 4#8, 0#8, 54#8, 99#8, 141#8, 117#8] }], sessions := [{ client := 9, index := 33042, sub := 0, total := 64, pieces := [(0, List.replicate 64 0#8)], at_ := 5 }] } },
     { client := 9, src := .can 1 1536, at_ := 5, message := [19#8, 7#8, 18#8, 129#8, 0#8, 0#8, 4#8, 0#8, 54#8, 99#8, 141#8, 117#8] },
     { client := 9, index := 33042, sub := 0, total := 64, pieces := [(0, List.replicate 64 0#8)], at_ := 5 }, List.replicate 64
     0#8, 2, by decide +kernel⟩,
   ⟨{ (((wBase 1).wr F.PWR_MODE_COMM 1).wr F.SAF_STATE_READY 1) with onoth := { queue := [{ client := 9, src := .can 1 1536, at_ := 5, message := [20#8, 7#8, 1#8, 80#8, 0#8, 0#8, 0#8, 0#8] }], sessions := [{ client := 9, index := 20481, sub := 0, total := 4096, pieces := [], at_ := 5 }] } },
     { client := 9, src := .can 1 1536, at_ := 5, message := [20#8, 7#8, 1#8, 80#8, 0#8, 0#8, 0#8, 0#8] },
     { client := 9, index := 20481, sub := 0, total := 4096, pieces := [], at_ := 5 }, by decide +kernel⟩,
   ⟨{ wBase 1 with now := 9000000000, onoth := { sessions := [{ client := 9, index := 20481, sub := 0, total := 64, pieces := [], at_ := 5 }] } },
     9, { client := 9, index := 20481, sub := 0, total := 64, pieces := [], at_ := 5 }, by decide +kernel⟩,
   ⟨wBase 1, 9, by decide +kernel⟩,
   ⟨{ wBase 1 with onoth := { queue := [{ client := 9, src := .can 1 1536, at_ := 5, message := [1#8, 7#8, 0#8, 16#8, 1#8, 0#8, 0#8, 0#8] }] } },
     { client := 9, src := .can 1 1536, at_ := 5, message := [1#8, 7#8, 0#8, 16#8, 1#8, 0#8, 0#8, 0#8] }, by decide +kernel⟩,
   ⟨wBase 1, 5#32, by decide +kernel⟩,
   ⟨(wBase 0).wr F.PWR_DOMSTAT_ON 0, .hspi, 5#32, 5, by decide +kernel⟩⟩

theorem witness_DictionaryCommands_1 :
    (∃ (s : State) (c : Instr),
      s.firmwareUp = false ∧
        c ∈ [Instr.commissionEnter, Instr.commissionLeave, Instr.dictStore, Instr.defaults, Instr.clearPeak,
        Instr.attentionEval]) ∧
    (∃ (s : State),
      s.firmwareUp = true ∧ s.mode = .standby ∧ s.demand = false) ∧
    (∃ (s : State),
      s.firmwareUp = true ∧ (s.mode ≠ .standby ∨ s.demand = true)) ∧
    (∃ (s : State),
      s.firmwareUp = true ∧ s.flag F.PWR_MODE_COMM = true) ∧
    (∃ (s : State),
      s.firmwareUp = true ∧ s.flag F.PWR_MODE_COMM = false) ∧
    (∃ (s : State),
      s.firmwareUp = true) ∧
    (∃ (s : State),
      s.firmwareUp = true ∧ s.flag F.PWR_MODE_COMM = false) ∧
    (∃ (s : State),
      s.firmwareUp = true ∧ s.flag F.PWR_MODE_COMM = true ∧ s.mode = .standby ∧ Sparse.Wf resetWord s.kept) ∧
    (∃ (s : State) (a : Nat),
      s.firmwareUp = true ∧ s.flag F.PWR_MODE_COMM = true ∧ s.mode = .standby ∧ Sparse.Wf resetWord s.kept ∧
        a ∈ [R.CAL_TOL, R.THM_EXTLIM, R.SCN_LEVLIM, R.ENG_DIV0] ∧ a ∈ s.kept.map Prod.fst ∧
        s.on (blockDom (blockOf a) (a % 0x10000)) = true ∧ (∀ b, b < 12 → s.bitR R.SYS_BLKOWN b = false)) ∧
    (∃ (s : State) (value : Nat),
      s.firmwareUp = true ∧ s.dict.keys.length = 32 ∧ s.flag F.PWR_MODE_COMM = true ∧ (value / 2 ^ 32 % 2 ^ 32) ≠ 0 ∧
        (sealGroups value).all (fun (g : Nat) => decide (g ≤ 5)) = true) :=
  ⟨⟨wBase 1 |>.wr F.BIST_BOOT_DONE 0, Instr.dictStore, by decide +kernel⟩,
   ⟨wBase 1, by decide +kernel⟩,
   ⟨wBase 3, by decide +kernel⟩,
   ⟨((wBase 1).wr F.PWR_MODE_COMM 1), by decide +kernel⟩,
   ⟨wBase 1, by decide +kernel⟩,
   ⟨wBase 1, by decide +kernel⟩,
   ⟨wBase 1, by decide +kernel⟩,
   ⟨{ ((wBase 1).wr F.PWR_MODE_COMM 1) with dict := { objs := [((0x1009, 0), [65#8])] }, kept := [(R.CAL_TOL, 0x01020304#32)] },
     by decide +kernel⟩,
   ⟨{ ((wBase 1).wr F.PWR_MODE_COMM 1) with kept := [(R.CAL_TOL, 0x01020304#32), (R.ENG_DIV0, 7#32)] }, R.ENG_DIV0,
     by decide +kernel⟩,
   ⟨((wBase 1).wr F.PWR_MODE_COMM 1), 0x500000003, by decide +kernel⟩⟩

theorem witness_DictionaryCommands_2 :
    (∃ (s : State) (value : Nat),
      s.firmwareUp = true ∧ (s.flag F.PWR_MODE_COMM = false ∨ (value / 2 ^ 32 % 2 ^ 32) = 0 ∨
        (sealGroups value).any (fun (g : Nat) => decide (5 < g)) = true)) ∧
    (∃ (s : State) (value : Nat),
      s.firmwareUp = true ∧ s.dict.keys.length = 32 ∧ s.dict.unsealFails < 3 ∧
        (sealGroups value).all (fun (g : Nat) => bitAt s.dict.sealed g && s.dict.keys.getD g (0, 0) == ((value / 2 ^ 32 % 2 ^
        32), value % 2 ^ 32)) = true) ∧
    (∃ (s : State) (value : Nat),
      s.firmwareUp = true ∧ (3 ≤ s.dict.unsealFails ∨
        (sealGroups value).any (fun (g : Nat) => !(bitAt s.dict.sealed g && s.dict.keys.getD g (0, 0) == ((value / 2 ^ 32 % 2 ^
        32), value % 2 ^ 32))) = true)) ∧
    (∃ (s : State) (value : Nat),
      s.firmwareUp = true ∧ s.flag F.PWR_MODE_COMM = true ∧ value = s.boot.runRollback ∧ s.boot.rollback < value ∧ value ≤ 63) ∧
    (∃ (s : State) (value : Nat),
      s.firmwareUp = true ∧ (s.flag F.PWR_MODE_COMM = false ∨ value ≠ s.boot.runRollback ∨ value ≤ s.boot.rollback ∨
        63 < value)) ∧
    (∃ (s : State),
      s.firmwareUp = true) ∧
    (∃ (s : State) (_value : Word),
      s.firmwareUp = true) ∧
    (∃ (s : State),
      s.firmwareUp = true ∧ s.dueSince (s.ran.lookup Timer.attention) (msec 1) = true) ∧
    (∃ (s : State) (_load : Nat),
      s.firmwareUp = true ∧ s.dueSince (s.ran.lookup Timer.load) (msec 10) = true) ∧
    (∃ (s : State) (n : Nat) (bs : List Byte),
      s.firmwareUp = true ∧ n < 8 ∧ s.flag (F.MBX_CH_CFG_TUNNEL n) = true ∧ s.flag (F.MBX_CH_CFG_EN n) = true ∧ s.sender n = 1 ∧
        1 ≤ bs.length ∧ bs.length ≤ 64 ∧ s.flag (F.MBX_CH_STAT_FULL n) = false) :=
  ⟨⟨((wBase 1).wr F.PWR_MODE_COMM 1), 3, by decide +kernel⟩,
   ⟨{ wBase 1 with dict := { sealed := 3, keys := (5, 3) :: (5, 3) :: List.replicate 30 (0, 0) } }, 0x500000003,
     by decide +kernel⟩,
   ⟨{ wBase 1 with dict := { sealed := 3, keys := (5, 3) :: (5, 3) :: List.replicate 30 (0, 0) } }, 0x600000003,
     by decide +kernel⟩,
   ⟨{ ((wBase 1).wr F.PWR_MODE_COMM 1) with boot := { runRollback := 7 } }, 7, by decide +kernel⟩,
   ⟨((wBase 1).wr F.PWR_MODE_COMM 1), 0, by decide +kernel⟩,
   ⟨wBase 1, by decide +kernel⟩,
   ⟨{ wBase 1 with dict := { risen := 7 } }, 2#32, by decide +kernel⟩,
   ⟨wBase 1, by decide +kernel⟩,
   ⟨wBase 1, 97, by decide +kernel⟩,
   ⟨((((wBase 1).wr (F.MBX_CH_CFG_EN 2) 1).wr (F.MBX_CH_CFG_TUNNEL 2) 1).wr (F.MBX_CH_CFG_SENDER 2) 1), 2, [1#8, 2#8, 3#8, 4#8],
     by decide +kernel⟩⟩

theorem witness_DictionaryCommands_3 :
    (∃ (s : State) (n : Nat) (bs : List Byte),
      s.firmwareUp = true ∧ n < 8 ∧ s.flag (F.MBX_CH_CFG_TUNNEL n) = true ∧ s.flag (F.MBX_CH_CFG_EN n) = true ∧ s.sender n = 1 ∧
        1 ≤ bs.length ∧ bs.length ≤ 64 ∧ s.flag (F.MBX_CH_STAT_FULL n) = true) ∧
    (∃ (s : State) (n : Nat) (_bs : List Byte),
      s.firmwareUp = true ∧ n < 8 ∧ (s.flag (F.MBX_CH_CFG_TUNNEL n) = false ∨ s.flag (F.MBX_CH_CFG_EN n) = false ∨
        s.sender n ≠ 1)) ∧
    (∃ (s : State) (n : Nat),
      s.firmwareUp = true ∧ n < 8 ∧ s.mbx.rdseq.length = 16 ∧ s.flag (F.MBX_CH_CFG_TUNNEL n) = true ∧
        s.flag (F.MBX_CH_CFG_EN n) = true ∧ s.receiver n = 1) ∧
    (∃ (s : State) (n : Nat),
      s.firmwareUp = true ∧ n < 8 ∧ (s.flag (F.MBX_CH_CFG_TUNNEL n) = false ∨ s.flag (F.MBX_CH_CFG_EN n) = false ∨
        s.receiver n ≠ 1)) ∧
    (∃ (s : State) (n value : Nat),
      s.firmwareUp = true ∧ n < 8 ∧ value < 2 ^ 32 ∧ s.flag (F.MBX_CH_CFG_TUNNEL n) = true ∧ s.flag (F.MBX_CH_CFG_EN n) = true ∧
        s.receiver n = 1) :=
  ⟨⟨((((wBase 1).wr (F.MBX_CH_CFG_EN 2) 1).wr (F.MBX_CH_CFG_TUNNEL 2) 1).wr (F.MBX_CH_CFG_SENDER 2) 1).wr (F.MBX_CH_STAT_FULL 2)
    1, 2, [1#8, 2#8, 3#8, 4#8], by decide +kernel⟩,
   ⟨wBase 1, 2, [1#8], by decide +kernel⟩,
   ⟨((((wBase 1).wr (F.MBX_CH_CFG_EN 2) 1).wr (F.MBX_CH_CFG_TUNNEL 2) 1).wr (F.MBX_CH_CFG_RECEIVER 2) 1).wr (F.MBX_CH_STAT_FULL
     2) 1, 2, by decide +kernel⟩,
   ⟨wBase 1, 2, by decide +kernel⟩,
   ⟨((((wBase 1).wr (F.MBX_CH_CFG_EN 2) 1).wr (F.MBX_CH_CFG_TUNNEL 2) 1).wr (F.MBX_CH_CFG_RECEIVER 2) 1).wr (F.MBX_CH_STAT_FULL
     2) 1, 2, 5, by decide +kernel⟩⟩

theorem witness_UnitsKeepTheirNumber :
    ∃ (s t : State),
      s.Shaped ∧ step s = .next t :=
  ⟨State.reset, State.reset.idle, by decide +kernel, rfl⟩

theorem witness_AttentionRisesAreCounted :
    ∃ (s : State),
      s.firmwareUp = true ∧ s.dueSince (s.ran.lookup Timer.attention) (msec 1) = true :=
  ⟨wBase 1, by decide +kernel⟩

end Sys2Proof.Tests
end

section
/-!
How a command ends that is a write by bus (R13, R42), and how every other one does; what a write to CAL_CTRL does to SCN_CTRL (R349).
-/

namespace Sys2Proof.Machine

/-! ### Registers and the windows of the mailbox channels -/

/-- The register addresses outside the windows of the mailbox channels (R38, R453). -/
abbrev OutsideWindows (a : Nat) : Prop := 0x40000000 ≤ a ∧ a < 0x40160000 ∧ (a < 0x40120000 ∨ 0x40121000 ≤ a)

theorem OutsideWindows.isReg {a : Nat} (h : OutsideWindows a) : isReg a = true := by
  simp [Machine.isReg, h.1, h.2.1]

theorem OutsideWindows.windowError {a : Nat} (h : OutsideWindows a) (s : State) (m : Master) : s.windowError m a = none := by
  have : ¬(blockOf a = 18 ∧ a % 0x10000 < 0x1000) := by unfold blockOf; omega
  simp [State.windowError, this]

/-- The generation register of every group that the device has lies outside the windows (R47). -/
theorem Group.gen_outsideWindows {g : Group} (h : g.ok = true) : OutsideWindows g.gen := by
  cases g with
  | imu | energy => decide
  | pid n | buck n | proj n | map n | glean n | stream n | satVal n =>
    have hn := of_decide_eq_true h
    simp only [Group.gen, R.PID_L_GEN, R.BUCK_GEN, R.GME_PM_GEN, R.CAL_MAP_GEN, R.LNK_GRGEN, R.VIN_STR_GEN, R.SAT_CH_GEN]
    omega

theorem isReg_window {n off : Nat} (hn : n < 16) (ho : off < 0x100) : isReg (R.MBX_CH_CFG n + off) = true := by
  have : 0x40000000 ≤ R.MBX_CH_CFG n + off ∧ R.MBX_CH_CFG n + off < 0x40160000 := by unfold R.MBX_CH_CFG; omega
  simp [isReg, this]

theorem State.windowError_window {n off : Nat} (hn : n < 16) (ho : off < 0x100) (s : State) (m : Master) :
    s.windowError m (R.MBX_CH_CFG n + off) = s.mbxError m n off := by
  have hb : blockOf (R.MBX_CH_CFG n + off) = 18 := by unfold blockOf R.MBX_CH_CFG; omega
  have hw : (R.MBX_CH_CFG n + off) % 0x10000 = 0x100 * n + off := by unfold R.MBX_CH_CFG; omega
  have hm : (R.MBX_CH_CFG n + off) % 0x100 = off := by unfold R.MBX_CH_CFG; omega
  have hq : (0x100 * n + off) / 0x100 = n := by omega
  have hl : 0x100 * n + off < 0x1000 := by omega
  simp [State.windowError, hb, hw, hm, hq, hl]

/-- At a register the cause of R42 is the interconnect's, or else that of the channel's window. -/
theorem State.writeCause_reg {a : Nat} (h : isReg a = true) (s : State) (m : Master) (size : Nat) :
    s.writeCause m size a = (s.regError m size true a).or (s.windowError m a) := by
  simp [State.writeCause, State.busError, h]

/-! ### The two ends of a write by bus -/

/-- A write by bus for which the manual guarantees nothing: no cause of R42 turns it away, and it sets a reserved bit of a register (R13). -/
abbrev State.SetsReserved (s : State) (m : Master) (size a : Nat) (data : Word) : Prop :=
  s.writeCause m size a = none ∧ isReg a = true ∧ reservedSet a data = true

/-- An outcome ends a write by bus: with the fault of a reserved bit where the manual guarantees nothing, with a next state everywhere else. -/
def State.EndsWrite (s : State) (m : Master) (size a : Nat) (data : Word) (o : Out) : Prop :=
  (s.SetsReserved m size a data ∧ o = .fault .reservedBit) ∨ (¬s.SetsReserved m size a data ∧ ∃ t, o = .next t)

theorem State.endsWrite_withBus {a : Nat} (h : OutsideWindows a) (s : State) (m : Master) (data : Word) (k : State → State) :
    s.EndsWrite m 4 a data (s.withBus m a data k) := by
  have hc : s.writeCause m 4 a = s.regError m 4 true a := by simp [State.writeCause_reg h.isReg, h.windowError]
  rcases s.withBus_cases m a data k with ⟨c, he, hx⟩ | ⟨he, hr, hx⟩ | ⟨-, hr, hx⟩
  · exact .inr ⟨by simp [hc, he], _, hx⟩
  · exact .inl ⟨⟨hc.trans he, h.isReg, hr⟩, hx⟩
  · exact .inr ⟨by simp [hr], _, hx⟩

theorem State.endsWrite_mbxWrite {n off : Nat} (hn : n < 16) (ho : off < 0x100) (s : State) (m : Master) (data : Word) :
    s.EndsWrite m 4 (R.MBX_CH_CFG n + off) data (s.mbxWrite m n off data) := by
  have hc := s.writeCause_reg (isReg_window hn ho) m 4
  rw [State.windowError_window hn ho] at hc
  cases he : s.regError m 4 true (R.MBX_CH_CFG n + off) with
  | some c => exact .inr ⟨by simp [hc, he], s.captureError m true (R.MBX_CH_CFG n + off) c, by simp only [State.mbxWrite, he]⟩
  | none =>
    cases hw : s.mbxError m n off with
    | some c => exact .inr ⟨by simp [hc, he, hw], s.captureError m true (R.MBX_CH_CFG n + off) c, by simp only [State.mbxWrite, he, hw]⟩
    | none =>
      cases hr : reservedSet (R.MBX_CH_CFG n + off) data with
      | true => exact .inl ⟨⟨by simp [hc, he, hw], isReg_window hn ho, hr⟩, by simp [State.mbxWrite, he, hw, hr]⟩
      | false => exact .inr ⟨by simp [hr], s.mbxStore m n off data, by simp [State.mbxWrite, he, hw, hr]⟩

theorem State.endsWrite_execRegisterWrite (s : State) (m : Master) (size a : Nat) (data : Word) :
    s.EndsWrite m size a data (execRegisterWrite m size a data s) := by
  unfold execRegisterWrite
  cases he : s.busError m size true a with
  | some c => exact .inr ⟨by simp [State.writeCause, he], _, rfl⟩
  | none =>
    cases ha : isReg a with
    | false => exact .inr ⟨by simp [ha], _, rfl⟩
    | true =>
      cases hw : s.windowError m a with
      | some c => exact .inr ⟨by simp [State.writeCause, he, ha, hw], _, rfl⟩
      | none =>
        cases hr : reservedSet a data with
        | true => exact .inl ⟨⟨by simp [State.writeCause, he, ha, hw], ha, hr⟩, rfl⟩
        | false => exact .inr ⟨by simp [hr], _, rfl⟩

theorem State.endsWrite_execHspiDoor (s : State) (m : Master) (data : Word) : s.EndsWrite m 4 slotDoor data (execHspiDoor m data s) :=
  .inr ⟨fun h => absurd h.2.1 (by decide), _, rfl⟩

/-! ### Every command -/

/-- A command that writes the register of an index ends as a write by bus where the device has the index, and leaves the state alone elsewhere. -/
theorem State.endsWrite_ofIndex {n k a : Nat} {m : Master} {data : Word} {s : State} {o : Out} (h : n < k → s.EndsWrite m 4 a data o) :
    s.EndsWrite m 4 a data (if k ≤ n then .next s else o) ∨ (decide (n < k) = false ∧ (if k ≤ n then .next s else o) = .next s) := by
  by_cases hn : n < k
  · exact .inl (by rw [if_neg (by omega)]; exact h hn)
  · exact .inr ⟨by simp [hn], if_pos (by omega)⟩

/-- The same for a generation register. -/
theorem State.endsWrite_ofGroup {g : Group} {m : Master} {data : Word} {s : State} {k : State → State} :
    s.EndsWrite m 4 g.gen data (if !g.ok then .next s else s.withBus m g.gen data k) ∨
      (g.ok = false ∧ (if !g.ok then .next s else s.withBus m g.gen data k) = .next s) := by
  cases hg : g.ok with
  | true => exact .inl (State.endsWrite_withBus (Group.gen_outsideWindows hg) ..)
  | false => exact .inr ⟨rfl, rfl⟩

end Sys2Proof.Machine

namespace Sys2Proof
open Machine

/-- A command with a row for its register ends as a write by bus, or it is ill formed and leaves the state alone. -/
theorem endsWrite_of_busWrite {c : Instr} {m : Master} {a : Nat} {data : Word} (h : c.busWrite = some (m, a, data)) (s : State) :
    s.EndsWrite m 4 a data (exec c s) ∨ (c.wf = false ∧ exec c s = .next s) := by
  cases c with
  | sysBlkownWrite | modeReqSet | recover | clearDark | rungateWrite | domctlWrite | padholdRelease | sleepGo | bistStart | bistAbort |
    vinOlcfgWrite | vinImucfgWrite | sheafArm | sheafDisarm | symbolLoad | symbolEvict | symbolEvictUnused | captureStart | captureAbort |
    driveCycleRestart | fullcharStart | fullcharAbort | countClear | msgNext | mbxEprst =>
    cases h
    left
    dsimp only [exec, execSysBlkownWrite, execModeReqSet, execRecover, execClearDark, execRungateWrite, execDomctlWrite,
      execPadholdRelease, execSleepGo,
      execBistStart, execBistAbort, execVinOlcfgWrite, execVinImucfgWrite, execSheafArm, execSheafDisarm, execSymbolLoad, execSymbolEvict,
      execSymbolEvictUnused, execCaptureStart, execCaptureAbort, execDriveCycleRestart, execFullcharStart, execFullcharAbort,
      execCountClear, execMsgNext, execMbxEprst]
    exact State.endsWrite_withBus (by decide) ..
  | satTimingWrite _ latch =>
    cases h
    left
    dsimp only [exec, execSatTimingWrite]
    exact State.endsWrite_withBus (by cases latch <;> decide) ..
  | pidGroupCfgWrite | buckEnable | sourceHandle | sourceShandle | sourceClear | classWrite | graceWrite =>
    cases h
    left
    dsimp only [exec, execPidGroupCfgWrite, execBuckEnable, execSourceHandle, execSourceShandle, execSourceClear, execClassWrite,
      execGraceWrite]
    refine State.endsWrite_withBus ?_ ..
    simp only [R.PID_GRP_CFG, R.BUCK_CFG, R.BRM_HANDLED, R.BRM_SHANDLED, R.BRM_STAT, R.BRM_CLASS, R.BRM_GRACE]
    omega
  | genArm | genNoarmClear =>
    cases h
    exact State.endsWrite_ofGroup
  | linkEnable | lightSet | retrain | ping | ident | regWrite | regRead | huskUnlock | huskCommit | tileReset | lockRelease | lockForce |
    cvuStart | cvuDin8 | cvuDin16 | cvuDin32 | cvuRawWrite | cvuAliveInc | cvuAchkWrite | cvuAcfgWrite =>
    cases h
    refine State.endsWrite_ofIndex fun hn => State.endsWrite_withBus ?_ ..
    simp only [R.LNK_CTRL, R.LNK_CMD, R.SEM_LOCK, R.CVU_CTRL, R.CVU_DIN8, R.CVU_DIN16, R.CVU_DIN32, R.CVU_RAW, R.CVU_ALIVE, R.CVU_ACHK,
      R.CVU_ACFG]
    omega
  | satEnumerate w l =>
    cases w with
    | none => nomatch h
    | some w =>
      cases h
      refine State.endsWrite_ofIndex fun hn => State.endsWrite_withBus ?_ ..
      simp only [R.SAT_CH_CTRL]
      omega
  | _ => nomatch h

/-- A command that is a write by bus ends as one, or it is ill formed and leaves the state alone. -/
theorem endsWrite_exec {c : Instr} {m : Master} {size a : Nat} {data : Word} (h : c.writeAccess = some (m, size, a, data)) (s : State) :
    s.EndsWrite m size a data (exec c s) ∨ (c.wf = false ∧ exec c s = .next s) := by
  unfold Instr.writeAccess at h
  split at h
  case h_1 => cases h; exact .inl (s.endsWrite_execRegisterWrite ..)
  case h_2 => cases h; exact State.endsWrite_ofIndex fun hn => s.endsWrite_mbxWrite (off := 0x00) hn (by decide) ..
  case h_3 => cases h; exact State.endsWrite_ofIndex fun hn => s.endsWrite_mbxWrite (off := 0x04) hn (by decide) ..
  case h_4 => cases h; exact State.endsWrite_ofIndex fun hn => s.endsWrite_mbxWrite (off := 0x0C) hn (by decide) ..
  case h_5 => cases h; exact State.endsWrite_ofIndex fun hn => s.endsWrite_mbxWrite (off := 0x10) hn (by decide) ..
  case h_6 => cases h; exact .inl (s.endsWrite_execHspiDoor ..)
  case h_7 =>
    obtain ⟨x, hx, he⟩ := Option.map_eq_some_iff.mp h
    cases he
    exact endsWrite_of_busWrite hx s

/-- A command that is no write by bus answers a next state: the fault stands behind no other access. Most meanings are a next state as they
stand; the listed ones branch first, and a next state stands at the end of every branch. -/
theorem exec_of_not_write {c : Instr} (h : c.writeAccess = none) (s : State) : ∃ t, exec c s = .next t := by
  cases c with
  | registerWrite | sysBlkownWrite | genArm | genNoarmClear | modeReqSet | recover | clearDark | rungateWrite | domctlWrite |
    padholdRelease | sleepGo | bistStart | bistAbort | vinOlcfgWrite | vinImucfgWrite | sheafArm | sheafDisarm | symbolLoad |
    symbolEvict | symbolEvictUnused | captureStart | captureAbort | linkEnable | lightSet | retrain | ping | ident | regWrite |
    regRead | huskUnlock | huskCommit | tileReset | satTimingWrite | pidGroupCfgWrite | buckEnable | driveCycleRestart | fullcharStart |
    fullcharAbort | sourceHandle | sourceShandle | sourceClear | countClear | classWrite | graceWrite | msgNext | hspiDoor | mbxDoor |
    mbxSeen | mbxAck | mbxCfgWrite | mbxEprst | lockRelease | lockForce | cvuStart | cvuDin8 | cvuDin16 | cvuDin32 | cvuRawWrite |
    cvuAliveInc | cvuAchkWrite | cvuAcfgWrite => nomatch h
  | satEnumerate w l =>
    cases w with
    | some w => nomatch h
    | none => dsimp only [exec, execSatEnumerate]; split <;> exact ⟨_, rfl⟩
  | boundary | frameRecordSwitch | refreshStart | bandSlotStart | resetPin | resetPinRelease | lampReqRelease | prepareComplete |
    prepareTimeout | pwrEnHoldExpire | hwhuskLowsideCheck | hwhuskHighsideOn | hwhuskRampEnd | hwhuskRampdownEnd | rvfPacket |
    rvfFrameReady | rvfFrameTimeout | objectListParse | objectTableBuild | imuTrigger | imuSample | retimeHoldEnd |
    composeBandComplete | captureComplete | gmeSnapshot | gmeRenderComplete | maskLatch | scanFillBandComplete | rowSlotStart |
    blankStart | charSlot | clampTableReceive | uplinkBlockLock | trainStateTimeout | commandTimeout | echoDeadline | gleanRecord |
    gleanLockLoss | satPeriodStart | satLatchSend | satCollectSend | satCensusSend | satReturnFrame | satReturnTimeout | satNodeWrite |
    pidSample | pidOutputWrite | buckSwitchPeriod | buckOvervoltage | swClosedFault | harnessGuardTrip | dischargeEnd |
    dischargeTimeout | supplyLoss | pageProgramComplete | orderlyStopHandoff | thermalTrip | mapGroupCheckComplete | buckOffsetTrim |
    fullcharBatch | avsPlan | violationRelease | islandRestartComplete | husknMismatch | outputTestPulseEnd | sourceRaise |
    graceExpiry | brmTestCheck | faultLogFlush | lockAcquire | sectorProgramComplete | trimDue =>
    dsimp only [exec, execBoundary, execFrameRecordSwitch, execRefreshStart, execBandSlotStart, execResetPin, execResetPinRelease,
      execLampReqRelease,
      execPrepareComplete, execPrepareTimeout, execPwrEnHoldExpire, execHwhuskLowsideCheck, execHwhuskHighsideOn, execHwhuskRampEnd,
      execHwhuskRampdownEnd, execRvfPacket, execRvfFrameReady, execRvfFrameTimeout, execObjectListParse, execObjectTableBuild,
      execImuTrigger, execImuSample, execRetimeHoldEnd, execComposeBandComplete, execCaptureComplete, execGmeSnapshot,
      execGmeRenderComplete, execMaskLatch, execScanFillBandComplete, execRowSlotStart, execBlankStart, execCharSlot,
      execClampTableReceive, execUplinkBlockLock, execTrainStateTimeout, execCommandTimeout, execEchoDeadline, execGleanRecord,
      execGleanLockLoss, execSatPeriodStart, execSatLatchSend, execSatCollectSend, execSatCensusSend, execSatReturnFrame,
      execSatReturnTimeout, execSatNodeWrite, execPidSample, execPidOutputWrite, execBuckSwitchPeriod, execBuckOvervoltage,
      execSwClosedFault, execHarnessGuardTrip, execDischargeEnd, execDischargeTimeout, execSupplyLoss, execPageProgramComplete,
      execOrderlyStopHandoff, execThermalTrip, execMapGroupCheckComplete, execBuckOffsetTrim, execFullcharBatch, execAvsPlan,
      execViolationRelease, execIslandRestartComplete, execHusknMismatch, execOutputTestPulseEnd, execSourceRaise, execGraceExpiry,
      execBrmTestCheck, execFaultLogFlush, execLockAcquire, execSectorProgramComplete, execTrimDue]
    repeat' (first | exact ⟨_, rfl⟩ | split)
  | _ => exact ⟨_, rfl⟩

/-- Settles O5: a write by bus has two ends, and every other command answers a next state. -/
theorem commandsAlwaysComplete : Obligations.CommandsAlwaysComplete := by
  intro c s
  cases hw : c.writeAccess with
  | none => exact .inl (exec_of_not_write hw s)
  | some x =>
    obtain ⟨m, size, a, data⟩ := x
    rcases endsWrite_exec hw s with (⟨⟨hc, ha, hr⟩, hf⟩ | ⟨-, hn⟩) | ⟨-, hn⟩
    · exact .inr ⟨m, size, a, data, rfl, hc, ha, hr, hf⟩
    · exact .inl hn
    · exact .inl ⟨s, hn⟩

/-- Settles O7: a well-formed command that is a write by bus ends as one, and no next state ends a write that sets a reserved bit. -/
theorem reservedBitStops : Obligations.ReservedBitStops := by
  intro s c m size a data hwf hw hc ha hr
  rcases endsWrite_exec hw s with (⟨-, hf⟩ | ⟨hn, -⟩) | ⟨hill, -⟩
  · exact hf
  · exact absurd ⟨hc, ha, hr⟩ hn
  · exact absurd hwf (by simp [hill])

end Sys2Proof

namespace Sys2Proof.Machine

/-! ### SPARSE_EN and CHAR_EN (R349) -/

/-- A write that meets no cause of R42 and sets no reserved bit of a register outside the windows reaches the register. -/
theorem exec_registerWrite_reaches {s : State} {m : Master} {a : Nat} {data : Word} (ha : OutsideWindows a) (hacc : s.Accepts m a data)
    (hd : (regDef a).isSome = true) : exec (.registerWrite m 4 a data) s = .next (s.reachReg m a data) := by
  obtain ⟨he, hr⟩ := hacc
  have hb : s.busError m 4 true a = none := by simp [State.busError, ha.isReg, he]
  have hn : (regDef a).isNone = false := by simpa using hd
  simp [exec, execRegisterWrite, hb, ha.isReg, ha.windowError, hr, hn]

/-- A write to CAL_CTRL is followed by firmware, which keeps CHAR_EN. -/
theorem State.reachReg_CAL_CTRL (s : State) (m : Master) (data : Word) :
    s.reachReg m R.CAL_CTRL data = (s.store R.CAL_CTRL data).keepChar := by
  have hb : blockOf R.CAL_CTRL = 5 := by decide
  have ho : R.CAL_CTRL % 0x10000 = 0 := by decide
  have hd : (regDef R.CAL_CTRL).isNone = false := by decide +kernel
  have hs : isSheafReg R.CAL_CTRL = false := by decide +kernel
  have hg : genGroup R.CAL_CTRL = none := by decide
  have hm : memberGroup R.CAL_CTRL = none := by decide
  simp [State.reachReg, State.writeReg, State.writeBlock, State.firmwareWord, State.valueFits, calFits, hb, ho, hd, hs, hg, hm]

theorem State.rd_CHAR_EN_keepChar {s : State} (hf : s.firmwareUp = true) (hon : s.on .scn = true) (ho : s.owns .mgmt 10 = true)
    (he : s.flag F.CAL_CTRL_SPARSE_EN = true) : s.keepChar.rd F.SCN_CTRL_CHAR_EN = 1 := by
  simp only [State.keepChar, hf, hon, ho, he, Bool.and_self, if_true]
  exact s.rd_wr_same _ _ (by decide) (by decide)

/-- A machine in RUN with every domain on and firmware running, in which SPARSE_EN and CHAR_EN are 0 still. -/
def notSparse : State :=
  ((({ pwr := { pwrEn := true } } : State).wr F.PWR_DOMSTAT_ON 0xFFF).wr F.PWR_MODE_MODE 3).wr F.BIST_BOOT_DONE 1

/-- Firmware sets SPARSE_EN in CAL_CTRL, and CHAR_EN of SCN_CTRL follows. -/
theorem notSparse_exec : ∃ t, exec (.registerWrite .mgmt 4 R.CAL_CTRL 1#32) notSparse = .next t ∧ t.rd F.SCN_CTRL_CHAR_EN = 1 := by
  refine ⟨_, (exec_registerWrite_reaches (by decide) (by decide +kernel) (by decide +kernel)).trans (by rw [State.reachReg_CAL_CTRL]), ?_⟩
  exact State.rd_CHAR_EN_keepChar (by decide +kernel) (by decide +kernel) (by decide +kernel) (by decide +kernel)

end Sys2Proof.Machine

namespace Sys2Proof
open Machine

/-- Refutes O8: a write of SPARSE_EN to CAL_CTRL, which counts as a register without a rule of its own, also sets CHAR_EN of SCN_CTRL, since
firmware keeps it at 1 while SPARSE_EN is 1 (R349): the second clause says that the written register alone changes. -/
theorem not_busWritesReachRegistersAndMemory : ¬Obligations.BusWritesReachRegistersAndMemory := by
  intro ⟨_, hplain, _⟩
  obtain ⟨t, ht, -, honly, -⟩ := hplain notSparse .mgmt R.CAL_CTRL 1#32 (by decide) (by decide +kernel) (by decide +kernel)
    (by decide +kernel) (by decide +kernel) (by decide) (by decide)
  obtain ⟨u, hu, hset⟩ := notSparse_exec
  obtain rfl : t = u := by simpa using ht.symm.trans hu
  have hsame : t.rd F.SCN_CTRL_CHAR_EN = notSparse.rd F.SCN_CTRL_CHAR_EN := by
    rw [State.rd, State.regN, honly F.SCN_CTRL_CHAR_EN.addr (by decide)]; rfl
  have hclear : notSparse.rd F.SCN_CTRL_CHAR_EN = 0 := by decide +kernel
  omega

end Sys2Proof
end

section
/-!
The queue (log entry 1), and what a finished program of the dictionary store leaves in the bank of stored values (R433).
-/

namespace Sys2Proof
open Machine

/-- Settles O1: both sides are the front command on the state with the rest of the queue. -/
theorem stepTakesTheFront : Obligations.StepTakesTheFront := fun _ _ _ => rfl

/-- Settles O2: an empty queue leaves the idle cycle, which moves the clock alone. -/
theorem emptyQueueLetsTimePass : Obligations.EmptyQueueLetsTimePass := by
  intro s hs
  simp [step, hs, State.idle]

/-- The last sector of a dictionary store is being programmed, and the store lists register 0 twice; every bank is empty. -/
def storesTwice : State :=
  { pending := [.sectorProgramComplete]
    flash := { prog := some { at_ := 0, data := [] }
               jobs := [{ kind := .dictionary [(0, 1#32), (0, 1#32)] [] {} 0, base := 0, mapId := 0x70, seq := 1, payload := [] }] } }

/-- Refutes O4: the flash writer's job carries its list of register entries as plain data, and the completed program makes that list the
stored bank as it stands, with a key listed twice. -/
theorem not_canonicalIsKept : ¬Obligations.CanonicalIsKept := by
  intro h
  have hstep : step storesTwice = .next (({ storesTwice with pending := [], flash := {} } : State).storeDone
      { kind := .dictionary [(0, 1#32), (0, 1#32)] [] {} 0, base := 0, mapId := 0x70, seq := 1, payload := [] }) := rfl
  obtain ⟨-, -, -, -, hrising, -⟩ := h _ _ (by decide +kernel) hstep
  exact absurd hrising (by decide)

end Sys2Proof
end

section
/-!
Raising a source can write outside the blocks of fault handling: a request of DARK makes every satellite chain send OFF, and a line that
is not idle counts a collision in its SAT_CH_ERRCNT, a register of block 12 (R292, R293, R391).
-/

namespace Sys2Proof.Machine

/-- A machine in RUN with every domain on, in which a source is of class DARK with a grace of 0, while chain 0 is enabled and a
frame is still out on it. -/
def darkOnBusyLine (src : Nat) : State :=
  { ((((({ now := 1000 } : State).wr F.PWR_DOMSTAT_ON 0xFFF).wr F.PWR_MODE_MODE 3).wr (F.SAT_CH_CTRL_EN 0) 1).wr
      ⟨R.BRM_CLASS (src / 16), 2 * (src % 16) + 1, 2 * (src % 16)⟩ 3) with
    sat := { chains := { out := some { cmd := 0, until_ := 2000 } } :: List.replicate 3 {} } }

/-- An outcome is one next state. -/
theorem next_unique {o : Out} {t u : State} (ht : o = .next t) (hu : o = .next u) : t = u := Host.Outcome.next.inj (ht.symm.trans hu)

end Sys2Proof.Machine

namespace Sys2Proof
open Machine

/-- A write by a master that owns no SYS register is captured, and its source reaches SAT_CH_ERRCNT of the busy chain. -/
theorem darkOnBusyLine_busError :
    ((darkOnBusyLine Src.BUS_ACCESS).captureError .hspi true R.SYS_BLKOWN 3).reg (R.SAT_CH_ERRCNT 0)
      ≠ (darkOnBusyLine Src.BUS_ACCESS).reg (R.SAT_CH_ERRCNT 0) := by decide +kernel

/-- Refutes O6: BUS_ACCESS configured as class DARK, a bus error in RUN makes the chains send OFF, and the chain whose line is not idle
counts a collision outside the listed blocks. -/
theorem not_registerWriteTurnedAway : ¬Obligations.RegisterWriteTurnedAway := by
  intro ⟨hon, _⟩
  have herr : (darkOnBusyLine Src.BUS_ACCESS).regError .hspi 4 true R.SYS_BLKOWN = some 3 := by decide +kernel
  obtain ⟨t, ht, -, -, -, hframe, -⟩ := hon (darkOnBusyLine Src.BUS_ACCESS) (.sysBlkownWrite .hspi 0#32) .hspi 4 R.SYS_BLKOWN 0#32 3
    (by decide +kernel) rfl rfl (by decide +kernel)
  have hexec : exec (.sysBlkownWrite .hspi 0#32) (darkOnBusyLine Src.BUS_ACCESS) = .next
      ((darkOnBusyLine Src.BUS_ACCESS).captureError .hspi true R.SYS_BLKOWN 3) := by
    rw [exec, execSysBlkownWrite, State.withBus_error herr]
  exact darkOnBusyLine_busError (next_unique ht hexec ▸ hframe _ (by decide))

/-- A good IDENT record on the line of a port whose descrambler stands at reset (R251, R261). -/
def identLine : List LineBlock := scrambledAll [] (upBlocks 5 0 0 0 (List.replicate 24 0#8))

def identArrived : UpRecord := { kind := 5, tag := 0, status := 0, info := 0, data := List.replicate 24 0#8, good := true }

theorem upRecord_identLine : (darkOnBusyLine (Src.UPLINK_DROP 0)).upRecord 0 ⟨identLine, true⟩ = some identArrived := by decide +kernel

/-- The record dropped at a full queue raises UPLINK_DROP, which reaches SAT_CH_ERRCNT of the busy chain. -/
theorem darkOnBusyLine_uplinkDrop :
    ((((darkOnBusyLine (Src.UPLINK_DROP 0)).hearLine 0 identLine).bump (F.LNK_UPCNT_DROP 0)).raise (Src.UPLINK_DROP 0)).reg (R.SAT_CH_ERRCNT 0)
      ≠ (darkOnBusyLine (Src.UPLINK_DROP 0)).reg (R.SAT_CH_ERRCNT 0) := by decide +kernel

/-- Refutes O48: UPLINK_DROP configured as class DARK, a record at a full queue in RUN makes the chains send OFF, and the chain whose line
is not idle counts a collision outside the blocks of fault handling. -/
theorem not_uplinkRecords : ¬Obligations.UplinkRecords := by
  intro ⟨_, hdrop, _⟩
  have hon : (darkOnBusyLine (Src.UPLINK_DROP 0)).on (portDom 0) = true := by decide +kernel
  obtain ⟨t, ht, -, -, -, hframe, -⟩ := hdrop (darkOnBusyLine (Src.UPLINK_DROP 0)) 0 identLine identArrived (by decide) hon
    (by decide +kernel) upRecord_identLine rfl rfl
  have hexec : exec (.identRecord 0 true identLine) (darkOnBusyLine (Src.UPLINK_DROP 0)) = .next
      ((((darkOnBusyLine (Src.UPLINK_DROP 0)).hearLine 0 identLine).bump (F.LNK_UPCNT_DROP 0)).raise (Src.UPLINK_DROP 0)) := by
    simp [exec, execIdentRecord, State.takeRecord, hon, upRecord_identLine, identArrived]
  exact darkOnBusyLine_uplinkDrop (next_unique ht hexec ▸ hframe _ (by decide))

/-- A refresh that is due starts. -/
theorem exec_refreshStart_due {s : State} {t r : Nat} (hon : s.on .cmp = true) (hdue : s.cf.refDue = some (t, r)) (ht : t ≤ s.now) :
    exec .refreshStart s = .next (s.startRefresh t r) := by
  simp [exec, execRefreshStart, hdue, hon, ht]

/-- That machine at a refresh start, with the CRC of tile 0's maps found to differ in the refresh that ends (R340). -/
def darkAtRefresh : State :=
  { darkOnBusyLine (Src.CAL_MAPCRC 0) with cf := { refDue := some (900, 0), refStart := 800 }, scn := { mapDiff := 1 } }

/-- CAL_MAPCRC is raised as the refresh begins, and reaches SAT_CH_ERRCNT of the busy chain. -/
theorem darkAtRefresh_startRefresh :
    (darkAtRefresh.startRefresh 900 0).reg (R.SAT_CH_ERRCNT 0) ≠ darkAtRefresh.reg (R.SAT_CH_ERRCNT 0) := by decide +kernel

/-- Refutes O38: CAL_MAPCRC configured as class DARK, a refresh start that finds the CRC of a tile's maps to differ makes the chains send
OFF, and the chain whose line is not idle counts a collision outside the listed blocks. -/
theorem not_boundariesTakeTheirSheaf : ¬Obligations.BoundariesTakeTheirSheaf := by
  intro ⟨_, _, _, _, _, _, _, hrefresh, _⟩
  obtain ⟨t, ht, -, -, -, -, -, -, -, -, hframe, -⟩ := hrefresh darkAtRefresh 900 0 (by decide +kernel) rfl (by decide)
  have hexec := exec_refreshStart_due (s := darkAtRefresh) (by decide +kernel) rfl (show 900 ≤ 1000 by decide)
  exact darkAtRefresh_startRefresh (next_unique ht hexec ▸ hframe _ (by decide))

end Sys2Proof
end

section
/-!
The arm groups (R46–R48): what clearing, arming and applying do to the generation register, to the applied values and to everything else.
-/

namespace Sys2Proof.Machine

/-! ### Frames -/

/-- A register, and a field, is a function of the register bank. -/
theorem State.reg_of_regs {s t : State} (h : t.regs = s.regs) (a : Nat) : t.reg a = s.reg a := by rw [State.reg, h]; rfl

theorem State.rd_of_regs {s t : State} (h : t.regs = s.regs) (f : Fld) : t.rd f = s.rd f := by
  rw [State.rd, State.regN, State.reg_of_regs h]; rfl

theorem OnlyRegs.refl (l : List Nat) (s : State) : OnlyRegs l s s := ⟨fun _ _ => rfl, fun _ => rfl⟩

theorem OnlyRegs.trans {l : List Nat} {s t u : State} (h : OnlyRegs l s t) (k : OnlyRegs l t u) : OnlyRegs l s u :=
  ⟨fun a ha => (k.1 a ha).trans (h.1 a ha), fun a => (k.2 a).trans (h.2 a)⟩

theorem OnlyRegs.wr {l : List Nat} {s t : State} (h : OnlyRegs l s t) {f : Fld} (hf : f.addr ∈ l) (v : Nat) : OnlyRegs l s (t.wr f v) :=
  h.trans ⟨fun _ ha => t.reg_wr_ne f v (ne_of_mem_of_not_mem hf ha).symm, fun _ => rfl⟩

theorem OnlyRegs.mark {l : List Nat} {s t : State} (h : OnlyRegs l s t) {f : Fld} (hf : f.addr ∈ l) : OnlyRegs l s (t.mark f) :=
  h.wr hf 1

theorem OnlyRegs.unmark {l : List Nat} {s t : State} (h : OnlyRegs l s t) {f : Fld} (hf : f.addr ∈ l) : OnlyRegs l s (t.unmark f) := by
  unfold State.unmark
  split
  · exact h
  · exact h.wr hf 0

theorem OnlyRegs.rd_eq {l : List Nat} {s t : State} (h : OnlyRegs l s t) {f : Fld} (hf : f.addr ∉ l) : t.rd f = s.rd f := by
  simp [State.rd, State.regN, h.1 f.addr hf]

/-! ### W1C bits -/

theorem State.rd_mark_ne (s : State) (f g : Fld) (hi : f.hi < 32) (hl : f.lo ≤ f.hi)
    (h : g.addr ≠ f.addr ∨ f.hi < g.lo ∨ g.hi < f.lo) : (s.mark f).rd g = s.rd g :=
  (State.rd_of_regs (t := s.mark f) (s := s.wr f 1) rfl g).trans (s.rd_wr_ne f g 1 hi hl h)

theorem State.flag_unmark_same (s : State) (f : Fld) (hi : f.hi < 32) (hl : f.lo ≤ f.hi) :
    (s.unmark f).flag f = (s.flag f && s.marksNow.contains f) := by
  unfold State.unmark
  split
  case isTrue h => rw [h, Bool.and_true]
  case isFalse h => simp [State.flag, State.rd_wr_same _ _ _ hi hl, Bool.eq_false_of_not_eq_true h, -List.contains_eq_mem]

/-- A clear leaves every field apart from the cleared one. -/
theorem State.rd_unmark_ne (s : State) (f g : Fld) (hi : f.hi < 32) (hl : f.lo ≤ f.hi)
    (h : g.addr ≠ f.addr ∨ f.hi < g.lo ∨ g.hi < f.lo) : (s.unmark f).rd g = s.rd g := by
  unfold State.unmark
  split
  · rfl
  · exact s.rd_wr_ne f g 0 hi hl h

@[simp] theorem State.marksNow_unmark (s : State) (f : Fld) : (s.unmark f).marksNow = s.marksNow := by
  unfold State.unmark
  split <;> rfl

/-! ### A write to the generation register (R47) -/

@[simp] theorem Group.fGen_bits (g : Group) : g.fGen.addr = g.gen ∧ g.fGen.hi = 7 ∧ g.fGen.lo = 0 := ⟨rfl, rfl, rfl⟩
@[simp] theorem Group.fApplied_bits (g : Group) : g.fApplied.addr = g.gen ∧ g.fApplied.hi = 15 ∧ g.fApplied.lo = 8 := ⟨rfl, rfl, rfl⟩
@[simp] theorem Group.fArmed_bits (g : Group) : g.fArmed.addr = g.gen ∧ g.fArmed.hi = 16 ∧ g.fArmed.lo = 16 := ⟨rfl, rfl, rfl⟩
@[simp] theorem Group.fMismatch_bits (g : Group) : g.fMismatch.addr = g.gen ∧ g.fMismatch.hi = 17 ∧ g.fMismatch.lo = 17 := ⟨rfl, rfl, rfl⟩
@[simp] theorem Group.fBlocked_bits (g : Group) : g.fBlocked.addr = g.gen ∧ g.fBlocked.hi = 18 ∧ g.fBlocked.lo = 18 := ⟨rfl, rfl, rfl⟩

@[simp] theorem State.genClear_applied (s : State) (g : Group) (data : Word) : (s.genClear g data).applied = s.applied := by
  unfold State.genClear
  split <;> split <;> simp

theorem State.onlyRegs_genClear (s : State) (g : Group) (data : Word) : OnlyRegs [g.gen] s (s.genClear g data) := by
  have hclear (t : State) (f : Fld) (b : Bool) (hf : f.addr = g.gen) : OnlyRegs [g.gen] t (if b then t.unmark f else t) := by
    split
    · exact (OnlyRegs.refl _ t).unmark (by simp [hf])
    · exact OnlyRegs.refl _ t
  exact (hclear s g.fMismatch _ rfl).trans (hclear _ g.fBlocked _ rfl)

/-- The clears leave the fields below MISMATCH as they are. -/
theorem State.rd_genClear (s : State) (g : Group) (data : Word) {f : Fld} (hf : f.hi < 17) : (s.genClear g data).rd f = s.rd f := by
  have hclear (t : State) (k : Fld) (b : Bool) (hk : k.lo = k.hi) (hk' : 17 ≤ k.lo) (hi : k.hi < 32) :
      (if b then t.unmark k else t).rd f = t.rd f := by
    split
    · exact t.rd_unmark_ne k f hi (by omega) (by omega)
    · rfl
  exact (hclear _ g.fBlocked _ (by simp) (by simp) (by simp)).trans (hclear s g.fMismatch _ (by simp) (by simp) (by simp))

theorem State.flag_fMismatch_genClear (s : State) (g : Group) (data : Word) : (s.genClear g data).flag g.fMismatch =
    (s.flag g.fMismatch && (!bitAt data.toNat 17 || s.marksNow.contains g.fMismatch)) := by
  have hblocked (t : State) : (t.unmark g.fBlocked).flag g.fMismatch = t.flag g.fMismatch := by
    simp only [State.flag, t.rd_unmark_ne g.fBlocked g.fMismatch (by simp) (by simp) (by simp)]
  have hsame := s.flag_unmark_same g.fMismatch (by simp) (by simp)
  unfold State.genClear
  split <;> split <;> simp [*, -List.contains_eq_mem]

theorem State.flag_fBlocked_genClear (s : State) (g : Group) (data : Word) : (s.genClear g data).flag g.fBlocked =
    (s.flag g.fBlocked && (!bitAt data.toNat 18 || s.marksNow.contains g.fBlocked)) := by
  have hmismatch : (s.unmark g.fMismatch).flag g.fBlocked = s.flag g.fBlocked := by
    simp only [State.flag, s.rd_unmark_ne g.fMismatch g.fBlocked (by simp) (by simp) (by simp)]
  have hsame (t : State) := t.flag_unmark_same g.fBlocked (by simp) (by simp)
  unfold State.genClear
  split <;> split <;> simp [*, -List.contains_eq_mem]

theorem State.writeGen_noarm {s : State} {g : Group} {data : Word} (h : bitAt data.toNat 19 = true) :
    s.writeGen g data = s.genClear g data := by simp [State.writeGen, h]

theorem State.writeGen_misfit {s : State} {g : Group} {data : Word} (h : bitAt data.toNat 19 = false) (hf : s.genFits g data = false) :
    s.writeGen g data = (s.genClear g data).mark g.fMismatch := by simp [State.writeGen, h, hf]

theorem State.writeGen_fits {s : State} {g : Group} {data : Word} (h : bitAt data.toNat 19 = false) (hf : s.genFits g data = true) :
    s.writeGen g data = (s.genClear g data).tryArm g data := by simp [State.writeGen, h, hf]

theorem exec_genArm {s : State} {m : Master} {g : Group} {data : Word} (hg : g.ok = true) (ha : s.Accepts m g.gen data) :
    exec (.genArm m g data) s = .next (s.writeGen g data) := by
  rw [exec, execGenArm, State.withBus_passes ha.1 ha.2]
  simp [hg]

theorem exec_genNoarmClear {s : State} {m : Master} {g : Group} {data : Word} (hg : g.ok = true) (ha : s.Accepts m g.gen data) :
    exec (.genNoarmClear m g data) s = .next (s.writeGen g data) := by
  rw [exec, execGenNoarmClear, State.withBus_passes ha.1 ha.2]
  simp [hg]

/-! ### Arming -/

/-- A check that passes leaves no trace. -/
theorem State.armCheck_snd_of_passes {s : State} {g : Group} (h : (s.armCheck g).1 = true) : (s.armCheck g).2 = s := by
  cases g with
  | proj t => simp only [State.armCheck, decide_eq_true_eq] at h ⊢; simp [h]
  | stream n => simp only [State.armCheck, decide_eq_true_eq] at h ⊢; simp [h]
  | pid | buck | map | glean | imu | energy | satVal => rfl

/-- Arming writes the generation register and notes its time. -/
theorem State.armGroup_eq (s : State) (g : Group) (data : Word) : ∃ l : List (Nat × Nat), s.armGroup g data =
    { (s.wr g.fGen (bitsOf data.toNat 7 0)).wr g.fArmed 1 with armedAt := l } := ⟨_, rfl⟩

@[simp] theorem State.armGroup_applied (s : State) (g : Group) (data : Word) : (s.armGroup g data).applied = s.applied := by
  obtain ⟨l, ht⟩ := s.armGroup_eq g data
  rw [ht]
  change ((s.wr g.fGen (bitsOf data.toNat 7 0)).wr g.fArmed 1).applied = s.applied
  rw [State.wr_applied, State.wr_applied]

@[simp] theorem State.armGroup_mem (s : State) (g : Group) (data : Word) : (s.armGroup g data).mem = s.mem := by
  obtain ⟨l, ht⟩ := s.armGroup_eq g data
  rw [ht]
  change ((s.wr g.fGen (bitsOf data.toNat 7 0)).wr g.fArmed 1).mem = s.mem
  rw [State.wr_mem, State.wr_mem]

theorem State.armGroup_regs (s : State) (g : Group) (data : Word) :
    (s.armGroup g data).regs = ((s.wr g.fGen (bitsOf data.toNat 7 0)).wr g.fArmed 1).regs := by
  obtain ⟨l, ht⟩ := s.armGroup_eq g data
  rw [ht]

theorem State.onlyRegs_armGroup (s : State) (g : Group) (data : Word) : OnlyRegs [g.gen] s (s.armGroup g data) := by
  have h := ((OnlyRegs.refl [g.gen] s).wr (f := g.fGen) (by simp) (bitsOf data.toNat 7 0)).wr (f := g.fArmed) (by simp) 1
  exact ⟨fun a ha => (State.reg_of_regs (s.armGroup_regs g data) a).trans (h.1 a ha), fun a => by simp [State.byte]⟩

theorem State.armed_armGroup (s : State) (g : Group) (data : Word) : (s.armGroup g data).armed g = true := by
  rw [State.armed, State.flag, State.rd_of_regs (s.armGroup_regs g data), State.rd_wr_same _ _ _ (by simp) (by simp)]
  simp

theorem State.rd_fGen_armGroup (s : State) (g : Group) (data : Word) : (s.armGroup g data).rd g.fGen = bitsOf data.toNat 7 0 := by
  rw [State.rd_of_regs (s.armGroup_regs g data), State.rd_wr_ne _ _ _ _ (by simp) (by simp) (by simp),
    State.rd_wr_same _ _ _ (by simp) (by simp)]
  exact Nat.mod_eq_of_lt (bitsOf_lt _ 7 0)

theorem State.rd_fApplied_armGroup (s : State) (g : Group) (data : Word) : (s.armGroup g data).rd g.fApplied = s.rd g.fApplied := by
  rw [State.rd_of_regs (s.armGroup_regs g data), State.rd_wr_ne _ _ _ _ (by simp) (by simp) (by simp),
    State.rd_wr_ne _ _ _ _ (by simp) (by simp) (by simp)]

/-- A group other than the maps whose check passes is armed; the IMU axis group is applied at once while EN is 0 (R137). -/
theorem State.tryArm_passes {s : State} {g : Group} {data : Word} (h : (s.armCheck g).1 = true) (hm : g.isMap = false) :
    s.tryArm g data = if g == .imu && !(s.armGroup g data).flag F.VIN_IMUCFG_EN then (s.armGroup g data).applyImu
      else s.armGroup g data := by
  cases g with
  | map => simp [Group.isMap] at hm
  | pid | buck | proj | glean | imu | energy | stream | satVal => simp [State.tryArm, h, State.armCheck_snd_of_passes h]

/-! ### Applying -/

@[simp] theorem State.foldl_applyReg_regs (l : List Nat) (s : State) : (l.foldl State.applyReg s).regs = s.regs := by
  induction l generalizing s with
  | nil => rfl
  | cons a l ih => rw [List.foldl_cons, ih, State.applyReg_regs]

/-- The listed registers' staged values become the applied ones. -/
theorem State.appReg_foldl_applyReg (l : List Nat) (s : State) (b : Nat) :
    (l.foldl State.applyReg s).appReg b = if b ∈ l then s.regN b else s.appReg b := by
  induction l generalizing s with
  | nil => rfl
  | cons a l ih =>
    rw [List.foldl_cons, ih, State.appReg_applyReg, show (s.applyReg a).regN b = s.regN b from rfl]
    by_cases hb : b = a <;> simp [hb]

@[simp] theorem State.foldl_applyReg_mem (l : List Nat) (s : State) : (l.foldl State.applyReg s).mem = s.mem := by
  induction l generalizing s with
  | nil => rfl
  | cons a l ih => rw [List.foldl_cons, ih, State.applyReg_mem]

@[simp] theorem State.foldl_applyReg_eng (l : List Nat) (s : State) : (l.foldl State.applyReg s).eng = s.eng := by
  induction l generalizing s with
  | nil => rfl
  | cons a l ih => rw [List.foldl_cons, ih, State.applyReg_eng]

section
variable {s : State} {g : Group} (h : s.appliesNow g = true)
include h

theorem State.applyGroup_regs : (s.applyGroup g).regs = ((s.wr g.fApplied (s.rd g.fGen)).wr g.fArmed 0).regs := by
  have hregs := s.foldl_applyReg_regs g.members
  simp only [State.applyGroup, h, if_true, State.rd_of_regs hregs]
  simp only [State.wr, State.setN, State.setReg, State.regN, State.reg, hregs]

/-- What the generation register and the time of the arm leave alone is that of the applied members. -/
theorem State.applyGroup_eq : ∃ (v : Nat) (l : List (Nat × Nat)), s.applyGroup g =
    { ((g.members.foldl State.applyReg s).wr g.fApplied v).wr g.fArmed 0 with armedAt := l } := by
  simp only [State.applyGroup, h, if_true]
  exact ⟨_, _, rfl⟩

theorem State.applyGroup_mem : (s.applyGroup g).mem = s.mem := by
  obtain ⟨v, l, ht⟩ := State.applyGroup_eq h
  rw [ht]
  change (((g.members.foldl State.applyReg s).wr g.fApplied v).wr g.fArmed 0).mem = s.mem
  rw [State.wr_mem, State.wr_mem, State.foldl_applyReg_mem]

theorem State.applyGroup_eng : (s.applyGroup g).eng = s.eng := by
  obtain ⟨v, l, ht⟩ := State.applyGroup_eq h
  rw [ht]
  change (((g.members.foldl State.applyReg s).wr g.fApplied v).wr g.fArmed 0).eng = s.eng
  rw [State.wr_eng, State.wr_eng, State.foldl_applyReg_eng]

/-- Every staged member of the group is applied, and nothing else (R46). -/
theorem State.appReg_applyGroup (b : Nat) : (s.applyGroup g).appReg b = if b ∈ g.members then s.regN b else s.appReg b := by
  obtain ⟨v, l, ht⟩ := State.applyGroup_eq h
  rw [ht, ← State.appReg_foldl_applyReg]
  change (Sparse.get resetWord (((g.members.foldl State.applyReg s).wr g.fApplied v).wr g.fArmed 0).applied b).toNat = _
  rw [State.wr_applied, State.wr_applied]; rfl

theorem State.onlyRegs_applyGroup : OnlyRegs [g.gen] s (s.applyGroup g) := by
  have hw := ((OnlyRegs.refl [g.gen] s).wr (f := g.fApplied) (by simp) (s.rd g.fGen)).wr (f := g.fArmed) (by simp) 0
  exact ⟨fun a ha => (State.reg_of_regs (State.applyGroup_regs h) a).trans (hw.1 a ha), fun a => by
    simp only [State.byte, State.applyGroup_mem h]⟩

theorem State.armed_applyGroup : (s.applyGroup g).armed g = false := by
  rw [State.armed, State.flag, State.rd_of_regs (State.applyGroup_regs h), State.rd_wr_same _ _ _ (by simp) (by simp)]
  simp

theorem State.rd_fGen_applyGroup : (s.applyGroup g).rd g.fGen = s.rd g.fGen := by
  rw [State.rd_of_regs (State.applyGroup_regs h), State.rd_wr_ne _ _ _ _ (by simp) (by simp) (by simp),
    State.rd_wr_ne _ _ _ _ (by simp) (by simp) (by simp)]

theorem State.rd_fApplied_applyGroup : (s.applyGroup g).rd g.fApplied = s.rd g.fGen := by
  rw [State.rd_of_regs (State.applyGroup_regs h), State.rd_wr_ne _ _ _ _ (by simp) (by simp) (by simp),
    State.rd_wr_same _ _ _ (by simp) (by simp)]
  exact Nat.mod_eq_of_lt (by simpa using s.rd_lt g.fGen)

end

/-- The application point of a group that changes nothing else applies the group (R47). -/
theorem State.groupPoint_bare {s : State} {g : Group} (hb : g.bare = true) (hp : s.pointNow g = true) :
    s.groupPoint g = s.applyGroup g := by
  cases g with
  | map | stream | energy => simp [Group.bare] at hb
  | pid | buck | proj | glean | imu | satVal => simp [State.groupPoint, hp]

theorem exec_groupApply {s : State} {g : Group} (hg : g.ok = true) : exec (.groupApply g) s = .next (s.groupPoint g) := by
  simp [exec, execGroupApply, hg]

/-! ### The IMU axis group at once (R137) -/

/-- The check of the IMU axis group reads no field of the generation register. -/
theorem State.imuFits_genClear (s : State) (data : Word) : (s.genClear .imu data).imuFits = s.imuFits := by
  have hrd (f : Fld) (hf : f.addr ≠ Group.imu.gen) : (s.genClear .imu data).rd f = s.rd f :=
    (s.onlyRegs_genClear .imu data).rd_eq (by simpa using hf)
  simp only [State.imuFits, State.rdS, hrd F.VIN_IMUCFG_RSPLEN (by decide), hrd F.VIN_IMUMAP_YAW_OFS (by decide),
    hrd F.VIN_IMUMAP_PITCH_OFS (by decide), hrd F.VIN_IMUMAP_STAT_OFS (by decide), hrd F.VIN_IMUSCALE_SCALE (by decide)]
  rfl

/-- With EN 0 a write whose generation fits applies the group that it arms. -/
theorem State.writeGen_imu_at_once {s : State} {data : Word} (h : bitAt data.toNat 19 = false) (hf : s.genFits .imu data = true)
    (hc : s.imuFits = true) (he : s.flag F.VIN_IMUCFG_EN = false) :
    s.writeGen .imu data = ((s.genClear .imu data).armGroup .imu data).applyImu := by
  have hen : ((s.genClear .imu data).armGroup .imu data).flag F.VIN_IMUCFG_EN = false := by
    rw [State.flag, ((s.onlyRegs_genClear .imu data).trans (State.onlyRegs_armGroup _ .imu data)).rd_eq (by decide)]
    exact he
  rw [State.writeGen_fits h hf, State.tryArm_passes (by simpa [State.armCheck, State.imuFits_genClear] using hc) rfl]
  simp [hen]

/-- The IMU axis group is applied as any armed group is, with the time of its arm forgotten. -/
theorem State.applyImu_eq (s : State) : ∃ u : State, s.applyImu = u.applyGroup .imu ∧ u.regs = s.regs ∧ u.applied = s.applied ∧
    u.mem = s.mem ∧ u.armedAt.lookup Group.imu.gen = none := by
  refine ⟨_, rfl, rfl, rfl, rfl, ?_⟩
  simpa [List.lookup_eq_none_iff] using fun _ _ _ hne heq => hne heq.symm

/-! ### The budget group and its window (R319) -/

theorem State.app_applyGroup {s : State} {g : Group} (h : s.appliesNow g = true) {f : Fld} (hf : f.addr ∈ g.members) :
    (s.applyGroup g).app f = s.rd f := by
  rw [State.app, State.appReg_applyGroup h, if_pos hf]; rfl

/-- While SLOT_MS stays the budget group is applied like any other. -/
theorem State.applyBudget_same {s : State} (h : s.appliesNow .energy = true)
    (hs : s.rd F.ENG_WSLOT_SLOT_MS = s.app F.ENG_WSLOT_SLOT_MS) : s.applyBudget = s.applyGroup .energy := by
  simp [State.applyBudget, State.app_applyGroup h (f := F.ENG_WSLOT_SLOT_MS) (by decide), hs]

/-- The window of the ledger begins anew. -/
def State.clearWindow (s : State) : State :=
  { s with eng := { s.eng with slots := [], slotAcc := 0, slotTicks := 0 } }.setN R.ENG_EWIN 0

theorem State.applyBudget_changed {s : State} (h : s.appliesNow .energy = true)
    (hs : s.rd F.ENG_WSLOT_SLOT_MS ≠ s.app F.ENG_WSLOT_SLOT_MS) : s.applyBudget = (s.applyGroup .energy).clearWindow := by
  simp [State.applyBudget, State.app_applyGroup h (f := F.ENG_WSLOT_SLOT_MS) (by decide), hs, State.clearWindow]

theorem State.onlyRegs_clearWindow (s : State) : OnlyRegs [R.ENG_EWIN] s s.clearWindow :=
  ⟨fun _ ha => State.reg_setN_ne _ 0 (by simpa using ha), fun _ => rfl⟩

theorem State.appReg_clearWindow (s : State) (a : Nat) : s.clearWindow.appReg a = s.appReg a := rfl

theorem State.regN_clearWindow (s : State) : s.clearWindow.regN R.ENG_EWIN = 0 := State.regN_setN_same ..

theorem OnlyRegs.mono {l k : List Nat} {s t : State} (h : OnlyRegs l s t) (hl : l ⊆ k) : OnlyRegs k s t :=
  ⟨fun a ha => h.1 a fun hm => ha (hl hm), h.2⟩

theorem OnlyRegs.armed_eq {l : List Nat} {s t : State} (h : OnlyRegs l s t) {g : Group} (hg : g.gen ∉ l) : t.armed g = s.armed g := by
  simp only [State.armed, State.flag, h.rd_eq (f := g.fArmed) hg]

end Sys2Proof.Machine

namespace Sys2Proof
open Machine

/-- What the application point of a group leaves, whatever else the application does (R46, R47). -/
structure AppliedWhole (g : Group) (s t : State) : Prop where
  members : ∀ a ∈ g.members, t.appReg a = s.regN a
  others : ∀ a, a ∉ g.members → t.appReg a = s.appReg a
  applied : t.rd g.fApplied = s.rd g.fGen
  disarmed : t.armed g = false

theorem appliedWhole_applyGroup {s : State} {g : Group} (h : s.appliesNow g = true) : AppliedWhole g s (s.applyGroup g) where
  members a ha := by rw [State.appReg_applyGroup h, if_pos ha]
  others a ha := by rw [State.appReg_applyGroup h, if_neg ha]
  applied := State.rd_fApplied_applyGroup h
  disarmed := State.armed_applyGroup h

/-- Nothing of it is undone by what leaves the generation register and the applied values alone. -/
theorem AppliedWhole.frame {g : Group} {l : List Nat} {s t u : State} (h : AppliedWhole g s t) (ht : OnlyRegs l t u) (hg : g.gen ∉ l)
    (ha : ∀ a, u.appReg a = t.appReg a) : AppliedWhole g s u where
  members a hm := (ha a).trans (h.members a hm)
  others a hm := (ha a).trans (h.others a hm)
  applied := (ht.rd_eq hg).trans h.applied
  disarmed := (ht.armed_eq hg).trans h.disarmed

/-- An arm whose generation fits and whose check passes: armed, with the applied values as they were. -/
theorem armed_of_fits {s : State} {g : Group} {data : Word} (hn : bitAt data.toNat 19 = false) (hf : s.genFits g data = true)
    (hc : ((s.genClear g data).armCheck g).1 = true) (hm : g.isMap = false) (hi : g = .imu → s.flag F.VIN_IMUCFG_EN = true) :
    s.writeGen g data = (s.genClear g data).armGroup g data := by
  rw [State.writeGen_fits hn hf, State.tryArm_passes hc hm, if_neg]
  rw [Bool.and_eq_true, not_and]
  intro hg
  obtain rfl : g = .imu := by simpa using hg
  rw [State.flag, ((s.onlyRegs_genClear .imu data).trans (State.onlyRegs_armGroup _ .imu data)).rd_eq (by decide)]
  simpa [State.flag] using hi rfl

/-- An IMU arm that is applied at once leaves its group applied whole with the generation of the write (R137). -/
theorem appliedWhole_applyImu {s : State} (h : s.armed .imu = true) : AppliedWhole .imu s s.applyImu ∧
    s.applyImu.rd Group.imu.fGen = s.rd Group.imu.fGen ∧ OnlyRegs [Group.imu.gen] s s.applyImu := by
  obtain ⟨u, heq, hregs, happlied, hmem, hlook⟩ := s.applyImu_eq
  have hrd := State.rd_of_regs hregs
  have hnow : u.appliesNow .imu = true := by
    have harmed : u.armed .imu = true := by rw [State.armed, State.flag, hrd]; exact h
    simp [State.appliesNow, harmed, hlook]
  obtain ⟨hmembers, hothers, hap, hdis⟩ := appliedWhole_applyGroup hnow
  have honly := State.onlyRegs_applyGroup hnow
  rw [heq]
  refine ⟨⟨fun a ha => ?_, fun a ha => ?_, hap.trans (hrd _), hdis⟩, (State.rd_fGen_applyGroup hnow).trans (hrd _),
    fun a ha => (honly.1 a ha).trans (State.reg_of_regs hregs a), fun a => ?_⟩
  · rw [hmembers a ha, State.regN, State.reg_of_regs hregs]; rfl
  · rw [hothers a ha, State.appReg, happlied]; rfl
  · rw [honly.2 a, State.byte, hmem]; rfl

/-- Settles O10: clearing, arming and applying write the generation register alone, and application copies every staged member. -/
theorem groupsArmAndApplyWhole : Obligations.GroupsArmAndApplyWhole := by
  refine ⟨?arm, ?misfit, ?noarm, ?imu, ?early, ?energy, ?bare⟩
  case arm =>
    intro s m g data hg ha hn hf hc hm hi
    have hclear := s.onlyRegs_genClear g data
    refine ⟨_, exec_genArm hg ha, ?_⟩
    rw [armed_of_fits hn hf hc hm hi]
    refine ⟨State.armed_armGroup .., State.rd_fGen_armGroup .., ?_, fun a => ?_, fun a => ?_⟩
    · rw [State.rd_fApplied_armGroup, State.rd_genClear _ _ _ (by simp)]
    · simp only [State.appReg, State.armGroup_applied, State.genClear_applied]
    · exact (hclear.trans (State.onlyRegs_armGroup _ g data)).2 a
  case misfit =>
    intro s m g data hg ha hn hf
    refine ⟨_, exec_genArm hg ha, ?_⟩
    rw [State.writeGen_misfit hn hf]
    have hrd (f : Fld) (hi : f.hi < 17) : ((s.genClear g data).mark g.fMismatch).rd f = s.rd f :=
      (State.rd_mark_ne _ g.fMismatch f (by simp) (by simp) (by simp [hi])).trans (s.rd_genClear g data hi)
    refine ⟨?_, ?_, hrd _ (by simp), hrd _ (by simp), (s.onlyRegs_genClear g data).mark (by simp)⟩
    · simp [State.flag, State.rd_mark_same]
    · simp [State.armed, State.flag, hrd]
  case noarm =>
    intro s m g data hg ha hn
    refine ⟨_, exec_genNoarmClear hg ha, ?_⟩
    rw [State.writeGen_noarm hn]
    have hrd (f : Fld) (hi : f.hi < 17) := s.rd_genClear g data hi
    refine ⟨s.flag_fMismatch_genClear g data, s.flag_fBlocked_genClear g data, ?_, hrd _ (by simp), hrd _ (by simp), s.onlyRegs_genClear g data⟩
    simp [State.armed, State.flag, hrd]
  case imu =>
    intro s m data ha hn hf hc he
    have hclear := s.onlyRegs_genClear .imu data
    obtain ⟨⟨hmem, hoth, hap, hdis⟩, hgen, hregs⟩ := appliedWhole_applyImu (State.armed_armGroup (s.genClear .imu data) .imu data)
    have harm := hclear.trans (State.onlyRegs_armGroup _ .imu data)
    refine ⟨_, exec_genArm rfl ha, ?_⟩
    rw [State.writeGen_imu_at_once hn hf hc he]
    refine ⟨fun a hm => ?_, fun a hm => ?_, ?_, hgen.trans (State.rd_fGen_armGroup ..), hdis, harm.trans hregs⟩
    · rw [hmem a hm, State.regN, harm.1 a (by rintro h; simp only [List.mem_singleton] at h; subst h; revert hm; decide)]; rfl
    · rw [hoth a hm, State.appReg, State.armGroup_applied, State.genClear_applied]; rfl
    · rw [hap, State.rd_fGen_armGroup]
  case early =>
    intro s g hg hp
    exact ⟨s, by rw [exec_groupApply hg]; simp [State.groupPoint, hp], rfl⟩
  case energy =>
    intro s hp h
    have hwhole := appliedWhole_applyGroup h
    have hexec : exec (.groupApply .energy) s = .next s.applyBudget := by
      rw [exec_groupApply rfl]; simp [State.groupPoint, hp]
    have hregs := State.onlyRegs_applyGroup h
    refine ⟨_, hexec, ?_⟩
    by_cases hs : s.rd F.ENG_WSLOT_SLOT_MS = s.app F.ENG_WSLOT_SLOT_MS
    · rw [State.applyBudget_same h hs]
      refine ⟨hwhole.members, hwhole.others, hwhole.applied, hwhole.disarmed, hregs.mono (by simp), fun _ => ⟨?_, State.applyGroup_eng h⟩,
        fun hne => absurd hs hne⟩
      simp only [State.regN, hregs.1 R.ENG_EWIN (by decide)]
    · have hw := (s.applyGroup .energy).onlyRegs_clearWindow
      have hwhole := hwhole.frame hw (by decide) (State.appReg_clearWindow _)
      rw [State.applyBudget_changed h hs]
      exact ⟨hwhole.members, hwhole.others, hwhole.applied, hwhole.disarmed, (hregs.mono (by simp)).trans (hw.mono (by simp)),
        fun he => absurd he hs, fun _ => ⟨State.regN_clearWindow _, rfl⟩⟩
  case bare =>
    intro s g hg hb hp h
    have hwhole := appliedWhole_applyGroup h
    refine ⟨_, exec_groupApply hg, ?_⟩
    rw [State.groupPoint_bare hb hp]
    exact ⟨hwhole.members, hwhole.others, hwhole.applied, hwhole.disarmed, State.onlyRegs_applyGroup h⟩

end Sys2Proof
end

section
/-!
Planned maps that wait (R336, R351): firmware stages them as soon as nothing is in their way, so a write to SYS_BLKOWN and a refresh start can
write the map registers of a tile and begin the check of its group.
-/

namespace Sys2Proof.Machine

theorem State.rd_CHECKING_beginMapCheck (s : State) (t : Nat) (data : Word) (gain : Option (List (Nat × Nat))) (defs : Option (List Nat)) :
    (s.beginMapCheck t data gain defs).rd (F.CAL_MAP_STAT_CHECKING t) = 1 := by
  have hapart : (F.CAL_MAP_STAT_CHECK t).hi < 32 ∧ (F.CAL_MAP_STAT_CHECK t).lo ≤ (F.CAL_MAP_STAT_CHECK t).hi ∧
      (F.CAL_MAP_STAT_CHECKING t).hi < (F.CAL_MAP_STAT_CHECK t).lo := by simp [F.CAL_MAP_STAT_CHECK, F.CAL_MAP_STAT_CHECKING]
  obtain ⟨hhi, hlo, hlt⟩ := hapart
  rw [State.beginMapCheck, State.rd_wr_ne _ _ _ _ hhi hlo (.inr (.inr hlt)), State.rd_wr_same _ _ _ (hlt.trans (by omega)) (le_refl _)]
  rfl

/-- Maps that wait with nothing in their way begin their check. -/
theorem State.rd_CHECKING_retryMaps {s : State} {t : Nat} {g : List (Nat × Nat)} {defs : List Nat}
    (hw : s.cal.mapsWait.getD t none = some (g, defs)) (hf : s.firmwareUp = true)
    (hfree : (!s.on .mem || s.armed (.map t) || (s.cal.checks.getD t none).isSome || s.bitR R.SYS_BLKOWN 1) = false) :
    (s.retryMaps t).rd (F.CAL_MAP_STAT_CHECKING t) = 1 := by
  simp only [State.retryMaps, hw, hf, if_true, State.stageMaps, hfree, Bool.false_eq_true, if_false]
  exact State.rd_CHECKING_beginMapCheck ..

theorem State.retryMaps_of_none {s : State} {t : Nat} (hw : s.cal.mapsWait.getD t none = none) : s.retryMaps t = s := by
  rw [State.retryMaps, hw]

/-- Firmware runs in STANDBY with every domain on, and planned maps of tile 3 wait. -/
def mapsWaiting : State :=
  { ((({ now := 1000 } : State).wr F.PWR_DOMSTAT_ON 0xFFF).wr F.PWR_MODE_MODE 1).wr F.BIST_BOOT_DONE 1 with
    cal := { mapsWait := [none, none, none, some ([], [])] } }

theorem mapsWaiting_writeBlkown : (mapsWaiting.writeBlkown 0#32).rd (F.CAL_MAP_STAT_CHECKING 3) = 1 := by
  have hstandby : (mapsWaiting.mode == .standby) = true := by decide +kernel
  have hnone (t : Nat) (ht : t < 3) : (mapsWaiting.store R.SYS_BLKOWN 0#32).retryMaps t = mapsWaiting.store R.SYS_BLKOWN 0#32 := by
    apply State.retryMaps_of_none
    interval_cases t <;> rfl
  rw [State.writeBlkown, if_pos hstandby, show List.range 4 = [0, 1, 2, 3] from rfl, List.foldl_cons, List.foldl_cons, List.foldl_cons,
    List.foldl_cons, List.foldl_nil, hnone 0 (by decide), hnone 1 (by decide), hnone 2 (by decide)]
  exact State.rd_CHECKING_retryMaps (g := []) (defs := []) rfl (by decide +kernel) (by decide +kernel)

/-- Tile 3's map group is armed and a refresh start falls due, while newly planned maps wait. -/
def mapsWaitingArmed : State :=
  { mapsWaiting.wr (Group.map 3).fArmed 1 with cf := { refDue := some (900, 0) } }

theorem mapsWaitingArmed_applyMap : (mapsWaitingArmed.applyMap 3).rd (F.CAL_MAP_STAT_CHECKING 3) = 1 := by
  have happ : mapsWaitingArmed.appliesNow (.map 3) = true := by decide +kernel
  simp only [State.applyMap, happ, Bool.not_true, Bool.false_eq_true, if_false]
  exact State.rd_CHECKING_retryMaps (g := []) (defs := []) (by decide +kernel) (by decide +kernel) (by decide +kernel)

end Sys2Proof.Machine

namespace Sys2Proof
open Machine

/-- Refutes O9: a write to SYS_BLKOWN in STANDBY that leaves CAL to firmware also stages the maps that waited for it, and their check begins
in CAL_MAP_STAT. -/
theorem not_blockOwnersAndDomains : ¬Obligations.BlockOwnersAndDomains := by
  intro ⟨hown, _⟩
  have hacc : mapsWaiting.Accepts .mgmt R.SYS_BLKOWN 0#32 := by decide +kernel
  obtain ⟨t, ht, -, -, hframe⟩ := hown mapsWaiting .mgmt 0#32 hacc
  have hexec : exec (.sysBlkownWrite .mgmt 0#32) mapsWaiting = .next (mapsWaiting.writeBlkown 0#32) := by
    rw [exec, execSysBlkownWrite, State.withBus_passes hacc.1 hacc.2]
  have hsame := mapsWaiting_writeBlkown.symm.trans (next_unique ht hexec ▸ hframe.rd_eq (by decide))
  exact absurd hsame (by decide +kernel)

/-- Refutes O50: a refresh start that applies an armed map group also stages the maps that waited for it, and their check begins in
CAL_MAP_STAT. -/
theorem not_mapGroupsAreChecked : ¬Obligations.MapGroupsAreChecked := by
  intro ⟨_, _, _, hrefresh, _⟩
  have hnow : mapsWaitingArmed.refreshNow = some 900 := by decide +kernel
  have hon : mapsWaitingArmed.on .mgmt = true := by decide +kernel
  obtain ⟨t, ht, -, -, -, -, -, hframe⟩ := hrefresh mapsWaitingArmed 3 900 (by decide) hon hnow (by decide +kernel)
  have hexec : exec (.groupApply (.map 3)) mapsWaitingArmed = .next (mapsWaitingArmed.applyMap 3) := by
    rw [exec_groupApply rfl]; simp [State.groupPoint, State.pointNow, hon, hnow]
  have hsame := mapsWaitingArmed_applyMap.symm.trans (next_unique ht hexec ▸ hframe.rd_eq (by decide))
  exact absurd hsame (by decide +kernel)

end Sys2Proof
end

section
/-!
Every step keeps the number of units (O59). One rule for each function of the model that makes a state: from a state with the
device's units it makes one with them. A rule's proof names, from the outside in, the functions that its function's body
applies; `upd…` stands for fields that are written. The rules stand in the order of the model's files.
-/

-- One theorem at a time, as in the tests: waiting kernel checks would each hold a thread.
set_option Elab.async false

namespace Sys2Proof.Machine

variable {s t u : State} {c : Prop} [Decidable c] {α β : Type}

/-- Each list of like units holds as many as the device has (`State.Shaped`), as one fact: a goal about it is never taken
apart into its twenty lengths. -/
structure State.HasUnits (s : State) : Prop where
  shaped : s.Shaped

/-! ### Outcomes -/

/-- An outcome whose next state, where it has one, holds as many units as the device has. -/
def EndsWithUnits (o : Out) : Prop := ∀ t, o = .next t → t.HasUnits

theorem EndsWithUnits.next (h : s.HasUnits) : EndsWithUnits (.next s) := by
  rintro t ⟨⟩
  exact h

theorem EndsWithUnits.fault {e : Fault} : EndsWithUnits (.fault e) := by rintro t ⟨⟩

theorem EndsWithUnits.ite {o o' : Out} (h : EndsWithUnits o) (h' : EndsWithUnits o') :
    EndsWithUnits (if c then o else o') := by
  split <;> assumption

/-! ### Choices and repetitions -/

theorem State.HasUnits.ite (h : t.HasUnits) (h' : u.HasUnits) : (if c then t else u).HasUnits := by split <;> assumption

theorem State.HasUnits.when (h : t.HasUnits) (hu : t.HasUnits → u.HasUnits) :
    (if c then u else t).HasUnits := (hu h).ite h

theorem State.HasUnits.unless (h : t.HasUnits) (hu : t.HasUnits → u.HasUnits) :
    (if c then t else u).HasUnits := h.ite (hu h)

theorem State.HasUnits.foldl {l : List α} {f : State → α → State} (h : s.HasUnits)
    (hf : ∀ s a, s.HasUnits → (f s a).HasUnits) : (l.foldl f s).HasUnits := by
  induction l generalizing s with
  | nil => exact h
  | cons a l ih => exact ih (hf s a h)

/-- The same where the fold carries something beside the state. -/
theorem State.HasUnits.foldlFst {l : List α} {b : β} {f : State × β → α → State × β} (h : s.HasUnits)
    (hf : ∀ p a, p.1.HasUnits → (f p a).1.HasUnits) : (l.foldl f (s, b)).1.HasUnits := by
  suffices ∀ p : State × β, p.1.HasUnits → (l.foldl f p).1.HasUnits from this (s, b) h
  induction l with
  | nil => exact fun _ h => h
  | cons a l ih => exact fun p hp => ih _ (hf p a hp)

theorem hasUnits_reset : State.reset.HasUnits := ⟨by decide⟩

/-! ### A field is written -/

/-- None of the lists stands in one of these fields. -/
theorem State.HasUnits.upd
    {now free pending sent mem regs applied armedAt marks lateErr ran pwr brm gptp eng thm flash imu cf sheaf comp
     recs gme kept}
    (h : s.HasUnits) :
    ({ s with
        now := now, free := free, pending := pending, sent := sent, mem := mem, regs := regs, applied := applied,
        armedAt := armedAt, marks := marks, lateErr := lateErr, ran := ran, pwr := pwr, brm := brm, gptp := gptp,
        eng := eng, thm := thm, flash := flash, imu := imu, cf := cf, sheaf := sheaf, comp := comp, recs := recs,
        gme := gme, kept := kept } : State).HasUnits := ⟨h.shaped⟩

/-- Several fields, some of them with lists, are written at once. -/
theorem State.HasUnits.updUnits (h : s.HasUnits)
    (hhw : t.boot.hw.length = s.boot.hw.length ∨ t.boot.hw.length = 4 := by simp +zetaDelta)
    (hbuck : t.buck.length = s.buck.length ∨ t.buck.length = 4 := by simp +zetaDelta)
    (hloops : t.pid.loops.length = s.pid.loops.length ∨ t.pid.loops.length = 16 := by simp +zetaDelta)
    (houts : t.pid.outs.length = s.pid.outs.length ∨ t.pid.outs.length = 4 := by simp +zetaDelta)
    (hhi : t.sw.hi.length = s.sw.hi.length ∨ t.sw.hi.length = 4 := by simp +zetaDelta)
    (hlo : t.sw.lo.length = s.sw.lo.length ∨ t.sw.lo.length = 4 := by simp +zetaDelta)
    (hlink : t.link.length = s.link.length ∨ t.link.length = 4 := by simp +zetaDelta)
    (hstreams : t.vin.streams.length = s.vin.streams.length ∨ t.vin.streams.length = 8 := by simp +zetaDelta)
    (hcvu : t.cvu.length = s.cvu.length ∨ t.cvu.length = 4 := by simp +zetaDelta)
    (hrdseq : t.mbx.rdseq.length = s.mbx.rdseq.length ∨ t.mbx.rdseq.length = 16 := by simp +zetaDelta)
    (hcopies : t.scn.copies.length = s.scn.copies.length ∨ t.scn.copies.length = 2 := by simp +zetaDelta)
    (hchains : t.sat.chains.length = s.sat.chains.length ∨ t.sat.chains.length = 4 := by simp +zetaDelta)
    (hchecks : t.cal.checks.length = s.cal.checks.length ∨ t.cal.checks.length = 4 := by simp +zetaDelta)
    (henv : t.net.env.length = s.net.env.length ∨ t.net.env.length = 8 := by simp +zetaDelta)
    (hdown : t.net.down.length = s.net.down.length ∨ t.net.down.length = 2 := by simp +zetaDelta)
    (hasm : t.net.asm.length = s.net.asm.length ∨ t.net.asm.length = 2 := by simp +zetaDelta)
    (hhuskFails : t.saf.huskFails.length = s.saf.huskFails.length ∨ t.saf.huskFails.length = 4 := by simp +zetaDelta)
    (hkeys : t.dict.keys.length = s.dict.keys.length ∨ t.dict.keys.length = 32 := by simp +zetaDelta)
    (hlast : t.onoth.last.length = s.onoth.last.length ∨ t.onoth.last.length = 11 := by simp +zetaDelta)
    (hudp : t.onoth.udp.length = s.onoth.udp.length ∨ t.onoth.udp.length = 8 := by simp +zetaDelta) :
    t.HasUnits := by
  have h := h.shaped
  constructor
  simp_all [State.Shaped]

theorem State.HasUnits.updBoot {boot} (h : s.HasUnits)
    (hhw : boot.hw.length = s.boot.hw.length ∨ boot.hw.length = 4 := by exact .inl rfl) :
    ({ s with boot := boot } : State).HasUnits :=
  h.updUnits (hhw := hhw)

theorem State.HasUnits.updBuck {buck} (h : s.HasUnits)
    (hbuck : buck.length = s.buck.length ∨ buck.length = 4 := by simp) :
    ({ s with buck := buck } : State).HasUnits :=
  h.updUnits (hbuck := hbuck)

theorem State.HasUnits.updPid {pid} (h : s.HasUnits)
    (hloops : pid.loops.length = s.pid.loops.length ∨ pid.loops.length = 16 := by exact .inl rfl)
    (houts : pid.outs.length = s.pid.outs.length ∨ pid.outs.length = 4 := by exact .inl rfl) :
    ({ s with pid := pid } : State).HasUnits :=
  h.updUnits (hloops := hloops) (houts := houts)

theorem State.HasUnits.updSw {sw} (h : s.HasUnits)
    (hhi : sw.hi.length = s.sw.hi.length ∨ sw.hi.length = 4 := by exact .inl rfl)
    (hlo : sw.lo.length = s.sw.lo.length ∨ sw.lo.length = 4 := by exact .inl rfl) :
    ({ s with sw := sw } : State).HasUnits :=
  h.updUnits (hhi := hhi) (hlo := hlo)

theorem State.HasUnits.updLink {link} (h : s.HasUnits)
    (hlink : link.length = s.link.length ∨ link.length = 4 := by simp) :
    ({ s with link := link } : State).HasUnits :=
  h.updUnits (hlink := hlink)

theorem State.HasUnits.updVin {vin} (h : s.HasUnits)
    (hstreams : vin.streams.length = s.vin.streams.length ∨ vin.streams.length = 8 := by exact .inl rfl) :
    ({ s with vin := vin } : State).HasUnits :=
  h.updUnits (hstreams := hstreams)

theorem State.HasUnits.updCvu {cvu} (h : s.HasUnits)
    (hcvu : cvu.length = s.cvu.length ∨ cvu.length = 4 := by simp) :
    ({ s with cvu := cvu } : State).HasUnits :=
  h.updUnits (hcvu := hcvu)

theorem State.HasUnits.updMbx {mbx} (h : s.HasUnits)
    (hrdseq : mbx.rdseq.length = s.mbx.rdseq.length ∨ mbx.rdseq.length = 16 := by exact .inl rfl) :
    ({ s with mbx := mbx } : State).HasUnits :=
  h.updUnits (hrdseq := hrdseq)

theorem State.HasUnits.updScn {scn} (h : s.HasUnits)
    (hcopies : scn.copies.length = s.scn.copies.length ∨ scn.copies.length = 2 := by exact .inl rfl) :
    ({ s with scn := scn } : State).HasUnits :=
  h.updUnits (hcopies := hcopies)

theorem State.HasUnits.updSat {sat} (h : s.HasUnits)
    (hchains : sat.chains.length = s.sat.chains.length ∨ sat.chains.length = 4 := by exact .inl rfl) :
    ({ s with sat := sat } : State).HasUnits :=
  h.updUnits (hchains := hchains)

theorem State.HasUnits.updCal {cal} (h : s.HasUnits)
    (hchecks : cal.checks.length = s.cal.checks.length ∨ cal.checks.length = 4 := by exact .inl rfl) :
    ({ s with cal := cal } : State).HasUnits :=
  h.updUnits (hchecks := hchecks)

theorem State.HasUnits.updNet {net} (h : s.HasUnits)
    (henv : net.env.length = s.net.env.length ∨ net.env.length = 8 := by exact .inl rfl)
    (hdown : net.down.length = s.net.down.length ∨ net.down.length = 2 := by exact .inl rfl)
    (hasm : net.asm.length = s.net.asm.length ∨ net.asm.length = 2 := by exact .inl rfl) :
    ({ s with net := net } : State).HasUnits :=
  h.updUnits (henv := henv) (hdown := hdown) (hasm := hasm)

theorem State.HasUnits.updSaf {saf} (h : s.HasUnits)
    (hhuskFails : saf.huskFails.length = s.saf.huskFails.length ∨ saf.huskFails.length = 4 := by exact .inl rfl) :
    ({ s with saf := saf } : State).HasUnits :=
  h.updUnits (hhuskFails := hhuskFails)

theorem State.HasUnits.updDict {dict} (h : s.HasUnits)
    (hkeys : dict.keys.length = s.dict.keys.length ∨ dict.keys.length = 32 := by exact .inl rfl) :
    ({ s with dict := dict } : State).HasUnits :=
  h.updUnits (hkeys := hkeys)

theorem State.HasUnits.updOnoth {onoth} (h : s.HasUnits)
    (hlast : onoth.last.length = s.onoth.last.length ∨ onoth.last.length = 11 := by exact .inl rfl)
    (hudp : onoth.udp.length = s.onoth.udp.length ∨ onoth.udp.length = 8 := by exact .inl rfl) :
    ({ s with onoth := onoth } : State).HasUnits :=
  h.updUnits (hlast := hlast) (hudp := hudp)

/-! ### `Machine/Ops` -/

theorem State.HasUnits.periodic {t period k} (h : s.HasUnits) (hk : ∀ t, t.HasUnits → (k t).HasUnits) :
    (s.periodic t period k).HasUnits :=
  .ite (hk _ h.upd) h

theorem State.HasUnits.draw (h : s.HasUnits) : s.draw.2.HasUnits := h.upd

theorem State.HasUnits.setReg {a w} (h : s.HasUnits) : (s.setReg a w).HasUnits := h.upd

theorem State.HasUnits.setN {a v} (h : s.HasUnits) : (s.setN a v).HasUnits := h.setReg

theorem State.HasUnits.wr {f v} (h : s.HasUnits) : (s.wr f v).HasUnits := h.setN

theorem State.HasUnits.wrSat {f v} (h : s.HasUnits) : (s.wrSat f v).HasUnits := h.wr

theorem State.HasUnits.wrB {f b} (h : s.HasUnits) : (s.wrB f b).HasUnits := h.wr

theorem State.HasUnits.wrS {f i} (h : s.HasUnits) : (s.wrS f i).HasUnits := h.wr

theorem State.HasUnits.bump {f} (h : s.HasUnits) : (s.bump f).HasUnits := h.wr

theorem State.HasUnits.bumpBy {f n} (h : s.HasUnits) : (s.bumpBy f n).HasUnits := h.wr

theorem State.HasUnits.bumpSat {f} (h : s.HasUnits) : (s.bumpSat f).HasUnits := h.wr

theorem State.HasUnits.setBitR {a n b} (h : s.HasUnits) : (s.setBitR a n b).HasUnits := h.setN

theorem State.HasUnits.setBitF {f n b} (h : s.HasUnits) : (s.setBitF f n b).HasUnits := h.setBitR

theorem State.HasUnits.mark {f} (h : s.HasUnits) : (s.mark f).HasUnits := .upd <| h.wr

theorem State.HasUnits.markBit {f n} (h : s.HasUnits) : (s.markBit f n).HasUnits := h.mark

theorem State.HasUnits.unmark {f} (h : s.HasUnits) : (s.unmark f).HasUnits := .ite h <| h.wr

theorem State.HasUnits.emit {x} (h : s.HasUnits) : (s.emit x).HasUnits := h.upd

theorem State.HasUnits.answer {index sub code} (h : s.HasUnits) : (s.answer index sub code).HasUnits := h.emit

theorem State.HasUnits.showPitch (h : s.HasUnits) : s.showPitch.HasUnits := h.wrS

theorem State.HasUnits.add64 {lo hi v} (h : s.HasUnits) : (s.add64 lo hi v).HasUnits := .setN <| h.setN

theorem State.HasUnits.setApp {a v} (h : s.HasUnits) : (s.setApp a v).HasUnits := h.upd

theorem State.HasUnits.applyReg {a} (h : s.HasUnits) : (s.applyReg a).HasUnits := h.setApp

theorem State.HasUnits.resetRegs {lo hi} (h : s.HasUnits) : (s.resetRegs lo hi).HasUnits := h.upd

theorem State.HasUnits.setByte {a b} (h : s.HasUnits) : (s.setByte a b).HasUnits := h.upd

theorem State.HasUnits.setBytes {a l} (h : s.HasUnits) : (s.setBytes a l).HasUnits := by
  induction l generalizing s a with
  | nil => exact h
  | cons b l ih => exact ih h.setByte

theorem State.HasUnits.setNum {a n v} (h : s.HasUnits) : (s.setNum a n v).HasUnits := h.setBytes

theorem State.HasUnits.clearMem {lo hi} (h : s.HasUnits) : (s.clearMem lo hi).HasUnits := h.upd

theorem State.HasUnits.syncPads (h : s.HasUnits) : s.syncPads.HasUnits :=
  .foldl (.ite (.wrB <| h.wr) h) fun _ _ h => .ite (.wrB <| h.wrB) h

theorem State.HasUnits.countDeferred (h : s.HasUnits) : s.countDeferred.HasUnits := .bump <| h.updDict

theorem State.HasUnits.endSessions {ends} (h : s.HasUnits) : (s.endSessions ends).HasUnits := .when h.updOnoth .bumpBy

theorem State.HasUnits.endCommission (h : s.HasUnits) : s.endCommission.HasUnits :=
  .when (.wr <| h.endSessions) fun h => .wr <| h.updDict

theorem State.HasUnits.standbyObjects (h : s.HasUnits) : s.standbyObjects.HasUnits := .updDict <| .setN <| h.setN

theorem State.HasUnits.abortTest {b} (h : s.HasUnits) : (s.abortTest b).HasUnits := .wr <| .wr <| h.draw

theorem State.HasUnits.endTests (h : s.HasUnits) : s.endTests.HasUnits :=
  .ite h <| .updBoot <| .mark <| .wr <| h.foldl fun _ _ h => h.abortTest

theorem State.HasUnits.setMode {m cause} (h : s.HasUnits) : (s.setMode m cause).HasUnits :=
  .when (.upd <| .wr <| .wr <| .wr <| .wr <| .when h.endTests .endCommission) .standbyObjects

theorem State.HasUnits.lowerHusk (h : s.HasUnits) : s.lowerHusk.HasUnits := h.wr

theorem State.HasUnits.setGate {path high on} (h : s.HasUnits) : (s.setGate path high on).HasUnits :=
  .ite (h.updSw (hhi := by simp)) <| h.updSw (hlo := by simp)

theorem State.HasUnits.openPath {path} (h : s.HasUnits) : (s.openPath path).HasUnits :=
  .setBitF <| .setBitF <| .setGate <| h.setGate

theorem State.HasUnits.modBuck {n f} (h : s.HasUnits) : (s.modBuck n f).HasUnits := h.updBuck

theorem State.HasUnits.buckOff {n st} (h : s.HasUnits) : (s.buckOff n st).HasUnits := .wr <| .wr <| h.modBuck

theorem State.HasUnits.disconnect {n} (h : s.HasUnits) : (s.disconnect n).HasUnits :=
  .setBitF <| .modBuck <| .buckOff <| h.updSw

theorem State.HasUnits.stopLine {n} (h : s.HasUnits) : (s.stopLine n).HasUnits := .setBitF <| .modBuck <| h.buckOff

theorem State.HasUnits.setHw {n x} (h : s.HasUnits) : (s.setHw n x).HasUnits := .wr <| h.updBoot (hhw := by simp)

theorem State.HasUnits.followGate {path high} (h : s.HasUnits) : (s.followGate path high).HasUnits :=
  .ite h <| h.setGate

theorem State.HasUnits.followPath {path} (h : s.HasUnits) : (s.followPath path).HasUnits :=
  .followGate <| h.followGate

theorem State.HasUnits.followSw (h : s.HasUnits) : s.followSw.HasUnits := h.foldl fun _ _ h => h.followPath

theorem State.HasUnits.endSupply {n} (h : s.HasUnits) : (s.endSupply n).HasUnits := by
  unfold State.endSupply
  dsimp only
  split
  · exact h.setHw
  · exact h.setHw
  · exact h
  · exact .openPath <| h.setHw
  · exact .openPath <| h.setHw
  · exact .openPath <| h.setHw
  · exact .openPath <| .ite (.disconnect <| .wr <| .ite h.setHw h) <| .ite (.wr <| .ite h.setHw h) <| .ite h.setHw h
  · exact .openPath <| .ite (.disconnect <| .wr <| .ite h.setHw h) <| .ite (.wr <| .ite h.setHw h) <| .ite h.setHw h

theorem State.HasUnits.dropThermStop (h : s.HasUnits) : s.dropThermStop.HasUnits :=
  .ite (.wr <| h.upd) <| .when h.upd .wr

theorem State.HasUnits.endPrep (h : s.HasUnits) : s.endPrep.HasUnits := h.upd

theorem State.HasUnits.enterStandby {cause} (h : s.HasUnits) : (s.enterStandby cause).HasUnits := by
  unfold State.enterStandby
  extract_lets +onlyGivenNames s₁
  have h₁ : s₁.HasUnits := h.foldl fun _ _ h => h.endSupply
  clear_value s₁
  exact .syncPads <| .setMode <| .lowerHusk <| .endPrep <| .dropThermStop <| h₁.updSaf (hhuskFails := .inr rfl)

theorem State.HasUnits.enterHusk {cause} (h : s.HasUnits) : (s.enterHusk cause).HasUnits :=
  .when (.syncPads <| .setMode <| .lowerHusk <| .endPrep <| h.updSaf) .enterStandby

theorem State.HasUnits.modChain {c f} (h : s.HasUnits) : (s.modChain c f).HasUnits := h.updSat (hchains := by simp)

theorem State.HasUnits.satSend {c cmd dest first payload busy} (h : s.HasUnits) :
    (s.satSend c cmd dest first payload busy).HasUnits :=
  .when (.modChain <| h.emit) .bump

theorem State.HasUnits.satOff (h : s.HasUnits) : s.satOff.HasUnits :=
  .ite h <| h.foldl fun _ _ h => .ite (.modChain <| .satSend <| h.modChain) h

theorem State.HasUnits.enterDark {cause} (h : s.HasUnits) : (s.enterDark cause).HasUnits := by
  unfold State.enterDark
  extract_lets +onlyGivenNames s₁
  have h₁ : s₁.HasUnits := h.foldl fun _ _ h => .when (.openPath <| h.stopLine) .setHw
  clear_value s₁
  exact .satOff <| .syncPads <| .setMode <| .lowerHusk <| .endPrep <| h₁.updUnits

theorem State.HasUnits.endFull {result} (h : s.HasUnits) : (s.endFull result).HasUnits := by
  unfold State.endFull
  extract_lets
  split
  · exact .ite (.wr <| h.updCal) h
  · exact .syncPads <| .wr <| .wr <| .wr <| .updCal <| .when (.openPath <| .setBitF <| .updLink <| .ite (.wr <|
      h.updCal) h) fun h => .disconnect <| h.wr

theorem State.HasUnits.requestHusk {cause} (h : s.HasUnits) : (s.requestHusk cause).HasUnits :=
  .ite h.enterHusk <| .ite h.wr h

theorem State.HasUnits.requestDark {cause} (h : s.HasUnits) : (s.requestDark cause).HasUnits := by
  unfold State.requestDark
  split
  · exact h.enterDark
  · exact h.enterDark
  · exact h.enterDark
  · exact h.enterDark
  · exact h
  · exact h

theorem State.HasUnits.srcSet {base src b} (h : s.HasUnits) : (s.srcSet base src b).HasUnits := h.setBitR

theorem State.HasUnits.setHandled {src b} (h : s.HasUnits) : (s.setHandled src b).HasUnits := .srcSet <| h.srcSet

theorem State.HasUnits.countSrc {src} (h : s.HasUnits) : (s.countSrc src).HasUnits := h.setN

theorem State.HasUnits.record {src cls kind addr} (h : s.HasUnits) : (s.record src cls kind addr).HasUnits :=
  .when (.wr <| .bump <| .wr <| .when (h.foldl fun _ _ h => h.setN) fun h => .bumpSat <| h.wr) .upd

theorem State.HasUnits.escalate {src cls addr} (h : s.HasUnits) : (s.escalate src cls addr).HasUnits := by
  unfold State.escalate
  extract_lets
  split
  · exact .requestHusk <| .when (.record <| .srcSet <| h.upd) .endFull
  · exact .requestDark <| .when (.record <| .srcSet <| h.upd) .endFull
  · exact .when (.record <| .srcSet <| h.upd) .endFull

theorem State.HasUnits.startGrace {src addr} (h : s.HasUnits) : (s.startGrace src addr).HasUnits :=
  .ite h <| .ite h.escalate <| h.upd

theorem State.HasUnits.recordRaised {src addr} (h : s.HasUnits) : (s.recordRaised src addr).HasUnits :=
  .startGrace <| .record <| h.upd

theorem State.HasUnits.noteEvent {src addr new} (h : s.HasUnits) : (s.noteEvent src addr new).HasUnits := h.upd

theorem State.HasUnits.raiseAt {src addr} (h : s.HasUnits) : (s.raiseAt src addr).HasUnits :=
  .ite h <| .ite (.recordRaised <| .srcSet <| .noteEvent <| h.countSrc) <| .when (.noteEvent <| h.countSrc)
    fun h => .recordRaised <| h.setHandled

theorem State.HasUnits.raise {src} (h : s.HasUnits) : (s.raise src).HasUnits := h.raiseAt

theorem State.HasUnits.raiseIf {b src} (h : s.HasUnits) : (s.raiseIf b src).HasUnits := .ite h.raise h

theorem State.HasUnits.raiseFound {src} (h : s.HasUnits) : (s.raiseFound src).HasUnits := .ite h.raise <| h.upd

theorem State.HasUnits.raiseWaiting (h : s.HasUnits) : s.raiseWaiting.HasUnits :=
  .foldl h.upd fun _ _ h => by
    split
    · exact h.raiseAt
    · exact h

theorem State.HasUnits.brambleSelf {cause} (h : s.HasUnits) : (s.brambleSelf cause).HasUnits :=
  .foldl (.requestHusk <| .endFull <| .upd <| .record <| .srcSet <| .syncPads <| .updSaf <| .wrB <| h.wrB)
    fun _ _ h => by
    split
    · exact h.escalate
    · exact h

theorem State.HasUnits.writeGate {permit deny} (h : s.HasUnits) : (s.writeGate permit deny).HasUnits :=
  .when (.wr <| h.wrB) .enterHusk

theorem State.HasUnits.judgeGate (h : s.HasUnits) : s.judgeGate.HasUnits := h.writeGate

theorem State.HasUnits.closeGate (h : s.HasUnits) : s.closeGate.HasUnits := h.writeGate

theorem State.HasUnits.voidConfirm (h : s.HasUnits) : s.voidConfirm.HasUnits := .writeGate <| h.wr

theorem State.HasUnits.holdGroup {g} (h : s.HasUnits) : (s.holdGroup g).HasUnits :=
  .ite (.foldl (.setBitF <| h.upd) fun _ _ h => .ite h <| h.buckOff) <| .when (.setBitF <| h.upd)
    fun h => .followSw <| h.updSw

theorem State.HasUnits.rearmHw (h : s.HasUnits) : s.rearmHw.HasUnits := h.foldl fun _ _ h => .ite h.setHw h

theorem State.HasUnits.enterPrepare {cause a b} (h : s.HasUnits) : (s.enterPrepare cause a b).HasUnits := by
  unfold State.enterPrepare
  extract_lets +onlyGivenNames s₁
  have h₁ : s₁.HasUnits := h.setMode
  clear_value s₁
  extract_lets _ _ _ s₂ s₃ s₄ s₅
  have h₂ : s₂.HasUnits := h₁.updUnits
  have h₄ : s₄.HasUnits := .ite (.holdGroup <| .holdGroup <| h₂.dropThermStop) h₂.dropThermStop
  exact .syncPads <| .wrB <| .closeGate <| .ite h₄ <| .wrB <| h₄.rearmHw

theorem State.HasUnits.resetBlock {b} (h : s.HasUnits) : (s.resetBlock b).HasUnits := h.resetRegs

/-! ### `Machine/Bus` -/

theorem State.HasUnits.keepChar (h : s.HasUnits) : s.keepChar.HasUnits := .ite h.wr h

theorem State.HasUnits.holdError {e} (h : s.HasUnits) : (s.holdError e).HasUnits :=
  .mark <| .wr <| .wrB <| .wr <| h.setN

theorem State.HasUnits.captureError {m write a cause} (h : s.HasUnits) : (s.captureError m write a cause).HasUnits :=
  .ite h.raiseAt <| .raiseAt <| .bumpSat <| .ite h.holdError <| .ite h.upd h

theorem State.HasUnits.readFailed {m a cause} (h : s.HasUnits) : (s.readFailed m a cause).HasUnits :=
  .emit <| h.captureError

theorem State.HasUnits.store {a data} (h : s.HasUnits) : (s.store a data).HasUnits := h.setN

theorem State.HasUnits.withBus {m a data k} (h : s.HasUnits) (hk : ∀ t, t.HasUnits → (k t).HasUnits) :
    EndsWithUnits (s.withBus m a data k) := by
  unfold State.withBus
  split
  · exact .next <| h.captureError
  · exact .ite .fault <| .next <| hk _ h

theorem State.HasUnits.genClear {g data} (h : s.HasUnits) : (s.genClear g data).HasUnits :=
  .when (.ite h.unmark h) .unmark

theorem State.HasUnits.armGroup {g data} (h : s.HasUnits) : (s.armGroup g data).HasUnits := .upd <| .wr <| h.wr

theorem State.HasUnits.applyGroup {g} (h : s.HasUnits) : (s.applyGroup g).HasUnits :=
  .ite (.upd <| .wr <| .wr <| h.foldl fun _ _ h => h.applyReg) h

theorem State.HasUnits.writeMember {g a data} (h : s.HasUnits) : (s.writeMember g a data).HasUnits :=
  .ite h.mark <| h.store

/-! ### `Machine/Bridge` -/

theorem State.HasUnits.sendCan {bus id data} (h : s.HasUnits) : (s.sendCan bus id data).HasUnits := .ite h.emit h

theorem State.HasUnits.reply {src token m} (h : s.HasUnits) : (s.reply src token m).HasUnits := by
  unfold State.reply
  split
  · exact .ite h.emit h
  · exact h.foldl fun _ _ h => h.sendCan
  · exact .emit <| .setNum <| h.setBytes

theorem State.HasUnits.countBusy (h : s.HasUnits) : s.countBusy.HasUnits := .bump <| h.updDict

theorem State.HasUnits.respondBusy {q} (h : s.HasUnits) : (s.respondBusy q).HasUnits := .reply <| h.countBusy

theorem State.HasUnits.respond {q code data} (h : s.HasUnits) : (s.respond q code data).HasUnits :=
  .ite h.respondBusy <| .reply <| h.updOnoth (hlast := by simp)

theorem State.HasUnits.settle {w code} (h : s.HasUnits) : (s.settle w code).HasUnits :=
  .foldl h.updOnoth fun _ _ h => h.respond

/-! ### `Machine/Domains` -/

theorem State.HasUnits.setBuf {n k st} (h : s.HasUnits) : (s.setBuf n k st).HasUnits := h.wr

theorem State.HasUnits.showReady {n} (h : s.HasUnits) : (s.showReady n).HasUnits := h.wrB

theorem State.HasUnits.release {claims} (h : s.HasUnits) : (s.release claims).HasUnits :=
  h.foldl fun _ _ h => by
    split
    · exact .ite h.setBuf h
    · exact h

theorem State.HasUnits.capCopy {m bytes} (h : s.HasUnits) : (s.capCopy m bytes).HasUnits := h.setBytes

theorem State.HasUnits.capCut {state} (h : s.HasUnits) : (s.capCut state).HasUnits := by
  unfold State.capCut
  split
  · exact h.wr
  · exact .upd <| .wr <| .capCopy <| h.draw

theorem State.HasUnits.resetVin (h : s.HasUnits) : s.resetVin.HasUnits :=
  .updVin (h.foldl fun _ _ h => .wr <| h.wr) (hstreams := .inr rfl)

theorem State.HasUnits.noRefreshes (h : s.HasUnits) : s.noRefreshes.HasUnits := h.foldl fun _ _ h => .ite h.wr h

theorem State.HasUnits.resetComposer (h : s.HasUnits) : s.resetComposer.HasUnits := by
  unfold State.resetComposer
  extract_lets +onlyGivenNames s₁
  have h₁ : s₁.HasUnits := .ite h.capCut h
  clear_value s₁
  extract_lets +onlyGivenNames claims
  extract_lets _ s₂ _ scn s₃
  have h₂ : s₂.HasUnits := .release h₁.upd
  have h₃ : s₃.HasUnits := .when h₂ fun h => .wr <| .wr <| h.wr
  have hscn : scn.copies.length = 2 := by
    obtain ⟨_, _, _, _, _, _, _, _, _, _, hcopies, _⟩ := h₂.shaped
    unfold scn
    split
    · rfl
    · exact hcopies
  exact .noRefreshes <| h₃.updUnits (hcopies := .inr hscn)

theorem State.HasUnits.resetScan (h : s.HasUnits) : s.resetScan.HasUnits := by
  unfold State.resetScan
  exact h.updUnits

theorem State.HasUnits.resetPorts {a b} (h : s.HasUnits) : (s.resetPorts a b).HasUnits := by
  unfold State.resetPorts
  exact h.updUnits

theorem State.HasUnits.resetDrive (h : s.HasUnits) : s.resetDrive.HasUnits := by
  unfold State.resetDrive
  extract_lets _ _ s₁ s₂
  have h₂ : s₂.HasUnits := .foldl (h.foldl fun _ _ h => h.resetBlock) fun _ _ h => h.setN
  clear_value s₂
  exact h₂.updUnits

theorem State.HasUnits.resetMgmt (h : s.HasUnits) : s.resetMgmt.HasUnits := by
  unfold State.resetMgmt
  extract_lets +onlyGivenNames s₁ s₂
  have h₂ : s₂.HasUnits := .clearMem <| .clearMem <| h.foldl fun _ _ h => h.resetBlock
  clear_value s₂
  exact h₂.updUnits (hchecks := .inr rfl) (hkeys := .inl rfl)

theorem State.HasUnits.resetNet (h : s.HasUnits) : s.resetNet.HasUnits := by
  unfold State.resetNet
  extract_lets +onlyGivenNames s₁
  have h₁ : s₁.HasUnits := h.foldl fun _ _ h => h.resetBlock
  clear_value s₁
  have : s₁.onoth.last.length = 11 := by
    obtain ⟨_, _, _, _, _, _, _, _, _, _, _, _, _, _, _, _, _, _, hlast, _⟩ := h₁.shaped
    exact hlast
  exact h₁.updUnits (hlast := by simp +zetaDelta [this])

theorem State.HasUnits.resetSafe (h : s.HasUnits) : s.resetSafe.HasUnits := by
  unfold State.resetSafe
  extract_lets s₁
  have h₁ : s₁.HasUnits := .clearMem <| h.foldl fun _ _ h => h.resetBlock
  clear_value s₁
  exact h₁.updUnits

theorem State.HasUnits.resetCmp (h : s.HasUnits) : s.resetCmp.HasUnits := by
  unfold State.resetCmp
  extract_lets +onlyGivenNames s₁
  have h₁ : s₁.HasUnits := .clearMem <| .clearMem <| .foldl h.resetComposer fun _ _ h => h.resetBlock
  clear_value s₁
  exact .settle h₁.updUnits

theorem State.HasUnits.loseDom {d} (h : s.HasUnits) : (s.loseDom d).HasUnits := by
  unfold State.loseDom
  extract_lets
  split
  · exact h.upd
  · exact .resetMgmt <| h.upd
  · exact .resetSafe <| h.upd
  · exact .resetNet <| h.upd
  · exact .resetVin <| h.upd
  · exact .clearMem <| h.upd
  · exact .resetCmp <| h.upd
  · exact .upd <| .clearMem <| .resetBlock <| h.upd
  · exact .noRefreshes <| .resetScan <| .clearMem <| .resetBlock <| h.upd
  · exact .resetPorts <| .clearMem <| .resetRegs <| h.upd
  · exact .resetPorts <| .clearMem <| .resetRegs <| h.upd
  · exact .resetDrive <| h.upd

theorem State.HasUnits.powerOff {d} (h : s.HasUnits) : (s.powerOff d).HasUnits :=
  .setBitF <| .loseDom <| h.foldl fun _ _ h => h.holdGroup

theorem State.HasUnits.railsOff (h : s.HasUnits) : s.railsOff.HasUnits :=
  .foldl h.upd fun _ _ h => .setBitF <| h.loseDom

theorem State.HasUnits.leaveDormant {cause} (h : s.HasUnits) : (s.leaveDormant cause).HasUnits := by
  unfold State.leaveDormant
  extract_lets +onlyGivenNames s₁ s₂
  have h₂ : s₂.HasUnits := .when (.when h .mark) .mark
  clear_value s₂
  exact .enterPrepare h₂.upd

theorem State.HasUnits.wakeUp {cause} (h : s.HasUnits) : (s.wakeUp cause).HasUnits :=
  .ite h <| by
    split
    · exact .ite (.upd <| h.mark) <| h.leaveDormant
    · exact h.leaveDormant

theorem State.HasUnits.demandRise {cause} (h : s.HasUnits) : (s.demandRise cause).HasUnits :=
  .unless h.wrB fun h => by
    extract_lets
    split
    · exact .wakeUp <| h.endFull
    · exact .enterPrepare <| h.endFull
    · exact .upd <| h.endFull
    · exact .wr <| .upd <| h.endFull
    · exact h.endFull
    · exact h.endFull

theorem State.HasUnits.seqDone {n} (h : s.HasUnits) : (s.seqDone n).HasUnits :=
  .when (.when h.setHw .disconnect) .openPath

theorem State.HasUnits.rampDown {n} (h : s.HasUnits) : (s.rampDown n).HasUnits := by
  unfold State.rampDown
  split
  · exact h.setHw
  · exact h.setHw
  · exact .followPath <| h.setHw
  · exact .followPath <| h.setHw
  · exact .followPath <| h.setHw
  · exact h
  · exact h
  · exact h

theorem State.HasUnits.demandFall (h : s.HasUnits) : s.demandFall.HasUnits :=
  .ite h.wrB <| by
    split
    · exact .ite (.enterStandby <| h.wrB) <| .wr <| .upd <| .dropThermStop <| h.wrB
    · exact .enterStandby <| h.wrB
    · exact .foldl (.upd <| h.wrB) fun _ _ h => h.rampDown
    · exact h.wrB
    · exact h.wrB
    · exact h.wrB

theorem State.HasUnits.recover (h : s.HasUnits) : s.recover.HasUnits := .ite h.enterPrepare <| h.mark

theorem State.HasUnits.clearDark (h : s.HasUnits) : s.clearDark.HasUnits := .ite h.enterStandby <| h.mark

theorem State.HasUnits.writeModeReq {data} (h : s.HasUnits) : (s.writeModeReq data).HasUnits :=
  .when (.when (.ite (.demandRise <| .wr <| .ite h.unmark h) <| .when (.wr <| .ite h.unmark h) .demandFall) .recover)
    .clearDark

theorem State.HasUnits.handBuck {n} (h : s.HasUnits) : (s.handBuck n).HasUnits := by
  unfold State.handBuck
  extract_lets
  split
  · exact .ite h.wr <| h.disconnect
  · exact h
  · exact .ite h.buckOff h
  · exact h.buckOff
  · exact h.buckOff
  · exact h.buckOff
  · exact h.buckOff
  · exact h.buckOff

theorem State.HasUnits.handPads {buck sw} (h : s.HasUnits) : (s.handPads buck sw).HasUnits :=
  .ite (.when (.ite (h.foldl fun _ _ h => h.handBuck) h) .followSw) <| .wr <|
    .foldl (.when (.ite (h.foldl fun _ _ h => h.handBuck) h) .followSw) fun _ _ h => .ite h.setHw h

theorem State.HasUnits.releasePads {data} (h : s.HasUnits) : (s.releasePads data).HasUnits := by
  unfold State.releasePads
  extract_lets out s₁
  have h₁ : s₁.HasUnits := h.foldl fun _ _ h => .setBitF <| h.upd
  exact .syncPads <| h₁.handPads

theorem State.HasUnits.handOver (h : s.HasUnits) : s.handOver.HasUnits :=
  .unless (.releasePads <| h.foldl fun _ _ h => by
    split
    · exact .setBitF <| .setBitF <| .wr <| .armGroup <| .wr <| h.wr
    · exact h) .wr

/-! ### `Machine/Control` -/

theorem State.HasUnits.setLoop {n l} (h : s.HasUnits) : (s.setLoop n l).HasUnits := h.updPid (hloops := by simp)

theorem State.HasUnits.showLoop {n bad clamped sat y} (h : s.HasUnits) :
    (s.showLoop n bad clamped sat y).HasUnits := by
  unfold State.showLoop
  extract_lets
  split
  · exact .wrS <| .wrS <| .wrS <| .setBitF <| .bump <| .wr <| .wr <| .wrB <| .wrB <| .wrB <| h.wr
  · exact .wrS <| .wrS <| .setBitF <| .bump <| .wr <| .wr <| .wrB <| .wrB <| .wrB <| h.wr

theorem State.HasUnits.sampleLoop {n} (h : s.HasUnits) : (s.sampleLoop n).HasUnits :=
  .ite h <| by
    extract_lets
    split
    · exact .showLoop <| .setLoop <| h.applyGroup
    · exact .showLoop <| .setLoop <| h.applyGroup

theorem State.HasUnits.selectGroup {g} (h : s.HasUnits) : (s.selectGroup g).HasUnits := by
  unfold State.selectGroup
  split
  · exact h.wr
  · exact .updPid (.wr <| .wr <| .ite (.bump <| h.wr) h) (houts := by simp)

theorem State.HasUnits.track {n} (h : s.HasUnits) : (s.track n).HasUnits := by
  unfold State.track
  dsimp only
  split
  · exact h
  · exact .ite h <| .ite (.wrB <| .wrS <| .wr <| h.setLoop) h

theorem State.HasUnits.pitchSample {loops} (h : s.HasUnits) : (s.pitchSample loops).HasUnits :=
  h.foldl fun _ _ h => h.updPid

theorem State.HasUnits.writePitch {n} (h : s.HasUnits) : (s.writePitch n).HasUnits := by
  unfold State.writePitch
  split
  · exact .ite h <| .when h.updPid .updScn
  · exact h

theorem State.HasUnits.execPidSample {loops} (h : s.HasUnits) : EndsWithUnits (execPidSample loops s) :=
  .ite (.next h) <| .next <| .pitchSample <| .foldl (.foldl (.foldl h.upd fun _ _ h => h.sampleLoop)
    fun _ _ h => h.selectGroup) fun _ _ h => h.track

theorem State.HasUnits.writeOut {g} (h : s.HasUnits) : (s.writeOut g).HasUnits := by
  unfold State.writeOut
  split
  · exact .ite (.wrS <| h.updPid (houts := by simp)) h
  · exact h

theorem State.HasUnits.execPidOutputWrite (h : s.HasUnits) : EndsWithUnits (execPidOutputWrite s) :=
  .ite (.next h) <| .next <| .foldl (h.foldl fun _ _ h => h.writeOut) fun _ _ h => h.writePitch

theorem State.HasUnits.showValid {g} (h : s.HasUnits) : (s.showValid g).HasUnits := h.wrB

theorem State.HasUnits.writeMembers {g data} (h : s.HasUnits) : (s.writeMembers g data).HasUnits :=
  .ite (.showValid <| h.store) <| h.mark

theorem State.HasUnits.execPidGroupCfgWrite {m g data} (h : s.HasUnits) :
    EndsWithUnits (execPidGroupCfgWrite m g data s) :=
  h.withBus fun _ h => h.writeMembers

theorem State.HasUnits.writeLoopCtrl {n data} (h : s.HasUnits) : (s.writeLoopCtrl n data).HasUnits :=
  .ite h <| .ite (.foldl (.setBitF <| .setLoop <| .ite h.wr <| h.store) fun _ _ h => h.showValid) <|
    .ite (.foldl (.setBitF <| .setBitF <| .wr <| .ite h.wr <| h.store) fun _ _ h => h.showValid) <| .ite h.wr <|
    h.store

theorem State.HasUnits.writePeriod {n data} (h : s.HasUnits) : (s.writePeriod n data).HasUnits := .ite h.store h

theorem State.HasUnits.writePhase {n data} (h : s.HasUnits) : (s.writePhase n data).HasUnits := .ite h.store h

theorem State.HasUnits.buckMeasure {n x} (h : s.HasUnits) : (s.buckMeasure n x).HasUnits :=
  .wrB <| .wrSat <| .wrSat <| .wrSat <| h.modBuck

theorem State.HasUnits.execBuckSwitchPeriod {ch x} (h : s.HasUnits) : EndsWithUnits (execBuckSwitchPeriod ch x s) :=
  .ite (.next h) <| .next <| .when (.wrSat <| .modBuck <| .followPath <| .applyGroup <| h.buckMeasure) .wr

theorem State.HasUnits.execBuckOvervoltage {ch fbMv} (h : s.HasUnits) :
    EndsWithUnits (execBuckOvervoltage ch fbMv s) :=
  .ite (.next h) <| .next <| .when (.bump <| .wr <| .modBuck <| .ite h.disconnect h) fun h => .raise <| h.mark

theorem State.HasUnits.execBuckOvRelease {ch fbMv} (h : s.HasUnits) : EndsWithUnits (execBuckOvRelease ch fbMv s) :=
  .next <| .ite h.wr h

theorem State.HasUnits.buckFault {n} (h : s.HasUnits) : (s.buckFault n).HasUnits := .modBuck <| h.buckOff

theorem State.HasUnits.execBuckShortDetect {ch} (h : s.HasUnits) : EndsWithUnits (execBuckShortDetect ch s) :=
  .next <| .ite (.raise <| .mark <| h.buckFault) h

theorem State.HasUnits.buckEn {n en} (h : s.HasUnits) : (s.buckEn n en).HasUnits :=
  .ite (.unless h.wrB .buckOff) <| .ite (.unless (.modBuck <| h.wrB) .disconnect) <| h.wrB

theorem State.HasUnits.writeBuckCfg {n data} (h : s.HasUnits) : (s.writeBuckCfg n data).HasUnits :=
  .ite (.ite (.buckEn <| h.store) h) <| h.buckEn

theorem State.HasUnits.execBuckEnable {m ch data} (h : s.HasUnits) : EndsWithUnits (execBuckEnable m ch data s) :=
  h.withBus fun _ h => h.writeBuckCfg

theorem State.HasUnits.writeBuckStatic {n a fits data} (h : s.HasUnits) :
    (s.writeBuckStatic n a fits data).HasUnits :=
  .ite h.store h

theorem State.HasUnits.execSwClosedFault {x} (h : s.HasUnits) : EndsWithUnits (execSwClosedFault x s) :=
  .ite (.next h) <| .next <| .ite (.raise <| h.setBitF) <| .ite h.setBitF h

theorem State.HasUnits.nextSwitch (h : s.HasUnits) : s.nextSwitch.HasUnits := h.updSw

theorem State.HasUnits.seqOn (h : s.HasUnits) : s.seqOn.HasUnits := by
  unfold State.seqOn
  split
  · have hw : (s.wr F.SAF_SWCTL_SEQ_EN 1).HasUnits := h.wr
    exact .ite h hw.updUnits
  · exact h

theorem State.HasUnits.testDue {sampledAt} (h : s.HasUnits) : (s.testDue sampledAt).HasUnits :=
  .ite h <| .ite (by
    split
    · exact h.updSw
    · exact .ite h.nextSwitch h) <| .updSw <| h.setGate

theorem State.HasUnits.closeTest {t} (h : s.HasUnits) : (s.closeTest t).HasUnits :=
  .nextSwitch <| .wr <| .updSw <| h.setGate

theorem State.HasUnits.switchTestEnd {mv} (h : s.HasUnits) : (s.switchTestEnd mv).HasUnits := by
  unfold State.switchTestEnd
  split
  · exact h
  · exact .ite h.closeTest <| .ite h <| .ite h.closeTest <| .raiseIf <| .when (.raise <| .setBitF <| h.closeTest)
      fun h => .closeGate <| h.updSaf

theorem State.HasUnits.execSwUntestedTimeout {sw} (h : s.HasUnits) : EndsWithUnits (execSwUntestedTimeout sw s) :=
  .next <| .ite (.raise <| h.updSw) h

/-! ### `Machine/Energy` -/

theorem State.HasUnits.tickBuck {x n} (h : s.HasUnits) : (s.tickBuck x n).HasUnits := .add64 <| .add64 <| h.upd

theorem State.HasUnits.tickDevice {x} (h : s.HasUnits) : (s.tickDevice x).HasUnits := .add64 <| .add64 <| h.upd

theorem State.HasUnits.tickPower {x} (h : s.HasUnits) : (s.tickPower x).HasUnits := .wr <| .wr <| h.upd

theorem State.HasUnits.tickWindow (h : s.HasUnits) : s.tickWindow.HasUnits := .setN <| .ite h.upd <| h.upd

theorem State.HasUnits.applyBudget (h : s.HasUnits) : s.applyBudget.HasUnits :=
  .unless h.applyGroup fun h => .setN <| h.upd

theorem State.HasUnits.ledgerTick {x} (h : s.HasUnits) : (s.ledgerTick x).HasUnits :=
  .ite h.applyBudget <| .tickWindow <| .tickPower <| .tickDevice <| .foldl h.applyBudget fun _ _ h => h.tickBuck

theorem State.HasUnits.execLedgerTick {x} (h : s.HasUnits) : EndsWithUnits (execLedgerTick x s) :=
  .next <| .ite (h.periodic fun _ h => h.ledgerTick) h

theorem State.HasUnits.restartCycle {data} (h : s.HasUnits) : (s.restartCycle data).HasUnits :=
  .ite (.setN <| h.setN) h

theorem State.HasUnits.execDriveCycleRestart {m data} (h : s.HasUnits) :
    EndsWithUnits (execDriveCycleRestart m data s) :=
  h.withBus fun _ h => h.restartCycle

theorem State.HasUnits.showOverrun (h : s.HasUnits) : s.showOverrun.HasUnits :=
  .when h.upd fun h => .raiseIf <| h.mark

theorem State.HasUnits.allowPower (h : s.HasUnits) : s.allowPower.HasUnits :=
  .showOverrun <| .when (.wr <| .wr <| .wrB <| .wrB <| .wrB <| .wrB <| h.wrB) .wrS

theorem State.HasUnits.execAllowedPowerCompute (h : s.HasUnits) : EndsWithUnits (execAllowedPowerCompute s) :=
  .next <| .ite (h.periodic fun _ h => h.allowPower) h

theorem State.HasUnits.armNext {g} (h : s.HasUnits) : (s.armNext g).HasUnits := h.armGroup

theorem State.HasUnits.scaleSetpoint {t} (h : s.HasUnits) : (s.scaleSetpoint t).HasUnits := by
  unfold State.scaleSetpoint
  split
  · exact h.wrS
  · exact h

theorem State.HasUnits.planLight (h : s.HasUnits) : s.planLight.HasUnits :=
  .ite (.when (.wr <| .foldl (.foldl (.wr <| h.foldl fun _ _ h => h.wr) fun _ _ h => .ite h.wr h)
    fun _ _ h => h.scaleSetpoint) .armNext) <| .foldl (.foldl (.wr <| h.foldl fun _ _ h => h.wr)
    fun _ _ h => .ite h.wr h) fun _ _ h => h.scaleSetpoint

theorem State.HasUnits.execPlannerRun (h : s.HasUnits) : EndsWithUnits (execPlannerRun s) :=
  .next <| .ite (h.periodic fun _ h => h.planLight) h

theorem State.HasUnits.execHarnessGuardTrip {fb} (h : s.HasUnits) : EndsWithUnits (execHarnessGuardTrip fb s) :=
  .ite (.next h) <| .ite (.next <| .raise <| .markBit <| .setGate <| .updSw <| .modBuck <| h.buckFault) <|
    .ite (.next <| h.markBit) <| .next h

theorem State.HasUnits.endDischarge {ch t} (h : s.HasUnits) : (s.endDischarge ch t).HasUnits :=
  .wrSat <| .setBitF <| h.modBuck

theorem State.HasUnits.startWaiting {ch} (h : s.HasUnits) : (s.startWaiting ch).HasUnits := .ite h.buckOff h

theorem State.HasUnits.execDischargeEnd {fb} (h : s.HasUnits) : EndsWithUnits (execDischargeEnd fb s) := by
  unfold Machine.execDischargeEnd
  split
  · exact .next <| .ite (.startWaiting <| h.endDischarge) h
  · exact .next h

theorem State.HasUnits.execDischargeTimeout {ch} (h : s.HasUnits) : EndsWithUnits (execDischargeTimeout ch s) := by
  unfold Machine.execDischargeTimeout
  split
  · exact .ite (.next h) <| .next <| .raise <| .markBit <| .modBuck <| h.endDischarge
  · exact .next h

theorem State.HasUnits.sampleNtc {x} (h : s.HasUnits) : (s.sampleNtc x).HasUnits :=
  h.foldl fun _ _ h => .ite h.wr <| .ite (.wrS <| h.wr) <| .raiseIf <| h.wr

theorem State.HasUnits.sampleDie {x} (h : s.HasUnits) : (s.sampleDie x).HasUnits :=
  .unless (.wr <| h.foldl fun _ _ h => .wrB <| h.wrS) fun h => .raise <| h.markBit

theorem State.HasUnits.thermDark {cause} (h : s.HasUnits) : (s.thermDark cause).HasUnits := .enterDark <| h.wr

theorem State.HasUnits.warnLevel {cause} (h : s.HasUnits) : (s.warnLevel cause).HasUnits :=
  .unless (.raise <| h.markBit) .wr

theorem State.HasUnits.orderlyStop {cause t rate} (h : s.HasUnits) : (s.orderlyStop cause t rate).HasUnits :=
  .ite h <| .ite (.thermDark <| .wr <| .raise <| h.markBit) <| .wr <| .wr <| .wr <| .upd <| .raise <| h.markBit

theorem State.HasUnits.huskTooHot (h : s.HasUnits) : s.huskTooHot.HasUnits :=
  .ite (.thermDark <| .raise <| h.markBit) h

theorem State.HasUnits.tileLevels {k} (h : s.HasUnits) : (s.tileLevels k).HasUnits :=
  .when (.when (.when h.upd .warnLevel) .orderlyStop) .huskTooHot

theorem State.HasUnits.countNtc (h : s.HasUnits) : s.countNtc.HasUnits := h.foldl fun _ _ h => h.upd

theorem State.HasUnits.countDie {t teff} (h : s.HasUnits) : (s.countDie t teff).HasUnits := h.upd

theorem State.HasUnits.warnSample (h : s.HasUnits) : s.warnSample.HasUnits :=
  .foldl (.ite (.raise <| h.markBit) h) fun _ _ h => .ite h.warnLevel h

theorem State.HasUnits.stopSample {t rate} (h : s.HasUnits) : (s.stopSample t rate).HasUnits :=
  .foldl (.ite h.orderlyStop h) fun _ _ h => .ite h.orderlyStop h

theorem State.HasUnits.heldSample (h : s.HasUnits) : s.heldSample.HasUnits := .ite h.huskTooHot h

theorem State.HasUnits.reproject {t rate} (h : s.HasUnits) : (s.reproject t rate).HasUnits := .ite h.thermDark h

theorem State.HasUnits.showThermal (h : s.HasUnits) : s.showThermal.HasUnits := .ite h <| h.wr

theorem State.HasUnits.ageTiles (h : s.HasUnits) : s.ageTiles.HasUnits := h.foldl fun _ _ h => .ite h <| h.wr

theorem State.HasUnits.showRate {high} (h : s.HasUnits) : (s.showRate high).HasUnits :=
  .wrB <| .ite (.raise <| h.markBit) h

theorem State.HasUnits.showTemps {hot t rate teff} (h : s.HasUnits) : (s.showTemps hot t rate teff).HasUnits :=
  .upd <| .wrS <| .wrS <| .wrS <| h.wr

theorem State.HasUnits.takeFactor {teff} (h : s.HasUnits) : (s.takeFactor teff).HasUnits :=
  .when (.when h.upd .wr) .markBit

theorem State.HasUnits.thermalStep {hot t rate} (h : s.HasUnits) : (s.thermalStep hot t rate).HasUnits :=
  .showThermal <| .heldSample <| .stopSample <| .showRate <| .warnSample <| .countNtc <| .countDie <| .reproject <|
    .wrB <| .takeFactor <| h.showTemps

theorem State.HasUnits.thermalSample {x} (h : s.HasUnits) : (s.thermalSample x).HasUnits :=
  .thermalStep <| .ageTiles <| .sampleDie <| h.sampleNtc

theorem State.HasUnits.execThermalSample {x} (h : s.HasUnits) : EndsWithUnits (execThermalSample x s) :=
  .next <| h.periodic fun _ h => h.thermalSample

theorem State.HasUnits.execOrderlyStopHandoff (h : s.HasUnits) : EndsWithUnits (execOrderlyStopHandoff s) := by
  unfold Machine.execOrderlyStopHandoff
  split
  · exact .next h
  · exact .ite (.next <| h.dropThermStop) <| .ite (.next <| .wr <| .upd <| h.enterHusk) <| .next h

theorem State.HasUnits.execThermalTrip {sensor} (h : s.HasUnits) : EndsWithUnits (execThermalTrip sensor s) :=
  .ite (.next h) <| .next <| .thermDark <| .raise <| .markBit <| .wr <| h.wr

/-! ### `Machine/Video` -/

theorem State.HasUnits.modStream {n f} (h : s.HasUnits) : (s.modStream n f).HasUnits := h.updVin (hstreams := by simp)

theorem State.HasUnits.forget {n f} (h : s.HasUnits) : (s.forget n f).HasUnits := h.modStream

theorem State.HasUnits.discardFill {n why} (h : s.HasUnits) : (s.discardFill n why).HasUnits := by
  unfold State.discardFill
  split
  · exact h
  · exact .wr <| .bump <| .forget <| by
      split
      · exact h.setBuf
      · exact h

theorem State.HasUnits.applyStream {n} (h : s.HasUnits) : (s.applyStream n).HasUnits :=
  .ite (.showReady <| .applyGroup <| h.foldl fun _ _ h => .ite h.setBuf h) h

theorem State.HasUnits.beginFrame {n p} (h : s.HasUnits) : (s.beginFrame n p).HasUnits := by
  unfold State.beginFrame
  dsimp only
  split
  · exact .setBuf <| .modStream <| .modStream <| h.applyStream
  · exact .wr <| .bump <| .modStream <| h.applyStream

theorem State.HasUnits.takeLines {n k f p} (h : s.HasUnits) : (s.takeLines n k f p).HasUnits :=
  .ite (.modStream <| h.foldl fun _ _ h => h.setBytes) <| .ite (.modStream <| h.foldl fun _ _ h => h.setBytes) <|
    .discardFill <| .modStream <| h.foldl fun _ _ h => h.setBytes

theorem State.HasUnits.fillPacket {n p} (h : s.HasUnits) : (s.fillPacket n p).HasUnits := by
  unfold State.fillPacket
  split
  · exact h
  · split
    · exact .ite h.forget h
    · exact .ite h.bump <| h.takeLines

theorem State.HasUnits.noteSeq {n p} (h : s.HasUnits) : (s.noteSeq n p).HasUnits := .when h.modStream .bump

theorem State.HasUnits.cutFill {n} (h : s.HasUnits) : (s.cutFill n).HasUnits := by
  unfold State.cutFill
  split
  · exact .ite h.discardFill <| h.forget
  · exact h

theorem State.HasUnits.rvfKnown {n p} (h : s.HasUnits) : (s.rvfKnown n p).HasUnits :=
  .ite (.ite (.bump <| h.noteSeq) <| .ite (.fillPacket <| h.noteSeq) <| .ite (.bump <| h.noteSeq) <| .bump <|
    h.noteSeq) <| .ite (.bump <| .applyStream <| .cutFill <| h.noteSeq) <| .ite (.bump <| h.noteSeq) <| .fillPacket <|
    .beginFrame <| .cutFill <| h.noteSeq

theorem State.HasUnits.execRvfPacket {p} (h : s.HasUnits) : EndsWithUnits (execRvfPacket p s) :=
  .ite (.next h) <| by
    split
    · exact .next <| h.bump
    · exact .next <| h.rvfKnown

theorem State.HasUnits.execRvfFrameReady {n} (h : s.HasUnits) : EndsWithUnits (execRvfFrameReady n s) :=
  .ite (.next h) <| by
    split
    · exact .next h
    · exact .next <| .showReady <| .bump <| .wr <| .wr <| .setBuf <| .modStream <|
        h.foldl fun _ _ h => .ite h.setBuf h

theorem State.HasUnits.execRvfFrameTimeout {n} (h : s.HasUnits) : EndsWithUnits (execRvfFrameTimeout n s) := by
  unfold Machine.execRvfFrameTimeout
  split
  · exact .next <| .ite h.discardFill h
  · exact .next h

theorem State.HasUnits.rejectList {cause} (h : s.HasUnits) : (s.rejectList cause).HasUnits := .wr <| h.bump

theorem State.HasUnits.listArrives {ip envOk copy data} (h : s.HasUnits) :
    (s.listArrives ip envOk copy data).HasUnits := by
  unfold State.listArrives
  extract_lets
  split
  · exact h.updVin
  · exact h.updVin
  · exact .rejectList <| h.updVin

theorem State.HasUnits.listUnproved (h : s.HasUnits) : s.listUnproved.HasUnits := .ite h.rejectList h

theorem State.HasUnits.acceptList {x} (h : s.HasUnits) : (s.acceptList x).HasUnits :=
  .when (.updVin <| .wr <| .wr <| .bumpBy <| .bump <| .ite h.bumpBy h) .upd

theorem State.HasUnits.execObjectListParse (h : s.HasUnits) : EndsWithUnits (execObjectListParse s) := by
  unfold Machine.execObjectListParse
  split
  · exact .next h
  · exact .ite (.next h) <| .ite (.next <| .acceptList <| h.updVin) <| .next <| .rejectList <| .updVin <| h.updVin

theorem State.HasUnits.writeOlcfg {data} (h : s.HasUnits) : (s.writeOlcfg data).HasUnits :=
  .ite h <| .updVin <| h.store

theorem State.HasUnits.execVinOlcfgWrite {m data} (h : s.HasUnits) : EndsWithUnits (execVinOlcfgWrite m data s) :=
  h.withBus fun _ h => h.writeOlcfg

theorem State.HasUnits.rebase {t slew} (h : s.HasUnits) : (s.rebase t slew).HasUnits := h.upd

theorem State.HasUnits.sync {x} (h : s.HasUnits) : (s.sync x).HasUnits :=
  .when (.ite (.updVin <| .bump <| .rebase <| .wrS <| h.upd) <| .rebase <| .wrS <| h.upd) fun h => .wr <| h.upd

theorem State.HasUnits.execSyncMessage {x} (h : s.HasUnits) : EndsWithUnits (execSyncMessage x s) :=
  .next <| .ite h.sync h

theorem State.HasUnits.execPdelayRequest (h : s.HasUnits) : EndsWithUnits (execPdelayRequest s) :=
  .next <| .ite h.emit h

theorem State.HasUnits.execPdelayInterval {delayNs} (h : s.HasUnits) : EndsWithUnits (execPdelayInterval delayNs s) :=
  .next <| .ite (.emit <| h.upd) h

theorem State.HasUnits.execHoldoverEnter (h : s.HasUnits) : EndsWithUnits (execHoldoverEnter s) :=
  .next <| .ite (.wr <| h.upd) h

theorem State.HasUnits.execNosyncEnter (h : s.HasUnits) : EndsWithUnits (execNosyncEnter s) :=
  .next <| .ite (.raise <| .wr <| h.upd) h

theorem State.HasUnits.imuStart (h : s.HasUnits) : s.imuStart.HasUnits := .ite h.bump <| .emit <| h.upd

theorem State.HasUnits.execImuTrigger {t} (h : s.HasUnits) : EndsWithUnits (execImuTrigger t s) :=
  .ite (.next h) <| .ite (.next <| .ite (.imuStart <| h.upd) h) <| .next <| h.imuStart

theorem State.HasUnits.gmeImu {t yaw pitch} (h : s.HasUnits) : (s.gmeImu t yaw pitch).HasUnits := .ite h <| h.upd

theorem State.HasUnits.pitchStep {omega} (h : s.HasUnits) : (s.pitchStep omega).HasUnits :=
  .ite h <| .showPitch <| h.updPid

theorem State.HasUnits.imuAccept {t yaw pitch} (h : s.HasUnits) : (s.imuAccept t yaw pitch).HasUnits :=
  .pitchStep <| .gmeImu <| .wrS <| .wrS <| .when h.upd .wr

theorem State.HasUnits.imuDiscard (h : s.HasUnits) : s.imuDiscard.HasUnits := .bump <| h.upd

theorem State.HasUnits.imuCheck {resp t} (h : s.HasUnits) : (s.imuCheck resp t).HasUnits :=
  .ite (.imuDiscard <| .raiseIf <| h.upd) <| .imuAccept <| .raiseIf <| h.upd

theorem State.HasUnits.execImuSample {response queueFull} (h : s.HasUnits) :
    EndsWithUnits (execImuSample response queueFull s) := by
  unfold Machine.execImuSample
  split
  · exact .next h
  · exact .ite (.next h) <| .next <| .imuCheck <| .when (.applyGroup <| h.upd) fun h => .bump <| h.upd

theorem State.HasUnits.execImuLost (h : s.HasUnits) : EndsWithUnits (execImuLost s) :=
  .next <| .ite (.raise <| .wr <| h.upd) h

theorem State.HasUnits.applyImu (h : s.HasUnits) : s.applyImu.HasUnits := .applyGroup <| h.upd

theorem State.HasUnits.writeImucfg {data} (h : s.HasUnits) : (s.writeImucfg data).HasUnits :=
  .ite (.unless h.wr fun h => .applyImu <| .wr <| h.upd) <| .ite h <| .when h.store fun h => .wr <| h.upd

theorem State.HasUnits.execVinImucfgWrite {m data} (h : s.HasUnits) : EndsWithUnits (execVinImucfgWrite m data s) :=
  h.withBus fun _ h => h.writeImucfg

/-! ### `Machine/Layers` -/

theorem State.HasUnits.showFill (h : s.HasUnits) : s.showFill.HasUnits :=
  .ite h <| by
    extract_lets
    split
    · exact .wr <| h.wrB
    · split
      · exact .wr <| h.wrB
      · exact h.wrB

theorem State.HasUnits.showComp (h : s.HasUnits) : s.showComp.HasUnits :=
  .showFill <| by
    split
    · exact .wr <| by
        split
        · exact .wr <| .wr <| .wr <| .wrB <| h.wr
        · exact .wrB <| h.wr
    · split
      · exact .wr <| .wr <| .wr <| .wrB <| h.wr
      · exact .wrB <| h.wr

theorem State.HasUnits.squashWith {m armed hit} (h : s.HasUnits) : (s.squashWith m armed hit).1.HasUnits := by
  unfold State.squashWith
  exact h.updUnits (hcopies := by simp)

theorem State.HasUnits.makeRoom {n} (h : s.HasUnits) : (s.makeRoom n).HasUnits :=
  .ite h <| h.foldl fun _ _ h => .ite h <| h.setBuf

theorem State.HasUnits.takeClaims {claims} (h : s.HasUnits) : (s.takeClaims claims).HasUnits :=
  h.foldl fun _ _ h => by
    split
    · exact .ite h <| .ite (.showReady <| .setBuf <| h.makeRoom) <| .ite (.showReady <| h.setBuf) h
    · exact h

theorem State.HasUnits.setStale {n b} (h : s.HasUnits) : (s.setStale n b).HasUnits := h.upd

theorem State.HasUnits.staleStep {m n bad} (h : s.HasUnits) : (s.staleStep m n bad).HasUnits :=
  .ite (.when (.setBitF <| h.upd) fun h => .setStale <| h.setBitF) <| .ite (.setBitF <| h.upd) <|
    .when (.when (.setBitF <| h.upd) .setBitF) .setStale

theorem State.HasUnits.staleSteps {m bads counts stale} (h : s.HasUnits) :
    (s.staleSteps m bads counts stale).HasUnits :=
  .foldl h.upd fun _ _ h => h.staleStep

theorem State.HasUnits.dropFrame {m} (h : s.HasUnits) : (s.dropFrame m).HasUnits := by
  unfold State.dropFrame
  split
  · exact h
  · refine .upd <| .foldlFst (.takeClaims <| .release <| h.upd) fun _ _ h => ?_
    dsimp only
    split
    · exact h
    · exact h.staleSteps

theorem State.HasUnits.squash {m armed countAt hit sheaf} (h : s.HasUnits)
    (hsheaf : ∀ t, t.HasUnits → (sheaf t).HasUnits) :
    (s.squash m armed countAt hit sheaf).HasUnits :=
  .showComp <| .unless (.foldl (hsheaf _ h.squashWith) fun _ _ h => h.dropFrame) .upd

theorem State.HasUnits.countSquashes {m} (h : s.HasUnits) : (s.countSquashes m).HasUnits :=
  .upd <| .bumpBy <| h.bumpBy

theorem State.HasUnits.armSheaf (h : s.HasUnits) : s.armSheaf.HasUnits := .wr <| h.upd

theorem State.HasUnits.recode {m} (h : s.HasUnits) : (s.recode m).HasUnits := h.updScn (hcopies := by simp)

theorem State.HasUnits.plainBands (h : s.HasUnits) : s.plainBands.HasUnits := h.upd

theorem State.HasUnits.withdrawSheaf (h : s.HasUnits) : s.withdrawSheaf.HasUnits :=
  .plainBands <| .showComp <| .recode <| .countSquashes <| h.squash fun _ h => h.wr

theorem State.HasUnits.disarm (h : s.HasUnits) : s.disarm.HasUnits := .ite h.withdrawSheaf <| h.mark

theorem State.HasUnits.writeSheaf {data} (h : s.HasUnits) : (s.writeSheaf data).HasUnits :=
  .ite h <| .ite (.ite (.armSheaf <| h.wr) <| .mark <| h.wr) <| .when h.wr .disarm

theorem State.HasUnits.execSheafArm {m data} (h : s.HasUnits) : EndsWithUnits (execSheafArm m data s) :=
  h.withBus fun _ h => h.writeSheaf

theorem State.HasUnits.execSheafDisarm {m data} (h : s.HasUnits) : EndsWithUnits (execSheafDisarm m data s) :=
  h.withBus fun _ h => h.writeSheaf

theorem State.HasUnits.refuseSheaf {cause layer} (h : s.HasUnits) : (s.refuseSheaf cause layer).HasUnits := by
  unfold State.refuseSheaf
  extract_lets
  split
  · exact .wr <| .wr <| .bump <| .wr <| .mark <| h.wr
  · exact .wr <| .bump <| .wr <| .mark <| h.wr

theorem State.HasUnits.passSheaf {ls minLead} (h : s.HasUnits) : (s.passSheaf ls minLead).HasUnits := by
  unfold State.passSheaf
  extract_lets
  split
  · exact .showComp <| .recode <| .wr <| .squash (.upd <| h.upd) fun _ h => h.wr
  · exact .showComp <| .recode <| .wr <| .when (.squash (.upd <| h.upd) fun _ h => h.wr) .mark

theorem State.HasUnits.checkSheaf (h : s.HasUnits) : s.checkSheaf.HasUnits := by
  unfold State.checkSheaf
  dsimp only
  split
  · exact h.refuseSheaf
  · exact .ite (.refuseSheaf <| .ite h <| .wr <| h.wr) <| .passSheaf <| .ite h <| .wr <| h.wr

theorem State.HasUnits.endSheafCheck (h : s.HasUnits) : s.endSheafCheck.HasUnits := .settle <| h.checkSheaf

theorem State.HasUnits.execSheafCheckComplete (h : s.HasUnits) : EndsWithUnits (execSheafCheckComplete s) :=
  .next <| .ite h.endSheafCheck h

theorem State.HasUnits.applySheaf (h : s.HasUnits) : s.applySheaf.HasUnits :=
  .plainBands <| .upd <| .wr <| .wr <| .when (.when (.bump <| .wr <| h.foldl fun _ _ h => h.applyReg) .bump) .mark

theorem State.HasUnits.refuseAtBoundary {m} (h : s.HasUnits) : (s.refuseAtBoundary m).HasUnits :=
  .plainBands <| .showComp <| .upd <| .recode <| h.squash fun _ h => h.refuseSheaf

/-! ### `Machine/Composer` -/

theorem State.HasUnits.showStale {f} (h : s.HasUnits) : (s.showStale f).HasUnits :=
  h.foldl fun _ _ h => .ite h.setBitF <| .ite h <| .ite h.setStale <| .raise <| h.setBitF

theorem State.HasUnits.startFrame (h : s.HasUnits) : s.startFrame.HasUnits :=
  .showComp <| .upd <| .staleSteps <| .foldl h.takeClaims fun _ _ h => .ite h.bump h

theorem State.HasUnits.execComposeFrameStart (h : s.HasUnits) : EndsWithUnits (execComposeFrameStart s) :=
  .next <| .ite h.startFrame h

theorem State.HasUnits.modFrame {m g} (h : s.HasUnits) : (s.modFrame m g).HasUnits := h.upd

theorem State.HasUnits.laneCheck {c differs} (h : s.HasUnits) : (s.laneCheck c differs).HasUnits := by
  unfold State.laneCheck
  split
  · exact h
  · exact .when h.wr fun h => .raise <| .bumpSat <| h.markBit

theorem State.HasUnits.keepWindows {m c st} (h : s.HasUnits) : (s.keepWindows m c st).HasUnits := h.upd

theorem State.HasUnits.writeBand {f c} (h : s.HasUnits) : (s.writeBand f c).HasUnits :=
  .modFrame <| .keepWindows <| h.foldl fun _ _ h => h.setBytes

theorem State.HasUnits.execComposeBandComplete {laneDiffers} (h : s.HasUnits) :
    EndsWithUnits (execComposeBandComplete laneDiffers s) := by
  unfold Machine.execComposeBandComplete
  split
  · exact .next h
  · split
    · exact .next h
    · exact .next <| .ite (.showComp <| .laneCheck <| h.writeBand) h

theorem State.HasUnits.compareSigs {m} (h : s.HasUnits) : (s.compareSigs m).HasUnits :=
  .raiseIf <| .raiseIf <| .when (.when (.when (.foldl (.setN <| .setN <| h.setN) fun _ _ h => .ite h.setN <| by
    split
    · exact h.setN
    · exact h) .bumpSat) .bumpSat) .bumpSat

theorem State.HasUnits.showCache (h : s.HasUnits) : s.showCache.HasUnits := .wr <| h.wr

theorem State.HasUnits.symLoad {i} (h : s.HasUnits) : (s.symLoad i).HasUnits :=
  .ite h.wr <| .ite h.wr <| .ite h.wr <| .ite h.wr <| .ite h.wr <| .showCache <| .wr <| h.upd

theorem State.HasUnits.keepSyms {keep} (h : s.HasUnits) : (s.keepSyms keep).HasUnits := .showCache <| h.upd

theorem State.HasUnits.symEvict {i} (h : s.HasUnits) : (s.symEvict i).HasUnits :=
  .ite h.wr <| .ite h.wr <| .wr <| h.keepSyms

theorem State.HasUnits.symEvictUnused (h : s.HasUnits) : s.symEvictUnused.HasUnits := .ite h.wr <| .wr <| h.keepSyms

theorem State.HasUnits.writeSymload {data} (h : s.HasUnits) : (s.writeSymload data).HasUnits :=
  .ite h.store <| .ite (.wr <| h.store) <| .ite (.symLoad <| h.store) <| .ite (.symEvict <| h.store) <|
    .when h.store .symEvictUnused

theorem State.HasUnits.execSymbolLoad {m data} (h : s.HasUnits) : EndsWithUnits (execSymbolLoad m data s) :=
  h.withBus fun _ h => h.writeSymload

theorem State.HasUnits.execSymbolEvict {m data} (h : s.HasUnits) : EndsWithUnits (execSymbolEvict m data s) :=
  h.withBus fun _ h => h.writeSymload

theorem State.HasUnits.execSymbolEvictUnused {m data} (h : s.HasUnits) :
    EndsWithUnits (execSymbolEvictUnused m data s) :=
  h.withBus fun _ h => h.writeSymload

theorem State.HasUnits.symDone {k e} (h : s.HasUnits) : (s.symDone k e).HasUnits :=
  .wr <| .wr <| .upd <| h.foldl fun _ _ h => h.setBytes

theorem State.HasUnits.symLoaded (h : s.HasUnits) : s.symLoaded.HasUnits := by
  unfold State.symLoaded
  split
  · exact h
  · split
    · exact h
    · exact .ite h.symDone h

theorem State.HasUnits.writeCapctrl {data} (h : s.HasUnits) : (s.writeCapctrl data).HasUnits :=
  .when (.ite h <| .ite h.mark <| .ite h.wr <| .wr <| h.upd) .capCut

theorem State.HasUnits.execCaptureStart {m data} (h : s.HasUnits) : EndsWithUnits (execCaptureStart m data s) :=
  h.withBus fun _ h => h.writeCapctrl

theorem State.HasUnits.execCaptureAbort {m data} (h : s.HasUnits) : EndsWithUnits (execCaptureAbort m data s) :=
  h.withBus fun _ h => h.writeCapctrl

theorem State.HasUnits.capBoundary {m} (h : s.HasUnits) : (s.capBoundary m).HasUnits := by
  unfold State.capBoundary
  split
  · exact h.capCut
  · exact .ite h <| .wr <| .wr <| h.upd
  · exact h

theorem State.HasUnits.execCaptureComplete (h : s.HasUnits) : EndsWithUnits (execCaptureComplete s) := by
  unfold Machine.execCaptureComplete
  split
  · exact .next h
  · exact .next <| .ite (.upd <| .wr <| h.capCopy) h

/-! ### `Machine/Glare` -/

theorem State.HasUnits.glareReturn (h : s.HasUnits) : s.glareReturn.HasUnits := by
  unfold State.glareReturn
  extract_lets
  split
  · exact .squash h.upd fun _ h => h
  · exact .squash h.upd fun _ h => h
  · exact h
  · exact h

theorem State.HasUnits.buildTable {l} (h : s.HasUnits) : (s.buildTable l).HasUnits :=
  .glareReturn <| .upd <| .bumpBy <| by
    split
    · exact .ite h <| h.bump
    · exact h

theorem State.HasUnits.execObjectTableBuild (h : s.HasUnits) : EndsWithUnits (execObjectTableBuild s) := by
  unfold Machine.execObjectTableBuild
  split
  · exact .next h
  · exact .next <| .ite h.buildTable h

theorem State.HasUnits.glareWithdraw (h : s.HasUnits) : s.glareWithdraw.HasUnits :=
  .raise <| .squash h.upd fun _ h => h

theorem State.HasUnits.hbSync (h : s.HasUnits) : s.hbSync.HasUnits := by
  unfold State.hbSync
  extract_lets
  split
  · exact .squash h.updNet fun _ h => h
  · exact .squash h.updNet fun _ h => h
  · exact .squash h.updNet fun _ h => h
  · exact .squash h.updNet fun _ h => h
  · exact h

theorem State.HasUnits.showSram (h : s.HasUnits) : s.showSram.HasUnits := .ite h.wr h

theorem State.HasUnits.gmeSramBad (h : s.HasUnits) : s.gmeSramBad.HasUnits := .showSram <| .squash h.upd fun _ h => h

theorem State.HasUnits.showGme {v age} (h : s.HasUnits) : (s.showGme v age).HasUnits :=
  .wr <| .wr <| .wr <| .wrB <| h.wr

theorem State.HasUnits.renderBand {v ref k} (h : s.HasUnits) : (s.renderBand v ref k).HasUnits := by
  unfold State.renderBand
  extract_lets
  split
  · exact h.upd
  · exact .ite h.upd <| .upd <| .ite h <| .bumpBy <| h.bump

theorem State.HasUnits.takeSnapshot {ref k} (h : s.HasUnits) : (s.takeSnapshot ref k).HasUnits :=
  .showGme <| .renderBand <| .ite h.glareWithdraw h

theorem State.HasUnits.execGmeSnapshot (h : s.HasUnits) : EndsWithUnits (execGmeSnapshot s) := by
  unfold Machine.execGmeSnapshot
  split
  · exact .next h
  · exact .ite (.next h) <| .next <| .upd <| .ite h.takeSnapshot h

theorem State.HasUnits.finishRender {bad} (h : s.HasUnits) : (s.finishRender bad).HasUnits := by
  unfold State.finishRender
  extract_lets
  split
  · exact h
  · exact h.upd

theorem State.HasUnits.execGmeRenderComplete {pointsDiffer ecc} (h : s.HasUnits) :
    EndsWithUnits (execGmeRenderComplete pointsDiffer ecc s) := by
  unfold Machine.execGmeRenderComplete
  split
  · exact .next h
  · exact .ite (.next h) <| .next <| .finishRender <| by
      split
      · exact .ite (.raise <| h.bumpSat) h
      · exact .bumpSat <| .ite (.raise <| h.bumpSat) h
      · exact .raise <| .bumpSat <| .ite (.raise <| h.bumpSat) h

theorem State.HasUnits.publishZones {ref} (h : s.HasUnits) : (s.publishZones ref).HasUnits :=
  .upd <| .when (h.foldl fun _ _ h => .setN <| h.setN) .bump

/-! ### `Machine/Wire` -/

theorem State.HasUnits.modPort {p f} (h : s.HasUnits) : (s.modPort p f).HasUnits := h.updLink

theorem State.HasUnits.sendBlocks {p bs} (h : s.HasUnits) : (s.sendBlocks p bs).HasUnits := h.modPort

theorem State.HasUnits.beginTraining {p} (h : s.HasUnits) : (s.beginTraining p).HasUnits := h.modPort

theorem State.HasUnits.gleanTake {p y w codes bad} (h : s.HasUnits) : (s.gleanTake p y w codes bad).HasUnits := by
  unfold State.gleanTake
  extract_lets
  split
  · exact h.modPort
  · exact .foldl (.unless h.modPort fun h => .raise <| h.bumpSat) fun _ _ h => h.foldl fun _ _ h => by
      split
      · exact .ite h.modPort h
      · exact h

theorem State.HasUnits.exemptPort {p} (h : s.HasUnits) : (s.exemptPort p).HasUnits := .ite h <| h.updSaf

theorem State.HasUnits.sendRow {p band r codes bad} (h : s.HasUnits) : (s.sendRow p band r codes bad).HasUnits :=
  .ite h <| .ite h.exemptPort <| .gleanTake <| .updScn <| .modPort <| .sendBlocks <| .bump <| h.emit

/-! ### `Machine/Scan` -/

theorem State.HasUnits.setScanLine {c y codes} (h : s.HasUnits) : (s.setScanLine c y codes).HasUnits :=
  .setBytes <| h.setBytes

theorem State.HasUnits.fillBand {m k} (h : s.HasUnits) : (s.fillBand m k).HasUnits := by
  unfold State.fillBand
  extract_lets tm old lines t k
  have ht : t.HasUnits := h.foldl fun _ _ h => h.setScanLine
  clear_value t
  exact .showFill <| ht.updScn (hcopies := by simp)

theorem State.HasUnits.execScanFillBandComplete (h : s.HasUnits) : EndsWithUnits (execScanFillBandComplete s) := by
  unfold Machine.execScanFillBandComplete
  split
  · exact .next h
  · exact .next <| .ite h.fillBand h

theorem State.HasUnits.prefetch {k} (h : s.HasUnits) : (s.prefetch k).HasUnits := .ite h <| h.updScn

theorem State.HasUnits.mapsBlank (h : s.HasUnits) : s.mapsBlank.HasUnits := .prefetch <| h.updScn

theorem State.HasUnits.underrun {t short} (h : s.HasUnits) : (s.underrun t short).HasUnits := by
  unfold State.underrun
  split
  · exact h
  · exact .when (.unless (.updScn <| .bump <| h.mark) fun h => .mark <| .wr <| h.wr) fun h => .raise <| .bump <|
      h.mark

theorem State.HasUnits.noteEcc {es} (h : s.HasUnits) : (s.noteEcc es).HasUnits :=
  h.foldl fun _ _ h => by
    split
    · exact h.bumpSat
    · exact .raise <| h.bumpSat

theorem State.HasUnits.computeRow {ref k r x} (h : s.HasUnits) : (s.computeRow ref k r x).HasUnits :=
  .updScn <| .foldl (.noteEcc <| .ite h.updScn h) fun _ _ h => h.underrun

theorem State.HasUnits.latchMask {ref k} (h : s.HasUnits) : (s.latchMask ref k).HasUnits :=
  .ite h.upd <| by
    split
    · exact .ite h.upd <| .ite (.upd <| .unless (.ite h <| h.wr) fun h => .wr <| h.wr) <| .raise <| .bumpSat <| h.upd
    · exact .raise <| .bumpSat <| h.upd

theorem State.HasUnits.latchShift (h : s.HasUnits) : s.latchShift.HasUnits := .wrS <| .wrS <| h.updScn

theorem State.HasUnits.showZones {zs} (h : s.HasUnits) : (s.showZones zs).HasUnits :=
  h.foldl fun _ _ h => .wr <| .setN <| h.setN

theorem State.HasUnits.latchTable (h : s.HasUnits) : s.latchTable.HasUnits := by
  unfold State.latchTable
  split
  · exact h
  · exact .showZones <| .wr <| h.updScn

theorem State.HasUnits.latchMaps {k ready} (h : s.HasUnits) : (s.latchMaps k ready).HasUnits :=
  .updScn <| .ite h <| h.prefetch

theorem State.HasUnits.firstRow {ref k ready x} (h : s.HasUnits) : (s.firstRow ref k ready x).HasUnits :=
  .computeRow <| .unless h.noteEcc fun h => .raise <| .mark <| h.bump

theorem State.HasUnits.latchBand {ref k ready x} (h : s.HasUnits) : (s.latchBand ref k ready x).HasUnits :=
  .ite (.updScn <| .upd <| .latchMaps <| .latchTable <| .latchShift <| h.latchMask) <| .firstRow <| .upd <|
    .latchMaps <| .latchTable <| .latchShift <| h.latchMask

theorem State.HasUnits.execMaskLatch {mapsReady x} (h : s.HasUnits) :
    EndsWithUnits (execMaskLatch mapsReady x s) := by
  unfold Machine.execMaskLatch
  split
  · exact .next h
  · exact .ite (.next h) <| .next <| .upd <| .ite h.latchBand h

theorem State.HasUnits.lineMatch {y} (h : s.HasUnits) : (s.lineMatch y).HasUnits := .ite (.setN <| h.mark) h

theorem State.HasUnits.rowSlot {k r x bad} (h : s.HasUnits) : (s.rowSlot k r x bad).HasUnits :=
  .ite h <| .when (.lineMatch <| by
    split
    · exact .ite (h.foldl fun _ _ h => h.sendRow) h
    · exact h) .computeRow

theorem State.HasUnits.execRowSlotStart {x gleanBad} (h : s.HasUnits) :
    EndsWithUnits (execRowSlotStart x gleanBad s) := by
  unfold Machine.execRowSlotStart
  split
  · exact .next h
  · exact .ite (.next h) <| .next <| .upd <| .ite h.rowSlot h

theorem State.HasUnits.publishLight (h : s.HasUnits) : s.publishLight.HasUnits :=
  .wr <| h.foldl fun _ _ h => .when (.wrB <| .wr <| h.setN) .updPid

theorem State.HasUnits.frameDone (h : s.HasUnits) : s.frameDone.HasUnits := by
  unfold State.frameDone
  split
  · exact h
  · exact .updScn <| h.mark

theorem State.HasUnits.blankStart (h : s.HasUnits) : s.blankStart.HasUnits :=
  .when (.mapsBlank <| .publishLight <| h.mark) fun h => .showFill <| h.frameDone

theorem State.HasUnits.execBlankStart (h : s.HasUnits) : EndsWithUnits (execBlankStart s) :=
  .ite (.next h) <| .next <| .upd <| .ite h.blankStart h

theorem State.HasUnits.execClampTableReceive {corrupt} (h : s.HasUnits) :
    EndsWithUnits (execClampTableReceive corrupt s) := by
  unfold Machine.execClampTableReceive
  split
  · exact .next h
  · exact .ite (.next <| h.updSaf) <| .ite (.next <| .updScn <| h.updSaf) <| .next <| .raise <| .bump <| h.updSaf

/-! ### `Machine/Link` -/

theorem State.HasUnits.setPort {p st} (h : s.HasUnits) : (s.setPort p st).HasUnits :=
  .modPort <| .when h.wr fun h => .wr <| h.wr

theorem State.HasUnits.setLanes {p map} (h : s.HasUnits) : (s.setLanes p map).HasUnits :=
  .modPort <| .wrB <| .wrB <| h.wr

theorem State.HasUnits.train {p retry} (h : s.HasUnits) : (s.train p retry).HasUnits :=
  .ite h <| .modPort <| .bumpSat <| .wr <| .setLanes <| h.setPort

theorem State.HasUnits.portOff {p} (h : s.HasUnits) : (s.portOff p).HasUnits := .modPort <| .setLanes <| h.setPort

theorem State.HasUnits.trainStep {p st} (h : s.HasUnits) : (s.trainStep p st).HasUnits := by
  unfold State.trainStep
  dsimp only
  split
  · exact .beginTraining <| h.setPort
  · exact .sendBlocks <| .modPort <| h.setPort
  · exact .sendBlocks <| .emit <| h.setPort
  · exact .sendBlocks <| h.setPort
  · exact h.setPort

theorem State.HasUnits.execLinkTrainStart {p} (h : s.HasUnits) : EndsWithUnits (execLinkTrainStart p s) :=
  .next <| .ite h.train h

theorem State.HasUnits.execUplinkSignalDetect {p} (h : s.HasUnits) : EndsWithUnits (execUplinkSignalDetect p s) :=
  .next <| .ite h.trainStep h

theorem State.HasUnits.hearLine {p line} (h : s.HasUnits) : (s.hearLine p line).HasUnits := .modPort <| h.bumpBy

theorem State.HasUnits.execUplinkBlockLock {p line} (h : s.HasUnits) : EndsWithUnits (execUplinkBlockLock p line s) :=
  .ite (.next h) <| .ite (.next <| h.hearLine) <| .next <| .when (.modPort <| h.hearLine) .trainStep

theorem State.HasUnits.oneLaneMode {p} (h : s.HasUnits) : (s.oneLaneMode p).HasUnits := .ite h.wr <| .ite h.upd h

theorem State.HasUnits.portReady {p} (h : s.HasUnits) : (s.portReady p).HasUnits :=
  .sendBlocks <| .unless (.modPort <| .when (.setLanes <| h.setPort) .mark) .oneLaneMode

theorem State.HasUnits.losePort {p cause} (h : s.HasUnits) : (s.losePort p cause).HasUnits :=
  .ite h <| .when (by
    split
    · exact .when (.modPort <| .raise <| .wr <| .mark <| .wr <| .setLanes <| h.setPort) .endFull
    · exact .modPort <| .raise <| .wr <| .mark <| .wr <| .setLanes <| h.setPort) fun h => .modPort <| h.train

theorem State.HasUnits.takeTrain {p b} (h : s.HasUnits) : (s.takeTrain p b).HasUnits := by
  unfold State.takeTrain
  extract_lets
  split
  · exact .when (.modPort <| h.modPort) .trainStep
  · exact .when h.modPort .trainStep
  · exact .when h.modPort .portReady
  · exact .losePort <| h.modPort
  · exact .losePort <| h.modPort
  · exact h.modPort

theorem State.HasUnits.execUplinkTrainReceive {p line} (h : s.HasUnits) :
    EndsWithUnits (execUplinkTrainReceive p line s) :=
  .next <| .ite (.foldl h.hearLine fun _ _ h => h.takeTrain) h

theorem State.HasUnits.trainFail {p st} (h : s.HasUnits) : (s.trainFail p st).HasUnits :=
  .ite (.ite (.wr <| .setLanes <| .setPort <| h.wr) <| .train <| h.wr) <| .wr <| .setLanes <| .setPort <| h.wr

theorem State.HasUnits.execTrainStateTimeout {p} (h : s.HasUnits) : EndsWithUnits (execTrainStateTimeout p s) :=
  .ite (.next h) <| .ite (.next <| .trainStep <| .raise <| h.modPort) <| .next <| h.trainFail

theorem State.HasUnits.takeRecord {p kind u k} (h : s.HasUnits) (hk : ∀ x0 t, t.HasUnits → (k x0 t).HasUnits) :
    (s.takeRecord p kind u k).HasUnits :=
  .ite h <| by
    extract_lets
    split
    · exact h.hearLine
    · exact .ite (.bump <| h.hearLine) <| .unless h.hearLine fun h => .ite (.raise <| h.bump) <| hk _ _ h

theorem State.HasUnits.answerCmd {p tag status} (h : s.HasUnits) : (s.answerCmd p tag status).HasUnits :=
  .modPort <| .wr <| .mark <| .wr <| h.wr

theorem State.HasUnits.setIdentity {p x} (h : s.HasUnits) : (s.setIdentity p x).HasUnits :=
  .setN <| .setN <| .setN <| .wr <| .wr <| h.wr

theorem State.HasUnits.takeIdent {p tag x} (h : s.HasUnits) : (s.takeIdent p tag x).HasUnits := by
  unfold State.takeIdent
  split
  · exact .ite (.trainStep <| h.setIdentity) <| .raise <| .mark <| .wr <| .setLanes <| .setPort <| h.setIdentity
  · split
    · exact .ite (.answerCmd <| h.setIdentity) h
    · exact h

theorem State.HasUnits.execIdentRecord {p full line} (h : s.HasUnits) :
    EndsWithUnits (execIdentRecord p full line s) :=
  .next <| h.takeRecord fun _ _ h => h.takeIdent

theorem State.HasUnits.lightUp {p} (h : s.HasUnits) : (s.lightUp p).HasUnits := .ite (.modPort <| h.setPort) h

theorem State.HasUnits.writeLnkCtrl {p data} (h : s.HasUnits) : (s.writeLnkCtrl p data).HasUnits :=
  .lightUp <| .ite (.portOff <| .unless h.store .wr) <| .ite (.when (.unless h.store .wr) .train) <|
    .when (.unless h.store .wr) .train

theorem State.HasUnits.execLinkEnable {m p data} (h : s.HasUnits) : EndsWithUnits (execLinkEnable m p data s) :=
  .ite (.next h) <| h.withBus fun _ h => h.writeLnkCtrl

theorem State.HasUnits.execLightSet {m p data} (h : s.HasUnits) : EndsWithUnits (execLightSet m p data s) :=
  .ite (.next h) <| h.withBus fun _ h => h.writeLnkCtrl

theorem State.HasUnits.execRetrain {m p data} (h : s.HasUnits) : EndsWithUnits (execRetrain m p data s) :=
  .ite (.next h) <| h.withBus fun _ h => h.writeLnkCtrl

theorem State.HasUnits.execLostRetry {p} (h : s.HasUnits) : EndsWithUnits (execLostRetry p s) :=
  .next <| .ite h.train h

theorem State.HasUnits.cutRow {p} (h : s.HasUnits) : (s.cutRow p).HasUnits := .ite h <| h.modPort

theorem State.HasUnits.dropLane {p lane} (h : s.HasUnits) : (s.dropLane p lane).HasUnits :=
  .ite h <| .ite h.losePort <| .raise <| .sendBlocks <| .oneLaneMode <| .mark <| .setLanes <| h.cutRow

theorem State.HasUnits.lanesLost {p dn0 dn1} (h : s.HasUnits) : (s.lanesLost p dn0 dn1).HasUnits :=
  .ite h <| .ite h.losePort <| h.dropLane

theorem State.HasUnits.execAlertRecord {p full before record after} (h : s.HasUnits) :
    EndsWithUnits (execAlertRecord p full before record after s) :=
  .next <| h.takeRecord fun _ _ h => .when h.lanesLost fun h => .orderlyStop <| h.mark

theorem State.HasUnits.loseUplock {p line} (h : s.HasUnits) : (s.loseUplock p line).HasUnits := by
  unfold State.loseUplock
  extract_lets
  split
  · exact .when (.when h.hearLine .modPort) .losePort
  · exact .when h.hearLine .modPort

theorem State.HasUnits.execUplinkLockLoss {p line} (h : s.HasUnits) : EndsWithUnits (execUplinkLockLoss p line s) :=
  .next <| .ite h.loseUplock h

theorem State.HasUnits.execGleanLockLoss {p headers} (h : s.HasUnits) :
    EndsWithUnits (execGleanLockLoss p headers s) :=
  .ite (.next h) <| .ite (.next h) <| .ite (.next <| .raise <| .modPort <| .when (.ite h.wr h) .wr) <| .next <|
    h.dropLane

theorem State.HasUnits.beginTrim {t} (h : s.HasUnits) : (s.beginTrim t).HasUnits := h.updCal

theorem State.HasUnits.sendCmd {p opcode tag arg} (h : s.HasUnits) : (s.sendCmd p opcode tag arg).HasUnits :=
  .ite (.train <| .wr <| .sendBlocks <| h.emit) <| .when (.when (.modPort <| .wr <| .sendBlocks <| h.emit) .wr)
    .beginTrim

theorem State.HasUnits.holdTrim {p tag} (h : s.HasUnits) : (s.holdTrim p tag).HasUnits := .modPort <| h.wr

theorem State.HasUnits.releaseTrim {p} (h : s.HasUnits) : (s.releaseTrim p).HasUnits := by
  unfold State.releaseTrim
  split
  · exact h
  · exact .ite (.holdTrim <| h.modPort) <| .ite (.sendCmd <| h.modPort) <| .answerCmd <| h.modPort

theorem State.HasUnits.writeLnkCmd {p data} (h : s.HasUnits) : (s.writeLnkCmd p data).HasUnits :=
  .unless h.store fun h => .ite h.holdTrim <| .ite h.sendCmd <| h.answerCmd

theorem State.HasUnits.execPing {m p data} (h : s.HasUnits) : EndsWithUnits (execPing m p data s) :=
  .ite (.next h) <| h.withBus fun _ h => h.writeLnkCmd

theorem State.HasUnits.execIdent {m p data} (h : s.HasUnits) : EndsWithUnits (execIdent m p data s) :=
  .ite (.next h) <| h.withBus fun _ h => h.writeLnkCmd

theorem State.HasUnits.execRegWrite {m p data} (h : s.HasUnits) : EndsWithUnits (execRegWrite m p data s) :=
  .ite (.next h) <| h.withBus fun _ h => h.writeLnkCmd

theorem State.HasUnits.execRegRead {m p data} (h : s.HasUnits) : EndsWithUnits (execRegRead m p data s) :=
  .ite (.next h) <| h.withBus fun _ h => h.writeLnkCmd

theorem State.HasUnits.execHuskUnlock {m p data} (h : s.HasUnits) : EndsWithUnits (execHuskUnlock m p data s) :=
  .ite (.next h) <| h.withBus fun _ h => h.writeLnkCmd

theorem State.HasUnits.execHuskCommit {m p data} (h : s.HasUnits) : EndsWithUnits (execHuskCommit m p data s) :=
  .ite (.next h) <| h.withBus fun _ h => h.writeLnkCmd

theorem State.HasUnits.execTileReset {m p data} (h : s.HasUnits) : EndsWithUnits (execTileReset m p data s) :=
  .ite (.next h) <| h.withBus fun _ h => h.writeLnkCmd

theorem State.HasUnits.huskAnswer {p c status} (h : s.HasUnits) : (s.huskAnswer p c status).HasUnits := by
  unfold State.huskAnswer
  have hw : (s.setN (R.LNK_EXPHUSK p) c.arg).HasUnits := h.setN
  exact .ite h <| .ite h.wr <| .ite hw.updUnits h

theorem State.HasUnits.takeResponse {p tag status value} (h : s.HasUnits) :
    (s.takeResponse p tag status value).HasUnits := by
  unfold State.takeResponse
  split
  · exact .ite (.huskAnswer <| .answerCmd <| h.setN) h
  · exact h

theorem State.HasUnits.execResponseRecord {p full before record after} (h : s.HasUnits) :
    EndsWithUnits (execResponseRecord p full before record after s) :=
  .next <| h.takeRecord fun _ _ h => h.takeResponse

theorem State.HasUnits.execCommandTimeout {p} (h : s.HasUnits) : EndsWithUnits (execCommandTimeout p s) := by
  unfold Machine.execCommandTimeout
  split
  · exact .next <| .ite h.answerCmd h
  · exact .next h

theorem State.HasUnits.takeEcho {p x} (h : s.HasUnits) : (s.takeEcho p x).HasUnits := by
  unfold State.takeEcho
  split
  · exact h
  · exact .when (.when (.bumpBy <| h.modPort) fun h => .raise <| h.mark) .wr

theorem State.HasUnits.execRowechoRecord {p full line} (h : s.HasUnits) :
    EndsWithUnits (execRowechoRecord p full line s) :=
  .next <| h.takeRecord fun _ _ h => h.takeEcho

theorem State.HasUnits.execEchoDeadline {p} (h : s.HasUnits) : EndsWithUnits (execEchoDeadline p s) :=
  .ite (.next h) <| .next <| .when (h.foldl fun _ _ h => .bumpBy <| h.modPort) .losePort

theorem State.HasUnits.setEchoDue {k slotEnd} (h : s.HasUnits) : (s.setEchoDue k slotEnd).HasUnits :=
  h.foldl fun _ _ h => h.modPort

theorem State.HasUnits.takeStatus {p x} (h : s.HasUnits) : (s.takeStatus p x).HasUnits :=
  .unless (.tileLevels <| .upd <| .wr <| .wrS <| .bumpBy <| .bumpBy <| .wrB <| .wr <| h.wrS) .lanesLost

theorem State.HasUnits.execStatusRecord {p full line} (h : s.HasUnits) :
    EndsWithUnits (execStatusRecord p full line s) :=
  .next <| h.takeRecord fun _ _ h => h.takeStatus

theorem State.HasUnits.gleanRecord {p r lane y0 y1 queueFull} (h : s.HasUnits) :
    (s.gleanRecord p r lane y0 y1 queueFull).HasUnits :=
  .ite (.raise <| .updSaf <| .modPort <| .setN <| h.setN) <| .updSaf <| .modPort <| .setN <| h.setN

theorem State.HasUnits.execGleanRecord {p region lane queueFull} (h : s.HasUnits) :
    EndsWithUnits (execGleanRecord p region lane queueFull s) :=
  .ite (.next h) <| by
    split
    · exact .next <| .ite h.gleanRecord h
    · exact .next h

/-! ### `Machine/Chains` -/

theorem State.HasUnits.satExpect {c cmd kind first len turn} (h : s.HasUnits) :
    (s.satExpect c cmd kind first len turn).HasUnits :=
  h.modChain

theorem State.HasUnits.satCollect {c kind first busy} (h : s.HasUnits) : (s.satCollect c kind first busy).HasUnits :=
  .satExpect <| h.satSend

theorem State.HasUnits.satConfigured {c} (h : s.HasUnits) : (s.satConfigured c).HasUnits :=
  .ite h <| .when h.modChain .wr

theorem State.HasUnits.satPeriod {busy c} (h : s.HasUnits) : (s.satPeriod busy c).HasUnits :=
  .ite (.ite h.satSend h) <| .ite (.modChain <| .satSend <| h.applyGroup) <| h.modChain

theorem State.HasUnits.satRestart {c} (h : s.HasUnits) : (s.satRestart c).HasUnits := h.modChain

theorem State.HasUnits.execSatPeriodStart {busy} (h : s.HasUnits) : EndsWithUnits (execSatPeriodStart busy s) :=
  .ite (.next h) <| .next <| .foldl h.updSat fun _ _ h => .satPeriod <| h.satRestart

theorem State.HasUnits.satLatch {busy c} (h : s.HasUnits) : (s.satLatch busy c).HasUnits :=
  .ite h <| .modChain <| .ite h.satSend h

theorem State.HasUnits.execSatLatchSend {busy} (h : s.HasUnits) : EndsWithUnits (execSatLatchSend busy s) := by
  unfold Machine.execSatLatchSend
  split
  · exact .next h
  · exact .ite (.next h) <| .next <| .updSat <| h.foldl fun _ _ h => h.satLatch

theorem State.HasUnits.execSatCollectSend {c busy} (h : s.HasUnits) : EndsWithUnits (execSatCollectSend c busy s) :=
  .ite (.next h) <| .next <| .satCollect <| h.modChain

theorem State.HasUnits.execSatCensusSend {c busy} (h : s.HasUnits) : EndsWithUnits (execSatCensusSend c busy s) :=
  .ite (.next h) <| .next <| .satExpect <| .satSend <| h.modChain

theorem State.HasUnits.beginEnum {c repeated busy} (h : s.HasUnits) : (s.beginEnum c repeated busy).HasUnits :=
  .satExpect <| .satSend <| .satSend <| .modChain <| .wr <| h.wr

theorem State.HasUnits.failEnum {c busy} (h : s.HasUnits) : (s.failEnum c busy).HasUnits := by
  unfold State.failEnum
  extract_lets
  split
  · exact .beginEnum <| h.bump
  · exact .raise <| .modChain <| .wr <| h.bump

theorem State.HasUnits.satChanged {c busy} (h : s.HasUnits) : (s.satChanged c busy).HasUnits :=
  .when (.raise <| .modChain <| h.mark) .beginEnum

theorem State.HasUnits.showOversize {c} (h : s.HasUnits) : (s.showOversize c).HasUnits := h.wrB

theorem State.HasUnits.endEnum {c} (h : s.HasUnits) : (s.endEnum c).HasUnits :=
  .satConfigured <| .modChain <| .showOversize <| .mark <| h.wr

theorem State.HasUnits.enumGroup {c first busy} (h : s.HasUnits) : (s.enumGroup c first busy).HasUnits :=
  .ite h.satCollect <| h.endEnum

theorem State.HasUnits.writeSatCtrl {c data busy} (h : s.HasUnits) : (s.writeSatCtrl c data busy).HasUnits :=
  .ite h <| .ite (.modChain <| .wr <| h.store) <| .when h.store .beginEnum

theorem State.HasUnits.execSatEnumerate {w c} (h : s.HasUnits) : EndsWithUnits (execSatEnumerate w c s) :=
  .ite (.next h) <| by
    split
    · exact h.withBus fun _ h => h.writeSatCtrl
    · exact .next <| .ite h.beginEnum h

theorem State.HasUnits.satLost {c o busy} (h : s.HasUnits) : (s.satLost c o busy).HasUnits :=
  .ite (.failEnum <| .modChain <| h.bump) <| .ite (.when (.modChain <| .modChain <| h.bump) .satChanged) <|
    .modChain <| h.bump

theorem State.HasUnits.satStatus {c first payload} (h : s.HasUnits) : (s.satStatus c first payload).HasUnits :=
  .when (h.foldl fun _ _ h => h.setN) fun h => .raise <| h.mark

theorem State.HasUnits.satIdentity {c first payload busy} (h : s.HasUnits) :
    (s.satIdentity c first payload busy).HasUnits :=
  .ite (.failEnum <| .mark <| h.foldl fun _ _ h => h.setN) <| .enumGroup <| h.foldl fun _ _ h => h.setN

theorem State.HasUnits.satEnumerated {c turned f busy} (h : s.HasUnits) :
    (s.satEnumerated c turned f busy).HasUnits :=
  .ite h.failEnum <| .enumGroup <| .wr <| h.resetRegs

theorem State.HasUnits.satCensus {c f busy} (h : s.HasUnits) : (s.satCensus c f busy).HasUnits :=
  .ite h.satChanged <| h.modChain

theorem State.HasUnits.satTake {c turned o f busy} (h : s.HasUnits) : (s.satTake c turned o f busy).HasUnits := by
  unfold State.satTake
  extract_lets
  split
  · exact .satEnumerated <| h.modChain
  · exact .ite (.satIdentity <| h.modChain) <| .satStatus <| h.modChain
  · exact .satCensus <| h.modChain
  · exact .satConfigured <| .modChain <| h.modChain
  · exact h.modChain

theorem State.HasUnits.execSatReturnFrame {c x} (h : s.HasUnits) : EndsWithUnits (execSatReturnFrame c x s) := by
  unfold Machine.execSatReturnFrame
  extract_lets
  split
  · exact .next <| .ite h.modChain h
  · exact .next <| .unless (.ite h.modChain h) fun h => by
      split
      · exact .ite h.satTake <| h.satLost
      · exact h.satLost

theorem State.HasUnits.execSatReturnTimeout {c} (h : s.HasUnits) : EndsWithUnits (execSatReturnTimeout c s) := by
  unfold Machine.execSatReturnTimeout
  split
  · exact .next h
  · exact .next <| .ite h.satLost h

theorem State.HasUnits.execSatNodeWrite {c node reg value} (h : s.HasUnits) :
    EndsWithUnits (execSatNodeWrite c node reg value s) :=
  .ite (.next h) <| by
    split
    · exact .next <| h.satConfigured
    · exact .ite (.next h) <| .next <| .ite (.satConfigured <| .modChain <| h.satSend) <| .satExpect <| h.satSend

theorem State.HasUnits.writeSatTiming {latch data} (h : s.HasUnits) : (s.writeSatTiming latch data).HasUnits :=
  .ite (.ite (.foldl h.wr fun _ _ h => h.showOversize) h) <| .ite h.wr h

theorem State.HasUnits.execSatTimingWrite {m latch data} (h : s.HasUnits) :
    EndsWithUnits (execSatTimingWrite m latch data s) :=
  h.withBus fun _ h => h.writeSatTiming

/-! ### `Machine/Faults` -/

theorem State.HasUnits.execSourceRaise {src addr} (h : s.HasUnits) : EndsWithUnits (execSourceRaise src addr s) :=
  .ite (.next h) <| .next <| h.raiseAt

theorem State.HasUnits.execGraceExpiry {src} (h : s.HasUnits) : EndsWithUnits (execGraceExpiry src s) := by
  unfold Machine.execGraceExpiry
  split
  · exact .next <| .ite h.escalate h
  · exact .next h

theorem State.HasUnits.handle {base src} (h : s.HasUnits) : (s.handle base src).HasUnits :=
  .ite (by
    split
    · exact h.escalate
    · exact .record <| .srcSet <| h.upd) h

theorem State.HasUnits.handleByFirmware {src} (h : s.HasUnits) : (s.handleByFirmware src).HasUnits :=
  .ite h <| .ite h.handle <| .wr <| h.bumpSat

theorem State.HasUnits.execSourceHandle {m w data} (h : s.HasUnits) : EndsWithUnits (execSourceHandle m w data s) :=
  h.withBus fun _ h => h.foldl fun _ _ h => h.handleByFirmware

theorem State.HasUnits.execSourceShandle {m w data} (h : s.HasUnits) : EndsWithUnits (execSourceShandle m w data s) :=
  h.withBus fun _ h => h.foldl fun _ _ h => h.handle

theorem State.HasUnits.dropSrc {src} (h : s.HasUnits) : (s.dropSrc src).HasUnits :=
  .ite h <| .record <| .upd <| .srcSet <| .setHandled <| h.srcSet

theorem State.HasUnits.clearSrc {src} (h : s.HasUnits) : (s.clearSrc src).HasUnits :=
  .ite h <| by
    split
    · exact h.dropSrc
    · exact h
    · exact .recordRaised <| .noteEvent <| .srcSet <| h.dropSrc

theorem State.HasUnits.execSourceClear {m w data} (h : s.HasUnits) : EndsWithUnits (execSourceClear m w data s) :=
  h.withBus fun _ h => h.foldl fun _ _ h => h.clearSrc

theorem State.HasUnits.clearCounts (h : s.HasUnits) : s.clearCounts.HasUnits := h.resetRegs

theorem State.HasUnits.execCountClear {m data} (h : s.HasUnits) : EndsWithUnits (execCountClear m data s) :=
  h.withBus fun _ h => .ite h.clearCounts h

theorem State.HasUnits.writeClass {r data} (h : s.HasUnits) : (s.writeClass r data).HasUnits :=
  .ite (.when h.setReg .voidConfirm) h

theorem State.HasUnits.execClassWrite {m r data} (h : s.HasUnits) : EndsWithUnits (execClassWrite m r data s) :=
  h.withBus fun _ h => h.writeClass

theorem State.HasUnits.writeGrace {r data} (h : s.HasUnits) : (s.writeGrace r data).HasUnits :=
  .ite (.when h.setReg .voidConfirm) h

theorem State.HasUnits.execGraceWrite {m r data} (h : s.HasUnits) : EndsWithUnits (execGraceWrite m r data s) :=
  h.withBus fun _ h => h.writeGrace

theorem State.HasUnits.parityScan {bad} (h : s.HasUnits) : (s.parityScan bad).HasUnits := by
  unfold State.parityScan
  split
  · exact h
  · exact .brambleSelf <| .ite h <| h.wr

theorem State.HasUnits.execParityScan {bad} (h : s.HasUnits) : EndsWithUnits (execParityScan bad s) :=
  .next <| .ite (h.periodic fun _ h => h.parityScan) h

theorem State.HasUnits.execBrambleCompareMismatch (h : s.HasUnits) : EndsWithUnits (execBrambleCompareMismatch s) :=
  .next <| .ite h.brambleSelf h

theorem State.HasUnits.execBrmSelfTest (h : s.HasUnits) : EndsWithUnits (execBrmSelfTest s) :=
  .next <| .ite (h.periodic fun _ h => .raise <| h.upd) h

theorem State.HasUnits.execBrmTestCheck (h : s.HasUnits) : EndsWithUnits (execBrmTestCheck s) := by
  unfold Machine.execBrmTestCheck
  split
  · exact .next h
  · exact .next <| .dropSrc <| .unless h.upd .brambleSelf

theorem State.HasUnits.msgNext {data} (h : s.HasUnits) : (s.msgNext data).HasUnits := .ite (.wrB <| h.bump) h

theorem State.HasUnits.execMsgNext {m data} (h : s.HasUnits) : EndsWithUnits (execMsgNext m data s) :=
  h.withBus fun _ h => h.msgNext

theorem State.HasUnits.inject {data} (h : s.HasUnits) : (s.inject data).HasUnits := .when (.ite h.clearSrc h) .raise

theorem State.HasUnits.execMgmtWatchdog (h : s.HasUnits) : EndsWithUnits (execMgmtWatchdog s) := .next <| h.raiseIf

/-! ### `Machine/Mailbox` -/

theorem State.HasUnits.showNew {n} (h : s.HasUnits) : (s.showNew n).HasUnits := h.wrB

theorem State.HasUnits.setRdseq {n v} (h : s.HasUnits) : (s.setRdseq n v).HasUnits :=
  .showNew <| h.updMbx (hrdseq := by simp)

theorem State.HasUnits.modMbx {f} (h : s.HasUnits)
    (hf : ∀ m : Mbx, (f m).rdseq.length = m.rdseq.length := by exact fun _ => rfl) : (s.modMbx f).HasUnits :=
  h.updMbx (hrdseq := .inl (hf s.mbx))

theorem State.HasUnits.ringBell {n} (h : s.HasUnits) : (s.ringBell n).HasUnits := .ite h.modMbx h

theorem State.HasUnits.post {n len} (h : s.HasUnits) : (s.post n len).HasUnits :=
  .ringBell <| .showNew <| .bump <| .wr <| .wr <| .wr <| .wr <| .foldl (.when h.modMbx fun h => .raise <| .bump <|
    h.mark) fun _ _ h => h.setReg

theorem State.HasUnits.withdraw {n} (h : s.HasUnits) : (s.withdraw n).HasUnits :=
  .showNew <| .foldl (.ite (.mark <| h.wr) h) fun _ _ h => h.setN

theorem State.HasUnits.writeDoor {n data} (h : s.HasUnits) : (s.writeDoor n data).HasUnits :=
  .ite h.mark <| .when h.post .withdraw

theorem State.HasUnits.writeSeen {n data} (h : s.HasUnits) : (s.writeSeen n data).HasUnits :=
  .ite h <| by
    split
    · exact .ite h.setRdseq h
    · exact .ite h.setRdseq h

theorem State.HasUnits.writeAck {n data} (h : s.HasUnits) : (s.writeAck n data).HasUnits :=
  .ite (.showNew <| .wr <| .wr <| .wr <| h.wr) <| .bump <| h.mark

theorem State.HasUnits.exchange {n} (h : s.HasUnits) : (s.exchange n).HasUnits :=
  .when (.post <| .draw <| .foldl (.ite (.writeAck <| h.setRdseq) h) fun _ _ h => .setN <| h.draw)
    fun h => .writeAck <| h.setRdseq

theorem State.HasUnits.passSecure (h : s.HasUnits) : s.passSecure.HasUnits := .exchange <| h.exchange

theorem State.HasUnits.writeMbxCfg {n data} (h : s.HasUnits) : (s.writeMbxCfg n data).HasUnits :=
  .ite h.mark <| h.store

theorem State.HasUnits.mbxStore {m n off data} (h : s.HasUnits) : (s.mbxStore m n off data).HasUnits := by
  unfold State.mbxStore
  extract_lets
  split
  · exact h.writeMbxCfg
  · exact h.writeDoor
  · exact .ite h.store h
  · exact h.writeAck
  · exact h.writeSeen
  · exact h.store

theorem State.HasUnits.mbxWrite {m n off data} (h : s.HasUnits) : EndsWithUnits (s.mbxWrite m n off data) := by
  unfold State.mbxWrite
  extract_lets
  split
  · exact .next <| h.captureError
  · split
    · exact .next <| h.captureError
    · exact .ite .fault <| .next <| h.mbxStore

theorem State.HasUnits.execMbxDoor {m n data} (h : s.HasUnits) : EndsWithUnits (execMbxDoor m n data s) :=
  .ite (.next h) <| h.mbxWrite

theorem State.HasUnits.execMbxSeen {m n data} (h : s.HasUnits) : EndsWithUnits (execMbxSeen m n data s) :=
  .ite (.next h) <| h.mbxWrite

theorem State.HasUnits.execMbxAck {m n data} (h : s.HasUnits) : EndsWithUnits (execMbxAck m n data s) :=
  .ite (.next h) <| h.mbxWrite

theorem State.HasUnits.execMbxCfgWrite {m n data} (h : s.HasUnits) : EndsWithUnits (execMbxCfgWrite m n data s) :=
  .ite (.next h) <| h.mbxWrite

theorem State.HasUnits.freeLock {k} (h : s.HasUnits) : (s.freeLock k).HasUnits := h.setN

theorem State.HasUnits.releaseLock {k} (h : s.HasUnits) : (s.releaseLock k).HasUnits := .freeLock <| h.modMbx

theorem State.HasUnits.readLock {m k} (h : s.HasUnits) : (s.readLock m k).HasUnits := .ite (.emit <| h.wr) <| h.emit

theorem State.HasUnits.execLockAcquire {m k} (h : s.HasUnits) : EndsWithUnits (execLockAcquire m k s) :=
  .ite (.next h) <| by
    split
    · exact .next <| h.readFailed
    · exact .next <| h.readLock

theorem State.HasUnits.writeLock {m k data} (h : s.HasUnits) : (s.writeLock m k data).HasUnits :=
  .when (.ite h <| .ite h.releaseLock <| .ite (.wr <| h.modMbx) <| h.bump) fun h => .bump <| h.releaseLock

theorem State.HasUnits.execLockRelease {m k data} (h : s.HasUnits) : EndsWithUnits (execLockRelease m k data s) :=
  .ite (.next h) <| h.withBus fun _ h => h.writeLock

theorem State.HasUnits.execLockForce {m k data} (h : s.HasUnits) : EndsWithUnits (execLockForce m k data s) :=
  .ite (.next h) <| h.withBus fun _ h => h.writeLock

theorem State.HasUnits.resetChannel {m n} (h : s.HasUnits) : (s.resetChannel m n).HasUnits :=
  .when (.ite h.withdraw h) .setRdseq

theorem State.HasUnits.endpointReset {m} (h : s.HasUnits) : (s.endpointReset m).HasUnits :=
  .ite h <| .foldl (.foldl (.modMbx <| h.bump) fun _ _ h => h.resetChannel) fun _ _ h => .ite (.bump <| .modMbx <|
    h.releaseLock) h

theorem State.HasUnits.writeEprst {m data} (h : s.HasUnits) : (s.writeEprst m data).HasUnits := .ite h.endpointReset h

theorem State.HasUnits.execMbxEprst {m data} (h : s.HasUnits) : EndsWithUnits (execMbxEprst m data s) :=
  h.withBus fun _ h => h.writeEprst

theorem State.HasUnits.execMgmtCoreReset (h : s.HasUnits) : EndsWithUnits (execMgmtCoreReset s) :=
  .next <| h.endpointReset

theorem State.HasUnits.modCvu {n f} (h : s.HasUnits) : (s.modCvu n f).HasUnits := h.updCvu

theorem State.HasUnits.setCrc {n reg} (h : s.HasUnits) : (s.setCrc n reg).HasUnits := .setN <| h.setN

theorem State.HasUnits.cvuStart {n} (h : s.HasUnits) : (s.cvuStart n).HasUnits :=
  .ite h.mark <| .wr <| .setCrc <| h.modCvu

theorem State.HasUnits.cvuFeed {n bs} (h : s.HasUnits) : (s.cvuFeed n bs).HasUnits := .wr <| h.modCvu

theorem State.HasUnits.cvuInc {n data} (h : s.HasUnits) : (s.cvuInc n data).HasUnits := .ite h.wr h

theorem State.HasUnits.cvuCheck {n data} (h : s.HasUnits) : (s.cvuCheck n data).HasUnits :=
  .ite (.wr <| .modCvu <| .wr <| .wr <| .ite h.unmark h) <| .when (.ite (.bumpSat <| .wr <| .wr <| .wr <|
    .ite h.unmark h) <| .wr <| .wr <| .wr <| .wr <| .ite h.unmark h) .mark

theorem State.HasUnits.cvuAcfg {n data} (h : s.HasUnits) : (s.cvuAcfg n data).HasUnits :=
  .ite h.mark <| .store <| .ite h <| h.modCvu

theorem State.HasUnits.cvuTake {n off data} (h : s.HasUnits) : (s.cvuTake n off data).HasUnits := by
  unfold State.cvuTake
  extract_lets
  split
  · exact .ite h.cvuStart h
  · exact h.cvuFeed
  · exact h.cvuFeed
  · exact h.cvuFeed
  · exact h.setCrc
  · exact h.cvuAcfg
  · exact h.cvuInc
  · exact h.cvuCheck
  · exact h.store

theorem State.HasUnits.cvuReach {m n off data} (h : s.HasUnits) : (s.cvuReach m n off data).HasUnits :=
  .ite h.modCvu <| h.cvuTake

theorem State.HasUnits.writeCvu {m n off data} (h : s.HasUnits) : (s.writeCvu m n off data).HasUnits :=
  .ite h.mark <| h.cvuReach

theorem State.HasUnits.cvuTaken {n} (h : s.HasUnits) : (s.cvuTaken n).HasUnits := h.setCrc

theorem State.HasUnits.cvuFed {n} (h : s.HasUnits) : (s.cvuFed n).HasUnits :=
  .foldl (.modCvu <| .wr <| .wr <| h.cvuTaken) fun _ _ h => h.cvuReach

theorem State.HasUnits.execCvuFeedComplete {n} (h : s.HasUnits) : EndsWithUnits (execCvuFeedComplete n s) :=
  .next <| .ite h.cvuFed h

theorem State.HasUnits.execCvuStart {m n data} (h : s.HasUnits) : EndsWithUnits (execCvuStart m n data s) :=
  .ite (.next h) <| h.withBus fun _ h => h.writeCvu

theorem State.HasUnits.execCvuDin8 {m n data} (h : s.HasUnits) : EndsWithUnits (execCvuDin8 m n data s) :=
  .ite (.next h) <| h.withBus fun _ h => h.writeCvu

theorem State.HasUnits.execCvuDin16 {m n data} (h : s.HasUnits) : EndsWithUnits (execCvuDin16 m n data s) :=
  .ite (.next h) <| h.withBus fun _ h => h.writeCvu

theorem State.HasUnits.execCvuDin32 {m n data} (h : s.HasUnits) : EndsWithUnits (execCvuDin32 m n data s) :=
  .ite (.next h) <| h.withBus fun _ h => h.writeCvu

theorem State.HasUnits.execCvuRawWrite {m n data} (h : s.HasUnits) : EndsWithUnits (execCvuRawWrite m n data s) :=
  .ite (.next h) <| h.withBus fun _ h => h.writeCvu

theorem State.HasUnits.execCvuAliveInc {m n data} (h : s.HasUnits) : EndsWithUnits (execCvuAliveInc m n data s) :=
  .ite (.next h) <| h.withBus fun _ h => h.writeCvu

theorem State.HasUnits.execCvuAchkWrite {m n data} (h : s.HasUnits) : EndsWithUnits (execCvuAchkWrite m n data s) :=
  .ite (.next h) <| h.withBus fun _ h => h.writeCvu

theorem State.HasUnits.execCvuAcfgWrite {m n data} (h : s.HasUnits) : EndsWithUnits (execCvuAcfgWrite m n data s) :=
  .ite (.next h) <| h.withBus fun _ h => h.writeCvu

/-! ### `Machine/Stores` -/

theorem State.HasUnits.queueStore {kind mapId payload} (h : s.HasUnits) :
    (s.queueStore kind mapId payload).HasUnits :=
  h.upd

theorem State.HasUnits.queueDict {kept objs p confirmed} (h : s.HasUnits) :
    (s.queueDict kept objs p confirmed).HasUnits :=
  .wr <| h.queueStore

theorem State.HasUnits.urgentStore (h : s.HasUnits) : s.urgentStore.HasUnits := h.upd

theorem State.HasUnits.queueRetained (h : s.HasUnits) : s.queueRetained.HasUnits := .when h.updDict .queueDict

theorem State.HasUnits.restartEnv {c} (h : s.HasUnits) : (s.restartEnv c).HasUnits :=
  .when (.setN <| h.updNet (henv := by simp)) .wr

theorem State.HasUnits.loadEnv {c} (h : s.HasUnits) : (s.loadEnv c).HasUnits :=
  .ite h <| .ite h <| .restartEnv <| h.foldl fun _ _ h => h.setN

theorem State.HasUnits.loadEnvs (h : s.HasUnits) : s.loadEnvs.HasUnits := h.foldl fun _ _ h => h.loadEnv

/-! ### `Machine/Startup` -/

theorem State.HasUnits.hwFail {n} (h : s.HasUnits) : (s.hwFail n).HasUnits :=
  .raise <| .setHw <| .openPath <| h.buckOff

theorem State.HasUnits.execHwhuskStart {ch} (h : s.HasUnits) : EndsWithUnits (execHwhuskStart ch s) :=
  .next <| .ite (.wr <| .followPath <| h.setHw) h

theorem State.HasUnits.hwHighside {ch} (h : s.HasUnits) : (s.hwHighside ch).HasUnits :=
  .ite (.followPath <| h.setHw) <| h.setHw

theorem State.HasUnits.execHwhuskLowsideCheck {ch lrMv} (h : s.HasUnits) :
    EndsWithUnits (execHwhuskLowsideCheck ch lrMv s) := by
  unfold Machine.execHwhuskLowsideCheck
  split
  · exact .next <| .ite h.hwFail <| .ite h.hwHighside <| .ite h.hwFail h
  · exact .next <| h.hwHighside
  · exact .next h

theorem State.HasUnits.execHwhuskHighsideOn {ch pumpReady} (h : s.HasUnits) :
    EndsWithUnits (execHwhuskHighsideOn ch pumpReady s) := by
  unfold Machine.execHwhuskHighsideOn
  split
  · exact .next <| .ite (.unless h.setHw fun h => .updSaf <| .modBuck <| h.buckOff) h
  · exact .next h

theorem State.HasUnits.execHwhuskRampEnd {ch hrMv fbMv} (h : s.HasUnits) :
    EndsWithUnits (execHwhuskRampEnd ch hrMv fbMv s) := by
  unfold Machine.execHwhuskRampEnd
  split
  · exact .next <| .ite h <| .ite (.when h.setHw fun h => .wr <| h.modBuck) <| h.hwFail
  · exact .next h

theorem State.HasUnits.execHwhuskRampdownEnd {ch} (h : s.HasUnits) : EndsWithUnits (execHwhuskRampdownEnd ch s) := by
  unfold Machine.execHwhuskRampdownEnd
  split
  · exact .next <| .ite h.seqDone h
  · exact .next h

theorem State.HasUnits.ringBoot (h : s.HasUnits) : s.ringBoot.HasUnits := .post <| h.draw

theorem State.HasUnits.stage {a sl} (h : s.HasUnits) : (s.stage a sl).HasUnits :=
  .ite (.ringBoot <| .updBoot <| .setBytes <| h.setBytes) h

theorem State.HasUnits.startImage {a sl} (h : s.HasUnits) : (s.startImage a sl).HasUnits :=
  .stage <| .releasePads <| .updBoot <| .wr <| h.setN

theorem State.HasUnits.slotResult {sl r} (h : s.HasUnits) : (s.slotResult sl r).HasUnits := by
  unfold State.slotResult
  split
  · exact h.wr
  · exact h.wr

theorem State.HasUnits.trySlot {sl fallback} (h : s.HasUnits) : (s.trySlot sl fallback).1.HasUnits := by
  unfold State.trySlot
  extract_lets
  split
  · exact .startImage <| .wrB <| .wr <| h.slotResult
  · exact h.slotResult

theorem State.HasUnits.enterRecovery (h : s.HasUnits) : s.enterRecovery.HasUnits := .updBoot <| h.releasePads

theorem State.HasUnits.secureBoot {readErrA readErrB} (h : s.HasUnits) : (s.secureBoot readErrA readErrB).HasUnits :=
  .ite h <| by
    extract_lets
    split
    · exact .ite (.trySlot <| .slotResult <| .slotResult <| h.wr) <| .unless (.trySlot <| .trySlot <| .slotResult <|
        .slotResult <| h.wr) .enterRecovery
    · exact .ite (.trySlot <| .slotResult <| .slotResult <| h.wr) <| .unless (.trySlot <| .trySlot <| .slotResult <|
        .slotResult <| h.wr) .enterRecovery
    · exact .unless (.trySlot <| .slotResult <| .slotResult <| h.wr) .enterRecovery
    · exact .unless (.trySlot <| .slotResult <| .slotResult <| h.wr) .enterRecovery
    · exact .enterRecovery <| .slotResult <| .slotResult <| h.wr

theorem State.HasUnits.startIsland (h : s.HasUnits) : s.startIsland.HasUnits :=
  .unless (.when (.when (.setN <| .wr <| .wr <| h.updSaf) fun h => .raise <| h.upd) .loadEnvs) .closeGate

theorem State.HasUnits.verifyImage (h : s.HasUnits) : s.verifyImage.HasUnits :=
  .ite h <| .ite h <| .ite h.closeGate <| .ite (.startIsland <| .updBoot <| h.setBytes) <| .closeGate <| h.updBoot

theorem State.HasUnits.recoveryLoad {base} (h : s.HasUnits) : (s.recoveryLoad base).HasUnits :=
  .ite (.startImage <| h.wr) h

theorem State.HasUnits.clobber {target} (h : s.HasUnits) : (s.clobber target).HasUnits := by
  unfold State.clobber
  split
  · exact h.clearMem
  · exact h.clearMem
  · exact h.clearMem
  · exact h.clearMem
  · exact h.clearMem
  · exact h.clearMem
  · exact h.clearMem
  · exact h.clearMem
  · exact h

theorem State.HasUnits.outcome {target o} (h : s.HasUnits) : (s.outcome target o).HasUnits := h.wr

theorem State.HasUnits.unusable {target} (h : s.HasUnits) : (s.unusable target).HasUnits := .setBitF <| h.outcome

theorem State.HasUnits.failRows {target n} (h : s.HasUnits) : (s.failRows target n).HasUnits := h.wr

theorem State.HasUnits.bankOut {bank} (h : s.HasUnits) : (s.bankOut bank).HasUnits :=
  .ite h <| .ite (.unusable <| h.updBoot) <| .ite (.outcome <| .wr <| h.updBoot) <| .raiseFound <| .outcome <| .wr <|
    h.updBoot

theorem State.HasUnits.laneOut {lane} (h : s.HasUnits) : (s.laneOut lane).HasUnits :=
  .ite h <| by
    extract_lets
    split
    · exact .outcome <| .wr <| h.updBoot
    · exact .outcome <| .wr <| h.updBoot
    · exact .unusable <| h.updBoot

theorem State.HasUnits.portOut {port} (h : s.HasUnits) : (s.portOut port).HasUnits := .unusable <| h.updBoot

theorem State.HasUnits.finding {target f} (h : s.HasUnits) : (s.finding target f).HasUnits := by
  unfold State.finding
  split
  · exact h
  · exact .bumpBy <| .wr <| h.failRows
  · exact .bankOut <| h.failRows
  · exact h.laneOut
  · exact .outcome <| h.setBitF
  · exact .portOut <| h.failRows
  · extract_lets
    split
    · exact .raiseFound <| .outcome <| h.failRows
    · exact .outcome <| h.failRows
    · exact .foldl h.failRows fun _ _ h => h.portOut
    · exact .unusable <| h.failRows

theorem State.HasUnits.newRecord {target} (h : s.HasUnits) : (s.newRecord target).HasUnits := by
  unfold State.newRecord
  extract_lets s₁
  have h₁ : s₁.HasUnits := .setBitF <| .setN <| h.setN
  clear_value s₁
  split
  · exact .updBoot h₁.wr
  · exact h₁.wr
  · exact h₁.updBoot
  · exact .updBoot <| .wr <| h₁.wr
  · exact h₁

theorem State.HasUnits.bistNow {target b} (h : s.HasUnits) (e : s.bistNow target = some (b, t)) : t.HasUnits := by
  unfold State.bistNow at e
  split at e
  · cases e; exact h
  · split at e
    · cases e; exact h.newRecord
    · cases e

theorem State.HasUnits.setRun {target b} (h : s.HasUnits) : (s.setRun target b).HasUnits := h.updBoot

theorem State.HasUnits.endRun {target} (h : s.HasUnits) : (s.endRun target).HasUnits :=
  .upd <| .mark <| .wrB <| h.setRun

theorem State.HasUnits.passRun {b} (h : s.HasUnits) : (s.passRun b).HasUnits :=
  .endRun <| .wr <| .when h.outcome .raiseFound

theorem State.HasUnits.bistSlice {target r} (h : s.HasUnits) : (s.bistSlice target r).HasUnits := by
  unfold State.bistSlice
  split
  · exact h
  · rename_i b t e
    have hs : t.HasUnits := h.bistNow e
    exact .ite h <| .ite (.endRun <| .abortTest <| .wr <| .finding <| .bumpBy <| .bumpBy <| hs.clobber) <|
      .ite (.passRun <| .wr <| .finding <| .bumpBy <| .bumpBy <| hs.clobber) <|
      .wr <| .wr <| .setRun <| .wr <| .finding <| .bumpBy <| .bumpBy <| hs.clobber

theorem State.HasUnits.writeBistCtrl {data} (h : s.HasUnits) : (s.writeBistCtrl data).HasUnits :=
  .when (.when h.store fun h => .ite (.setRun <| .wr <| .wr <| .wr <| h.newRecord) <| h.mark) .updBoot

theorem State.HasUnits.execBistStart {m data} (h : s.HasUnits) : EndsWithUnits (execBistStart m data s) :=
  h.withBus fun _ h => h.writeBistCtrl

theorem State.HasUnits.execBistAbort {m data} (h : s.HasUnits) : EndsWithUnits (execBistAbort m data s) :=
  h.withBus fun _ h => h.writeBistCtrl

theorem State.HasUnits.zeroize (h : s.HasUnits) : s.zeroize.HasUnits := by
  unfold State.zeroize
  extract_lets +onlyGivenNames s₁
  have h₁ : s₁.HasUnits := h.endTests
  clear_value s₁
  extract_lets +onlyGivenNames _ s₂ s₃
  have h₃ : s₃.HasUnits := .clearMem <| .clearMem <| .clearMem h₁.updBoot
  clear_value s₃
  extract_lets +onlyGivenNames ep _ s₄
  have h₄ : s₄.HasUnits := h₃.updUnits (hchecks := .inr rfl) (hkeys := .inl rfl)
  clear_value s₄
  extract_lets +onlyGivenNames s₅ s₆
  have h₅ : s₅.HasUnits := .setN <| .resetBlock h₄.resetBlock
  clear_value s₅
  have h₆ : s₆.HasUnits := h₅.updUnits
  exact .syncPads <| .wr <| .wr <| .enterDark <| .wr <| .endpointReset <| .endpointReset h₆.powerOff

theorem State.HasUnits.execTestUnlock (h : s.HasUnits) : EndsWithUnits (execTestUnlock s) :=
  .next <| .ite h <| .ite h.zeroize <| h.bumpSat

theorem State.HasUnits.tap {i} (h : s.HasUnits) : (s.tap i).HasUnits := h.updBoot

theorem State.HasUnits.execIdcode (h : s.HasUnits) : EndsWithUnits (execIdcode s) := .next <| .ite (.emit <| h.tap) h

theorem State.HasUnits.execBypass (h : s.HasUnits) : EndsWithUnits (execBypass s) := .next <| .ite h.tap h

theorem State.HasUnits.gatedTap {i} (h : s.HasUnits) : (s.gatedTap i).HasUnits := .ite h.tap h

theorem State.HasUnits.execExtest (h : s.HasUnits) : EndsWithUnits (execExtest s) := .next <| h.gatedTap

theorem State.HasUnits.execSamplePreload (h : s.HasUnits) : EndsWithUnits (execSamplePreload s) := .next <| h.gatedTap

theorem State.HasUnits.execCaifelScanInstruction {op} (h : s.HasUnits) :
    EndsWithUnits (execCaifelScanInstruction op s) :=
  .next <| h.gatedTap

/-! ### `Machine/Safety` -/

theorem State.HasUnits.sendTable {zones glare} (h : s.HasUnits) : (s.sendTable zones glare).HasUnits :=
  .wrB <| .wr <| .wr <| h.updSaf

theorem State.HasUnits.writeRegions {p qs} (h : s.HasUnits) : (s.writeRegions p qs).HasUnits :=
  h.foldl fun _ _ h => .setN <| h.setN

theorem State.HasUnits.advancePlan {p} (h : s.HasUnits) : (s.advancePlan p).HasUnits := h.updSaf

theorem State.HasUnits.armRegions {p} (h : s.HasUnits) : (s.armRegions p).1.HasUnits := by
  unfold State.armRegions
  split
  · exact h
  · exact .advancePlan <| .armNext <| h.writeRegions

theorem State.HasUnits.armPlan (h : s.HasUnits) : s.armPlan.HasUnits :=
  .updSaf <| h.foldlFst fun _ _ h => h.armRegions

theorem State.HasUnits.islandRefresh (h : s.HasUnits) : s.islandRefresh.HasUnits :=
  .ite h <| .armPlan <| .when h.updSaf .sendTable

theorem State.HasUnits.confirmViolation {func x} (h : s.HasUnits) : (s.confirmViolation func x).HasUnits :=
  .raise <| .requestHusk <| .wr <| .updSaf <| .when (.setBitF <| .wr <| .setN <| h.bump) .setBitF

theorem State.HasUnits.holdFirst {q x count} (h : s.HasUnits) : (s.holdFirst q x count).HasUnits :=
  .when h.updSaf .bump

theorem State.HasUnits.violation {g q x} (h : s.HasUnits) : (s.violation g q x).HasUnits :=
  .ite (.endFull <| h.bump) <| .ite (.unless (by
    split
    · exact .updSaf <| h.updSaf
    · exact h.updSaf) .confirmViolation) <| h.holdFirst

theorem State.HasUnits.raiseMax {x} (h : s.HasUnits) : (s.raiseMax x).HasUnits := .ite h.wr h

theorem State.HasUnits.guardClean {x} (h : s.HasUnits) : (s.guardClean x).HasUnits := .ite h <| .syncPads <| h.setBitF

theorem State.HasUnits.judgeRecord {x} (h : s.HasUnits) : (s.judgeRecord x).HasUnits := by
  unfold State.judgeRecord
  split
  · exact h
  · exact .ite (.ite (.raiseMax <| h.updSaf) <| .violation <| h.updSaf) <| .when h.updSaf .guardClean

theorem State.HasUnits.closePort {g p} (h : s.HasUnits) : (s.closePort g p).HasUnits :=
  .ite (.updSaf <| h.updSaf) <| .foldl (.updSaf <| .bumpBy <| h.updSaf) fun _ _ h => h.raise

theorem State.HasUnits.closeRefresh {g} (h : s.HasUnits) : (s.closeRefresh g).HasUnits := by
  unfold State.closeRefresh
  extract_lets s₁
  have h₁ : s₁.HasUnits := h.foldl fun _ _ h => h.closePort
  clear_value s₁
  exact h₁.updSaf

theorem State.HasUnits.closeRefreshes (h : s.HasUnits) : s.closeRefreshes.HasUnits :=
  h.foldl fun _ _ h => h.closeRefresh

theorem State.HasUnits.execViolationRelease {func} (h : s.HasUnits) :
    EndsWithUnits (execViolationRelease func s) := by
  unfold Machine.execViolationRelease
  split
  · exact .next <| .ite (.when (.setBitF <| h.updSaf) .wr) h
  · exact .next h

theorem State.HasUnits.raiseHusk (h : s.HasUnits) : s.raiseHusk.HasUnits :=
  .syncPads <| h.foldl fun _ _ h => .ite h.setBitF h

theorem State.HasUnits.guardOn {tile code} (h : s.HasUnits) : (s.guardOn tile code).HasUnits :=
  .updSaf <| .foldl (.writeRegions <| .sendTable <| .wr <| .followSw <| .setBitF <| h.setBitF) fun _ _ h => h.applyReg

theorem State.HasUnits.monitorTile {n} (h : s.HasUnits) : (s.monitorTile n).HasUnits := by
  unfold State.monitorTile
  extract_lets
  split
  · exact .wr <| h.updSaf (hhuskFails := by simp)
  · exact .ite (.wr <| h.updSaf (hhuskFails := by simp)) <| .ite (.wr <| h.updSaf (hhuskFails := by simp)) <|
      .ite (.wr <| h.updSaf (hhuskFails := by simp)) <| .wr <| h.updSaf (hhuskFails := by simp)

theorem State.HasUnits.huskMonitor (h : s.HasUnits) : s.huskMonitor.HasUnits :=
  .ite (h.foldl fun _ _ h => h.monitorTile) <| .foldl (.requestDark <| .wr <| h.foldl fun _ _ h => h.monitorTile)
    fun _ _ h => h.raise

theorem State.HasUnits.safetyTask (h : s.HasUnits) : s.safetyTask.HasUnits :=
  .hbSync <| .raiseHusk <| .when (.closeRefreshes <| .foldl (.updSaf <| h.bump) fun _ _ h => h.judgeRecord)
    .huskMonitor

theorem State.HasUnits.execSafetyTask (h : s.HasUnits) : EndsWithUnits (execSafetyTask s) :=
  .next <| .ite (h.periodic fun _ h => h.safetyTask) h

theorem State.HasUnits.execHusknMismatch {tile} (h : s.HasUnits) : EndsWithUnits (execHusknMismatch tile s) :=
  .ite (.next h) <| .next <| .syncPads <| .raise <| .setBitF <| .setBitF <| .setBitF <| h.updSaf

theorem State.HasUnits.islandFault {count} (h : s.HasUnits) : (s.islandFault count).HasUnits :=
  .ite (.requestDark <| .wr <| .updSaf <| .when (.wr <| .requestHusk <| .raise <| .syncPads <| .updSaf <|
    .unless h.bump .bump) .closeGate) <| .endpointReset <| .updSaf <| .when (.wr <| .requestHusk <| .raise <|
    .syncPads <| .updSaf <| .unless h.bump .bump) .closeGate

theorem State.HasUnits.execLockstepMismatch (h : s.HasUnits) : EndsWithUnits (execLockstepMismatch s) :=
  .next <| .ite h.islandFault h

theorem State.HasUnits.execSafeSramUncorrectable (h : s.HasUnits) : EndsWithUnits (execSafeSramUncorrectable s) :=
  .next <| .ite h.islandFault h

theorem State.HasUnits.execSafeWatchdogExpire (h : s.HasUnits) : EndsWithUnits (execSafeWatchdogExpire s) :=
  .next <| .ite h.islandFault h

theorem State.HasUnits.restartLoss (h : s.HasUnits) : s.restartLoss.HasUnits := h.updSaf

theorem State.HasUnits.reloadCopies {k} (h : s.HasUnits) : (s.reloadCopies k).HasUnits :=
  .unless (.unless (.ite h <| .wr <| h.updSaf) fun h => .wr <| h.setN) .loadEnvs

theorem State.HasUnits.execIslandRestartComplete {k} (h : s.HasUnits) :
    EndsWithUnits (execIslandRestartComplete k s) := by
  unfold Machine.execIslandRestartComplete
  exact .ite (.next h) <| .ite (.next <| .closeGate <| h.updUnits) <| .next <| .safetyTask <| .unless (.updSaf <|
    .reloadCopies <| .wr <| .restartLoss <| h.setBytes) .closeGate

theorem State.HasUnits.outputTest (h : s.HasUnits) : s.outputTest.HasUnits := by
  unfold State.outputTest
  extract_lets k out may
  exact .syncPads h.updSaf

theorem State.HasUnits.execOutputTestDue (h : s.HasUnits) : EndsWithUnits (execOutputTestDue s) :=
  .next <| .ite (h.periodic fun _ h => h.outputTest) h

theorem State.HasUnits.lineSeen {out pulse during after} (h : s.HasUnits) :
    (s.lineSeen out pulse during after).HasUnits := by
  unfold State.lineSeen
  extract_lets
  split
  · exact h.updSaf
  · exact h.updSaf

theorem State.HasUnits.outputTested {out a b c} (h : s.HasUnits) : (s.outputTested out a b c).HasUnits := by
  unfold State.outputTested
  extract_lets k s₁
  have h₁ : s₁.HasUnits := .syncPads <| .lineSeen <| .bump <| h.wr
  refine .ite h₁ ?_
  split
  · exact .raise <| h₁.setBitF
  · exact .raise <| h₁.setBitF

theorem State.HasUnits.execOutputTestPulseEnd {during after} (h : s.HasUnits) :
    EndsWithUnits (execOutputTestPulseEnd during after s) := by
  unfold Machine.execOutputTestPulseEnd
  split
  · exact .next h
  · exact .ite (.next h) <| .next <| .when (.syncPads <| h.updSaf) .outputTested

theorem State.HasUnits.startupRound {husk lampFail} (h : s.HasUnits) : (s.startupRound husk lampFail).HasUnits :=
  .ite h <| .judgeGate <| .updSaf <| .when (h.foldl fun _ _ h => h.outputTested) .outputTested

theorem State.HasUnits.takeParam {index sub bs} (h : s.HasUnits) : (s.takeParam index sub bs).HasUnits :=
  .ite h <| .voidConfirm <| .wr <| h.updSaf

theorem State.HasUnits.paramService {index sub bs} (h : s.HasUnits) : (s.paramService index sub bs).2.HasUnits := by
  unfold State.paramService
  extract_lets
  split
  · exact h
  · split
    · exact h
    · split
      · exact h
      · split
        · exact h
        · exact .passSecure <| h.takeParam

theorem State.HasUnits.execSafetyParamWrite {w} (h : s.HasUnits) : EndsWithUnits (execSafetyParamWrite w s) :=
  .next <| .ite h <| .answer <| h.paramService

theorem State.HasUnits.showCheck (h : s.HasUnits) : s.showCheck.HasUnits :=
  .ite (.judgeGate <| .when (.updSaf <| h.setN) .wr) <| .unless (.when (.updSaf <| h.setN) .wr) .closeGate

theorem State.HasUnits.execCheckValueComputed (h : s.HasUnits) : EndsWithUnits (execCheckValueComputed s) :=
  .next <| .ite h.showCheck h

theorem State.HasUnits.confirm {value} (h : s.HasUnits) : (s.confirm value).2.HasUnits := by
  unfold State.confirm
  extract_lets
  split
  · exact h
  · exact .unless (.urgentStore <| .queueDict <| .wr <| h.setN) .closeGate

theorem State.HasUnits.confirmService {value} (h : s.HasUnits) : (s.confirmService value).2.HasUnits := by
  unfold State.confirmService
  split
  · exact h
  · exact .when h.confirm .passSecure

theorem State.HasUnits.execConfirmWrite {value} (h : s.HasUnits) : EndsWithUnits (execConfirmWrite value s) :=
  .next <| .ite h <| .answer <| h.confirmService

/-! ### `Machine/Calib` -/

theorem State.HasUnits.beginMapCheck {t data gain defs} (h : s.HasUnits) :
    (s.beginMapCheck t data gain defs).HasUnits :=
  .wr <| .wr <| h.updCal (hchecks := by simp)

theorem State.HasUnits.compareMap {t} (h : s.HasUnits) : (s.compareMap t).HasUnits :=
  .ite h <| .raise <| .mark <| h.updScn

theorem State.HasUnits.placeMaps {t gain defs count g d} (h : s.HasUnits) :
    (s.placeMaps t gain defs count g d).HasUnits :=
  .beginMapCheck <| .updCal <| .wr <| .wr <| .wr <| .unless h.setBytes .setBytes

theorem State.HasUnits.stageMaps {t g defs} (h : s.HasUnits) : (s.stageMaps t g defs).HasUnits :=
  .ite h.updCal <| h.placeMaps

theorem State.HasUnits.retryMaps {t} (h : s.HasUnits) : (s.retryMaps t).HasUnits := by
  unfold State.retryMaps
  split
  · exact .ite h.stageMaps h
  · exact h

theorem State.HasUnits.applyMap {t} (h : s.HasUnits) : (s.applyMap t).HasUnits :=
  .ite h.retryMaps <| .retryMaps <| .updScn <| .applyReg <| h.applyGroup

theorem State.HasUnits.storeVoltage {kind t m} (h : s.HasUnits) : (s.storeVoltage kind t m).HasUnits := h.queueStore

theorem State.HasUnits.storeGain {t g} (h : s.HasUnits) : (s.storeGain t g).HasUnits := h.queueStore

theorem State.HasUnits.storeDefects {t defs} (h : s.HasUnits) : (s.storeDefects t defs).HasUnits := h.queueStore

theorem State.HasUnits.takeMaps {k c} (h : s.HasUnits) : (s.takeMaps k c).HasUnits := by
  unfold State.takeMaps
  extract_lets +onlyGivenNames _ s₁
  have h₁ : s₁.HasUnits := by
    unfold s₁
    split
    · exact .storeGain <| h.updCal
    · exact h
  clear_value s₁
  split
  · exact .storeDefects <| h₁.updCal
  · exact h₁

theorem State.HasUnits.endMapCheck {t c} (h : s.HasUnits) : (s.endMapCheck t c).HasUnits :=
  .ite (.settle <| .takeMaps <| .armGroup <| .setN <| .wr <| .wr <| h.updCal (hchecks := by simp)) <| .retryMaps <|
    .settle <| .wr <| .wr <| h.updCal (hchecks := by simp)

theorem State.HasUnits.execMapGroupCheckComplete {t} (h : s.HasUnits) :
    EndsWithUnits (execMapGroupCheckComplete t s) := by
  unfold Machine.execMapGroupCheckComplete
  split
  · exact .next <| .ite h.endMapCheck h
  · exact .next h

theorem State.HasUnits.loadMap {id} (h : s.HasUnits) : (s.loadMap id).1.HasUnits := by
  unfold State.loadMap
  dsimp only
  split
  · exact .ite h.mark h
  · exact .raise <| .ite h.mark h

theorem State.HasUnits.discard {count} (h : s.HasUnits) : (s.discard count).HasUnits := .mark <| h.bump

theorem State.HasUnits.trimOf {k r} (h : s.HasUnits) : (s.trimOf k r).2.HasUnits := by
  unfold State.trimOf
  dsimp only
  by_cases e : mean8 (List.drop 8 r) = mean8 r
  · simp only [e, if_true]
    split
    · exact .draw <| h.draw
    · exact h.draw
  · simp only [e, if_false]
    split
    · exact h.draw
    · exact h

theorem State.HasUnits.finishTrim {t r1 r2} (h : s.HasUnits) : (s.finishTrim t r1 r2).HasUnits :=
  .ite (.bump <| .wr <| .wr <| .updCal <| .trimOf <| h.trimOf) <| .discard <| .updCal <| .trimOf <| h.trimOf

theorem State.HasUnits.takeTrim {r vf} (h : s.HasUnits) : (s.takeTrim r vf).HasUnits := by
  unfold State.takeTrim
  split
  · exact h.finishTrim
  · exact h.updCal

theorem State.HasUnits.execTrimDue {t} (h : s.HasUnits) : EndsWithUnits (execTrimDue t s) :=
  .ite (.next <| h.releaseTrim) <| .ite (.next h) <| .ite (.next <| h.countDeferred) <| .next <| h.sendCmd

theorem State.HasUnits.setOffset {f r} (h : s.HasUnits) : (s.setOffset f r).HasUnits := .ite h.wrS <| h.mark

theorem State.HasUnits.execBuckOffsetTrim {ch cs ii} (h : s.HasUnits) :
    EndsWithUnits (execBuckOffsetTrim ch cs ii s) :=
  .ite (.next h) <| .next <| .setOffset <| .setOffset <| h.updCal

theorem State.HasUnits.photometry {t a} (h : s.HasUnits) : (s.photometry t a).HasUnits :=
  .unless (.ite (.setN <| h.draw) <| h.wrS) fun h => .raiseIf <| h.wrS

theorem State.HasUnits.huskStale {t a} (h : s.HasUnits) : (s.huskStale t a).HasUnits := by
  unfold State.huskStale
  split
  · exact .ite h.mark h
  · exact h

theorem State.HasUnits.replan {t} (h : s.HasUnits) : (s.replan t).HasUnits :=
  .huskStale <| .photometry <| .stageMaps <| .unless (.updCal <| .wr <| .wr <| .when (.ite (.raise <| h.mark) h)
    .draw) .storeDefects

theorem State.HasUnits.planTile {t} (h : s.HasUnits) : (s.planTile t).HasUnits :=
  .ite (.countDeferred <| h.updCal) <| .replan <| h.updCal

theorem State.HasUnits.resumePlans (h : s.HasUnits) : s.resumePlans.HasUnits := h.foldl fun _ _ h => .ite h.planTile h

theorem State.HasUnits.planSwept {t} (h : s.HasUnits) : (s.planSwept t).HasUnits :=
  .ite h <| .planTile <| .storeVoltage <| .bump <| h.updCal

theorem State.HasUnits.sendSample {p ps codes} (h : s.HasUnits) : (s.sendSample p ps codes).HasUnits :=
  .modPort <| .sendBlocks <| h.emit

theorem State.HasUnits.watchBatch {p} (h : s.HasUnits) : (s.watchBatch p).HasUnits := h.modPort

theorem State.HasUnits.nextBatch {p} (h : s.HasUnits) : (s.nextBatch p).HasUnits := h.updCal

theorem State.HasUnits.charPort {p} (h : s.HasUnits) : (s.charPort p).HasUnits :=
  .when (.ite (.bump <| .when (.planSwept <| .ite h <| h.releaseTrim) .countDeferred) <| .bump <| .sendSample <|
    .when (.planSwept <| .ite h <| h.releaseTrim) .countDeferred) .nextBatch

theorem State.HasUnits.execCharSlot (h : s.HasUnits) : EndsWithUnits (execCharSlot s) :=
  .ite (.next h) <| .next <| .upd <| .ite (h.foldl fun _ _ h => h.charPort) h

theorem State.HasUnits.pairUp {t pixel a b} (h : s.HasUnits) : (s.pairUp t pixel a b).HasUnits := by
  unfold State.pairUp
  split
  · exact .ite h.updCal <| h.discard
  · exact h

theorem State.HasUnits.takeSparse {p q vf} (h : s.HasUnits) : (s.takeSparse p q vf).HasUnits :=
  .ite h.updCal <| .updCal <| h.foldl fun _ _ h => h.pairUp

theorem State.HasUnits.fullChannel {t} (h : s.HasUnits) : (s.fullChannel t).HasUnits :=
  .buckEn <| .armNext <| .wr <| h.wr

theorem State.HasUnits.beginFull {k b c} (h : s.HasUnits) : (s.beginFull k b c).HasUnits := by
  unfold State.beginFull
  extract_lets _ _ s₁
  have h₁ : s₁.HasUnits := .modPort <| .setN <| h.updCal
  clear_value s₁
  exact .syncPads <| .fullChannel <| .guardOn <| h₁.releasePads

theorem State.HasUnits.startFull {t code base} (h : s.HasUnits) : (s.startFull t code base).HasUnits :=
  .ite (.beginFull <| h.foldl fun _ _ h => h.setBitF) <| .wr <| .updCal <| h.foldl fun _ _ h => h.setBitF

theorem State.HasUnits.writeFullctl {data} (h : s.HasUnits) : (s.writeFullctl data).HasUnits :=
  .ite h <| .ite (.ite (.startFull <| .when h.store .endFull) <| .unless (.when h.store .endFull) .wr) <|
    .when h.store .endFull

theorem State.HasUnits.execFullcharStart {m data} (h : s.HasUnits) : EndsWithUnits (execFullcharStart m data s) :=
  h.withBus fun _ h => h.writeFullctl

theorem State.HasUnits.execFullcharAbort {m data} (h : s.HasUnits) : EndsWithUnits (execFullcharAbort m data s) :=
  h.withBus fun _ h => h.writeFullctl

theorem State.HasUnits.charRow {p y codes} (h : s.HasUnits) : (s.charRow p y codes).HasUnits :=
  .gleanTake <| .sendBlocks <| .bump <| h.emit

theorem State.HasUnits.lightBatch {r b} (h : s.HasUnits) : (s.lightBatch r b).HasUnits :=
  .updCal <| .wr <| .sendSample <| .charRow <| .when h.modPort .charRow

theorem State.HasUnits.completeFull {r} (h : s.HasUnits) : (s.completeFull r).HasUnits :=
  .planTile <| .wr <| .draw <| .when (.storeVoltage <| .updCal <| h.endFull) fun h => .storeVoltage <| h.updCal

theorem State.HasUnits.execFullcharBatch (h : s.HasUnits) : EndsWithUnits (execFullcharBatch s) := by
  unfold Machine.execFullcharBatch
  split
  · split
    · exact .next <| .ite h.endFull <| .ite (.beginFull <| h.updCal) h
    · exact .next h
  · exact .next <| .ite h.endFull <| .ite h <| .ite h.completeFull <| h.lightBatch

theorem State.HasUnits.takeFull {r q vf} (h : s.HasUnits) : (s.takeFull r q vf).HasUnits := by
  unfold State.takeFull
  split
  · exact h
  · exact .ite h.updCal <| .updCal <| h.foldl fun _ _ h => h.discard

theorem State.HasUnits.trimRecord {p vf} (h : s.HasUnits) : (s.trimRecord p vf).HasUnits := by
  unfold State.trimRecord
  split
  · exact .ite h.takeTrim h
  · exact h

theorem State.HasUnits.takeChar {p tag vf} (h : s.HasUnits) : (s.takeChar p tag vf).HasUnits := by
  unfold State.takeChar
  split
  · exact .ite (.releaseTrim <| by
      split
      · exact .ite (.takeFull <| h.modPort) <| .takeSparse <| h.modPort
      · exact .takeSparse <| h.modPort) <| h.trimRecord
  · exact h.trimRecord

theorem State.HasUnits.execCharRecord {p full before record} (h : s.HasUnits) :
    EndsWithUnits (execCharRecord p full before record s) :=
  .next <| h.takeRecord fun _ _ h => .ite h.takeChar h

theorem State.HasUnits.coreTiming {slack} (h : s.HasUnits) : (s.coreTiming slack).HasUnits := h.raiseIf

theorem State.HasUnits.readMonitors {slack} (h : s.HasUnits) : (s.readMonitors slack).HasUnits := by
  unfold State.readMonitors
  extract_lets
  split
  · exact h.foldl fun _ _ h => .ite h <| .updCal <| .wr <| h.wr
  · exact .updCal <| .wr <| h.foldl fun _ _ h => .ite h <| .updCal <| .wr <| h.wr

theorem State.HasUnits.execMonitorRead {slack} (h : s.HasUnits) : EndsWithUnits (execMonitorRead slack s) :=
  .next <| .ite h <| h.periodic fun _ h => .when h.coreTiming .readMonitors

theorem State.HasUnits.setCore {mv} (h : s.HasUnits) : (s.setCore mv).HasUnits := .updCal <| .emit <| .wr <| h.wr

theorem State.HasUnits.storePlan (h : s.HasUnits) : s.storePlan.HasUnits := .ite h.queueStore h

theorem State.HasUnits.planCore {twice} (h : s.HasUnits) : (s.planCore twice).HasUnits :=
  .storePlan <| .raiseIf <| .unless h.updCal .setCore

theorem State.HasUnits.execAvsPlan (h : s.HasUnits) : EndsWithUnits (execAvsPlan s) :=
  .ite (.next h) <| by
    extract_lets
    split
    · exact .next <| .ite (.planCore <| h.updCal) <| .mark <| h.updCal
    · exact .next <| h.updCal

theorem State.HasUnits.loadTile {t} (h : s.HasUnits) : (s.loadTile t).HasUnits :=
  .when (.updCal <| .loadMap <| .loadMap <| .loadMap <| h.loadMap) .replan

theorem State.HasUnits.loadPlan (h : s.HasUnits) : s.loadPlan.HasUnits := by
  unfold State.loadPlan
  have h₁ := h.loadMap (id := 0x50)
  generalize s.loadMap 0x50 = r at h₁
  exact .updCal <| h₁.setCore

theorem State.HasUnits.loadStores (h : s.HasUnits) : s.loadStores.HasUnits :=
  .loadPlan <| h.foldl fun _ _ h => h.loadTile

theorem State.HasUnits.execSwTestDue (h : s.HasUnits) : EndsWithUnits (execSwTestDue s) := .next <| .ite h.testDue h

/-! ### `Machine/Frames` -/

theorem State.HasUnits.beginRecord {before m} (h : s.HasUnits) : (s.beginRecord before m).HasUnits := .ite h.upd h

theorem State.HasUnits.execFrameRecordSwitch (h : s.HasUnits) : EndsWithUnits (execFrameRecordSwitch s) := by
  unfold Machine.execFrameRecordSwitch
  split
  · exact .next h
  · exact .next <| h.upd

theorem State.HasUnits.showFrame (h : s.HasUnits) : s.showFrame.HasUnits := by
  unfold State.showFrame
  extract_lets
  split
  · exact .ite h.startFrame h
  · exact .showComp <| .showStale <| .release <| .upd <| .ite h.startFrame h

theorem State.HasUnits.glareBoundary {m} (h : s.HasUnits) : (s.glareBoundary m).HasUnits := by
  unfold State.glareBoundary
  exact h.updUnits

theorem State.HasUnits.firstRows {m} (h : s.HasUnits) : (s.firstRows m).HasUnits := .ite (.firstRow <| h.updScn) h

theorem State.HasUnits.enterCf {before m t} (h : s.HasUnits) : (s.enterCf before m t).HasUnits :=
  .beginRecord <| .firstRows <| .glareBoundary <| .compareSigs <| .capBoundary <| .showFrame <| .countSquashes <|
    h.upd

theorem State.HasUnits.beginHold {n t len} (h : s.HasUnits) : (s.beginHold n t len).HasUnits := .when h.upd .wr

theorem State.HasUnits.sheafAt {n} (h : s.HasUnits) : (s.sheafAt n).HasUnits :=
  .ite h <| .ite h.refuseAtBoundary <| .upd <| h.applySheaf

theorem State.HasUnits.fallBack (h : s.HasUnits) : s.fallBack.HasUnits := .ite (.upd <| h.setApp) <| h.upd

theorem State.HasUnits.boundary {n t} (h : s.HasUnits) : (s.boundary n t).HasUnits :=
  .ite (.enterCf <| .fallBack <| h.sheafAt) <| .beginHold <| .fallBack <| h.sheafAt

theorem State.HasUnits.execBoundary (h : s.HasUnits) : EndsWithUnits (execBoundary s) := by
  unfold Machine.execBoundary
  split
  · exact .next h
  · exact .next <| .ite h.boundary h

theorem State.HasUnits.scanAfterHold {ref} (h : s.HasUnits) : (s.scanAfterHold ref).HasUnits :=
  .ite h <| .ite h.wr <| by
    split
    · exact .firstRow <| h.updScn
    · exact h

theorem State.HasUnits.execRetimeHoldEnd (h : s.HasUnits) : EndsWithUnits (execRetimeHoldEnd s) := by
  unfold Machine.execRetimeHoldEnd
  split
  · exact .next h
  · exact .next <| .ite (.scanAfterHold <| .enterCf <| h.fallBack) h

theorem State.HasUnits.endRefresh (h : s.HasUnits) : s.endRefresh.HasUnits :=
  .ite h <| .foldl (.ite (.foldl (.ite h.publishZones h) fun _ _ h => h.compareMap) <| .ite h.publishZones h)
    fun _ _ h => .ite h.wr h

theorem State.HasUnits.portRefresh {p} (h : s.HasUnits) : (s.portRefresh p).HasUnits :=
  .ite h <| .watchBatch <| .modPort <| .ite h.wr h

theorem State.HasUnits.refreshGroups {t} (h : s.HasUnits) : (s.refreshGroups t).HasUnits :=
  h.foldl fun _ _ h => .when (.when (.ite h.applyGroup h) .applyMap) .applyGroup

theorem State.HasUnits.scanRefresh {r} (h : s.HasUnits) : (s.scanRefresh r).HasUnits := by
  unfold State.scanRefresh
  extract_lets s₁ s₂ ref
  have h₂ : s₂.HasUnits := .wr <| .wr <| .wr <| .bump <| h.keepChar
  clear_value s₂
  exact h₂.updUnits

theorem State.HasUnits.startRefresh {t r} (h : s.HasUnits) : (s.startRefresh t r).HasUnits :=
  .islandRefresh <| .foldl (.refreshGroups <| .when (.upd <| h.endRefresh) .scanRefresh) fun _ _ h => h.portRefresh

theorem State.HasUnits.execRefreshStart (h : s.HasUnits) : EndsWithUnits (execRefreshStart s) := by
  unfold Machine.execRefreshStart
  split
  · exact .next h
  · exact .next <| .ite h.startRefresh h

theorem State.HasUnits.startBand {k} (h : s.HasUnits) : (s.startBand k).HasUnits :=
  .setEchoDue <| .when (.when h.upd .wr) .prefetch

theorem State.HasUnits.execBandSlotStart (h : s.HasUnits) : EndsWithUnits (execBandSlotStart s) := by
  unfold Machine.execBandSlotStart
  split
  · exact .next h
  · exact .next <| .ite h.startBand h

/-! ### `Machine/Power` -/

theorem State.HasUnits.powerOn {d} (h : s.HasUnits) : (s.powerOn d).HasUnits := .when h.setBitF .updBuck

theorem State.HasUnits.execDomainPowerFail {d} (h : s.HasUnits) : EndsWithUnits (execDomainPowerFail d s) :=
  .next <| .ite (.raiseFound <| h.setBitF) h

theorem State.HasUnits.execDomainPowerDown {d} (h : s.HasUnits) : EndsWithUnits (execDomainPowerDown d s) :=
  .next <| .ite (.syncPads <| h.powerOff) h

theorem State.HasUnits.showPins (h : s.HasUnits) : s.showPins.HasUnits := h.wr

theorem State.HasUnits.usePin {n} (h : s.HasUnits) : (s.usePin n).HasUnits := h.upd

theorem State.HasUnits.samplePins {levels} (h : s.HasUnits) : (s.samplePins levels).HasUnits := .showPins <| h.upd

theorem State.HasUnits.writeWakecfg {data} (h : s.HasUnits) : (s.writeWakecfg data).HasUnits :=
  .showPins <| .foldl h.store fun _ _ h => .ite h <| .ite h.usePin h

theorem State.HasUnits.coldReset (h : s.HasUnits) : s.coldReset.HasUnits := by
  have hkeys : s.dict.keys.length = 32 := by
    obtain ⟨_, _, _, _, _, _, _, _, _, _, _, _, _, _, _, _, _, hkeys, _⟩ := h.shaped
    exact hkeys
  obtain ⟨hhw, hbuck, hloops, houts, hhi, hlo, hlink, hstreams, hcvu, hrdseq, hcopies, hchains, hchecks, henv, hdown, hasm,
    hhuskFails, -, hlast, hudp⟩ := hasUnits_reset.shaped
  exact ⟨rfl, hbuck, hloops, houts, hhi, hlo, hlink, hstreams, hcvu, hrdseq, hcopies, hchains, rfl, henv, hdown, hasm,
    rfl, hkeys, hlast, hudp⟩

theorem State.HasUnits.execAonPowerOnReset {strapMv} (h : s.HasUnits) :
    EndsWithUnits (execAonPowerOnReset strapMv s) :=
  .next <| .showPins <| .upd <| h.coldReset

theorem State.HasUnits.pinReset (h : s.HasUnits) : s.pinReset.HasUnits :=
  .showPins <| .wr <| .mark <| .setN <| .upd <| h.coldReset

theorem State.HasUnits.execResetPin {lowNs} (h : s.HasUnits) : EndsWithUnits (execResetPin lowNs s) :=
  .ite (.next h) <| .ite (.next <| h.pinReset) <| .next <| .unless h.draw .pinReset

theorem State.HasUnits.execResetPinRelease (h : s.HasUnits) : EndsWithUnits (execResetPinRelease s) :=
  .ite (.next <| .ite (.demandRise <| h.upd) <| .when h.upd .wakeUp) <| .next h

theorem State.HasUnits.lampAssert (h : s.HasUnits) : s.lampAssert.HasUnits := .unless (.wr <| h.mark) .demandRise

theorem State.HasUnits.execLampReqAssert (h : s.HasUnits) : EndsWithUnits (execLampReqAssert s) :=
  .next <| .ite h <| h.lampAssert

theorem State.HasUnits.execLampReqRelease (h : s.HasUnits) : EndsWithUnits (execLampReqRelease s) :=
  .ite (.next h) <| .next <| .ite (.demandFall <| h.wr) <| .wrB <| h.wr

theorem State.HasUnits.execRunBeamEnd (h : s.HasUnits) : EndsWithUnits (execRunBeamEnd s) :=
  .next <| .ite h.enterStandby h

theorem State.HasUnits.execModeReqSet {m data} (h : s.HasUnits) : EndsWithUnits (execModeReqSet m data s) :=
  h.withBus fun _ h => h.writeModeReq

theorem State.HasUnits.execRecover {m data} (h : s.HasUnits) : EndsWithUnits (execRecover m data s) :=
  h.withBus fun _ h => h.writeModeReq

theorem State.HasUnits.execClearDark {m data} (h : s.HasUnits) : EndsWithUnits (execClearDark m data s) :=
  h.withBus fun _ h => h.writeModeReq

theorem State.HasUnits.execRungateWrite {m data} (h : s.HasUnits) : EndsWithUnits (execRungateWrite m data s) :=
  h.withBus fun _ h => h.writeGate

theorem State.HasUnits.execPrepareTimeout (h : s.HasUnits) : EndsWithUnits (execPrepareTimeout s) := by
  unfold Machine.execPrepareTimeout
  split
  · exact .next <| .ite h <| .ite h.enterHusk <| h.enterStandby
  · exact .next h

theorem State.HasUnits.writeDomctl {data} (h : s.HasUnits) : (s.writeDomctl data).HasUnits := .ite h.store h

theorem State.HasUnits.execDomctlWrite {m data} (h : s.HasUnits) : EndsWithUnits (execDomctlWrite m data s) :=
  h.withBus fun _ h => h.writeDomctl

theorem State.HasUnits.execPadholdRelease {m data} (h : s.HasUnits) : EndsWithUnits (execPadholdRelease m data s) :=
  h.withBus fun _ h => h.releasePads

theorem State.HasUnits.pinWakes {pin} (h : s.HasUnits) : (s.pinWakes pin).HasUnits :=
  .when h.usePin fun h => .wakeUp <| h.markBit

theorem State.HasUnits.execWakePinQualify {pin levels} (h : s.HasUnits) :
    EndsWithUnits (execWakePinQualify pin levels s) :=
  .next <| .when h.samplePins .pinWakes

theorem State.HasUnits.execWakeTimerExpire (h : s.HasUnits) : EndsWithUnits (execWakeTimerExpire s) :=
  .next <| .ite (.wakeUp <| h.mark) h

theorem State.HasUnits.closeForSleep (h : s.HasUnits) : s.closeForSleep.HasUnits :=
  .ite h <| .upd <| .wr <| .wr <| .wr <| h.wr

theorem State.HasUnits.abandonForSleep (h : s.HasUnits) : s.abandonForSleep.HasUnits :=
  .ite h <| .closeForSleep <| .upd <| .ite h.wr h

theorem State.HasUnits.sleepRequest (h : s.HasUnits) : s.sleepRequest.2.HasUnits := by
  unfold State.sleepRequest
  split
  · exact h
  · split
    · exact h
    · exact .closeForSleep <| .upd <| .setN <| .queueRetained <| .endSessions <| .when h.upd .abandonForSleep

theorem State.HasUnits.execSleepRequest (h : s.HasUnits) : EndsWithUnits (execSleepRequest s) :=
  .next <| .ite h <| .answer <| h.sleepRequest

theorem State.HasUnits.noteWake {w} (h : s.HasUnits) : (s.noteWake w).HasUnits := by
  unfold State.noteWake
  split
  · exact .ite (.markBit <| h.usePin) h
  · exact .wr <| h.mark

theorem State.HasUnits.sleepNow (h : s.HasUnits) : s.sleepNow.HasUnits :=
  .upd <| .wrB <| .showPins <| .wr <| .wr <| .foldl (.resetBlock <| .resetBlock <| h.railsOff) fun _ _ h => h.setN

theorem State.HasUnits.sleepGo {wake} (h : s.HasUnits) : (s.sleepGo wake).HasUnits :=
  .ite h <| .ite (.wr <| by
    split
    · exact .noteWake <| h.upd
    · exact h.upd) <| .ite (.when (.wr <| by
    split
    · exact .noteWake <| h.upd
    · exact h.upd) .demandRise) <| .ite (.wr <| h.upd) <| by
    split
    · exact .ite (.when (.wr <| .noteWake <| h.upd) .demandRise) <| .upd <| .sleepNow <| .mark <| .noteWake <| h.upd
    · exact .sleepNow <| h.upd

theorem State.HasUnits.execSleepGo {m wake} (h : s.HasUnits) : EndsWithUnits (execSleepGo m wake s) :=
  h.withBus fun _ h => h.sleepGo

theorem State.HasUnits.execPwrEnHoldExpire (h : s.HasUnits) : EndsWithUnits (execPwrEnHoldExpire s) := by
  unfold Machine.execPwrEnHoldExpire
  split
  · exact .ite (.next h) <| .next <| .ite (.demandRise <| h.upd) <| .ite (.wakeUp <| h.upd) <| .when h.upd .wakeUp
  · exact .next h

theorem State.HasUnits.execClockMonWindow {counts} (h : s.HasUnits) : EndsWithUnits (execClockMonWindow counts s) :=
  .next <| h.raiseIf

/-! ### `Machine/Access` -/

theorem State.HasUnits.armCheck {g} (h : s.HasUnits) : (s.armCheck g).2.HasUnits := by
  unfold State.armCheck
  split
  · exact h
  · exact h
  · exact .ite h <| .wr <| h.wr
  · exact h
  · exact h
  · exact .ite h <| h.wr
  · exact h
  · exact h
  · exact h

theorem State.HasUnits.tryArm {g data} (h : s.HasUnits) : (s.tryArm g data).HasUnits := by
  unfold State.tryArm
  split
  · exact h.beginMapCheck
  · exact .ite h.armCheck <| .when (.armGroup <| h.armCheck) .applyImu

theorem State.HasUnits.writeGen {g data} (h : s.HasUnits) : (s.writeGen g data).HasUnits :=
  .unless h.genClear fun h => .ite h.tryArm <| h.mark

theorem State.HasUnits.writeShadow {a data} (h : s.HasUnits) : (s.writeShadow a data).HasUnits :=
  .ite h.store <| h.mark

theorem State.HasUnits.writeBlkown {data} (h : s.HasUnits) : (s.writeBlkown data).HasUnits :=
  .ite (.foldl h.store fun _ _ h => h.retryMaps) h

theorem State.HasUnits.storeWhole {a data} (h : s.HasUnits) : (s.storeWhole a data).HasUnits := by
  unfold State.storeWhole
  split
  · exact .wr <| h.store
  · exact h.store

theorem State.HasUnits.writeOutcmd {data} (h : s.HasUnits) : (s.writeOutcmd data).HasUnits := by
  unfold State.writeOutcmd
  extract_lets was s₁ s₂ s₃
  have h₂ : s₂.HasUnits := .foldl h.store fun _ _ h => .ite h.setBitF h
  clear_value s₂
  have h₃ : s₃.HasUnits := .when h₂ .requestHusk
  exact .syncPads <| .when h₃ .requestDark

theorem State.HasUnits.writeSwctl {data} (h : s.HasUnits) : (s.writeSwctl data).HasUnits := .followSw <| h.store

theorem State.HasUnits.macEnable {n was} (h : s.HasUnits) : (s.macEnable n was).HasUnits :=
  .ite (h.updNet (hdown := by simp)) <| .ite (.wr <| h.updNet (hdown := by simp)) h

theorem State.HasUnits.canEnable {b was} (h : s.HasUnits) : (s.canEnable b was).HasUnits :=
  .ite h <| .wr <| .updNet (.wr <| h.wr) (hasm := by simp)

theorem State.HasUnits.writeNetCtrl {data} (h : s.HasUnits) : (s.writeNetCtrl data).HasUnits :=
  .canEnable <| .canEnable <| .macEnable <| .macEnable <| h.store

theorem State.HasUnits.writeNet {off a data} (h : s.HasUnits) : (s.writeNet off a data).HasUnits :=
  .ite h.writeNetCtrl <| .ite h <| .ite (.unless h.store .restartEnv) <| h.store

theorem State.HasUnits.writePwr {off a data} (h : s.HasUnits) : (s.writePwr off a data).HasUnits := by
  unfold State.writePwr
  split
  · exact h.writeModeReq
  · exact h.writeGate
  · exact h.writeDomctl
  · exact h.releasePads
  · exact h.writeWakecfg
  · exact .ite h.sleepGo h
  · exact h.store

theorem State.HasUnits.writeVin {off a data} (h : s.HasUnits) : (s.writeVin off a data).HasUnits := by
  unfold State.writeVin
  split
  · exact h.writeOlcfg
  · exact h.writeImucfg
  · exact .ite h.store h

theorem State.HasUnits.writeLoop {n r a data} (h : s.HasUnits) : (s.writeLoop n r a data).HasUnits := by
  unfold State.writeLoop
  split
  · exact h.writeLoopCtrl
  · exact h.writePeriod
  · exact h.writePhase
  · exact .when h.store .upd
  · exact h.store

theorem State.HasUnits.writePid {off a data} (h : s.HasUnits) : (s.writePid off a data).HasUnits :=
  .ite (.showPitch <| h.store) <| .ite h.writeMembers <| .ite h.writeLoop <| .ite (by
    extract_lets
    split
    · exact h.writeBuckCfg
    · exact h.writeBuckStatic
    · exact h.writeBuckStatic
    · exact h.store) <| h.store

theorem State.HasUnits.writeSat {off a data} (h : s.HasUnits) : (s.writeSat off a data).HasUnits :=
  .ite h.writeSatTiming <| .ite h.writeSatTiming <| .ite h.writeSatCtrl <| h.store

theorem State.HasUnits.writeBrm {off a data} (h : s.HasUnits) : (s.writeBrm off a data).HasUnits :=
  .ite (.ite h.clearCounts h) <| .ite h.inject <| .ite (h.foldl fun _ _ h => h.clearSrc) <|
    .ite (h.foldl fun _ _ h => h.handleByFirmware) <| .ite (h.foldl fun _ _ h => h.handle) <| .ite h.writeClass <|
    .ite h.writeGrace <| .ite h.msgNext <| h.store

theorem State.HasUnits.writeBuserr {data} (h : s.HasUnits) : (s.writeBuserr data).HasUnits := by
  unfold State.writeBuserr
  extract_lets
  split
  · exact .unless h.storeWhole .holdError
  · exact h.storeWhole

theorem State.HasUnits.writeBlock {a data} (h : s.HasUnits) : (s.writeBlock a data).HasUnits := by
  unfold State.writeBlock
  extract_lets
  split
  · exact .ite h.writeBlkown <| .ite h.writeBuserr <| h.storeWhole
  · exact h.writePwr
  · exact .ite h.writeBistCtrl <| h.storeWhole
  · exact .ite h.writeFullctl <| .keepChar <| h.store
  · exact h.writeVin
  · exact .ite h.writeSheaf <| h.store
  · exact .ite h.writeCapctrl <| .ite h.writeSymload <| h.storeWhole
  · exact .ite h.writeLnkCtrl <| .ite h.writeLnkCmd <| h.store
  · exact h.writeSat
  · exact h.writePid
  · exact .ite h.restartCycle <| h.store
  · exact .ite h.writeOutcmd <| .ite h.writeSwctl <| h.store
  · exact h.writeBrm
  · exact .keepChar <| h.storeWhole
  · exact h.writeNet
  · exact h.storeWhole

theorem State.HasUnits.writeReg {a data} (h : s.HasUnits) : (s.writeReg a data).HasUnits :=
  .ite h <| .ite h.mark <| by
    split
    · exact .ite h.writeGen h
    · exact .ite h.writeMember h
    · exact .ite h <| .ite h.writeShadow <| h.writeBlock

theorem State.HasUnits.reachReg {m a data} (h : s.HasUnits) : (s.reachReg m a data).HasUnits := by
  unfold State.reachReg
  extract_lets
  split
  · exact h.writeCvu
  · exact .ite h.mbxStore <| .ite h.writeEprst h
  · exact .ite h.writeLock h
  · exact h.writeReg

theorem State.HasUnits.execSysBlkownWrite {m data} (h : s.HasUnits) : EndsWithUnits (execSysBlkownWrite m data s) :=
  h.withBus fun _ h => h.writeBlkown

theorem State.HasUnits.execGenArm {m g data} (h : s.HasUnits) : EndsWithUnits (execGenArm m g data s) :=
  .ite (.next h) <| h.withBus fun _ h => h.writeGen

theorem State.HasUnits.execGenNoarmClear {m g data} (h : s.HasUnits) : EndsWithUnits (execGenNoarmClear m g data s) :=
  .ite (.next h) <| h.withBus fun _ h => h.writeGen

theorem State.HasUnits.groupPoint {g} (h : s.HasUnits) : (s.groupPoint g).HasUnits :=
  .ite h <| by
    split
    · exact h.applyMap
    · exact h.applyStream
    · exact h.applyBudget
    · exact h.applyGroup
    · exact h.applyGroup
    · exact h.applyGroup
    · exact h.applyGroup
    · exact h.applyGroup
    · exact h.applyGroup

theorem State.HasUnits.execGroupApply {g} (h : s.HasUnits) : EndsWithUnits (execGroupApply g s) :=
  .next <| .ite h.groupPoint h

/-! ### `Machine/Network` -/

theorem State.HasUnits.receive {f} (h : s.HasUnits) : (s.receive f).HasUnits :=
  .ite h <| .ite h.bump <| .unless (.ite h.bump h) .emit

theorem State.HasUnits.execEthFrameReceive {f} (h : s.HasUnits) : EndsWithUnits (execEthFrameReceive f s) :=
  .next <| h.receive

theorem State.HasUnits.execArpRequest {mac srcMac srcIp target} (h : s.HasUnits) :
    EndsWithUnits (execArpRequest mac srcMac srcIp target s) :=
  .next <| .ite h.emit h

theorem State.HasUnits.execIcmpEcho {mac srcMac srcIp dst data} (h : s.HasUnits) :
    EndsWithUnits (execIcmpEcho mac srcMac srcIp dst data s) :=
  .next <| .ite (.emit <| h.updNet) h

theorem State.HasUnits.linkDown {n} (h : s.HasUnits) : (s.linkDown n).HasUnits :=
  .ite (.bump <| .wr <| h.updNet (hdown := by simp)) <| by
    split
    · exact .ite (.raise <| h.updNet (hdown := by simp)) h
    · exact h

theorem State.HasUnits.execEthLinkDown {mac} (h : s.HasUnits) : EndsWithUnits (execEthLinkDown mac s) :=
  .next <| .ite h.linkDown h

theorem State.HasUnits.execEthLinkUp {mac} (h : s.HasUnits) : EndsWithUnits (execEthLinkUp mac s) :=
  .next <| .ite (.wr <| h.updNet (hdown := by simp)) h

theorem State.HasUnits.udpClient {ip port} (h : s.HasUnits) : (s.udpClient ip port).HasUnits :=
  .wr <| .updOnoth (.ite h <| .updOnoth h.endSessions (hlast := by simp)) (hudp := by simp)

theorem State.HasUnits.onothArrive {src m} (h : s.HasUnits) : (s.onothArrive src m).HasUnits :=
  .ite h <| .ite (.reply <| .bump <| .bump <| by
    split
    · exact h.udpClient
    · exact h
    · exact h) <| .updOnoth <| .bump <| by
    split
    · exact h.udpClient
    · exact h
    · exact h

theorem State.HasUnits.execOnothRequestArrive {src message} (h : s.HasUnits) :
    EndsWithUnits (execOnothRequestArrive src message s) :=
  .next <| .ite h.onothArrive h

theorem State.HasUnits.modEnv {c f} (h : s.HasUnits) : (s.modEnv c f).HasUnits := h.updNet (henv := by simp)

theorem State.HasUnits.envReject {c code} (h : s.HasUnits) : (s.envReject c code).HasUnits :=
  .raise <| .modEnv <| .bump <| h.wr

theorem State.HasUnits.showHb {c} (h : s.HasUnits) : (s.showHb c).HasUnits := .ite h <| .hbSync <| h.wrB

theorem State.HasUnits.listFails {src dstPort} (h : s.HasUnits) : (s.listFails src dstPort).HasUnits := by
  unfold State.listFails
  split
  · exact .ite h.listUnproved h
  · exact h
  · exact h

theorem State.HasUnits.envConsume {c src bs copy} (h : s.HasUnits) : (s.envConsume c src bs copy).HasUnits := by
  unfold State.envConsume
  split
  · split
    · exact .ite h.listArrives h
    · exact h
    · exact h
  · exact .showHb <| h.modEnv
  · exact h

theorem State.HasUnits.envAccept {c src bs} (h : s.HasUnits) : (s.envAccept c src bs).HasUnits :=
  .envConsume <| .when (.bump <| .wr <| .wr <| .modEnv <| .ite h.bumpBy h) .wr

theorem State.HasUnits.envDuplicate {c src bs} (h : s.HasUnits) : (s.envDuplicate c src bs).HasUnits :=
  .when h.bump .envConsume

theorem State.HasUnits.envReceive {src dstPort bs} (h : s.HasUnits) : (s.envReceive src dstPort bs).HasUnits :=
  .ite h <| by
    split
    · exact h.listFails
    · exact .ite (.listFails <| h.envReject) <| .ite h.envDuplicate <| .ite (.listFails <| h.envReject) <| h.envAccept

theorem State.HasUnits.execEnvelopeReceive {src dstPort bytes} (h : s.HasUnits) :
    EndsWithUnits (execEnvelopeReceive src dstPort bytes s) :=
  .next <| .ite h.envReceive h

theorem State.HasUnits.execObjectListArrive {d} (h : s.HasUnits) : EndsWithUnits (execObjectListArrive d s) :=
  .next <| .ite h <| .ite h.envReceive <| h.listArrives

theorem State.HasUnits.envTimeout {c} (h : s.HasUnits) : (s.envTimeout c).HasUnits :=
  .unless h.modEnv fun h => .showHb <| .raise <| .bump <| h.wr

theorem State.HasUnits.execEnvTimerExpiry {c} (h : s.HasUnits) : EndsWithUnits (execEnvTimerExpiry c s) :=
  .next <| .ite h.envTimeout h

theorem State.HasUnits.envSend {c bs} (h : s.HasUnits) : (s.envSend c bs).HasUnits :=
  .ite (.ite (.bump <| h.sendCan) h) <| by
    split
    · exact .ite (.bump <| h.emit) h
    · exact h

theorem State.HasUnits.envBuild {c} (h : s.HasUnits) : (s.envBuild c).HasUnits := .envSend <| .modEnv <| .wr <| h.wr

theorem State.HasUnits.execEnvelopeProduce {c} (h : s.HasUnits) : EndsWithUnits (execEnvelopeProduce c s) :=
  .next <| .ite h.envBuild h

theorem State.HasUnits.setObj {index sub dflt value} (h : s.HasUnits) : (s.setObj index sub dflt value).HasUnits :=
  h.updDict

theorem State.HasUnits.envService {c sub bs} (h : s.HasUnits) : (s.envService c sub bs).2.HasUnits := by
  unfold State.envService
  split
  · exact h
  · split
    · exact h
    · split
      · exact h
      · split
        · exact h
        · split
          · exact h
          · split
            · exact h
            · extract_lets
              split
              · exact h
              · split
                · exact h.passSecure
                · exact .passSecure <| .hbSync <| .voidConfirm <| .loadEnv <| h.setObj

theorem State.HasUnits.execEnvConfigWrite {c sub value} (h : s.HasUnits) :
    EndsWithUnits (execEnvConfigWrite c sub value s) :=
  .next <| .ite h <| .ite h.answer <| .answer <| h.envService

theorem State.HasUnits.dropAsm {bus} (h : s.HasUnits) : (s.dropAsm bus).HasUnits := by
  unfold State.dropAsm
  split
  · exact .bump <| h.updNet (hasm := by simp)
  · exact h

theorem State.HasUnits.takeSegment {bus id n rest} (h : s.HasUnits) : (s.takeSegment bus id n rest).HasUnits := by
  unfold State.takeSegment
  split
  · exact h
  · exact .ite h.dropAsm <| .ite (.onothArrive <| h.updNet (hasm := by simp)) <| h.updNet (hasm := by simp)

theorem State.HasUnits.firstSegment {bus id data} (h : s.HasUnits) : (s.firstSegment bus id data).HasUnits :=
  .ite (.bump <| h.dropAsm) <| .ite (.onothArrive <| h.dropAsm) <| .updNet h.dropAsm (hasm := by simp)

theorem State.HasUnits.segment {bus id data} (h : s.HasUnits) : (s.segment bus id data).HasUnits := by
  unfold State.segment
  extract_lets
  split
  · exact .ite (.onothArrive <| h.dropAsm) h
  · exact .ite h.firstSegment h
  · exact h.takeSegment
  · exact h

theorem State.HasUnits.countErrors {f} (h : s.HasUnits) : (s.countErrors f).HasUnits := .wr <| .wr <| h.wr

theorem State.HasUnits.canReceive {f} (h : s.HasUnits) : (s.canReceive f).HasUnits :=
  .ite h <| .ite h.countErrors <| .ite (.bump <| h.countErrors) <| .unless h.countErrors fun h => .ite h.segment <|
    h.envReceive

theorem State.HasUnits.execCanFrameReceive {f} (h : s.HasUnits) : EndsWithUnits (execCanFrameReceive f s) :=
  .next <| h.canReceive

theorem State.HasUnits.execSegmentTimeout {bus} (h : s.HasUnits) : EndsWithUnits (execSegmentTimeout bus s) :=
  .next <| by
    split
    · exact .ite h.dropAsm h
    · exact h

theorem State.HasUnits.execCanBusoff {bus} (h : s.HasUnits) : EndsWithUnits (execCanBusoff bus s) :=
  .next <| .ite (.raise <| .bump <| .wr <| .wr <| h.updNet (hasm := by simp)) h

theorem State.HasUnits.execCanBusoffRecover {bus} (h : s.HasUnits) : EndsWithUnits (execCanBusoffRecover bus s) :=
  .next <| .ite (.wr <| .wr <| h.wr) h

/-! ### `Machine/Objects` -/

theorem State.HasUnits.readEffect {index sub} (h : s.HasUnits) : (s.readEffect index sub).HasUnits :=
  .ite h.writeSeen h

/-! ### `Machine/Dictionary` -/

theorem State.HasUnits.keep {a data} (h : s.HasUnits) : (s.keep a data).HasUnits := .ite h <| h.upd

theorem State.HasUnits.writeEntry {a bs} (h : s.HasUnits) : (s.writeEntry a bs).2.HasUnits := by
  unfold State.writeEntry
  extract_lets
  split
  · exact .keep <| h.writeReg
  · split
    · exact h.writeReg
    · exact h

theorem State.HasUnits.commission {v} (h : s.HasUnits) : (s.commission v).2.HasUnits := by
  unfold State.commission
  split
  · exact .ite (.queueRetained <| h.endCommission) h
  · split
    · exact h
    · split
      · exact h
      · exact h.wr
  · exact h

theorem State.HasUnits.leaveRequest {r} (h : s.HasUnits) : (s.leaveRequest r).2.HasUnits := by
  unfold State.leaveRequest
  extract_lets t
  have ht : t.HasUnits := .ite h.recover h.clearDark
  clear_value t
  by_cases e : s.mode != if r then Mode.husk else .dark
  · rwa [if_pos e]
  · rw [if_neg e]
    by_cases e' : t.mode == s.mode
    · rwa [if_pos e']
    · rwa [if_neg e']

theorem State.HasUnits.storeRequest {v} (h : s.HasUnits) : (s.storeRequest v).2.HasUnits := .ite h.queueRetained h

theorem State.HasUnits.clearPeak (h : s.HasUnits) : s.clearPeak.HasUnits := h.wr

theorem State.HasUnits.advanceRollback {v} (h : s.HasUnits) : (s.advanceRollback v).2.HasUnits := by
  unfold State.advanceRollback
  split
  · exact h
  · split
    · exact h
    · exact .wr <| h.updBoot

theorem foldl_setKeys_length {l : List Nat} {d : Dict} {k : Nat → Nat × Nat} {b : Nat} :
    (l.foldl (fun (d : Dict) g => { d with sealed := setBits d.sealed g g b, keys := d.keys.set g (k g) }) d).keys.length
      = d.keys.length := by
  induction l generalizing d with
  | nil => rfl
  | cons g l ih => exact ih.trans (List.length_set ..)

theorem State.HasUnits.sealWith {value} (h : s.HasUnits) : (s.sealWith value).2.HasUnits := by
  unfold State.sealWith
  extract_lets
  split
  · exact h
  · split
    · exact h
    · exact h.updDict (hkeys := .inl foldl_setKeys_length)

theorem State.HasUnits.unsealFail (h : s.HasUnits) : s.unsealFail.2.HasUnits := h.updDict

theorem State.HasUnits.unsealWith {value} (h : s.HasUnits) : (s.unsealWith value).2.HasUnits := by
  unfold State.unsealWith
  extract_lets
  split
  · exact h.unsealFail
  · split
    · exact h.updDict (hkeys := .inl foldl_setKeys_length)
    · exact h.unsealFail

theorem State.HasUnits.tunnelCfg {n data} (h : s.HasUnits) : (s.tunnelCfg n data).2.HasUnits := by
  unfold State.tunnelCfg
  extract_lets
  split
  · exact h
  · split
    · exact .setObj <| h.writeMbxCfg
    · exact h.writeMbxCfg

theorem State.HasUnits.applyDeviceObjects (h : s.HasUnits) : s.applyDeviceObjects.HasUnits :=
  .setN <| .writeWakecfg <| h.writeModeReq

theorem State.HasUnits.applyFaultObjects (h : s.HasUnits) : s.applyFaultObjects.HasUnits :=
  .ite h <| .foldl (h.foldl fun _ _ h => h.setN) fun _ _ h => h.setN

/-- The function is unfolded as a whole, not at its arguments: the kernel would compare the two by evaluating `entryOf` at the
free address. -/
theorem State.HasUnits.defaultEntry {a} (h : s.HasUnits) : (s.defaultEntry a).HasUnits := by
  obtain ⟨f, hf⟩ : ∃ f, f = State.defaultEntry := ⟨_, rfl⟩
  rw [← hf]
  delta State.defaultEntry at hf
  rw [hf]
  beta_reduce
  generalize entryOf a = e
  cases e with
  | none => exact h
  | some e => exact .ite h <| .ite h.upd (.writeReg h.upd)

theorem State.HasUnits.defaultParams (h : s.HasUnits) : s.defaultParams.HasUnits :=
  .unless (.ite h <| h.foldl fun _ _ h => h.takeParam) fun h => .voidConfirm <| h.setN

theorem State.HasUnits.defaultMaps (h : s.HasUnits) : s.defaultMaps.HasUnits :=
  .ite h <| h.foldl fun _ _ h => .ite h <| .planTile <| .unless (.unless h.updCal .storeGain) .storeDefects

theorem State.HasUnits.takeDefaults (h : s.HasUnits) : s.takeDefaults.HasUnits :=
  .when (.foldl (.when (.when (.applyFaultObjects <| .standbyObjects <| .applyDeviceObjects <| .updDict <|
    .defaultMaps <| h.foldl fun _ _ h => h.defaultEntry) .voidConfirm) fun h => .hbSync <| .voidConfirm <| h.loadEnvs)
    fun _ _ h => .ite h.writeMbxCfg h) .defaultParams

theorem State.HasUnits.defaultsRequest {v} (h : s.HasUnits) : (s.defaultsRequest v).2.HasUnits := by
  unfold State.defaultsRequest
  split
  · exact h
  · exact .ite h.takeDefaults h

theorem State.HasUnits.writeFaultObject {index sub data} (h : s.HasUnits) :
    (s.writeFaultObject index sub data).2.HasUnits := by
  unfold State.writeFaultObject
  extract_lets
  split
  · exact h.foldl fun _ _ h => h.clearSrc
  · exact h.foldl fun _ _ h => h.handleByFirmware
  · split
    · exact h
    · exact .setObj <| h.writeClass
  · split
    · exact h
    · exact .setObj <| h.writeGrace

theorem State.HasUnits.writeMap {t gain bs} (h : s.HasUnits) : (s.writeMap t gain bs).2.HasUnits := by
  unfold State.writeMap
  split
  · exact h
  · split
    · exact h.placeMaps
    · exact h.placeMaps

theorem State.HasUnits.writeNode {index sub bs} (h : s.HasUnits) : (s.writeNode index sub bs).2.HasUnits := by
  unfold State.writeNode
  split
  · exact h
  · exact h.setObj

theorem State.HasUnits.tunnelPost {n bs} (h : s.HasUnits) : (s.tunnelPost n bs).2.HasUnits := by
  unfold State.tunnelPost
  split
  · exact h
  · exact .writeDoor <| h.foldl fun _ _ h => .ite h.setN h

theorem State.HasUnits.tunnelAck {n data} (h : s.HasUnits) : (s.tunnelAck n data).2.HasUnits := h.writeAck

theorem State.HasUnits.writeTunnel {n sub bs} (h : s.HasUnits) : (s.writeTunnel n sub bs).2.HasUnits := by
  unfold State.writeTunnel
  split
  · exact h.tunnelPost
  · exact h.tunnelAck
  · exact h.tunnelCfg

theorem State.HasUnits.writeDevice {index sub bs} (h : s.HasUnits) : (s.writeDevice index sub bs).2.HasUnits := by
  unfold State.writeDevice
  extract_lets
  split
  · split
    · exact h
    · exact .writeModeReq <| h.setObj
  · split
    · exact h.sleepRequest
    · exact h
  · split
    · exact h.leaveRequest
    · exact h
  · split
    · exact h.leaveRequest
    · exact h
  · exact h.commission
  · split
    · exact h
    · exact .setN <| h.setObj
  · exact .writeWakecfg <| h.setObj
  · split
    · exact h
    · exact h.releasePads
  · split
    · exact h
    · exact .writeDomctl <| h.setObj
  · split
    · exact h
    · exact .writeBlkown <| h.setObj
  · exact h.storeRequest
  · exact h.defaultsRequest
  · exact .ite h.clearPeak h
  · exact h.sealWith
  · exact h.unsealWith
  · exact h.advanceRollback

theorem State.HasUnits.clearRisen {v} (h : s.HasUnits) : (s.clearRisen v).HasUnits := h.updDict

theorem State.HasUnits.applyWrite {index sub bs} (h : s.HasUnits) : (s.applyWrite index sub bs).2.HasUnits := by
  unfold State.applyWrite
  split
  · exact h.writeEntry
  · split
    · exact h.setObj
    · split
      · split
        · exact h
        · exact h.setObj
      · split
        · exact h.envService
        · split
          · exact h.clearRisen
          · split
            · exact h.writeDevice
            · split
              · exact h.confirmService
              · split
                · exact h.paramService
                · split
                  · exact h.writeFaultObject
                  · split
                    · exact h.writeMap
                    · split
                      · exact h.writeMap
                      · split
                        · exact h.writeNode
                        · exact h.writeTunnel

theorem State.HasUnits.noteMode {index sub bs} (h : s.HasUnits) : (s.noteMode index sub bs).HasUnits := .ite h.mark h

theorem State.HasUnits.writeObject {index sub bs} (h : s.HasUnits) : (s.writeObject index sub bs).2.HasUnits := by
  unfold State.writeObject
  extract_lets
  split
  · exact h.noteMode
  · split
    · exact h
    · split
      · extract_lets
        split
        · exact h
        · exact h.applyWrite
      · exact h

theorem State.HasUnits.serveAs {index sub r} (h : s.HasUnits) (hr : r.2.HasUnits) :
    EndsWithUnits (s.serveAs index sub r) :=
  .next <| .ite (.answer <| .ite hr.countBusy hr) h

theorem State.HasUnits.execCommissionEnter (h : s.HasUnits) : EndsWithUnits (execCommissionEnter s) :=
  h.serveAs h.commission

theorem State.HasUnits.execCommissionLeave (h : s.HasUnits) : EndsWithUnits (execCommissionLeave s) :=
  h.serveAs h.commission

theorem State.HasUnits.execDictStore (h : s.HasUnits) : EndsWithUnits (execDictStore s) := h.serveAs h.storeRequest

theorem State.HasUnits.execDefaults (h : s.HasUnits) : EndsWithUnits (execDefaults s) := h.serveAs h.defaultsRequest

theorem State.HasUnits.execSeal {value} (h : s.HasUnits) : EndsWithUnits (execSeal value s) := h.serveAs h.sealWith

theorem State.HasUnits.execUnseal {value} (h : s.HasUnits) : EndsWithUnits (execUnseal value s) :=
  h.serveAs h.unsealWith

theorem State.HasUnits.execRollbackAdv {value} (h : s.HasUnits) : EndsWithUnits (execRollbackAdv value s) :=
  h.serveAs h.advanceRollback

theorem State.HasUnits.execClearPeak (h : s.HasUnits) : EndsWithUnits (execClearPeak s) := h.serveAs h.clearPeak

theorem State.HasUnits.execRisenClear {value} (h : s.HasUnits) : EndsWithUnits (execRisenClear value s) :=
  h.serveAs h.clearRisen

theorem State.HasUnits.execTunnelPost {n data} (h : s.HasUnits) : EndsWithUnits (execTunnelPost n data s) :=
  h.serveAs h.writeObject

theorem State.HasUnits.execTunnelAck {n value} (h : s.HasUnits) : EndsWithUnits (execTunnelAck n value s) :=
  h.serveAs h.writeObject

theorem State.HasUnits.execTunnelTake {n} (h : s.HasUnits) : EndsWithUnits (execTunnelTake n s) :=
  h.serveAs (.ite (.emit <| h.readEffect) h)

theorem State.HasUnits.evalAttention (h : s.HasUnits) : s.evalAttention.HasUnits := .updDict <| .bumpBy <| h.wr

theorem State.HasUnits.updateLoad {load} (h : s.HasUnits) : (s.updateLoad load).HasUnits :=
  .ite (.updDict <| .wr <| h.wr) <| .ite (.updDict <| .wr <| h.wr) <| .ite (.resumePlans <| .updDict <| .wr <|
    h.wr) <| .updDict <| .wr <| h.wr

theorem State.HasUnits.execLoadUpdate {load} (h : s.HasUnits) : EndsWithUnits (execLoadUpdate load s) :=
  .next <| .ite (h.periodic fun _ h => h.updateLoad) h

/-! ### `Machine/Boot` -/

theorem State.HasUnits.replayBlock {d block} (h : s.HasUnits) : (s.replayBlock d block).HasUnits :=
  .ite h <| h.foldl fun _ _ h => h.writeReg

theorem State.HasUnits.replayArm {g} (h : s.HasUnits) : (s.replayArm g).HasUnits := .ite h <| h.writeGen

theorem State.HasUnits.replayObjects {d} (h : s.HasUnits) : (s.replayObjects d).HasUnits := by
  unfold State.replayObjects
  split
  · exact .ite (.hbSync <| h.loadEnvs) h
  · exact h.applyFaultObjects
  · exact h.foldl fun _ _ h => by
      split
      · exact h.writeMbxCfg
      · exact h
  · exact h

theorem State.HasUnits.replay {d} (h : s.HasUnits) : (s.replay d).HasUnits := by
  unfold State.replay
  extract_lets +onlyGivenNames s₁ s₂
  have h₂ : s₂.HasUnits := .foldl (.replayObjects <| h.foldl fun _ _ h => h.replayBlock) fun _ _ h => h.replayArm
  clear_value s₂
  exact .releasePads <| .when h₂ .updDict

theorem State.HasUnits.reloadSymbol {n} (h : s.HasUnits) : (s.reloadSymbol n).HasUnits :=
  .ite h <| .writeSymload <| h.upd

theorem State.HasUnits.firstSheaf (h : s.HasUnits) : s.firstSheaf.HasUnits :=
  .ite (.ite (.ite (h.foldl fun _ _ h => h.reloadSymbol) h) <| .when (.updDict <|
    .ite (h.foldl fun _ _ h => h.reloadSymbol) h) .writeSheaf) h

theorem State.HasUnits.loadDictionary (h : s.HasUnits) : s.loadDictionary.HasUnits := by
  unfold State.loadDictionary
  extract_lets made
  split
  · exact .setN <| h.updUnits
  · exact .setN <| h.updUnits

theorem State.HasUnits.firmwareStart (h : s.HasUnits) : s.firmwareStart.HasUnits :=
  .foldl (.loadStores <| .replay <| .replayBlock <| .applyDeviceObjects <| .updDict <| h.loadDictionary)
    fun _ _ h => h.replay

theorem State.HasUnits.execPrepareComplete (h : s.HasUnits) : EndsWithUnits (execPrepareComplete s) := by
  unfold Machine.execPrepareComplete
  split
  · exact .ite (.next <| .ite h.enterStandby h) <| .ite (.next h) <| .next <| .ite (.enterHusk <| .ite h <|
      h.handOver) <| .ite (.enterHusk <| .ite h <| h.handOver) <| .ite (.enterHusk <| .ite h <| h.handOver) <|
      .syncPads <| .setMode <| .endPrep <| .ite h <| h.handOver
  · exact .next h

theorem State.HasUnits.goOn (h : s.HasUnits) : s.goOn.HasUnits :=
  .when (.when (.ite h.firmwareStart h) .seqOn) .firstSheaf

theorem State.HasUnits.execSecureBoot {readErrA readErrB} (h : s.HasUnits) :
    EndsWithUnits (execSecureBoot readErrA readErrB s) :=
  .next <| .goOn <| h.secureBoot

theorem State.HasUnits.execSafeImageVerify (h : s.HasUnits) : EndsWithUnits (execSafeImageVerify s) :=
  .next <| .goOn <| h.verifyImage

theorem State.HasUnits.execRecoveryImageLoad {base} (h : s.HasUnits) : EndsWithUnits (execRecoveryImageLoad base s) :=
  .next <| .goOn <| h.recoveryLoad

theorem State.HasUnits.execSwTestEnd {mv} (h : s.HasUnits) : EndsWithUnits (execSwTestEnd mv s) :=
  .next <| .goOn <| h.switchTestEnd

theorem State.HasUnits.execStartupOutputRound {husk lampFail} (h : s.HasUnits) :
    EndsWithUnits (execStartupOutputRound husk lampFail s) :=
  .next <| .goOn <| h.startupRound

theorem State.HasUnits.execAttentionEval (h : s.HasUnits) : EndsWithUnits (execAttentionEval s) :=
  .next <| .ite (h.periodic fun _ h => .evalAttention <| h.goOn) h

theorem State.HasUnits.gmeUp (h : s.HasUnits) : s.gmeUp.HasUnits := .ite (.showSram <| h.upd) h

theorem State.HasUnits.scnUp (h : s.HasUnits) : s.scnUp.HasUnits := .keepChar <| .showFill <| h.updScn

theorem State.HasUnits.timeUp {d} (h : s.HasUnits) : (s.timeUp d).HasUnits :=
  .ite (.raiseWaiting <| .ite h.upd h) <| h.raiseIf

theorem State.HasUnits.execSymbolLoadComplete (h : s.HasUnits) : EndsWithUnits (execSymbolLoadComplete s) :=
  .next <| .when h.symLoaded .goOn

theorem State.HasUnits.comeUp {d} (h : s.HasUnits) : (s.comeUp d).HasUnits :=
  .when (.ite (.foldl (by
    split
    · exact .gmeUp <| .timeUp <| h.powerOn
    · exact .scnUp <| .timeUp <| h.powerOn
    · exact .timeUp <| h.powerOn) fun _ _ h => h.retryMaps) <| by
    split
    · exact .gmeUp <| .timeUp <| h.powerOn
    · exact .scnUp <| .timeUp <| h.powerOn
    · exact .timeUp <| h.powerOn) fun h => .goOn <| h.replay

theorem State.HasUnits.execDomainPowerUp {d} (h : s.HasUnits) : EndsWithUnits (execDomainPowerUp d s) :=
  .next <| .ite h.comeUp h

theorem State.HasUnits.execBistSliceEnd {target r} (h : s.HasUnits) : EndsWithUnits (execBistSliceEnd target r s) :=
  .next <| .goOn <| .when (.when h.bistSlice .gmeSramBad) .closeGate

/-! ### `Machine/Flash` -/

theorem State.HasUnits.noteHold {e result} (h : s.HasUnits) : (s.noteHold e result).HasUnits :=
  .ite (.when (.wr <| h.wr) .bump) h

theorem State.HasUnits.storeResumes (h : s.HasUnits) : s.storeResumes.HasUnits := .ite h.wr h

theorem State.HasUnits.checkProgram {vholdUv} (h : s.HasUnits) : (s.checkProgram vholdUv).HasUnits := by
  unfold State.checkProgram
  split
  · exact h
  · exact .ite (.noteHold <| .storeResumes <| .upd <| h.setBytes) <| .abandonForSleep <| .raiseIf <| .noteHold <|
      .when h.upd .wr

theorem State.HasUnits.deferByLoad (h : s.HasUnits) : s.deferByLoad.HasUnits :=
  .abandonForSleep <| .upd <| .ite h <| .countDeferred <| h.upd

theorem State.HasUnits.takeDueStore (h : s.HasUnits) : s.takeDueStore.HasUnits := .ite h.queueRetained h

theorem State.HasUnits.execFlashSectorProgram {vholdUv} (h : s.HasUnits) :
    EndsWithUnits (execFlashSectorProgram vholdUv s) :=
  .next <| .ite h <| .ite (.deferByLoad <| h.takeDueStore) <| .checkProgram <| h.takeDueStore

theorem State.HasUnits.execHoldupRetry {vholdUv} (h : s.HasUnits) : EndsWithUnits (execHoldupRetry vholdUv s) :=
  .next <| .ite (.ite h.deferByLoad <| h.checkProgram) h

theorem State.HasUnits.stopWaiting {n} (h : s.HasUnits) : (s.stopWaiting n).HasUnits := by
  unfold State.stopWaiting
  extract_lets
  split
  · exact .followPath <| .setHw <| .ite h.wr h
  · exact .followPath <| .setHw <| .ite h.wr h
  · exact .followPath <| .setHw <| .ite h.wr h
  · exact .ite h.wr h
  · exact .ite h.wr h
  · exact .ite h.wr h
  · exact .ite h.wr h
  · exact .ite h.wr h

theorem State.HasUnits.execSupplyLoss {peaks} (h : s.HasUnits) : EndsWithUnits (execSupplyLoss peaks s) :=
  .ite (.next h) <| .ite (.next h) <| .ite (.next <| .upd <| .ite h.mark h) <| .next <| .upd <|
    .foldl (.foldl (.ite h.mark h) fun _ _ h => .ite h <| .ite (.buckOff <| h.wr) <| h.stopWaiting)
    fun _ _ h => .ite h.powerOff h

theorem State.HasUnits.pageDone {p} (h : s.HasUnits) : (s.pageDone p).HasUnits := h.setBytes

theorem State.HasUnits.failStore (h : s.HasUnits) : s.failStore.HasUnits :=
  .mark <| .upd <| by
    split
    · exact h.wr
    · exact h

theorem State.HasUnits.execPageProgramComplete (h : s.HasUnits) : EndsWithUnits (execPageProgramComplete s) := by
  unfold Machine.execPageProgramComplete
  split
  · exact .next h
  · exact .ite (.next h) <| .next <| .ite (.closeForSleep <| .failStore <| h.pageDone) <| .upd <| h.pageDone

theorem State.HasUnits.logAppend {n} (h : s.HasUnits) : (s.logAppend n).HasUnits := .upd <| .ite h.upd <| h.upd

theorem State.HasUnits.storeDone {j} (h : s.HasUnits) : (s.storeDone j).HasUnits := by
  unfold State.storeDone
  split
  · exact h
  · exact h.updCal
  · exact h.logAppend
  · exact .setN <| h.updUnits

theorem State.HasUnits.execSectorProgramComplete (h : s.HasUnits) : EndsWithUnits (execSectorProgramComplete s) := by
  unfold Machine.execSectorProgramComplete
  split
  · exact .ite (.next <| .closeForSleep <| h.failStore) <| .next <| .ite (.upd <| h.setBytes) <| .closeForSleep <|
      .storeDone <| .upd <| h.setBytes
  · exact .next h

theorem State.HasUnits.execFaultLogFlush (h : s.HasUnits) : EndsWithUnits (execFaultLogFlush s) :=
  .ite (.next h) <| .next <| h.upd

/-! ### `Machine/Onoth` -/

theorem State.HasUnits.serveRead {c m} (h : s.HasUnits) : (s.serveRead c m).state.HasUnits := by
  unfold State.serveRead
  dsimp only
  split
  · exact h
  · split
    · exact h
    · split
      · exact h
      · exact h.readEffect

theorem State.HasUnits.serveWrite {m} (h : s.HasUnits) : (s.serveWrite m).state.HasUnits := h.writeObject

theorem State.HasUnits.serveSnap {c m} (h : s.HasUnits) : (s.serveSnap c m).state.HasUnits := by
  unfold State.serveSnap
  dsimp only
  split
  · exact h
  · split
    · exact h
    · split
      · exact h
      · split
        · exact h
        · exact h

theorem State.HasUnits.serveDomRead {c m} (h : s.HasUnits) : (s.serveDomRead c m).state.HasUnits := by
  unfold State.serveDomRead
  dsimp only
  split
  · exact h
  · split
    · exact h
    · split
      · exact h
      · exact h.readEffect

theorem State.HasUnits.setSession {x} (h : s.HasUnits) : (s.setSession x).HasUnits := h.updOnoth

theorem State.HasUnits.closeSession {client} (h : s.HasUnits) : (s.closeSession client).HasUnits := h.updOnoth

theorem State.HasUnits.serveDomBegin {client m} (h : s.HasUnits) : (s.serveDomBegin client m).state.HasUnits := by
  unfold State.serveDomBegin
  extract_lets
  split
  · exact h
  · split
    · split
      · exact h
      · split
        · exact h
        · split
          · exact h
          · exact .setSession <| h.endSessions
    · exact h
    · exact h
    · exact h

theorem State.HasUnits.serveDomWrite {client m} (h : s.HasUnits) : (s.serveDomWrite client m).state.HasUnits := by
  unfold State.serveDomWrite
  extract_lets
  split
  · exact h
  · extract_lets
    split
    · exact h.setSession
    · exact .setSession <| h.setSession

theorem State.HasUnits.serveDomEnd {client m} (h : s.HasUnits) : (s.serveDomEnd client m).state.HasUnits := by
  unfold State.serveDomEnd
  extract_lets
  split
  · exact h
  · extract_lets
    split
    · exact .closeSession <| h.setSession
    · split
      · exact h.setSession
      · split
        · exact h.setSession
        · extract_lets
          split
          · exact .writeObject <| h.setSession
          · exact .closeSession <| .writeObject <| h.setSession

theorem State.HasUnits.serveDomAbort {client m} (h : s.HasUnits) : (s.serveDomAbort client m).state.HasUnits := by
  unfold State.serveDomAbort
  split
  · exact h
  · split
    · exact h.endSessions
    · exact h

theorem State.HasUnits.takeUp {q} (h : s.HasUnits) : (s.takeUp q).HasUnits := h.updOnoth

theorem State.HasUnits.finish {q r mayWait} (hr : r.state.HasUnits) : (s.finish q r mayWait).HasUnits := by
  unfold State.finish
  split
  · exact hr.updOnoth
  · exact hr.respond

theorem State.HasUnits.replayed {q} (h : s.HasUnits) : (s.replayed q).HasUnits := .reply <| .ite h.bump h

theorem State.HasUnits.serve {svc mayWait run} (h : s.HasUnits)
    (hrun : ∀ t client m, t.HasUnits → (run t client m).state.HasUnits) : (s.serve svc mayWait run).HasUnits :=
  .ite h <| by
    split
    · exact h
    · exact .ite h <| .ite (.replayed h.takeUp) <| .ite (.respond h.takeUp) <| .finish <| hrun _ _ _ h.takeUp

theorem State.HasUnits.execRead (h : s.HasUnits) : EndsWithUnits (execRead s) :=
  .next <| h.serve fun _ _ _ h => h.serveRead

theorem State.HasUnits.execWrite (h : s.HasUnits) : EndsWithUnits (execWrite s) :=
  .next <| h.serve fun _ _ _ h => h.serveWrite

theorem State.HasUnits.execReadSnap (h : s.HasUnits) : EndsWithUnits (execReadSnap s) :=
  .next <| h.serve fun _ _ _ h => h.serveSnap

theorem State.HasUnits.execDomRead (h : s.HasUnits) : EndsWithUnits (execDomRead s) :=
  .next <| h.serve fun _ _ _ h => h.serveDomRead

theorem State.HasUnits.execDomBegin (h : s.HasUnits) : EndsWithUnits (execDomBegin s) :=
  .next <| h.serve fun _ _ _ h => h.serveDomBegin

theorem State.HasUnits.execDomWrite (h : s.HasUnits) : EndsWithUnits (execDomWrite s) :=
  .next <| h.serve fun _ _ _ h => h.serveDomWrite

theorem State.HasUnits.execDomEnd (h : s.HasUnits) : EndsWithUnits (execDomEnd s) :=
  .next <| h.serve fun _ _ _ h => h.serveDomEnd

theorem State.HasUnits.execDomAbort (h : s.HasUnits) : EndsWithUnits (execDomAbort s) :=
  .next <| h.serve fun _ _ _ h => h.serveDomAbort

theorem State.HasUnits.execDomSessionTimeout {client} (h : s.HasUnits) :
    EndsWithUnits (execDomSessionTimeout client s) :=
  .next <| by
    split
    · exact .ite h.endSessions h
    · exact h

theorem State.HasUnits.answerBusy {q} (h : s.HasUnits) : (s.answerBusy q).HasUnits := .respondBusy <| h.takeUp

theorem State.HasUnits.execRequestWaitTimeout (h : s.HasUnits) : EndsWithUnits (execRequestWaitTimeout s) :=
  .next <| .ite (h.foldl fun _ _ h => h.answerBusy) h

theorem State.HasUnits.takeDoor (h : s.HasUnits) : s.takeDoor.HasUnits :=
  .ite h <| .ite (.respondBusy <| .setNum <| h.updOnoth) <| .updOnoth <| .setNum <| h.updOnoth

theorem State.HasUnits.writeMem {a size data} (h : s.HasUnits) : (s.writeMem a size data).HasUnits :=
  .when h.setNum .takeDoor

theorem State.HasUnits.execHspiDoor {m data} (h : s.HasUnits) : EndsWithUnits (execHspiDoor m data s) :=
  .next <| by
    split
    · exact h.captureError
    · exact h.writeMem

theorem State.HasUnits.execRegisterWrite {m size addr data} (h : s.HasUnits) :
    EndsWithUnits (execRegisterWrite m size addr data s) := by
  unfold Machine.execRegisterWrite
  split
  · exact .next <| h.captureError
  · exact .ite (.next <| h.writeMem) <| by
      split
      · exact .next <| h.captureError
      · exact .ite .fault <| .next <| .ite h <| h.reachReg

/-! ### `Machine/Dispatch` -/

theorem State.HasUnits.exec {i} (h : s.HasUnits) : EndsWithUnits (exec i s) := by
  unfold Machine.exec
  split
  · exact h.execRegisterWrite
  · exact h.execSysBlkownWrite
  · exact h.execGenArm
  · exact h.execGenNoarmClear
  · exact h.execGroupApply
  · exact h.execBoundary
  · exact h.execFrameRecordSwitch
  · exact h.execRefreshStart
  · exact h.execBandSlotStart
  · exact h.execClockMonWindow
  · exact h.execDomainPowerUp
  · exact h.execDomainPowerFail
  · exact h.execDomainPowerDown
  · exact h.execAonPowerOnReset
  · exact h.execResetPin
  · exact h.execResetPinRelease
  · exact h.execLampReqAssert
  · exact h.execLampReqRelease
  · exact h.execRunBeamEnd
  · exact h.execModeReqSet
  · exact h.execRecover
  · exact h.execClearDark
  · exact h.execRungateWrite
  · exact h.execPrepareComplete
  · exact h.execPrepareTimeout
  · exact h.execDomctlWrite
  · exact h.execPadholdRelease
  · exact h.execWakePinQualify
  · exact h.execWakeTimerExpire
  · exact h.execSleepRequest
  · exact h.execSleepGo
  · exact h.execPwrEnHoldExpire
  · exact h.execHwhuskStart
  · exact h.execHwhuskLowsideCheck
  · exact h.execHwhuskHighsideOn
  · exact h.execHwhuskRampEnd
  · exact h.execHwhuskRampdownEnd
  · exact h.execSecureBoot
  · exact h.execSafeImageVerify
  · exact h.execRecoveryImageLoad
  · exact h.execBistSliceEnd
  · exact h.execBistStart
  · exact h.execBistAbort
  · exact h.execTestUnlock
  · exact h.execIdcode
  · exact h.execBypass
  · exact h.execExtest
  · exact h.execSamplePreload
  · exact h.execCaifelScanInstruction
  · exact h.execEthFrameReceive
  · exact h.execRvfPacket
  · exact h.execRvfFrameReady
  · exact h.execRvfFrameTimeout
  · exact h.execObjectListArrive
  · exact h.execObjectListParse
  · exact h.execObjectTableBuild
  · exact h.execVinOlcfgWrite
  · exact h.execSyncMessage
  · exact h.execPdelayRequest
  · exact h.execPdelayInterval
  · exact h.execHoldoverEnter
  · exact h.execNosyncEnter
  · exact h.execImuTrigger
  · exact h.execImuSample
  · exact h.execImuLost
  · exact h.execVinImucfgWrite
  · exact h.execSheafArm
  · exact h.execSheafCheckComplete
  · exact h.execSheafDisarm
  · exact h.execRetimeHoldEnd
  · exact h.execComposeFrameStart
  · exact h.execComposeBandComplete
  · exact h.execSymbolLoad
  · exact h.execSymbolLoadComplete
  · exact h.execSymbolEvict
  · exact h.execSymbolEvictUnused
  · exact h.execCaptureStart
  · exact h.execCaptureAbort
  · exact h.execCaptureComplete
  · exact h.execGmeSnapshot
  · exact h.execGmeRenderComplete
  · exact h.execMaskLatch
  · exact h.execScanFillBandComplete
  · exact h.execRowSlotStart
  · exact h.execBlankStart
  · exact h.execCharSlot
  · exact h.execClampTableReceive
  · exact h.execLinkTrainStart
  · exact h.execUplinkSignalDetect
  · exact h.execUplinkBlockLock
  · exact h.execUplinkTrainReceive
  · exact h.execTrainStateTimeout
  · exact h.execIdentRecord
  · exact h.execLinkEnable
  · exact h.execLightSet
  · exact h.execRetrain
  · exact h.execPing
  · exact h.execIdent
  · exact h.execRegWrite
  · exact h.execRegRead
  · exact h.execHuskUnlock
  · exact h.execHuskCommit
  · exact h.execTileReset
  · exact h.execCommandTimeout
  · exact h.execRowechoRecord
  · exact h.execEchoDeadline
  · exact h.execStatusRecord
  · exact h.execCharRecord
  · exact h.execResponseRecord
  · exact h.execAlertRecord
  · exact h.execUplinkLockLoss
  · exact h.execLostRetry
  · exact h.execGleanRecord
  · exact h.execGleanLockLoss
  · exact h.execSatPeriodStart
  · exact h.execSatLatchSend
  · exact h.execSatCollectSend
  · exact h.execSatCensusSend
  · exact h.execSatReturnFrame
  · exact h.execSatReturnTimeout
  · exact h.execSatEnumerate
  · exact h.execSatNodeWrite
  · exact h.execSatTimingWrite
  · exact h.execPidSample
  · exact h.execPidOutputWrite
  · exact h.execPidGroupCfgWrite
  · exact h.execBuckSwitchPeriod
  · exact h.execBuckOvervoltage
  · exact h.execBuckOvRelease
  · exact h.execBuckShortDetect
  · exact h.execBuckEnable
  · exact h.execSwClosedFault
  · exact h.execSwTestDue
  · exact h.execSwTestEnd
  · exact h.execSwUntestedTimeout
  · exact h.execLedgerTick
  · exact h.execAllowedPowerCompute
  · exact h.execDriveCycleRestart
  · exact h.execPlannerRun
  · exact h.execHarnessGuardTrip
  · exact h.execDischargeEnd
  · exact h.execDischargeTimeout
  · exact h.execFlashSectorProgram
  · exact h.execHoldupRetry
  · exact h.execSupplyLoss
  · exact h.execPageProgramComplete
  · exact h.execThermalSample
  · exact h.execOrderlyStopHandoff
  · exact h.execThermalTrip
  · exact h.execMapGroupCheckComplete
  · exact h.execBuckOffsetTrim
  · exact h.execFullcharStart
  · exact h.execFullcharBatch
  · exact h.execFullcharAbort
  · exact h.execMonitorRead
  · exact h.execAvsPlan
  · exact h.execSafetyTask
  · exact h.execViolationRelease
  · exact h.execSafeWatchdogExpire
  · exact h.execLockstepMismatch
  · exact h.execSafeSramUncorrectable
  · exact h.execIslandRestartComplete
  · exact h.execHusknMismatch
  · exact h.execOutputTestDue
  · exact h.execOutputTestPulseEnd
  · exact h.execStartupOutputRound
  · exact h.execSafetyParamWrite
  · exact h.execCheckValueComputed
  · exact h.execConfirmWrite
  · exact h.execSourceRaise
  · exact h.execGraceExpiry
  · exact h.execSourceHandle
  · exact h.execSourceShandle
  · exact h.execSourceClear
  · exact h.execCountClear
  · exact h.execClassWrite
  · exact h.execGraceWrite
  · exact h.execParityScan
  · exact h.execBrambleCompareMismatch
  · exact h.execBrmSelfTest
  · exact h.execBrmTestCheck
  · exact h.execMsgNext
  · exact h.execFaultLogFlush
  · exact h.execMgmtWatchdog
  · exact h.execArpRequest
  · exact h.execIcmpEcho
  · exact h.execEthLinkDown
  · exact h.execCanFrameReceive
  · exact h.execSegmentTimeout
  · exact h.execCanBusoff
  · exact h.execCanBusoffRecover
  · exact h.execOnothRequestArrive
  · exact h.execRead
  · exact h.execWrite
  · exact h.execReadSnap
  · exact h.execDomRead
  · exact h.execDomBegin
  · exact h.execDomWrite
  · exact h.execDomEnd
  · exact h.execDomAbort
  · exact h.execDomSessionTimeout
  · exact h.execRequestWaitTimeout
  · exact h.execEnvelopeReceive
  · exact h.execEnvTimerExpiry
  · exact h.execEnvelopeProduce
  · exact h.execEnvConfigWrite
  · exact h.execCommissionEnter
  · exact h.execCommissionLeave
  · exact h.execDictStore
  · exact h.execDefaults
  · exact h.execSeal
  · exact h.execUnseal
  · exact h.execRollbackAdv
  · exact h.execClearPeak
  · exact h.execRisenClear
  · exact h.execAttentionEval
  · exact h.execLoadUpdate
  · exact h.execHspiDoor
  · exact h.execTunnelPost
  · exact h.execTunnelTake
  · exact h.execTunnelAck
  · exact h.execMbxDoor
  · exact h.execMbxSeen
  · exact h.execMbxAck
  · exact h.execMbxCfgWrite
  · exact h.execMbxEprst
  · exact h.execMgmtCoreReset
  · exact h.execLockAcquire
  · exact h.execLockRelease
  · exact h.execLockForce
  · exact h.execCvuStart
  · exact h.execCvuDin8
  · exact h.execCvuDin16
  · exact h.execCvuDin32
  · exact h.execCvuFeedComplete
  · exact h.execCvuRawWrite
  · exact h.execCvuAliveInc
  · exact h.execCvuAchkWrite
  · exact h.execCvuAcfgWrite
  · exact h.execEthLinkUp
  · exact h.execSectorProgramComplete
  · exact h.execTrimDue

/-! ### A step -/

theorem State.HasUnits.idle (h : s.HasUnits) : s.idle.HasUnits := h.upd

theorem State.HasUnits.step (h : s.HasUnits) : EndsWithUnits (step s) := by
  unfold Machine.step
  split
  · exact .next h.idle
  · exact State.HasUnits.exec h.upd

end Sys2Proof.Machine

namespace Sys2Proof

open Machine

/-- Settles O59: no operation of the model makes one of these lists longer or shorter; what a reset puts back has the device's
length. -/
theorem unitsKeepTheirNumber : Obligations.UnitsKeepTheirNumber := fun _ t hs ht =>
  ((State.HasUnits.mk hs).step t ht).shaped

end Sys2Proof

end

section
/-!
The levels of the WAKE pins through a reset (R79, R89, R90): an AON power-on reset does not move the pins, and PWR_WAKESTAT.PIN_LVL shows the level
of each under the polarity that the reset has put back.
-/

namespace Sys2Proof.Machine

/-- PIN_LVL of four pins under the polarity at reset, active high: bit n is the level of pin n. -/
def pinLevels (pins : List WakePin) : Nat :=
  (List.range 4).foldl (fun w n => w + 2 ^ n * b2n (pins.getD n {}).high) 0

theorem pinLevels_lt (pins : List WakePin) : pinLevels pins < 16 := by
  have hbit (n : Nat) := b2n_lt (pins.getD n {}).high
  have h0 := hbit 0
  have h1 := hbit 1
  have h2 := hbit 2
  have h3 := hbit 3
  rw [pinLevels, show List.range 4 = [0, 1, 2, 3] from rfl]
  simp only [List.foldl_cons, List.foldl_nil]
  omega

/-- Where PWR_WAKECFG reads its reset value, every pin is active high. -/
theorem State.pinActive_of_reset {s : State} (h : s.reg R.PWR_WAKECFG = resetWord R.PWR_WAKECFG) {n : Nat} (hn : n < 4) (p : WakePin) :
    s.pinActive n p = p.high := by
  have hpol : s.bitR R.PWR_WAKECFG (8 * n + 1) = false := by
    rw [State.bitR, State.regN, h]
    interval_cases n <;> decide +kernel
  simp [State.pinActive, hpol]

theorem State.rd_PIN_LVL_showPins {s : State} (h : s.reg R.PWR_WAKECFG = resetWord R.PWR_WAKECFG) :
    s.showPins.rd F.PWR_WAKESTAT_PIN_LVL = pinLevels s.pwr.pins := by
  have hactive : (List.range 4).foldl (fun w n => w + 2 ^ n * b2n (s.pinActive n (s.pwr.pins.getD n {}))) 0 = pinLevels s.pwr.pins :=
    List.foldl_ext _ _ _ fun _ n hn => by rw [State.pinActive_of_reset h (List.mem_range.mp hn)]
  rw [State.showPins, State.rd_wr_same _ _ _ (by decide) (by decide), hactive]
  exact Nat.mod_eq_of_lt (pinLevels_lt _)

/-- A reset leaves the level of every pin. -/
theorem State.pinLevels_pinsCold (s : State) : pinLevels s.pinsCold = pinLevels s.pwr.pins :=
  List.foldl_ext _ _ _ fun _ n _ => by
    rw [State.pinsCold, List.getD_eq_getElem?_getD, List.getD_eq_getElem?_getD, List.getElem?_map]
    cases s.pwr.pins[n]? <;> rfl

/-- After an AON power-on reset PIN_LVL shows the levels at which the pins stood before it. -/
theorem rd_PIN_LVL_aonPowerOnReset {s t : State} {mv : Nat} (h : exec (.aonPowerOnReset mv) s = .next t) :
    t.rd F.PWR_WAKESTAT_PIN_LVL = pinLevels s.pwr.pins := by
  rw [exec, execAonPowerOnReset] at h
  rw [← Host.Outcome.next.inj h, State.rd_PIN_LVL_showPins (by rfl)]
  exact s.pinLevels_pinsCold

/-- The machine out of reset, after WAKE0 has gone high. -/
def wakeHigh : State := State.reset.samplePins 1

theorem exec_wakePinQualify_reset : exec (.wakePinQualify 0 1) State.reset = .next wakeHigh := by rfl

theorem pinLevels_wakeHigh : pinLevels wakeHigh.pwr.pins = 1 := by decide +kernel

end Sys2Proof.Machine

namespace Sys2Proof
open Machine

/-- Refutes O14: PIN_LVL of PWR_WAKESTAT shows the levels of the pins, which a reset does not move (R89), so with WAKE0 high an AON power-on reset
leaves it at 1 and not at its reset value. -/
theorem not_resetsReachDormant : ¬Obligations.ResetsReachDormant := by
  intro ⟨hpower, _⟩
  obtain ⟨t, ht, -, -, hreset, -⟩ := hpower wakeHigh 0
  have hshown : t.rd F.PWR_WAKESTAT_PIN_LVL = 1 := (rd_PIN_LVL_aonPowerOnReset ht).trans pinLevels_wakeHigh
  rw [State.rd, State.regN, hreset] at hshown
  exact absurd hshown (by decide +kernel)

end Sys2Proof
end

section
/-!
The state after a reset (R79).
-/

namespace Sys2Proof
open Machine

/-- Settles O3: every bank and every list of commands is empty, so that a register reads its reset value, and the units stand in full number. -/
theorem resetState : Obligations.ResetState := by
  have hempty {α : Type} (dflt : Nat → α) : Sparse.Wf dflt [] := ⟨.nil, by simp⟩
  have hcanonical : State.reset.Canonical := ⟨hempty _, hempty _, hempty _, hempty _, hempty _⟩
  exact ⟨by decide +kernel, rfl, fun _ => rfl, by decide +kernel, by decide +kernel, by decide +kernel, rfl, rfl, hcanonical,
    hasUnits_reset.shaped⟩

end Sys2Proof
end

section
/-!
A clock that deviates while its source is of class DARK (R36, R391).
-/

namespace Sys2Proof.Machine

/-- A window in which the management clock stands still. -/
def mgmtStands : List ClockCount := [⟨.mgmt, 0⟩]

theorem exec_clockMonWindow_off {s : State} {counts : List ClockCount} (h : (s.on .mgmt && s.clocks.any (clockOff counts)) = true) :
    exec (.clockMonWindow counts) s = .next (s.raise Src.CLOCK_MON) := by
  rw [exec, execClockMonWindow, h]
  rfl

/-- The deviation raises CLOCK_MON, which reaches SAT_CH_ERRCNT of the busy chain. -/
theorem darkOnBusyLine_clockMon :
    ((darkOnBusyLine Src.CLOCK_MON).raise Src.CLOCK_MON).reg (R.SAT_CH_ERRCNT 0)
      ≠ (darkOnBusyLine Src.CLOCK_MON).reg (R.SAT_CH_ERRCNT 0) := by decide +kernel

end Sys2Proof.Machine

namespace Sys2Proof
open Machine

/-- Refutes O15: CLOCK_MON configured as class DARK, a clock that stands still in RUN makes the chains send OFF, and the chain whose line is
not idle counts a collision outside the blocks of fault handling. -/
theorem not_domainsPowerUpAndDown : ¬Obligations.DomainsPowerUpAndDown := by
  intro ⟨_, _, _, _, hclock, _⟩
  have hon : (darkOnBusyLine Src.CLOCK_MON).on .mgmt = true := by decide +kernel
  obtain ⟨t, ht, -, hframe⟩ := hclock (darkOnBusyLine Src.CLOCK_MON) mgmtStands .mgmt 0 hon (by decide +kernel) (by simp [State.clocks]) rfl
    (by decide)
  have hexec : exec (.clockMonWindow mgmtStands) (darkOnBusyLine Src.CLOCK_MON) = .next ((darkOnBusyLine Src.CLOCK_MON).raise Src.CLOCK_MON) :=
    exec_clockMonWindow_off (by decide +kernel)
  exact darkOnBusyLine_clockMon (next_unique ht hexec ▸ hframe.1 _ (by decide))

end Sys2Proof
end

section
/-!
Sleep entry over a deferred program (R92): firmware abandons it and clears the wake flags before it hands changed retained values to the
flash writer.
-/

namespace Sys2Proof.Machine

/-- A machine in STANDBY with firmware running: the core supply plan waits behind a deferred check, the flag of the wake timer is set, and RISEN
has changed since the last store. -/
def sleepsOverDeferred : State :=
  { (((({} : State).wr F.PWR_DOMSTAT_ON 0x2F).wr F.BIST_BOOT_DONE 1).wr F.PWR_MODE_MODE Mode.standby.num).wr F.PWR_WAKESTAT_TIMER 1 with
    flash := { jobs := [{ kind := .plan 800, base := 0x01800000, mapId := 0x50, seq := 1, payload := planPayload 800 }], deferred := some 0 }
    dict := { loaded := true, risen := 1 } }

theorem exec_sleepRequest {s : State} (h : s.firmwareUp = true) :
    exec .sleepRequest s = .next (s.sleepRequest.2.answer 0x2001 2 s.sleepRequest.1) := by
  simp [exec, execSleepRequest, h]

/-- The store of the retained values waits in the place of the abandoned program. -/
theorem sleepsOverDeferred_jobs :
    (sleepsOverDeferred.sleepRequest.2.answer 0x2001 2 sleepsOverDeferred.sleepRequest.1).flash.jobs.isEmpty = false := by decide +kernel

/-- The flag of the wake timer is cleared all the same. -/
theorem sleepsOverDeferred_wakestat :
    (sleepsOverDeferred.sleepRequest.2.answer 0x2001 2 sleepsOverDeferred.sleepRequest.1).reg R.PWR_WAKESTAT
      ≠ sleepsOverDeferred.reg R.PWR_WAKESTAT := by decide +kernel

end Sys2Proof.Machine

namespace Sys2Proof
open Machine

/-- Refutes O13: a sleep request that finds a deferred program abandons it, and with nothing left for flash clears PWR_WAKESTAT; the store of
changed values that it queues next then waits with the flags cleared already, where the fourth clause says that they stand. -/
theorem not_wakeAndSleep : ¬Obligations.WakeAndSleep := by
  intro ⟨_, _, _, hsleep, _⟩
  have hup : sleepsOverDeferred.firmwareUp = true := by decide +kernel
  obtain ⟨t, ht, -, -, -, hwaits, -⟩ := hsleep sleepsOverDeferred hup (by decide +kernel) (by decide +kernel)
  obtain rfl := next_unique ht (exec_sleepRequest hup)
  obtain ⟨hkept, -⟩ := hwaits (List.isEmpty_eq_false_iff.mp sleepsOverDeferred_jobs)
  exact sleepsOverDeferred_wakestat hkept

end Sys2Proof
end

section
/-!
The start of a sector program (R327, R342): the first sector of a store takes the slot that is not the newest valid one at that moment.
-/

namespace Sys2Proof.Machine

theorem State.flash_ite {c : Prop} [Decidable c] {s t u : State} (ht : t.flash = s.flash) (hu : u.flash = s.flash) :
    (if c then t else u).flash = s.flash := by split <;> assumption

theorem State.flash_noteHold (s : State) (e result : Nat) : (s.noteHold e result).flash = s.flash :=
  have hshown : ((s.wr F.ENG_HOLDSTAT_EAVAIL (satNat 16 e)).wr F.ENG_HOLDSTAT_RESULT result).flash = s.flash :=
    (State.wr_flash ..).trans (State.wr_flash ..)
  State.flash_ite (State.flash_ite ((State.bump_flash ..).trans hshown) hshown) rfl

theorem State.flash_storeResumes (s : State) : s.storeResumes.flash = s.flash := State.flash_ite (State.wr_flash ..) rfl

/-- What the check before a sector program asks for (R327, R328). -/
abbrev State.MayProgram (s : State) (vholdUv : Nat) : Prop :=
  (s.known .drv F.ENG_HOLD_C_UF != 0 && s.known .drv F.ENG_HOLDMIN_MIN_UJ ≤ s.holdupEnergy vholdUv && !s.pwr.supplyLost && !s.flash.held) = true

/-- The program that starts goes where the placed job says, and not where the job says that waited. -/
theorem State.prog_checkProgram {s : State} {v : Nat} {j : FlashJob} {rest : List FlashJob} (hj : s.flash.jobs = j :: rest)
    (hmay : s.MayProgram v) :
    (s.checkProgram v).flash.prog.map SectorProg.at_ = some ((s.placeJob j).base + 4096 * (s.placeJob j).index) := by
  unfold State.checkProgram
  simp only [hj]
  rw [if_pos hmay, State.flash_noteHold, State.flash_storeResumes]
  rfl

theorem exec_flashSectorProgram {s : State} (v : Nat) (hon : s.on .mgmt = true) (hprog : s.flash.prog = none) (hdef : s.flash.deferred = none)
    (hstore : s.dict.storeDue = false) (hload : s.dict.deferring = false) : exec (.flashSectorProgram v) s = .next (s.checkProgram v) := by
  simp [exec, execFlashSectorProgram, State.takeDueStore, State.loadDefers, hon, hprog, hdef, hstore, hload]

/-- A core supply plan that was queued for slot B. -/
def planForB : FlashJob := { kind := .plan 800, base := 0x01801000, mapId := 0x50, seq := 2, payload := planPayload 800 }

/-- It waits with firmware's domain and DRV on and 1,000 µF at the hold-up rail, while neither slot of the flash is valid. -/
def planWaits : State := { (({} : State).wr F.PWR_DOMSTAT_ON 0x82F).wr F.ENG_HOLD_C_UF 1000 with flash := { jobs := [planForB] } }

/-- With neither slot valid the plan goes into slot A. -/
theorem placeJob_planWaits : (planWaits.placeJob planForB).base = 0x01800000 := by decide +kernel

/-- At 16 V the hold-up rail holds enough. -/
theorem planWaits_mayProgram : planWaits.MayProgram 1000000 := by decide +kernel

end Sys2Proof.Machine

namespace Sys2Proof
open Machine

/-- Refutes O28: a job at its first sector is placed anew when its program starts (R342), so the program of a plan that was queued for slot B,
and finds no valid slot, starts in slot A and not at the base that the waiting job names, as the first clause says. -/
theorem not_flashProgramsAndSupplyLoss : ¬Obligations.FlashProgramsAndSupplyLoss := by
  intro ⟨hstart, _⟩
  have hon : planWaits.on .mgmt = true := by decide +kernel
  obtain ⟨t, ht, ⟨p, hp, hat, -⟩, -⟩ := hstart planWaits 1000000 planForB [] hon (by decide +kernel) rfl rfl rfl rfl rfl (by decide +kernel)
    (by decide +kernel) rfl rfl
  obtain rfl := next_unique ht (exec_flashSectorProgram 1000000 hon rfl rfl rfl rfl)
  have hplaced := State.prog_checkProgram (s := planWaits) rfl planWaits_mayProgram
  rw [hp, Option.map_some, hat, placeJob_planWaits] at hplaced
  exact absurd hplaced (by decide +kernel)

end Sys2Proof
end

section
/-!
A message that firmware posts in the cycle of its own endpoint reset is posted and withdrawn (R462, R464), through the dictionary as well (R463).
-/

namespace Sys2Proof.Machine

theorem exec_tunnelPost {s : State} (n : Nat) (bs : List Byte) (hup : s.firmwareUp = true)
    (hc : (s.writeObject (0xB000 + n) 1 bs).1 ≠ codeBUSY) :
    exec (.tunnelPost n bs) s
      = .next ((s.writeObject (0xB000 + n) 1 bs).2.answer (0xB000 + n) 1 (s.writeObject (0xB000 + n) 1 bs).1) := by
  rw [exec, execTunnelPost, State.serveAs, if_pos hup, if_neg hc]

/-- Firmware runs, channel 0 is an enabled tunnel that it sends on, and an endpoint reset of it has come in this cycle. -/
def resetAsItPosts : State :=
  { ((((({ now := 1000 } : State).wr F.PWR_DOMSTAT_ON 0x2F).wr F.BIST_BOOT_DONE 1).wr (F.MBX_CH_CFG_SENDER 0) 1).wr (F.MBX_CH_CFG_EN 0) 1).wr
      (F.MBX_CH_CFG_TUNNEL 0) 1 with
    mbx := { epAt := [none, some 1000, none] } }

theorem resetAsItPosts_code : (resetAsItPosts.writeObject (0xB000 + 0) 1 [0#8]).1 = codeOK := by decide +kernel

/-- The posted message does not wait. -/
theorem resetAsItPosts_withdrawn :
    ((resetAsItPosts.writeObject (0xB000 + 0) 1 [0#8]).2.answer (0xB000 + 0) 1 (resetAsItPosts.writeObject (0xB000 + 0) 1 [0#8]).1).flag
      (F.MBX_CH_STAT_FULL 0) = false := by decide +kernel

end Sys2Proof.Machine

namespace Sys2Proof
open Machine

/-- Refutes O58: a message posted through a tunnel in the cycle of an endpoint reset of firmware is withdrawn at once, and FULL reads 0 where
the clause on POST says 1. -/
theorem not_dictionaryCommands : ¬Obligations.DictionaryCommands := by
  intro ⟨_, _, _, _, _, _, _, _, _, _, _, _, _, _, _, _, _, _, _, hpost, _⟩
  have hup : resetAsItPosts.firmwareUp = true := by decide +kernel
  obtain ⟨t, ht, hfull, -⟩ := hpost resetAsItPosts 0 [0#8] hup (by decide) (by decide +kernel) (by decide +kernel) (by decide +kernel) (by decide)
    (by decide) (by decide +kernel)
  obtain rfl := next_unique ht (exec_tunnelPost 0 [0#8] hup (by rw [resetAsItPosts_code]; decide))
  exact absurd hfull (by simp [resetAsItPosts_withdrawn])

end Sys2Proof
end

section
/-!
A channel of the hardware Husk path that fails step 1 (R96, R98): HWHUSK_FAIL is of class DARK, and DARK makes every satellite chain send OFF.
-/

namespace Sys2Proof.Machine

/-- Wn_LR above 0.2 V 100 µs after the low-side switch has closed fails the channel. -/
theorem exec_hwhuskLowsideCheck_late {s : State} {ch mv u : Nat} (hstep : s.hwN ch = .lowside u) (hhigh : 200 < mv) (hlate : u + 60000 ≤ s.now) :
    exec (.hwhuskLowsideCheck ch mv) s = .next (s.hwFail ch) := by
  have hpast : s.since u (usec 100) = true := decide_eq_true hlate
  have hbad : ¬mv ≤ 200 := by omega
  simp [exec, execHwhuskLowsideCheck, hstep, hpast, hbad]

/-- PREPARE on the path to RUN with every domain on: channel 0 has had its low-side switch closed for 100 µs, while chain 0 is enabled and a frame
is still out on it. -/
def lowsideOnBusyLine : State :=
  { ((({ now := 60000 } : State).wr F.PWR_DOMSTAT_ON 0xFFF).wr F.PWR_MODE_MODE Mode.prepare.num).wr (F.SAT_CH_CTRL_EN 0) 1 with
    pwr := { pwrEn := true, prep := some { toRun := true } }
    boot := { hw := [.lowside 0, .idle, .idle, .idle] }
    sat := { chains := { out := some { cmd := 0, until_ := 70000 } } :: List.replicate 3 {} } }

/-- The failure takes the machine to DARK, and the OFF frame of chain 0 counts a collision. -/
theorem lowsideOnBusyLine_hwFail :
    (lowsideOnBusyLine.hwFail 0).reg (R.SAT_CH_ERRCNT 0) ≠ lowsideOnBusyLine.reg (R.SAT_CH_ERRCNT 0) := by decide +kernel

end Sys2Proof.Machine

namespace Sys2Proof
open Machine

/-- Refutes O16: a channel that fails step 1 raises HWHUSK_FAIL, of class DARK by default; the chains send OFF, and the chain whose line is not idle
counts a collision in SAT_CH_ERRCNT, outside the blocks of fault handling that the fourth clause lists. -/
theorem not_hardwareHuskPath : ¬Obligations.HardwareHuskPath := by
  intro ⟨_, _, _, hfail, _⟩
  have hstep : lowsideOnBusyLine.hwN 0 = .lowside 0 := rfl
  obtain ⟨t, ht, -, -, -, hframe⟩ := hfail lowsideOnBusyLine 0 201 0 (by decide) hstep rfl (by decide) (by decide) (by decide +kernel)
  have hexec := exec_hwhuskLowsideCheck_late hstep (show 200 < 201 by decide) (by decide)
  exact lowsideOnBusyLine_hwFail (next_unique ht hexec ▸ hframe.1 _ (by decide))

end Sys2Proof
end

section
/-!
The steps of PREPARE go on within the command that makes the next one due (R102): once the tests are over and the links trained, the island turns
the sequencer of the switch tests on and begins the round (R312, R377), in SAF_SWCTL.
-/

namespace Sys2Proof.Machine

/-- The round of step 12 turns the sequencer on. -/
theorem State.flag_SEQ_EN_seqOn {s : State} {p : Prep} (hp : s.pwr.prep = some p)
    (hdue : (s.mode != .prepare || !p.toRun || p.swRound || !s.flag F.SAF_STATE_READY) = false) :
    s.seqOn.flag F.SAF_SWCTL_SEQ_EN = true := by
  have hset : (s.wr F.SAF_SWCTL_SEQ_EN 1).rd F.SAF_SWCTL_SEQ_EN = 1 := s.rd_wr_same _ 1 (by decide) (by decide)
  simp only [State.seqOn, hp, hdue, Bool.false_eq_true, if_false]
  exact bne_iff_ne.mpr (hset.trans_ne one_ne_zero)

/-- Where firmware neither starts nor waits for the first sheaf, the steps go on with the round. -/
theorem State.goOn_eq_seqOn {s : State} (hstart : (s.firmwareUp && !s.dict.loaded && s.islandSettled) = false)
    (hround : (s.mode == .prepare && s.linksOver && s.stepDue 12) = true)
    (hsheaf : (s.seqOn.firmwareUp && (s.seqOn.mode != .prepare || (s.seqOn.replaySteps && s.seqOn.stepDue 13))) = false) :
    s.goOn = s.seqOn := by
  simp only [State.goOn, hstart, hround, hsheaf, Bool.false_eq_true, if_false, if_true]

/-- A cold PREPARE on the path to RUN with the tests over, no port enabled and the island READY, in which firmware has not started. -/
def bootsBesideIsland : State :=
  { ((({} : State).wr F.PWR_DOMSTAT_ON 0xFFF).wr F.PWR_MODE_MODE Mode.prepare.num).wr F.SAF_STATE_READY 1 with
    pwr := { pwrEn := true, prep := some { cold := true, toRun := true, tested := [2, 3, 4, 5, 6, 7, 8, 9, 10] } } }

theorem exec_secureBoot (s : State) (readErrA readErrB : Bool) :
    exec (.secureBoot readErrA readErrB) s = .next (s.secureBoot readErrA readErrB).goOn := rfl

/-- With both headers unreadable the boot ROM enters recovery, and the steps go on with the round. -/
theorem bootsBesideIsland_goOn : (bootsBesideIsland.secureBoot true true).goOn.flag F.SAF_SWCTL_SEQ_EN = true := by
  rw [State.goOn_eq_seqOn (by decide +kernel) (by decide +kernel) (by decide +kernel)]
  exact State.flag_SEQ_EN_seqOn (p := { cold := true, toRun := true, tested := [2, 3, 4, 5, 6, 7, 8, 9, 10] }) rfl (by decide +kernel)

/-- A PREPARE from STANDBY to RUN with the island READY and no port enabled, in which target 10 is the last to be tested. -/
def lastTestDue : State :=
  { (((({} : State).wr F.PWR_DOMSTAT_ON 0xFFF).wr F.PWR_MODE_MODE Mode.prepare.num).wr F.SAF_STATE_READY 1).wr F.BIST_BOOT_DONE 1 with
    pwr := { pwrEn := true, prep := some { toRun := true, tested := [5, 6, 7, 8, 9] } }
    dict := { loaded := true } }

theorem bistNow_lastTestDue : lastTestDue.bistNow 10 = some ({ target := 10 }, lastTestDue.newRecord 10) := by decide +kernel

theorem exec_bistSliceEnd_lastTestDue :
    exec (.bistSliceEnd 10 ⟨5, .pass⟩) lastTestDue = .next (lastTestDue.bistSlice 10 ⟨5, .pass⟩).goOn := by
  have hgme : ((lastTestDue.bistSlice 10 ⟨5, .pass⟩).bistBad 7 && !lastTestDue.bistBad 7) = false := by decide +kernel
  have hisland : (((lastTestDue.bistSlice 10 ⟨5, .pass⟩).bistFailed 0 && !lastTestDue.bistFailed 0) ||
      ((lastTestDue.bistSlice 10 ⟨5, .pass⟩).bistFailed 1 && !lastTestDue.bistFailed 1)) = false := by decide +kernel
  simp only [exec, execBistSliceEnd, hgme, hisland, Bool.false_eq_true, if_false]

/-- With its one slice passed the tests are over, and the steps go on with the round. -/
theorem lastTestDue_goOn : (lastTestDue.bistSlice 10 ⟨5, .pass⟩).goOn.flag F.SAF_SWCTL_SEQ_EN = true := by
  rw [State.goOn_eq_seqOn (by decide +kernel) (by decide +kernel) (by decide +kernel)]
  exact State.flag_SEQ_EN_seqOn (p := { toRun := true, tested := [10, 5, 6, 7, 8, 9] }) (by decide +kernel) (by decide +kernel)

end Sys2Proof.Machine

namespace Sys2Proof
open Machine

/-- Refutes O17: the boot ROM's command ends with what is due of PREPARE; in recovery, with the island READY, the tests over and the links done,
the round of switch tests begins and sets SEQ_EN of SAF_SWCTL, which is none of the registers that the first clause lists. -/
theorem not_secureBootAndRecovery : ¬Obligations.SecureBootAndRecovery := by
  intro ⟨hrecovery, _⟩
  obtain ⟨t, ht, -, -, -, -, -, hframe⟩ := hrecovery bootsBesideIsland true true (by decide +kernel) (by decide) (by decide)
  have hset : t.flag F.SAF_SWCTL_SEQ_EN = true := next_unique ht (exec_secureBoot ..) ▸ bootsBesideIsland_goOn
  rw [State.flag, hframe.rd_eq (by decide)] at hset
  exact absurd hset (by decide +kernel)

/-- Refutes O18: the last test of PREPARE passes, and in the same command the round of switch tests of step 12 begins and sets SEQ_EN of SAF_SWCTL,
a register outside block 3, to which the fourth clause confines the command. -/
theorem not_selfTestAndTestPort : ¬Obligations.SelfTestAndTestPort := by
  intro ⟨_, _, _, hpass, _⟩
  obtain ⟨t, ht, -, -, -, -, -, -, hframe⟩ := hpass lastTestDue (lastTestDue.newRecord 10) 10 ⟨5, .pass⟩ { target := 10 } (by decide)
    bistNow_lastTestDue rfl rfl rfl rfl (by decide)
  have hset : t.flag F.SAF_SWCTL_SEQ_EN = true := next_unique ht exec_bistSliceEnd_lastTestDue ▸ lastTestDue_goOn
  rw [State.flag, State.rd, State.regN, hframe F.SAF_SWCTL_SEQ_EN.addr (by decide)] at hset
  exact absurd hset (by decide +kernel)

end Sys2Proof
end

section
/-!
What a MAC does with a received frame (R35, R116–R118, R403): it is not taken, or counted at a full queue, or goes on with its class and stamp.
-/

namespace Sys2Proof.Machine

variable {s : State}

theorem OnlyRegs.bump {l : List Nat} {t : State} (h : OnlyRegs l s t) {f : Fld} (hf : f.addr ∈ l) : OnlyRegs l s (t.bump f) := h.wr hf _

/-- A wrapping counter advances by one. -/
theorem State.rd_bump_same (s : State) (f : Fld) (hi : f.hi < 32) (hl : f.lo ≤ f.hi) :
    (s.bump f).rd f = (s.rd f + 1) % 2 ^ (f.hi + 1 - f.lo) := s.rd_wr_same f _ hi hl

theorem State.receive_not_taken {f : EthFrame} (h : s.macOn f.mac = false ∨ f.sound = false ∨ s.addrAccepts f = false) :
    s.receive f = s := by
  rcases h with h | h | h <;> simp [State.receive, h]

section
variable {f : EthFrame} (hmac : s.macOn f.mac = true) (hsound : f.sound = true) (hdst : s.addrAccepts f = true)
include hmac hsound hdst

theorem State.receive_queueFull (hq : f.queueFull = true) :
    s.receive f = s.bump (if f.mac = 0 then F.VIN_DROP_ERX0 else F.VIN_DROP_ERX1) := by
  simp [State.receive, hmac, hsound, hdst, hq]

/-- Other AVTP frames are counted and dropped, so a frame whose class is not to be dropped leaves no count. -/
theorem State.receive_goesOn (hq : f.queueFull = false) (hc : s.classify f ≠ .dropped) :
    s.receive f = s.emit (.received f.mac (s.classify f) s.localTime) := by
  have hbody : (f.body == .avtpOther) = false := beq_false_of_ne fun h => hc (by simp [State.classify, h])
  simp [State.receive, hmac, hsound, hdst, hq, hbody, hc]

end

/-- The queue of a MAC hands frames on inside the device, through no pad. -/
theorem State.emit_received_sent (s : State) (mac : Nat) (c : RxClass) (at_ : Nat) :
    (s.emit (.received mac c at_)).sent = .received mac c at_ :: s.sent := rfl

/-- The drop counter of either MAC is eight bits of VIN_DROP. -/
theorem State.bump_ERX_counts (s : State) (mac : Nat) :
    (s.bump (if mac = 0 then F.VIN_DROP_ERX0 else F.VIN_DROP_ERX1)).rd (if mac = 0 then F.VIN_DROP_ERX0 else F.VIN_DROP_ERX1)
        = (s.rd (if mac = 0 then F.VIN_DROP_ERX0 else F.VIN_DROP_ERX1) + 1) % 256 ∧
      OnlyRegs [R.VIN_DROP] s (s.bump (if mac = 0 then F.VIN_DROP_ERX0 else F.VIN_DROP_ERX1)) := by
  split
  · exact ⟨s.rd_bump_same F.VIN_DROP_ERX0 (by decide) (by decide), (OnlyRegs.refl _ s).bump (by decide)⟩
  · exact ⟨s.rd_bump_same F.VIN_DROP_ERX1 (by decide) (by decide), (OnlyRegs.refl _ s).bump (by decide)⟩

theorem exec_ethFrameReceive (f : EthFrame) (s : State) : exec (.ethFrameReceive f) s = .next (s.receive f) := rfl

end Sys2Proof.Machine

namespace Sys2Proof
open Machine

/-- Settles O32: the three ways of a frame are the three branches of `State.receive`. -/
theorem framesArriveAndAreRouted : Obligations.FramesArriveAndAreRouted := by
  refine ⟨fun s f hnot => ?_, fun s f hmac hsound hdst hq => ?_, fun s f hmac hsound hdst hq hc => ?_⟩ <;>
    refine ⟨_, exec_ethFrameReceive f s, ?_⟩
  · exact State.receive_not_taken hnot
  · rw [State.receive_queueFull hmac hsound hdst hq]
    obtain ⟨hcount, hframe⟩ := s.bump_ERX_counts f.mac
    exact ⟨hcount, s.bump_sent _, hframe⟩
  · rw [State.receive_goesOn hmac hsound hdst hq hc]
    exact ⟨s.emit_received_sent .., OnlyRegs.refl _ _⟩

end Sys2Proof
end

section
/-!
The parser of object lists (R129–R131): how a list is taken up, waits or takes the place of the waiting one, and how one is rejected.
-/

namespace Sys2Proof.Machine

/-! ### A rejected list (R129) -/

theorem State.rd_CAUSE_rejectList (s : State) {c : Nat} (hc : c < 16) : (s.rejectList c).rd F.VIN_OLSTAT_CAUSE = c :=
  (State.rd_wr_same _ F.VIN_OLSTAT_CAUSE c (by decide) (by decide)).trans (Nat.mod_eq_of_lt hc)

theorem State.rd_REJECTED_rejectList (s : State) (c : Nat) :
    (s.rejectList c).rd F.VIN_OLCNT_REJECTED = (s.rd F.VIN_OLCNT_REJECTED + 1) % 65536 :=
  (State.rd_wr_addr _ F.VIN_OLSTAT_CAUSE F.VIN_OLCNT_REJECTED c (by decide)).trans
    (s.rd_bump_same F.VIN_OLCNT_REJECTED (by decide) (by decide))

@[simp] theorem State.rejectList_vin (s : State) (c : Nat) : (s.rejectList c).vin = s.vin :=
  (State.wr_vin ..).trans (State.bump_vin ..)

theorem State.onlyRegs_rejectList (s : State) (c : Nat) : OnlyRegs [R.VIN_OLSTAT, R.VIN_OLCNT] s (s.rejectList c) :=
  ((OnlyRegs.refl _ s).bump (f := F.VIN_OLCNT_REJECTED) (by decide)).wr (f := F.VIN_OLSTAT_CAUSE) (by decide) c

theorem State.rd_setVin (s : State) (v : Vin) (f : Fld) : ({ s with vin := v } : State).rd f = s.rd f := State.rd_of_regs rfl f

theorem OnlyRegs.setVin (l : List Nat) (s : State) (v : Vin) : OnlyRegs l s { s with vin := v } :=
  ⟨fun a _ => State.reg_of_regs rfl a, fun _ => rfl⟩

/-! ### A list arrives (R131) -/

variable {s : State} (ip : Nat) (ok copy : Bool) (bs : List Byte)

/-- At an idle parser it is taken up. -/
theorem State.listArrives_idle (hc : s.vin.checking = none) :
    (s.listArrives ip ok copy bs).vin.checking = some ⟨ip, ok, copy, bs, s.localTime⟩ ∧
      OnlyRegs [] s (s.listArrives ip ok copy bs) := by
  simp only [State.listArrives, hc]
  exact ⟨trivial, OnlyRegs.setVin ..⟩

/-- Behind the list that is checked it waits. -/
theorem State.listArrives_waits {y : OlArrived} (hc : s.vin.checking = some y) (hw : s.vin.waiting = none) :
    (s.listArrives ip ok copy bs).vin.checking = some y ∧
      (s.listArrives ip ok copy bs).vin.waiting = some ⟨ip, ok, copy, bs, s.localTime⟩ ∧ OnlyRegs [] s (s.listArrives ip ok copy bs) := by
  simp only [State.listArrives, hc, hw]
  exact ⟨trivial, trivial, OnlyRegs.setVin ..⟩

/-- It takes the place of a list that waits, which counts as rejected with cause 10 SUPERSEDED. -/
theorem State.listArrives_supersedes {y z : OlArrived} (hc : s.vin.checking = some y) (hw : s.vin.waiting = some z) :
    (s.listArrives ip ok copy bs).vin.checking = some y ∧
      (s.listArrives ip ok copy bs).vin.waiting = some ⟨ip, ok, copy, bs, s.localTime⟩ ∧
      (s.listArrives ip ok copy bs).rd F.VIN_OLSTAT_CAUSE = 10 ∧
      (s.listArrives ip ok copy bs).rd F.VIN_OLCNT_REJECTED = (s.rd F.VIN_OLCNT_REJECTED + 1) % 65536 ∧
      OnlyRegs [R.VIN_OLSTAT, R.VIN_OLCNT] s (s.listArrives ip ok copy bs) := by
  simp only [State.listArrives, hc, hw, State.rejectList_vin]
  exact ⟨trivial, trivial, State.rd_CAUSE_rejectList _ (by decide), (State.rd_REJECTED_rejectList ..).trans (by rw [State.rd_setVin]),
    (OnlyRegs.setVin ..).trans (State.onlyRegs_rejectList ..)⟩

/-- A list of its own, in no envelope, goes straight to the parser (R126). -/
theorem exec_objectListArrive_plain {d : OlDatagram} (hon : s.on .vin = true) (hen : s.flag F.VIN_CTRL_OL_EN = true)
    (henv : s.flag F.VIN_OLCFG_ENV = false) (hudp : s.udpOpen d.mac = true) :
    exec (.objectListArrive d) s = .next (s.listArrives d.ip false false d.data) := by
  simp [exec, execObjectListArrive, hon, hen, henv, hudp]

end Sys2Proof.Machine

namespace Sys2Proof
open Machine

/-- Settles O34: a list goes to the place that the two places of the parser leave it, and the one that it drives out is rejected. -/
theorem oneObjectListWaits : Obligations.OneObjectListWaits := by
  refine ⟨fun s d hon hen henv hudp hc => ?idle, fun s d x hon hen henv hudp hc hw => ?waits,
    fun s d x y hon hen henv hudp hc hw => ?supersedes, fun s ip ok copy bs x hx => ?every⟩
  case idle => exact ⟨_, exec_objectListArrive_plain hon hen henv hudp, State.listArrives_idle _ _ _ _ hc⟩
  case waits => exact ⟨_, exec_objectListArrive_plain hon hen henv hudp, State.listArrives_waits _ _ _ _ hc hw⟩
  case supersedes => exact ⟨_, exec_objectListArrive_plain hon hen henv hudp, State.listArrives_supersedes _ _ _ _ hc hw⟩
  case every =>
    subst hx
    refine ⟨fun hc => (State.listArrives_idle _ _ _ _ hc).1, fun y hc hw => ?_, fun y z hc hw => ?_⟩
    · obtain ⟨hchecking, hwaiting, -⟩ := State.listArrives_waits ip ok copy bs hc hw
      exact ⟨hchecking, hwaiting⟩
    · obtain ⟨hchecking, hwaiting, hcause, -⟩ := State.listArrives_supersedes ip ok copy bs hc hw
      exact ⟨hchecking, hwaiting, hcause⟩

end Sys2Proof
end

section
/-!
A write to VIN_OLCFG (R129) in a cycle whose marks (R17) name one of its fields.
-/

namespace Sys2Proof.Machine

/-- A PORT and a MAXAGE in range are stored, and the parser skips its sequence comparisons. -/
theorem exec_vinOlcfgWrite_inRange {s : State} {m : Master} {data : Word} (hacc : s.Accepts m R.VIN_OLCFG data)
    (hport : bitsOf data.toNat 15 0 ≠ 0) (honoth : bitsOf data.toNat 15 0 ≠ 48620) (hlow : 1 ≤ bitsOf data.toNat 22 16)
    (hhigh : bitsOf data.toNat 22 16 ≤ 100) :
    exec (.vinOlcfgWrite m data) s = .next { s.store R.VIN_OLCFG data with vin := { s.vin with skip := true } } := by
  have hage : bitsOf data.toNat 22 16 ≠ 0 := by omega
  rw [exec, execVinOlcfgWrite, State.withBus_passes hacc.1 hacc.2]
  simp [State.writeOlcfg, hport, honoth, hage, hhigh]

/-- A machine in RUN with every domain on and PORT of VIN_OLCFG at its reset value, whose list of W1C fields set in this cycle names PORT. -/
def olcfgMarked : State :=
  { ((({} : State).wr F.PWR_DOMSTAT_ON 0xFFF).wr F.PWR_MODE_MODE Mode.run.num) with marks := (0, [F.VIN_OLCFG_PORT]) }

end Sys2Proof.Machine

namespace Sys2Proof
open Machine

/-- Refutes O35: the statement ranges over every state, one that lists PORT among the W1C fields set in this cycle included, and there the write
keeps the bits of PORT that are 1, as R17 has it of W1C bits. PORT is an RW field, so a premise on the marks of VIN_OLCFG is what the fourth clause
lacks. -/
theorem not_objectListsAreParsed : ¬Obligations.ObjectListsAreParsed := by
  intro ⟨_, _, _, hwrite, _⟩
  have hacc : olcfgMarked.Accepts .mgmt R.VIN_OLCFG 0x280100#32 := by decide +kernel
  obtain ⟨t, ht, hport, -⟩ := hwrite olcfgMarked .mgmt 0x280100#32 hacc (by decide) (by decide) (by decide) (by decide)
  obtain rfl := next_unique ht (exec_vinOlcfgWrite_inRange hacc (by decide) (by decide) (by decide) (by decide))
  exact absurd hport (by decide +kernel)

end Sys2Proof
end

section
/-!
The end of HOLDOVER while its source is of class DARK (R134, R391).
-/

namespace Sys2Proof.Machine

/-- 500 ms of HOLDOVER lead to NOSYNC, which raises GPTP_LOST. -/
theorem exec_nosyncEnter_due {s : State} (hon : s.on .net = true) (hstate : s.rd F.VIN_TIMESTAT_STATE = 2)
    (hdue : 300000000 ≤ s.gptp.holdCount + s.holdSpan) :
    exec .nosyncEnter s = .next ((({ s with gptp := { s.gptp with holdFrom := none, holdCount := 0, good := 0 } } : State).wr
      F.VIN_TIMESTAT_STATE 0).raise Src.GPTP_LOST) := by
  have hms : msec 500 ≤ s.gptp.holdCount + s.holdSpan := hdue
  simp [exec, execNosyncEnter, hon, hstate, hms]

/-- That machine after 500 ms of HOLDOVER. -/
def darkAtHoldoverEnd : State :=
  { (darkOnBusyLine Src.GPTP_LOST).wr F.VIN_TIMESTAT_STATE 2 with gptp := { holdCount := 300000000 } }

/-- GPTP_LOST is raised, and reaches SAT_CH_ERRCNT of the busy chain. -/
theorem darkAtHoldoverEnd_gptpLost :
    ((({ darkAtHoldoverEnd with gptp := { darkAtHoldoverEnd.gptp with holdFrom := none, holdCount := 0, good := 0 } } : State).wr
      F.VIN_TIMESTAT_STATE 0).raise Src.GPTP_LOST).reg (R.SAT_CH_ERRCNT 0) ≠ darkAtHoldoverEnd.reg (R.SAT_CH_ERRCNT 0) := by
  decide +kernel

end Sys2Proof.Machine

namespace Sys2Proof
open Machine

/-- Refutes O36: GPTP_LOST configured as class DARK, the end of HOLDOVER in RUN makes the chains send OFF, and the chain whose line is not
idle counts a collision outside the blocks of fault handling. -/
theorem not_networkTime : ¬Obligations.NetworkTime := by
  intro ⟨_, _, _, _, _, _, hlost⟩
  have hon : darkAtHoldoverEnd.on .net = true := by decide +kernel
  have hstate : darkAtHoldoverEnd.rd F.VIN_TIMESTAT_STATE = 2 := by decide +kernel
  have hdue : 300000000 ≤ darkAtHoldoverEnd.gptp.holdCount + darkAtHoldoverEnd.holdSpan := by decide +kernel
  obtain ⟨t, ht, -, -, hframe⟩ := hlost darkAtHoldoverEnd hon (by decide +kernel) hstate hdue
  exact darkAtHoldoverEnd_gptpLost (next_unique ht (exec_nosyncEnter_due hon hstate hdue) ▸ hframe.1 _ (by decide))

end Sys2Proof
end

section
/-!
A frame that claims a buffer of a stream that the device does not have (R121, R122), dropped as its sheaf is disarmed (R153, R164).
-/

namespace Sys2Proof.Machine

theorem exec_sheafDisarm {s : State} {m : Master} {data : Word} (h : s.Accepts m R.LAY_SHEAF data) :
    exec (.sheafDisarm m data) s = .next (s.writeSheaf data) := by
  rw [exec, execSheafDisarm, State.withBus_passes h.1 h.2]

/-- A machine in RUN with every domain on: a sheaf that turns on a solid layer over the whole height of the canvas is armed for frame 7, which stands
composed with it and claims buffer 0 of stream 3072, and the status word of that stream would show the buffer CLAIMED. -/
def strayClaim : State :=
  { (((((({ now := 1000 } : State).wr F.PWR_DOMSTAT_ON 0xFFF).wr F.PWR_MODE_MODE Mode.run.num).wr F.LAY_SHEAFSTAT_STATE 2).setN (R.LAY_L_CTRL 0)
      0x301).setN (R.LAY_L_DSTSIZE 0) 0x4000001).wr (F.VIN_STR_STAT_BUF 3072) 3 with
    cf := { next := some (7, 10000000) }
    sheaf := { target := 7 }
    comp := { frames := [{ num := 7, bands := List.replicate 32 (some true), claims := [some (3072, 0)] }], nextNum := 8 } }

/-- Frame 7 loses all its bands and is dropped, and the end of its claim writes the status word of stream 3072, an address of block 9. -/
theorem strayClaim_disarmed :
    (strayClaim.writeSheaf 2#32).reg (R.VIN_STR_STAT 3072) ≠ strayClaim.reg (R.VIN_STR_STAT 3072) := by decide +kernel

end Sys2Proof.Machine

namespace Sys2Proof
open Machine

/-- Refutes O39: the statement ranges over every state, one whose frame claims a buffer of a stream beyond the eight included; as a DISARM in time
drops that frame (R164), its claim ends outside the blocks that the seventh clause lists. A premise that the claims name streams of the device is what
that clause lacks. -/
theorem not_sheavesAreArmedAndChecked : ¬Obligations.SheavesAreArmedAndChecked := by
  intro ⟨_, _, _, _, _, _, hdisarm, _⟩
  have hacc : strayClaim.Accepts .mgmt R.LAY_SHEAF 2#32 := by decide +kernel
  obtain ⟨t, ht, -, hinTime, -⟩ := hdisarm strayClaim .mgmt 2#32 hacc (by decide) (by decide)
  obtain rfl := next_unique ht (exec_sheafDisarm hacc)
  obtain ⟨-, -, hframe, -⟩ := hinTime (by decide +kernel) (by decide +kernel)
  exact strayClaim_disarmed (hframe _ (by decide))

end Sys2Proof
end

section
/-!
CMP_STAT.CHK_LANE while the checker is off (R173): the stored field keeps the lane of the last checked band.
-/

namespace Sys2Proof.Machine

@[simp] theorem State.modFrame_regs (s : State) (m : Nat) (g : Frame → Frame) : (s.modFrame m g).regs = s.regs := rfl

@[simp] theorem State.keepWindows_regs (s : State) (m c : Nat) (st : List Placed) : (s.keepWindows m c st).regs = s.regs := rfl

theorem State.foldl_setBytes_regs {α : Type} (addr : α → Nat) (bytes : α → List Byte) (l : List α) (s : State) :
    (l.foldl (fun t x => t.setBytes (addr x) (bytes x)) s).regs = s.regs := by
  induction l generalizing s with
  | nil => rfl
  | cons x l ih => rw [List.foldl_cons, ih, State.setBytes_regs]

/-- A band is stored line by line, and the rest of its completion is in the composer's own state. -/
theorem State.writeBand_eq (s : State) (f : Frame) (c : Nat) : ∃ (lines : List (Nat × List Nat)) (st : List Placed) (g : Frame → Frame),
    s.writeBand f c = ((lines.foldl (fun t l => t.setBytes (composedAddr f.num l.1) (l.2.flatMap fun v => leBytes 2 v)) s).keepWindows
      f.num c st).modFrame f.num g := ⟨_, _, _, rfl⟩

theorem State.writeBand_regs (s : State) (f : Frame) (c : Nat) : (s.writeBand f c).regs = s.regs := by
  obtain ⟨lines, st, g, hband⟩ := s.writeBand_eq f c
  rw [hband, State.modFrame_regs, State.keepWindows_regs]
  exact State.foldl_setBytes_regs (fun l : Nat × List Nat => composedAddr f.num l.1) _ lines s

theorem State.checkedLane_off {s : State} (h : s.flag F.CMP_CTRL_CHK_EN = false) (c : Nat) : s.checkedLane c = none := by
  simp [State.checkedLane, h]

theorem State.laneCheck_off {s : State} (h : s.flag F.CMP_CTRL_CHK_EN = false) (c : Nat) (differs : Bool) :
    s.laneCheck c differs = s := by
  rw [State.laneCheck, State.checkedLane_off h]

theorem State.onlyRegs_showFill (s : State) : OnlyRegs [R.SCN_STAT] s s.showFill := by
  have hfilling (b : Bool) : OnlyRegs [R.SCN_STAT] s (s.wrB F.SCN_STAT_FILLING b) := (OnlyRegs.refl _ s).wr (by decide) _
  simp only [State.showFill]
  split
  · exact OnlyRegs.refl _ s
  · split
    · exact (hfilling _).wr (by decide) _
    · split
      · exact (hfilling _).wr (by decide) _
      · exact hfilling _

/-- Showing the composer writes FB_SHOW and FB_COMP of CMP_STAT, and no other field there. -/
theorem State.rd_CHK_LANE_showComp (s : State) : s.showComp.rd F.CMP_STAT_CHK_LANE = s.rd F.CMP_STAT_CHK_LANE := by
  have hkeep (t : State) (f : Fld) (v : Nat)
      (h : f.hi < 32 ∧ f.lo ≤ f.hi ∧ (R.CMP_STAT ≠ f.addr ∨ f.hi < 8 ∨ 11 < f.lo)) :
      (t.wr f v).rd F.CMP_STAT_CHK_LANE = t.rd F.CMP_STAT_CHK_LANE := t.rd_wr_ne f _ v h.1 h.2.1 h.2.2
  have hahead (n : Nat) (b : Bool) : ((s.wr F.LAY_COMPSTAT_AHEAD n).wrB F.LAY_COMPSTAT_BUSY b).rd F.CMP_STAT_CHK_LANE
      = s.rd F.CMP_STAT_CHK_LANE := (hkeep _ F.LAY_COMPSTAT_BUSY _ (by decide)).trans (hkeep _ _ _ (by decide))
  have hband (t : State) (c m : Nat) : (((t.wr F.LAY_COMPSTAT_BAND c).wr F.LAY_COMPSTAT_FRAME m).wr F.CMP_STAT_FB_COMP (m % 3)).rd
      F.CMP_STAT_CHK_LANE = t.rd F.CMP_STAT_CHK_LANE := by
    rw [hkeep _ _ _ (by decide), hkeep _ _ _ (by decide), hkeep _ _ _ (by decide)]
  rw [State.showComp, (State.onlyRegs_showFill _).rd_eq (by decide)]
  split <;> split
  · rw [hkeep _ _ _ (by decide), hband, hahead]
  · rw [hkeep _ _ _ (by decide), hahead]
  · rw [hband, hahead]
  · exact hahead ..

theorem exec_composeBandComplete {s : State} {f : Frame} {c : Nat} (d : Bool) (hon : s.composerOn = true)
    (hc : s.composing = some (f.num, c)) (hf : s.compFrames.find? (fun g => g.num == f.num) = some f) :
    exec (.composeBandComplete d) s = .next (((s.writeBand f c).laneCheck c d).showComp) := by
  simp only [exec, execComposeBandComplete, hc, hf, hon, if_true]

/-- While the checker is off, a band that completes leaves CHK_LANE as it stands. -/
theorem State.rd_CHK_LANE_bandComplete {s : State} (h : s.flag F.CMP_CTRL_CHK_EN = false) (f : Frame) (c : Nat) (d : Bool) :
    (((s.writeBand f c).laneCheck c d).showComp).rd F.CMP_STAT_CHK_LANE = s.rd F.CMP_STAT_CHK_LANE := by
  have hrd := State.rd_of_regs (s.writeBand_regs f c)
  rw [State.rd_CHK_LANE_showComp, State.laneCheck_off (by rw [State.flag, hrd]; exact h), hrd]

/-- A machine in RUN with every domain on, whose software has turned the checker off after a band of lane 3, while frame 0 is composed. -/
def checkerTurnedOff : State :=
  { (((({ now := 1000 } : State).wr F.PWR_DOMSTAT_ON 0xFFF).wr F.PWR_MODE_MODE Mode.run.num).wr F.CMP_CTRL_CHK_EN 0).wr F.CMP_STAT_CHK_LANE 3 with
    comp := { frames := [{ num := 0 }], nextNum := 1 } }

end Sys2Proof.Machine

namespace Sys2Proof
open Machine

/-- Refutes O40: once the checker is off, the next band that completes keeps in CHK_LANE the lane that was checked last, where the third clause
says 15. The model shows the 15 of R173 to a read by bus (`State.readReg`) and does not store it. -/
theorem not_framesAreComposedBandByBand : ¬Obligations.FramesAreComposedBandByBand := by
  intro ⟨_, _, hband⟩
  have hoff : checkerTurnedOff.flag F.CMP_CTRL_CHK_EN = false := by decide +kernel
  have hon : checkerTurnedOff.composerOn = true := by decide +kernel
  have hcomposing : checkerTurnedOff.composing = some (0, 0) := by decide +kernel
  have hframe : checkerTurnedOff.compFrames.find? (fun g => g.num == 0) = some { num := 0 } := by decide +kernel
  obtain ⟨t, ht, -, -, -, hlane, -⟩ := hband checkerTurnedOff { num := 0 } 0 false hon hcomposing hframe (by decide)
  have hdone := next_unique ht (exec_composeBandComplete (f := { num := 0 }) false hon hcomposing hframe)
  rw [hdone, State.rd_CHK_LANE_bandComplete hoff, State.checkedLane_off hoff] at hlane
  exact absurd hlane (by decide +kernel)

end Sys2Proof
end

section
/-!
Frame capture (R188, R189): what START and ABORT do to the state, and what a copy that ends, at its end or before it, leaves in memory.
-/

namespace Sys2Proof.Machine

variable (s : State)

/-! ### A copy ends -/

theorem State.bytes_length (a n : Nat) : (s.bytes a n).length = n := by simp [State.bytes]

theorem State.byte_capCopy_in (m : Nat) {n j : Nat} (h : j < n) :
    (s.capCopy m n).byte (s.comp.capAddr + j) = s.byte (composedAddr m 0 + j) := by
  rw [State.capCopy, State.byte_setBytes_in _ _ _ (by rwa [State.bytes_length])]
  simp [State.bytes]

theorem State.byte_capCopy_out (m n : Nat) {a : Nat} (h : a < s.comp.capAddr ∨ s.comp.capAddr + n ≤ a) :
    (s.capCopy m n).byte a = s.byte a :=
  State.byte_setBytes_out _ _ _ (by rwa [State.bytes_length])

theorem State.capCopy_regs (m n : Nat) : (s.capCopy m n).regs = s.regs := State.setBytes_regs ..

/-- A copy of frame m ends with its first n bytes in the capture buffer and CMP_CAPSTAT.STATE st: its completion with all of them, its cut with
some. -/
def State.endCopy (m n st : Nat) : State :=
  { (s.capCopy m n).wr F.CMP_CAPSTAT_STATE st with
    comp := { ((s.capCopy m n).wr F.CMP_CAPSTAT_STATE st).comp with capFrame := none } }

theorem State.byte_endCopy (m n st a : Nat) : (s.endCopy m n st).byte a = (s.capCopy m n).byte a := rfl

theorem State.rd_STATE_endCopy (m n st : Nat) : (s.endCopy m n st).rd F.CMP_CAPSTAT_STATE = st % 8 :=
  State.rd_wr_same (s.capCopy m n) F.CMP_CAPSTAT_STATE st (by decide) (by decide)

theorem State.reg_endCopy_ne (m n st : Nat) {a : Nat} (h : a ≠ R.CMP_CAPSTAT) : (s.endCopy m n st).reg a = s.reg a :=
  ((s.capCopy m n).reg_wr_ne F.CMP_CAPSTAT_STATE st h).trans (State.reg_of_regs (s.capCopy_regs m n) a)

/-! ### A capture is cut -/

theorem State.capCut_waiting {s : State} (h : s.comp.capFrame = none) (st : Nat) : s.capCut st = s.wr F.CMP_CAPSTAT_STATE st := by
  rw [State.capCut, h]

theorem State.capCut_copying {s : State} {m : Nat} (h : s.comp.capFrame = some m) (st : Nat) :
    s.capCut st = s.draw.2.endCopy m (s.draw.1 % 4194304) st := by
  rw [State.capCut, h]; rfl

theorem State.rd_STATE_capCut (st : Nat) : (s.capCut st).rd F.CMP_CAPSTAT_STATE = st % 8 := by
  cases h : s.comp.capFrame with
  | none => rw [State.capCut_waiting h, State.rd_wr_same _ _ _ (by decide) (by decide)]; rfl
  | some m => rw [State.capCut_copying h, State.rd_STATE_endCopy]

theorem State.capFrame_capCut (st : Nat) : (s.capCut st).comp.capFrame = none := by
  cases h : s.comp.capFrame with
  | none => rw [State.capCut_waiting h]; exact h
  | some m => rw [State.capCut_copying h]; rfl

theorem State.reg_capCut_ne (st : Nat) {a : Nat} (ha : a ≠ R.CMP_CAPSTAT) : (s.capCut st).reg a = s.reg a := by
  cases h : s.comp.capFrame with
  | none => rw [State.capCut_waiting h]; exact s.reg_wr_ne F.CMP_CAPSTAT_STATE st ha
  | some m => rw [State.capCut_copying h, State.reg_endCopy_ne _ _ _ _ ha]; exact State.reg_of_regs s.draw_regs a

/-- However much of it has been copied, a capture that is cut stays inside its buffer. -/
theorem State.byte_capCut_out (st : Nat) {a : Nat} (ha : a < s.comp.capAddr ∨ s.comp.capAddr + 4194304 ≤ a) :
    (s.capCut st).byte a = s.byte a := by
  cases h : s.comp.capFrame with
  | none => rw [State.capCut_waiting h]; rfl
  | some m =>
    have hpart : s.draw.1 % 4194304 < 4194304 := Nat.mod_lt _ (by decide)
    have hout : a < s.draw.2.comp.capAddr ∨ s.draw.2.comp.capAddr + s.draw.1 % 4194304 ≤ a := by
      rw [State.draw_comp]; omega
    rw [State.capCut_copying h, State.byte_endCopy, State.byte_capCopy_out _ _ _ hout]; rfl

/-! ### A write to CMP_CAPCTRL, by the state before it -/

section
variable {s} {data : Word}

theorem State.writeCapctrl_start (hstart : bitAt data.toNat 0 = true) (hwait : s.rd F.CMP_CAPSTAT_STATE ≠ 1)
    (hcopy : s.rd F.CMP_CAPSTAT_STATE ≠ 2)
    (hin : inUserDram (64 * s.rd F.CMP_CAPADDR_ADDR, 64 * s.rd F.CMP_CAPADDR_ADDR + 4194304) = true) :
    s.writeCapctrl data = ({ s with comp := { s.comp with capAddr := 64 * s.rd F.CMP_CAPADDR_ADDR, capAt := s.now } } : State).wr
      F.CMP_CAPSTAT_STATE 1 := by
  simp [State.writeCapctrl, hstart, hwait, hcopy, hin]

theorem State.writeCapctrl_badAddress (hstart : bitAt data.toNat 0 = true) (hwait : s.rd F.CMP_CAPSTAT_STATE ≠ 1)
    (hcopy : s.rd F.CMP_CAPSTAT_STATE ≠ 2)
    (hout : inUserDram (64 * s.rd F.CMP_CAPADDR_ADDR, 64 * s.rd F.CMP_CAPADDR_ADDR + 4194304) = false) :
    s.writeCapctrl data = s.wr F.CMP_CAPSTAT_STATE 5 := by
  simp [State.writeCapctrl, hstart, hwait, hcopy, hout]

theorem State.writeCapctrl_refused (hstart : bitAt data.toNat 0 = true) (habort : bitAt data.toNat 1 = false)
    (hrun : s.rd F.CMP_CAPSTAT_STATE = 1 ∨ s.rd F.CMP_CAPSTAT_STATE = 2) :
    s.writeCapctrl data = s.mark F.CMP_CAPSTAT_REFUSED := by
  simp [State.writeCapctrl, hstart, habort, hrun]

/-- A START in the same write is refused, and does not keep ABORT from ending the capture. -/
theorem State.writeCapctrl_abort (habort : bitAt data.toNat 1 = true)
    (hrun : s.rd F.CMP_CAPSTAT_STATE = 1 ∨ s.rd F.CMP_CAPSTAT_STATE = 2) :
    s.writeCapctrl data = (if bitAt data.toNat 0 then s.mark F.CMP_CAPSTAT_REFUSED else s).capCut 6 := by
  cases hstart : bitAt data.toNat 0 <;> simp [State.writeCapctrl, hstart, habort, hrun]

theorem State.writeCapctrl_idle (hstart : bitAt data.toNat 0 = false) (hwait : s.rd F.CMP_CAPSTAT_STATE ≠ 1)
    (hcopy : s.rd F.CMP_CAPSTAT_STATE ≠ 2) : s.writeCapctrl data = s := by
  simp [State.writeCapctrl, hstart, hwait, hcopy]

/-! ### The commands -/

theorem exec_captureStart {m : Master} (h : s.Accepts m R.CMP_CAPCTRL data) :
    exec (.captureStart m data) s = .next (s.writeCapctrl data) := by
  rw [exec, execCaptureStart, State.withBus_passes h.1 h.2]

theorem exec_captureAbort {m : Master} (h : s.Accepts m R.CMP_CAPCTRL data) :
    exec (.captureAbort m data) s = .next (s.writeCapctrl data) := by
  rw [exec, execCaptureAbort, State.withBus_passes h.1 h.2]

theorem exec_captureComplete {m : Nat} (hon : s.on .cmp = true) (hcopy : s.rd F.CMP_CAPSTAT_STATE = 2)
    (hframe : s.comp.capFrame = some m) : exec .captureComplete s = .next (s.endCopy m 4194304 3) := by
  simp only [exec, execCaptureComplete, hframe, hon, hcopy, decide_true, Bool.and_self, if_true]
  rfl

end

end Sys2Proof.Machine

namespace Sys2Proof
open Machine

/-- Settles O42: a write to CMP_CAPCTRL has the five ends of `State.writeCapctrl`, and a completed copy is `State.endCopy` of the whole frame. -/
theorem frameCapture : Obligations.FrameCapture := by
  refine ⟨?start, ?refused, ?abort, ?idle, ?complete⟩
  case start =>
    intro s m data hacc hstart hwait hcopy
    refine ⟨_, exec_captureStart hacc, ?_⟩
    cases hin : inUserDram (64 * s.rd F.CMP_CAPADDR_ADDR, 64 * s.rd F.CMP_CAPADDR_ADDR + 4194304)
    case true =>
      rw [State.writeCapctrl_start hstart hwait hcopy hin]
      exact ⟨fun _ => ⟨State.rd_wr_same _ _ 1 (by decide) (by decide), rfl, rfl⟩, nofun,
        fun _ ha => State.reg_wr_ne _ _ 1 (List.ne_of_not_mem_cons ha), fun _ => rfl⟩
    case false =>
      rw [State.writeCapctrl_badAddress hstart hwait hcopy hin]
      exact ⟨nofun, fun _ => ⟨State.rd_wr_same _ _ 5 (by decide) (by decide), rfl⟩, (OnlyRegs.refl _ s).wr (by decide) 5⟩
  case refused =>
    intro s m data hacc hstart habort hrun
    refine ⟨_, exec_captureStart hacc, ?_⟩
    rw [State.writeCapctrl_refused hstart habort hrun]
    refine ⟨?_, s.rd_mark_ne _ _ (by decide) (by decide) (by decide), rfl, (OnlyRegs.refl _ s).mark (by decide)⟩
    rw [State.flag, State.rd_mark_same _ _ (by decide) (by decide)]; rfl
  case abort =>
    intro s m data hacc habort hrun
    refine ⟨_, exec_captureAbort hacc, ?_⟩
    rw [State.writeCapctrl_abort habort hrun]
    have hframe : OnlyRegs [R.CMP_CAPSTAT] s (if bitAt data.toNat 0 then s.mark F.CMP_CAPSTAT_REFUSED else s) := by
      split
      · exact (OnlyRegs.refl _ s).mark (by decide)
      · exact OnlyRegs.refl _ s
    have hcomp : (if bitAt data.toNat 0 then s.mark F.CMP_CAPSTAT_REFUSED else s).comp = s.comp := by split <;> rfl
    exact ⟨State.rd_STATE_capCut _ 6, State.capFrame_capCut _ 6,
      fun a ha => (State.byte_capCut_out _ 6 (hcomp ▸ ha)).trans (hframe.2 a),
      fun a ha => (State.reg_capCut_ne _ 6 ha).trans (hframe.1 a (by simpa using ha))⟩
  case idle =>
    intro s m data hacc hstart _ hwait hcopy
    exact ⟨s, (exec_captureAbort hacc).trans (by rw [State.writeCapctrl_idle hstart hwait hcopy]), rfl⟩
  case complete =>
    intro s m hon hcopy hframe
    exact ⟨_, exec_captureComplete hon hcopy hframe, s.rd_STATE_endCopy m 4194304 3, rfl,
      fun _ hj => (s.byte_endCopy m 4194304 3 _).trans (s.byte_capCopy_in m hj),
      fun _ ha => (s.byte_endCopy m 4194304 3 _).trans (s.byte_capCopy_out m 4194304 ha),
      fun _ ha => s.reg_endCopy_ne m 4194304 3 ha⟩

end Sys2Proof
end

section
/-!
A source of class DARK with a grace of 0 that is raised in RUN while chain 0 is enabled and its line is not idle: the request of DARK
sends OFF on the chain, which counts a collision in SAT_CH_ERRCNT (R292, R293, R390, R391).
-/

namespace Sys2Proof.Machine

/-! ### A source of class DARK before a busy line -/

/-- A source that is raised escalates at once as DARK: it is new, of class DARK in force, and its grace is 0. -/
abbrev State.RaisesDark (s : State) (src : Nat) : Prop :=
  src < 256 ∧ (srcRow src).isNone = false ∧ s.on .safe = true ∧ s.latched src = false ∧ s.forceClass src = 3 ∧ s.forceGrace src = 0

/-- Nothing is under way that DARK would end: no BIST run, and no full characterization. -/
abbrev State.Untested (s : State) : Prop := s.boot.bist = [] ∧ s.cal.full = none ∧ s.cal.fullDue = none

/-- OFF meets a line that is not idle: DRV is on, and chain 0 is enabled with a frame still out. -/
abbrev State.OffCollides (s : State) : Prop :=
  s.on .drv = true ∧ s.flag (F.SAT_CH_CTRL_EN 0) = true ∧ s.lineBusy 0 = true

/-- A source escalates at once as DARK in RUN with no test under way, and OFF meets a line that is not idle. -/
abbrev State.DarkMeetsLine (s : State) (src : Nat) : Prop := s.RaisesDark src ∧ s.Untested ∧ s.mode = .run ∧ s.OffCollides

/-! ### Two machines of this kind -/

/-- `darkOnBusyLine` with the render of band 2 in progress. -/
def darkWhileRendering : { s : State // s.on .gme = true ∧ s.gme.renders.findIdx? (fun r => !r.done) = some 0 } :=
  ⟨{ darkOnBusyLine Src.GME_MEM with gme := { renders := [{ band := 2, ref := 5, snapAt := 1 }] } }, by decide⟩

/-- That machine when an uncorrectable error has been counted and GME_MEM is about to be raised (R213). -/
def darkAtGmeMem : { s : State // s.DarkMeetsLine Src.GME_MEM } := ⟨darkWhileRendering.1.bumpSat F.GME_FAULT_ECC_UNC, by decide⟩

/-- A clamp table without zones, whose check of 16 bits is one above its CRC. -/
def offByOneTable : ClampTable := { ({} : ClampTable) with check := (crc16 (ClampTable.words {}) + 1) % 65536 }

/-- `darkOnBusyLine` with that table on its way. -/
def darkAwaitingClamp : { s : State // s.on .scn = true ∧ s.on .safe = true ∧ s.saf.clampOut = [offByOneTable] } :=
  ⟨{ darkOnBusyLine Src.SCN_CLAMP with saf := { clampOut := [offByOneTable] } }, by decide, by decide, rfl⟩

/-- The oldest clamp table on its way has arrived. -/
def State.takeClamp (s : State) : State := { s with saf := { s.saf with clampOut := s.saf.clampOut.tail } }

/-- That machine when the table has been discarded and SCN_CLAMP is about to be raised (R235). -/
def darkAtScnClamp : { s : State // s.DarkMeetsLine Src.SCN_CLAMP } :=
  ⟨darkAwaitingClamp.1.takeClamp.bump F.SCN_CLAMPSTAT_DISCARDED, by decide⟩

/-! ### What is left alone on the way from the source to the line -/

/-- The chains, the BIST runs and the characterization stand as before, and the listed registers read as before. -/
def KeepsLine (l : List Nat) (s t : State) : Prop :=
  t.sat = s.sat ∧ t.boot.bist = s.boot.bist ∧ t.cal = s.cal ∧ ∀ a ∈ l, t.reg a = s.reg a

section
variable {l : List Nat} {s t : State}

theorem KeepsLine.sat (h : KeepsLine l s t) : t.sat = s.sat := h.1
theorem KeepsLine.bist (h : KeepsLine l s t) : t.boot.bist = s.boot.bist := h.2.1
theorem KeepsLine.cal (h : KeepsLine l s t) : t.cal = s.cal := h.2.2.1
theorem KeepsLine.reg (h : KeepsLine l s t) : ∀ a ∈ l, t.reg a = s.reg a := h.2.2.2

theorem KeepsLine.refl (l : List Nat) (s : State) : KeepsLine l s s := ⟨rfl, rfl, rfl, fun _ _ => rfl⟩

theorem KeepsLine.mono {k : List Nat} (h : KeepsLine l s t) (hk : k ⊆ l) : KeepsLine k s t :=
  ⟨h.sat, h.bist, h.cal, fun a ha => h.reg a (hk ha)⟩

theorem KeepsLine.trans {u : State} (h : KeepsLine l s t) (k : KeepsLine l t u) : KeepsLine l s u :=
  ⟨k.sat.trans h.sat, k.bist.trans h.bist, k.cal.trans h.cal, fun a ha => (k.reg a ha).trans (h.reg a ha)⟩

/-- None of what counts stands in one of these fields. -/
theorem KeepsLine.upd {pwr brm sw thm saf dict onoth} (h : KeepsLine l s t) :
    KeepsLine l s { t with pwr := pwr, brm := brm, sw := sw, thm := thm, saf := saf, dict := dict, onoth := onoth } :=
  ⟨h.sat, h.bist, h.cal, fun a ha => (State.reg_of_regs rfl a).trans (h.reg a ha)⟩

theorem KeepsLine.updBrm (h : KeepsLine l s t) (brm : Brm) : KeepsLine l s { t with brm := brm } := h.upd

theorem KeepsLine.setN (h : KeepsLine l s t) {a : Nat} (ha : a ∉ l) (v : Nat) : KeepsLine l s (t.setN a v) :=
  ⟨h.sat, h.bist, h.cal, fun _ hb => (t.reg_setN_ne v (ne_of_mem_of_not_mem hb ha)).trans (h.reg _ hb)⟩

theorem KeepsLine.wr (h : KeepsLine l s t) {f : Fld} (hf : f.addr ∉ l) (v : Nat) : KeepsLine l s (t.wr f v) := h.setN hf _

theorem KeepsLine.setBitF (h : KeepsLine l s t) {f : Fld} (hf : f.addr ∉ l) (n : Nat) (b : Bool) : KeepsLine l s (t.setBitF f n b) :=
  h.setN hf _

theorem KeepsLine.modBuck (h : KeepsLine l s t) (n : Nat) (f : BuckSt → BuckSt) : KeepsLine l s (t.modBuck n f) :=
  ⟨h.sat, h.bist, h.cal, h.reg⟩

theorem KeepsLine.ite {c : Prop} [Decidable c] {u : State} (h : KeepsLine l s t) (k : KeepsLine l s u) :
    KeepsLine l s (if c then t else u) := by split <;> assumption

theorem KeepsLine.foldl {α : Type} {f : State → α → State} (xs : List α) (h : KeepsLine l s t)
    (hf : ∀ u, ∀ x ∈ xs, KeepsLine l s u → KeepsLine l s (f u x)) : KeepsLine l s (xs.foldl f t) := by
  induction xs generalizing t with
  | nil => exact h
  | cons x xs ih => exact ih (hf t x (.head _) h) fun u y hy => hf u y (.tail _ hy)

theorem KeepsLine.rd_eq (h : KeepsLine l s t) {f : Fld} (hf : f.addr ∈ l) : t.rd f = s.rd f := by
  simp [State.rd, State.regN, h.reg f.addr hf]

end

/-! ### OFF on a busy line (R292, R293) -/

/-- What OFF on chain 0 rests on: whether DRV is on, whether the chain is enabled, and the count of its collisions. -/
def offRegs : List Nat := [R.PWR_DOMSTAT, R.SAT_CH_CTRL 0, R.SAT_CH_ERRCNT 0]

/-- No register behind the count of chain 0's collisions is among them. -/
theorem not_mem_offRegs {a : Nat} (h : R.SAT_CH_ERRCNT 0 < a) : a ∉ offRegs := by
  simp only [R.SAT_CH_ERRCNT] at h
  simp only [offRegs, R.PWR_DOMSTAT, R.SAT_CH_CTRL, R.SAT_CH_ERRCNT, List.mem_cons, List.not_mem_nil, or_false]
  omega

theorem addr_LNK_HUSK_not_mem_offRegs {n : Nat} (hn : n ∈ List.range 4) : R.LNK_HUSK n ∉ offRegs := by
  have := List.mem_range.mp hn
  simp only [offRegs, R.LNK_HUSK, R.PWR_DOMSTAT, R.SAT_CH_CTRL, R.SAT_CH_ERRCNT, List.mem_cons, List.not_mem_nil, or_false]
  omega

/-- A frame on another chain leaves the count of chain 0 alone. -/
theorem State.reg_satSend_ne (s : State) {c : Nat} (hc : c ≠ 0) (cmd dest first : Nat) (payload : List Byte) (busy : Bool) :
    (s.satSend c cmd dest first payload busy).reg (R.SAT_CH_ERRCNT 0) = s.reg (R.SAT_CH_ERRCNT 0) := by
  have ha : R.SAT_CH_ERRCNT 0 ≠ R.SAT_CH_ERRCNT c := by simp only [R.SAT_CH_ERRCNT]; omega
  unfold State.satSend
  dsimp only
  split
  · exact State.reg_wr_ne _ _ _ ha
  · rfl

/-- A frame on a line that is not idle counts a collision. -/
theorem State.rd_COLLIDE_satSend (s : State) (cmd dest first : Nat) (payload : List Byte) :
    (s.satSend 0 cmd dest first payload true).rd (F.SAT_CH_ERRCNT_COLLIDE 0) = (s.rd (F.SAT_CH_ERRCNT_COLLIDE 0) + 1) % 256 :=
  State.rd_wr_same _ _ _ (by decide) (by decide)

/-- A register that no step of a repetition writes. -/
theorem State.reg_foldl {f : State → Nat → State} {xs : List Nat} {a : Nat} (hf : ∀ u, ∀ x ∈ xs, (f u x).reg a = u.reg a) (s : State) :
    (xs.foldl f s).reg a = s.reg a := by
  induction xs generalizing s with
  | nil => rfl
  | cons x xs ih => exact (ih (fun u y hy => hf u y (.tail _ hy)) _).trans (hf s x (.head _))

/-- OFF on chain 0 counts a collision where its line is not idle. -/
theorem State.rd_COLLIDE_satOff {s : State} (hdrv : s.on .drv = true) (hen : s.flag (F.SAT_CH_CTRL_EN 0) = true)
    (hbusy : s.lineBusy 0 = true) :
    s.satOff.rd (F.SAT_CH_ERRCNT_COLLIDE 0) = (s.rd (F.SAT_CH_ERRCNT_COLLIDE 0) + 1) % 256 := by
  rw [State.satOff, if_neg (by simp [hdrv]), show List.range 4 = 0 :: [1, 2, 3] from rfl, List.foldl_cons, State.rd, State.regN,
    State.reg_foldl]
  case hf =>
    intro u c hc
    have hc0 : c ≠ 0 := by rintro rfl; simp at hc
    split
    · exact State.reg_satSend_ne _ hc0 ..
    · rfl
  rw [if_pos hen, hbusy]
  exact State.rd_COLLIDE_satSend ..

/-! ### DARK up to OFF (R72, R77) -/

section
variable {s t : State}

theorem KeepsLine.buckOff (h : KeepsLine offRegs s t) (n st : Nat) : KeepsLine offRegs s (t.buckOff n st) :=
  have hstat : R.SAT_CH_ERRCNT 0 < R.BUCK_STAT n := by simp only [R.SAT_CH_ERRCNT, R.BUCK_STAT]; omega
  have hmeas : R.SAT_CH_ERRCNT 0 < R.BUCK_MEAS1 n := by simp only [R.SAT_CH_ERRCNT, R.BUCK_MEAS1]; omega
  ((h.modBuck n _).wr (not_mem_offRegs hstat) st).wr (not_mem_offRegs hmeas) 0

theorem KeepsLine.stopLine (h : KeepsLine offRegs s t) (n : Nat) : KeepsLine offRegs s (t.stopLine n) :=
  ((h.buckOff n 6).modBuck n _).setBitF (by decide : F.ENG_HARNSTAT_DISCH.addr ∉ offRegs) n false

theorem KeepsLine.openPath (h : KeepsLine offRegs s t) (n : Nat) : KeepsLine offRegs s (t.openPath n) :=
  have hgates : KeepsLine offRegs s ((t.setGate n true false).setGate n false false) := h.upd
  (hgates.setBitF (by decide : F.SAF_SWCTL_HCLOSE.addr ∉ offRegs) n false).setBitF (by decide : F.SAF_SWCTL_LCLOSE.addr ∉ offRegs) n false

theorem KeepsLine.setHw (h : KeepsLine offRegs s t) (n : Nat) (x : HwStep) : KeepsLine offRegs s (t.setHw n x) :=
  have hboot : KeepsLine offRegs s { t with boot := { t.boot with hw := t.boot.hw.set n x } } := ⟨h.sat, h.bist, h.cal, h.reg⟩
  hboot.wr (by decide : R.BIST_HUSKPATH ∉ offRegs) _

theorem KeepsLine.syncPads (h : KeepsLine offRegs s t) : KeepsLine offRegs s t.syncPads :=
  have hsafe := ((h.wr (by decide : F.SAF_OUTRB_HUSKN_PAD.addr ∉ offRegs)
    ((List.range 4).foldl (fun w n => w + b2n (t.huskPad n) * 2 ^ n) 0)).wr (by decide : F.SAF_OUTRB_LF_PAD.addr ∉ offRegs) _).ite h
  hsafe.foldl _ fun _ _ hn hu =>
    ((hu.wr (addr_LNK_HUSK_not_mem_offRegs hn) _).wr (addr_LNK_HUSK_not_mem_offRegs hn) _).ite hu

theorem KeepsLine.endCommission (h : KeepsLine offRegs s t) : KeepsLine offRegs s t.endCommission := by
  have hsessions : KeepsLine offRegs s (t.endSessions fun x => x.index < 0xB000) := by
    unfold State.endSessions
    dsimp only
    split
    · exact h.upd.wr (by decide : F.NET_ONOTH2_DOMABORT.addr ∉ offRegs) _
    · exact h.upd
  have hmode := hsessions.wr (by decide : F.PWR_MODE_COMM.addr ∉ offRegs) 0
  unfold State.endCommission
  dsimp only
  split
  · exact hmode.upd.wr (by decide : F.ODX_STORE_STATE.addr ∉ offRegs) 1
  · exact hmode

theorem KeepsLine.endPrep (h : KeepsLine offRegs s t) : KeepsLine offRegs s t.endPrep := h.upd

theorem KeepsLine.lowerHusk (h : KeepsLine offRegs s t) : KeepsLine offRegs s t.lowerHusk :=
  h.wr (by decide : F.SAF_OUTCMD_HUSKN_HI.addr ∉ offRegs) 0

/-- No test is in progress that a change of the mode to DARK would end. -/
theorem KeepsLine.setMode_dark (h : KeepsLine offRegs s t) (hbist : s.boot.bist = []) (cause : Nat) :
    KeepsLine offRegs s (t.setMode .dark cause) := by
  have htests : t.endTests = t := by simp [State.endTests, h.bist, hbist]
  have hcomm : KeepsLine offRegs s (if t.flag F.PWR_MODE_COMM then t.endCommission else t) := h.endCommission.ite h
  have hmode := (((hcomm.wr (by decide : F.PWR_MODE_PREV.addr ∉ offRegs) (t.rd F.PWR_MODE_MODE)).wr
    (by decide : F.PWR_MODE_MODE.addr ∉ offRegs) Mode.dark.num).wr (by decide : F.PWR_MODE_CAUSE.addr ∉ offRegs) cause).wr
    (by decide : F.PWR_MODE_BUSY.addr ∉ offRegs) 0
  unfold State.setMode
  dsimp only
  rw [htests, if_neg (show ¬(Mode.dark == Mode.standby && _) = true by simp)]
  exact hmode.upd

/-- DARK sends OFF at its end, and leaves what OFF rests on alone until then. -/
theorem State.enterDark_satOff (hbist : s.boot.bist = []) (cause : Nat) :
    ∃ u, s.enterDark cause = u.satOff ∧ KeepsLine offRegs s u := by
  refine ⟨_, rfl, KeepsLine.syncPads (KeepsLine.setMode_dark (KeepsLine.lowerHusk (KeepsLine.endPrep (KeepsLine.upd
    ((KeepsLine.refl _ s).foldl _ ?_)))) hbist cause)⟩
  intro u n _ hu
  have hpath := (hu.stopLine n).openPath n
  exact (hpath.setHw n .idle).ite hpath

end

/-! ### A source up to DARK (R387, R390, R391) -/

/-- What the way of a source to OFF rests on: the mode, the class and the grace of the source beside the registers of OFF. -/
def darkRegs (src : Nat) : List Nat := R.PWR_MODE :: R.BRM_SUMMARY :: R.BRM_CLASS (src / 16) :: R.BRM_GRACE (src / 4) :: offRegs

/-- Bramble's latches and marks, its counts and its log are not among them. -/
theorem not_mem_darkRegs {src a : Nat} (hsrc : src < 256)
    (h : (R.BRM_SUMMARY < a ∧ a < R.BRM_CLASS 0) ∨ R.BRM_CNT 0 ≤ a) : a ∉ darkRegs src := by
  simp only [R.BRM_SUMMARY, R.BRM_CLASS, R.BRM_CNT] at h
  simp only [darkRegs, offRegs, R.PWR_MODE, R.BRM_SUMMARY, R.BRM_CLASS, R.BRM_GRACE, R.PWR_DOMSTAT, R.SAT_CH_CTRL, R.SAT_CH_ERRCNT,
    List.mem_cons, List.not_mem_nil, or_false]
  omega

section
variable {s t : State} {src : Nat}

theorem KeepsLine.countSrc (h : KeepsLine (darkRegs src) s t) (hsrc : src < 256) : KeepsLine (darkRegs src) s (t.countSrc src) :=
  h.setN (not_mem_darkRegs hsrc (.inr (by simp only [R.BRM_CNT]; omega))) _

theorem KeepsLine.srcSet_STAT (h : KeepsLine (darkRegs src) s t) (hsrc : src < 256) (b : Bool) :
    KeepsLine (darkRegs src) s (t.srcSet (R.BRM_STAT 0) src b) :=
  h.setN (not_mem_darkRegs hsrc (.inl (by simp only [srcBit, R.BRM_STAT, R.BRM_SUMMARY, R.BRM_CLASS]; omega))) _

theorem KeepsLine.srcSet_ESC (h : KeepsLine (darkRegs src) s t) (hsrc : src < 256) (b : Bool) :
    KeepsLine (darkRegs src) s (t.srcSet (R.BRM_ESC 0) src b) :=
  h.setN (not_mem_darkRegs hsrc (.inl (by simp only [srcBit, R.BRM_ESC, R.BRM_SUMMARY, R.BRM_CLASS]; omega))) _

theorem KeepsLine.record (h : KeepsLine (darkRegs src) s t) (hsrc : src < 256) (k cls : Nat) (kind : RecKind) (addr : Nat) :
    KeepsLine (darkRegs src) s (t.record k cls kind addr) := by
  have hlog {a : Nat} (ha : R.BRM_CNT 0 ≤ a) : a ∉ darkRegs src := not_mem_darkRegs hsrc (.inr ha)
  have hw (e j : Nat) : R.BRM_LOG_W e j ∉ darkRegs src := hlog (by simp only [R.BRM_CNT, R.BRM_LOG_W]; omega)
  have hmsg : R.BRM_MSGCTRL ∉ darkRegs src := hlog (by decide)
  have hstat : R.BRM_LOGSTAT ∉ darkRegs src := hlog (by decide)
  have hwords := h.foldl (List.range 4) (f := fun u j => u.setN (R.BRM_LOG_W (t.rd F.BRM_LOGSTAT_NEXT) j)
    ((t.recWords k cls kind addr).getD j 0)) fun _ j _ hu => hu.setN (hw _ j) _
  have hread {u : State} (hu : KeepsLine (darkRegs src) s u) (full : Bool) (e : Nat) :
      KeepsLine (darkRegs src) s (if full then (u.wr F.BRM_MSGCTRL_RD (e + 1)).bumpSat F.BRM_MSGCTRL_OVERRUN else u) :=
    ((hu.wr (f := F.BRM_MSGCTRL_RD) hmsg _).wr (f := F.BRM_MSGCTRL_OVERRUN) hmsg _).ite hu
  have hnext {u : State} (hu : KeepsLine (darkRegs src) s u) (e : Nat) :
      KeepsLine (darkRegs src) s (((u.wr F.BRM_LOGSTAT_NEXT (e + 1)).bump F.BRM_LOGSTAT_SEQ).wr F.BRM_MSGCTRL_EMPTY 0) :=
    ((hu.wr (f := F.BRM_LOGSTAT_NEXT) hstat _).wr (f := F.BRM_LOGSTAT_SEQ) hstat _).wr (f := F.BRM_MSGCTRL_EMPTY) hmsg 0
  have hwait {u : State} (hu : KeepsLine (darkRegs src) s u) (keep : Bool) (brm : Brm) :
      KeepsLine (darkRegs src) s (if keep then { u with brm := brm } else u) := (hu.updBrm brm).ite hu
  exact hwait (hnext (hread hwords _ _) _) _ _

theorem KeepsLine.forceClass (h : KeepsLine (darkRegs src) s t) : t.forceClass src = s.forceClass src := by
  simp [State.forceClass, State.selfActed, State.flag, State.rd, State.cfgClass, State.regN, h.reg R.BRM_SUMMARY (by simp [darkRegs]),
    h.reg (R.BRM_CLASS (src / 16)) (by simp [darkRegs]), F.BRM_SUMMARY_SELF]

theorem KeepsLine.forceGrace (h : KeepsLine (darkRegs src) s t) : t.forceGrace src = s.forceGrace src := by
  simp [State.forceGrace, State.selfActed, State.flag, State.rd, State.cfgGrace, State.regN, h.reg R.BRM_SUMMARY (by simp [darkRegs]),
    h.reg (R.BRM_GRACE (src / 4)) (by simp [darkRegs]), F.BRM_SUMMARY_SELF]

theorem KeepsLine.mode (h : KeepsLine (darkRegs src) s t) : t.mode = s.mode := by
  simp [State.mode, h.rd_eq (f := F.PWR_MODE_MODE) (.head _)]

theorem KeepsLine.noteEvent (h : KeepsLine (darkRegs src) s t) (k addr : Nat) (new : Bool) :
    KeepsLine (darkRegs src) s (t.noteEvent k addr new) := h.updBrm _

theorem KeepsLine.endFull_eq (h : KeepsLine (darkRegs src) s t) (htest : s.Untested) (result : Nat) : t.endFull result = t := by
  obtain ⟨-, hfull, hdue⟩ := htest
  simp [State.endFull, h.cal, hfull, hdue]

/-- An escalation as DARK ends a full characterization and requests DARK. -/
theorem State.escalate_requestDark (t : State) (src addr : Nat) {cls : Nat} (hcls : cls = 3) :
    ∃ brm, t.escalate src cls addr = (((({ t with brm := brm } : State).srcSet (R.BRM_ESC 0) src true).record src cls .escalated
      addr).endFull 3).requestDark 0x09 := by
  unfold State.escalate
  dsimp only
  rw [if_pos (by omega)]
  split
  · omega
  · exact ⟨_, rfl⟩
  · contradiction

theorem State.requestDark_run (hmode : s.mode = .run) (cause : Nat) : s.requestDark cause = s.enterDark cause := by
  simp only [State.requestDark, hmode]

/-- An escalation as DARK in RUN leads to DARK. -/
theorem State.escalate_dark (h : KeepsLine (darkRegs src) s t) (hsrc : src < 256) (htest : s.Untested) (hmode : s.mode = .run)
    (addr : Nat) : ∃ u, t.escalate src 3 addr = u.enterDark 0x09 ∧ KeepsLine (darkRegs src) s u := by
  obtain ⟨brm, hesc⟩ := t.escalate_requestDark src addr rfl
  have hrec := ((h.updBrm brm).srcSet_ESC hsrc true).record hsrc src 3 .escalated addr
  exact ⟨_, by rw [hesc, hrec.endFull_eq htest, State.requestDark_run (hrec.mode.trans hmode)], hrec⟩

/-- The RAISED record of a source of class DARK in RUN is followed by DARK at once. -/
theorem State.recordRaised_dark (h : KeepsLine (darkRegs src) s t) (hdark : s.RaisesDark src) (htest : s.Untested)
    (hmode : s.mode = .run) (addr : Nat) : ∃ u, t.recordRaised src addr = u.enterDark 0x09 ∧ KeepsLine (darkRegs src) s u := by
  obtain ⟨hsrc, -, -, -, hcls, hgrace⟩ := hdark
  obtain ⟨brm, hbrm⟩ : ∃ brm, t.recordRaised src addr = (({ t with brm := brm } : State).record src
    (({ t with brm := brm } : State).forceClass src) .raised addr).startGrace src addr := ⟨_, rfl⟩
  have hrec := (h.updBrm brm).record hsrc src 3 .raised addr
  obtain ⟨u, hu, hk⟩ := State.escalate_dark hrec hsrc htest hmode addr
  refine ⟨u, ?_, hk⟩
  rw [hbrm, (h.updBrm brm).forceClass, hcls, ← hu]
  simp [State.startGrace, hrec.forceClass, hrec.forceGrace, hcls, hgrace]

/-- A source of class DARK that is raised in RUN leads to DARK, and leaves what OFF rests on alone until then. -/
theorem State.raise_dark (h : s.RaisesDark src) (htest : s.Untested) (hmode : s.mode = .run) :
    ∃ u, s.raise src = u.enterDark 0x09 ∧ KeepsLine (darkRegs src) s u := by
  have ⟨hsrc, hrow, hsafe, hnew, _, _⟩ := h
  have hnew' : ((s.countSrc src).noteEvent src (srcAddr src) true).latched src = false :=
    (congrArg (bitAt · _) (s.regN_setN_ne _ (by simp only [srcBit, R.BRM_STAT, R.BRM_CNT]; omega))).trans hnew
  have hset := (((KeepsLine.refl _ s).countSrc hsrc).noteEvent src (srcAddr src) true).srcSet_STAT hsrc true
  obtain ⟨u, hu, hk⟩ := State.recordRaised_dark hset h htest hmode (srcAddr src)
  refine ⟨u, ?_, hk⟩
  rw [← hu, State.raise, State.raiseAt, if_neg (by simp [hsafe, hrow]), hnew]
  exact if_pos (by simp [hnew'])

/-- SAT_CH_ERRCNT of chain 0 counts the collision. -/
theorem State.reg_ERRCNT_raise_ne (h : s.DarkMeetsLine src) :
    (s.raise src).reg (R.SAT_CH_ERRCNT 0) ≠ s.reg (R.SAT_CH_ERRCNT 0) := by
  obtain ⟨hdark, htest, hmode, hdrv, hen, hbusy⟩ := h
  obtain ⟨u, hu, hku⟩ := State.raise_dark hdark htest hmode
  obtain ⟨v, hv, hkv⟩ := u.enterDark_satOff (hku.bist.trans htest.1) 0x09
  have hk : KeepsLine offRegs s v := (hku.mono fun a ha => by simp [darkRegs, ha]).trans hkv
  have hcount := State.rd_COLLIDE_satOff (s := v) (by rw [← hdrv]; exact congrArg (bitAt · _) (hk.rd_eq (f := F.PWR_DOMSTAT_ON) (by decide)))
    (by rw [← hen, State.flag, hk.rd_eq (by decide)]; rfl) (by rw [← hbusy, State.lineBusy, State.chain, hk.sat]; rfl)
  intro hsame
  have hrd : (s.raise src).rd (F.SAT_CH_ERRCNT_COLLIDE 0) = s.rd (F.SAT_CH_ERRCNT_COLLIDE 0) := by
    simp only [State.rd, State.regN]
    rw [show (F.SAT_CH_ERRCNT_COLLIDE 0).addr = R.SAT_CH_ERRCNT 0 from rfl, hsame]
  rw [hu, hv, hcount, hk.rd_eq (by decide)] at hrd
  omega

/-- It does so too where a field of another register has been written before. -/
theorem State.reg_ERRCNT_wr_raise_ne {f : Fld} {v : Nat} (hf : R.SAT_CH_ERRCNT 0 ≠ f.addr) (h : (s.wr f v).DarkMeetsLine src) :
    ((s.wr f v).raise src).reg (R.SAT_CH_ERRCNT 0) ≠ s.reg (R.SAT_CH_ERRCNT 0) :=
  s.reg_wr_ne f v hf ▸ State.reg_ERRCNT_raise_ne h

end

end Sys2Proof.Machine
end

section
/-!
GME_MEM and SCN_CLAMP at work: a render that an uncorrectable error spoils (R213) and a clamp table that fails its transfer check (R235)
raise their sources, and a source can reach SAT_CH_ERRCNT of a busy chain.
-/

namespace Sys2Proof.Machine

/-! ### A render ends (R212, R213) -/

/-- The end of a render is kept in the engine's list of renders, and in no register. -/
@[simp] theorem State.reg_finishRender (s : State) (bad : Bool) (a : Nat) : (s.finishRender bad).reg a = s.reg a := by
  unfold State.finishRender
  split <;> rfl

/-- An uncorrectable error that is found as a render ends, on mapped points that agree, is counted and raises GME_MEM. -/
theorem exec_gmeRenderComplete_uncorrectable {s : State} {r : Render} (hon : s.on .gme = true)
    (hr : s.gme.renders.find? (fun r => !r.done) = some r) :
    exec (.gmeRenderComplete false .uncorrectable) s
      = .next (((s.bumpSat F.GME_FAULT_ECC_UNC).raise Src.GME_MEM).finishRender true) := by
  simp [exec, execGmeRenderComplete, hr, hon]

/-! ### A clamp table arrives (R235) -/

@[simp] theorem State.reg_takeClamp (s : State) (a : Nat) : s.takeClamp.reg a = s.reg a := rfl

/-- A clamp table that arrives as it was sent and does not agree with its check is discarded, counted, and raises SCN_CLAMP. -/
theorem exec_clampTableReceive_discarded {s : State} {q : ClampTable} {rest : List ClampTable} (hon : s.on .scn = true)
    (hout : s.saf.clampOut = q :: rest) (hcrc : crc16 q.words ≠ q.check) :
    exec (.clampTableReceive none) s = .next ((s.takeClamp.bump F.SCN_CLAMPSTAT_DISCARDED).raise Src.SCN_CLAMP) := by
  have hon' : ({ s with saf := { s.saf with clampOut := rest } } : State).on .scn = true := hon
  simp [exec, execClampTableReceive, State.takeClamp, hout, hon', hcrc]

/-- A clamp table fails its transfer check with every check but the CRC over its words, which do not cover it. -/
theorem ClampTable.crc16_ne_check {t : ClampTable} {c : Nat} (h : crc16 t.words ≠ c) :
    crc16 ({ t with check := c } : ClampTable).words ≠ ({ t with check := c } : ClampTable).check := h

/-- That table fails its transfer check. -/
theorem crc16_offByOneTable : crc16 offByOneTable.words ≠ offByOneTable.check :=
  have hne (crc : Nat) : crc ≠ (crc + 1) % 65536 := by omega
  ClampTable.crc16_ne_check (hne (crc16 (ClampTable.words {})))

end Sys2Proof.Machine

namespace Sys2Proof
open Machine

/-- Refutes O43: GME_MEM configured as class DARK, an uncorrectable error that spoils a render in RUN makes the chains send OFF, and the
chain whose line is not idle counts a collision outside the listed blocks. -/
theorem not_glareMaskRenders : ¬Obligations.GlareMaskRenders := by
  intro ⟨_, _, _, _, hrender⟩
  obtain ⟨hon, hfirst⟩ := darkWhileRendering.2
  obtain ⟨t, ht, -, -, hframe, -⟩ := hrender darkWhileRendering.1 false .uncorrectable 0 hon hfirst
  have hreg := next_unique ht (exec_gmeRenderComplete_uncorrectable hon rfl) ▸ hframe (R.SAT_CH_ERRCNT 0) (by decide)
  rw [State.reg_finishRender] at hreg
  exact State.reg_ERRCNT_wr_raise_ne (by decide) darkAtGmeMem.2 hreg

/-- Refutes O44: SCN_CLAMP configured as class DARK, a clamp table that fails its transfer check in RUN makes the chains send OFF, and the
chain whose line is not idle counts a collision outside the listed blocks. -/
theorem not_scanOutStages : ¬Obligations.ScanOutStages := by
  intro ⟨_, _, _, _, _, _, _, _, _, hdiscard⟩
  obtain ⟨hon, hsafe, hout⟩ := darkAwaitingClamp.2
  obtain ⟨t, ht, -, -, -, -, hframe, -⟩ := hdiscard darkAwaitingClamp.1 offByOneTable [] none hon hsafe hout crc16_offByOneTable
  have hreg := next_unique ht (exec_clampTableReceive_discarded hon hout crc16_offByOneTable) ▸ hframe (R.SAT_CH_ERRCNT 0) (by decide)
  exact State.reg_ERRCNT_wr_raise_ne (by decide) darkAtScnClamp.2 (hreg.trans (State.reg_takeClamp _ _).symm)

end Sys2Proof
end

section
/-!
Characterization slots (R244, R349): a port whose list was empty at the refresh start has no pixels to name at the slot, and is skipped, also
where firmware supplies lists again by then.
-/

namespace Sys2Proof.Machine

/-- The list of a port was empty at the refresh start, and the slot finds nothing else to do there: no trim that waits for a CHAR record,
no sweep whose maps are to be planned, no load that defers. -/
def State.ListEmpty (s : State) (p : Nat) : Prop :=
  (s.port p).watch = [] ∧ (s.port p).trimWait = none ∧ s.cal.swept.getD p false = false ∧ s.dict.deferring = false

/-- A count in a register fills no list. -/
theorem State.ListEmpty.bump {s : State} {p : Nat} (h : s.ListEmpty p) (f : Fld) : (s.bump f).ListEmpty p := h

/-- No trim that waits: nothing is released. -/
theorem State.releaseTrim_idle {s : State} {p : Nat} (h : (s.port p).trimWait = none) : s.releaseTrim p = s := by
  unfold State.releaseTrim; rw [h]

/-- No sweep that has ended: nothing is planned. -/
theorem State.planSwept_open {s : State} {p : Nat} (h : s.cal.swept.getD p false = false) : s.planSwept p = s := by
  unfold State.planSwept State.sweepOpen
  rw [h, Bool.not_false, Bool.or_true, if_pos rfl]

/-- A port whose list is empty is skipped (R244), whatever rows it was sent. -/
theorem State.ListEmpty.charPort {s : State} {p : Nat} (h : s.ListEmpty p) : s.charPort p = s.bump F.SCN_CHARSTAT_SKIPPED := by
  obtain ⟨hwatch, hwait, hswept, hload⟩ := h
  unfold State.charPort
  simp [State.releaseTrim_idle hwait, State.planSwept_open hswept, hwatch, hload]

/-- Ports whose lists are empty are sent nothing. -/
theorem State.link_charPorts {s : State} {ps : List Nat} (h : ∀ p ∈ ps, s.ListEmpty p) : (ps.foldl State.charPort s).link = s.link := by
  induction ps generalizing s with
  | nil => rfl
  | cons p ps ih =>
    rw [List.foldl_cons, (h p List.mem_cons_self).charPort, ih fun q hq => (h q (List.mem_cons_of_mem p hq)).bump _]
    exact s.bump_link _

/-- The characterization slot of four ports whose lists are empty sends no SAMPLE. -/
theorem State.link_execCharSlot {s t : State} (h : ∀ p ∈ List.range 4, s.ListEmpty p) (ht : exec .charSlot s = .next t) :
    t.link = s.link := by
  change execCharSlot s = .next t at ht
  unfold execCharSlot at ht
  split at ht
  · exact Host.Outcome.next.inj ht ▸ rfl
  · obtain rfl := Host.Outcome.next.inj ht
    split
    · exact State.link_charPorts h
    · rfl

/-- A machine in RUN at its characterization slot: SPARSE_EN has come to 1 since the refresh start, where the lists were empty still, and
port 0, READY, has been sent its rows whole. -/
def sparseSinceRefresh : State :=
  { (((({ now := 1000000000 } : State).wr F.PWR_DOMSTAT_ON 0xFFF).wr F.PWR_MODE_MODE 3).wr F.CAL_CTRL_SPARSE_EN 1).wr (F.LNK_STATE_STATE 0) 7 with
    cf := { charDue := true, refStart := 5 }, scn := { ctrl := 7, sent := 1 } }

theorem sparseSinceRefresh_listEmpty : ∀ p ∈ List.range 4, sparseSinceRefresh.ListEmpty p := by
  intro p hp
  fin_cases hp <;> exact ⟨rfl, rfl, rfl, rfl⟩

end Sys2Proof.Machine

namespace Sys2Proof
open Machine

/-- Refutes O51: firmware supplies lists at the slot (SPARSE_EN 1, no load), but supplied none at the refresh start, where the pixels of the
slot are taken from the list; port 0, sent its rows whole, is skipped for its empty list (R244), and has no SAMPLE in flight. -/
theorem not_trimsAndCharacterization : ¬Obligations.TrimsAndCharacterization := by
  intro ⟨_, _, _, _, _, _, _, _, hslot, _⟩
  obtain ⟨t, ht, -, -, hsent, -⟩ := hslot sparseSinceRefresh rfl rfl (by decide) (by decide) rfl
  have hsample : (t.port 0).sample.isSome = true :=
    hsent 0 (by decide) (by decide) (by decide) (by decide) (by decide) (by decide)
  unfold State.port at hsample
  rw [State.link_execCharSlot sparseSinceRefresh_listEmpty ht] at hsample
  exact absurd hsample (by decide)

end Sys2Proof
end

section
/-!
What a tile port does with its commands (R258–R261): the store to LNK_CMD, the command that leaves, the answer that ends it, and the
training that TILE_RESET begins.
-/

-- One theorem at a time, as in the tests, but with the kernel's checks left to themselves: a proof that is elaborated beside the others, or that
-- waits for the kernel, would hold a thread.
set_option deprecated.oldSectionVars true

namespace Sys2Proof.Machine

/-! ### The hidden state of a port -/

section
variable {l : List Nat} {s t : State} {p : Nat}

@[simp] theorem State.rd_modPort (s : State) (p : Nat) (f : LinkSt → LinkSt) (g : Fld) : (s.modPort p f).rd g = s.rd g := State.rd_of_regs rfl g

@[simp] theorem State.flag_modPort (s : State) (p : Nat) (f : LinkSt → LinkSt) (g : Fld) : (s.modPort p f).flag g = s.flag g :=
  congrArg (· != 0) (s.rd_modPort p f g)

theorem State.port_wr (s : State) (f : Fld) (v p : Nat) : (s.wr f v).port p = s.port p := rfl

theorem State.sent_modPort (s : State) (p : Nat) (f : LinkSt → LinkSt) : (s.modPort p f).sent = s.sent := rfl

theorem OnlyRegs.bumpSat (h : OnlyRegs l s t) {f : Fld} (hf : f.addr ∈ l) : OnlyRegs l s (t.bumpSat f) := h.wr hf _

theorem OnlyRegs.modPort (h : OnlyRegs l s t) (p : Nat) (f : LinkSt → LinkSt) : OnlyRegs l s (t.modPort p f) := ⟨h.1, h.2⟩

theorem OnlyRegs.updCal (h : OnlyRegs l s t) (cal : Cal) : OnlyRegs l s { t with cal := cal } := ⟨h.1, h.2⟩

/-- Where a port stands in the list, an operation on it acts on it. -/
theorem State.port_modPort (hp : p < s.link.length) (f : LinkSt → LinkSt) : (s.modPort p f).port p = f (s.port p) := by
  simp [State.port, State.modPort, List.getD, List.getElem?_eq_getElem hp]

theorem OnlyRegs.setN (h : OnlyRegs l s t) {a : Nat} (ha : a ∈ l) (v : Nat) : OnlyRegs l s (t.setN a v) :=
  h.trans ⟨fun _ hb => t.reg_setN_ne v (ne_of_mem_of_not_mem ha hb).symm, fun _ => rfl⟩

theorem OnlyRegs.flag_eq (h : OnlyRegs l s t) {f : Fld} (hf : f.addr ∉ l) : t.flag f = s.flag f := congrArg (· != 0) (h.rd_eq hf)

theorem OnlyRegs.on_eq (h : OnlyRegs l s t) (hl : R.PWR_DOMSTAT ∉ l) (d : Dom) : t.on d = s.on d :=
  congrArg (bitAt · d.num) (h.rd_eq (f := F.PWR_DOMSTAT_ON) hl)

theorem State.flag_of_regs (h : t.regs = s.regs) (f : Fld) : t.flag f = s.flag f := congrArg (· != 0) (State.rd_of_regs h f)

theorem State.flag_wr_addr (s : State) {f g : Fld} (h : g.addr ≠ f.addr) (v : Nat) : (s.wr f v).flag g = s.flag g :=
  congrArg (· != 0) (s.rd_wr_addr f g v h)

theorem State.flag_wr_one (s : State) (f : Fld) (hi : f.hi < 32) (hl : f.lo ≤ f.hi) : (s.wr f 1).flag f = true :=
  congrArg (· != 0) (s.rd_mark_same f hi hl)

theorem State.flag_wr_zero (s : State) (f : Fld) (hi : f.hi < 32) (hl : f.lo ≤ f.hi) : (s.wr f 0).flag f = false := by
  simp [State.flag, s.rd_wr_same f 0 hi hl]

end

/-! ### The store to LNK_CMD (R16, R258) -/

/-- The fields of LNK_CMD in the tables: OPCODE, TAG, GO, BUSY. -/
def lnkCmdFields : List FieldDef := [⟨7, 0, .rw, 0⟩, ⟨15, 8, .rw, 0⟩, ⟨16, 16, .wo, 0⟩, ⟨17, 17, .ro, 0⟩]

theorem regWrite_LNK_CMD_fields {p : Nat} (hp : p < 4) (old data : Nat) : regWrite (R.LNK_CMD p) old data =
    lnkCmdFields.foldl (fun w f => setBits w f.hi f.lo (fieldWrite old data f)) old := by
  interval_cases p <;> rfl

section
variable (old data hi lo reset : Nat)

theorem fieldWrite_rw : fieldWrite old data ⟨hi, lo, .rw, reset⟩ = bitsOf data hi lo := rfl

theorem fieldWrite_wo : fieldWrite old data ⟨hi, lo, .wo, reset⟩ = 0 := rfl

theorem fieldWrite_ro : fieldWrite old data ⟨hi, lo, .ro, reset⟩ = bitsOf old hi lo := rfl

end

/-- A word written to LNK_CMD: OPCODE and TAG are taken, GO reads 0, and BUSY is read-only (R258). -/
theorem regWrite_LNK_CMD {p : Nat} (hp : p < 4) (old data : Nat) : regWrite (R.LNK_CMD p) old data =
    setBits (setBits (setBits (setBits old 7 0 (bitsOf data 7 0)) 15 8 (bitsOf data 15 8)) 16 16 0) 17 17 (bitsOf old 17 17) := by
  rw [regWrite_LNK_CMD_fields hp, lnkCmdFields, List.foldl_cons, List.foldl_cons, List.foldl_cons, List.foldl_cons, List.foldl_nil,
    fieldWrite_rw, fieldWrite_rw, fieldWrite_wo, fieldWrite_ro]

theorem State.testBit_BUSY_written (s : State) {p : Nat} (hp : p < 4) (data : Word) :
    (s.written (R.LNK_CMD p) data).testBit 17 = (s.regN (R.LNK_CMD p)).testBit 17 := by
  rw [State.written, regWrite_LNK_CMD hp, Nat.testBit_or, Nat.testBit_and, testBit_setBits, if_pos (by decide), testBit_bitsOf]
  cases (s.regN (R.LNK_CMD p)).testBit 17 <;> simp

theorem State.rd_BUSY_store (s : State) {p : Nat} (hp : p < 4) (data : Word) :
    (s.store (R.LNK_CMD p) data).rd (F.LNK_CMD_BUSY p) = s.rd (F.LNK_CMD_BUSY p) := by
  refine Nat.eq_of_testBit_eq fun i => ?_
  simp only [State.rd, F.LNK_CMD_BUSY, State.store, State.regN_setN_same, testBit_bitsOf, Nat.testBit_mod_two_pow]
  by_cases hi : i < 1
  · obtain rfl : i = 0 := by omega
    simp [s.testBit_BUSY_written hp]
  · simp [hi]

/-- A store writes some word to its register and reaches nothing else. -/
theorem State.store_eq (s : State) (a : Nat) (data : Word) : ∃ v, s.store a data = s.setN a v := ⟨_, rfl⟩

theorem State.flag_BUSY_store (s : State) {p : Nat} (hp : p < 4) (data : Word) :
    (s.store (R.LNK_CMD p) data).flag (F.LNK_CMD_BUSY p) = s.flag (F.LNK_CMD_BUSY p) := congrArg (· != 0) (s.rd_BUSY_store hp data)

/-- The commands that are a write to LNK_CMD. -/
def lnkCmdWrites (m : Master) (p : Nat) (data : Word) : List Instr :=
  [.ping m p data, .ident m p data, .regWrite m p data, .regRead m p data, .huskUnlock m p data, .huskCommit m p data, .tileReset m p data]

/-- Every command that is a write to LNK_CMD does what the write does. -/
theorem exec_tileCommand {s : State} {m : Master} {p : Nat} {data : Word} {c : Instr} (hp : p < 4) (hacc : s.Accepts m (R.LNK_CMD p) data)
    (hc : c ∈ lnkCmdWrites m p data) : exec c s = .next (s.writeLnkCmd p data) := by
  simp only [lnkCmdWrites, List.mem_cons, List.not_mem_nil, or_false] at hc
  rcases hc with rfl | rfl | rfl | rfl | rfl | rfl | rfl <;> exact (if_neg (by omega)).trans (State.withBus_passes hacc.1 hacc.2)

/-! ### What a word in LNK_CMD leaves alone -/

section
variable (s : State) (p v : Nat)

/-- LNK_CMD is the register at offset 0x2C of a port. -/
theorem State.rd_setLnkCmd {f : Fld} (hf : f.addr % 0x4000 ≠ 0x2C) : (s.setN (R.LNK_CMD p) v).rd f = s.rd f :=
  s.rd_setN_ne f v fun h => hf (by simp only [h, R.LNK_CMD]; omega)

theorem State.rd_STATE_setLnkCmd : (s.setN (R.LNK_CMD p) v).rd (F.LNK_STATE_STATE p) = s.rd (F.LNK_STATE_STATE p) :=
  s.rd_setLnkCmd p v (by simp only [F.LNK_STATE_STATE, R.LNK_STATE]; omega)

theorem State.rd_LANEMAP_setLnkCmd : (s.setN (R.LNK_CMD p) v).rd (F.LNK_STATE_LANEMAP p) = s.rd (F.LNK_STATE_LANEMAP p) :=
  s.rd_setLnkCmd p v (by simp only [F.LNK_STATE_LANEMAP, R.LNK_STATE]; omega)

theorem State.rd_WIDTH12_setLnkCmd : (s.setN (R.LNK_CMD p) v).rd (F.LNK_STATE_WIDTH12 p) = s.rd (F.LNK_STATE_WIDTH12 p) :=
  s.rd_setLnkCmd p v (by simp only [F.LNK_STATE_WIDTH12, R.LNK_STATE]; omega)

theorem State.rd_UNLOCKED_setLnkCmd : (s.setN (R.LNK_CMD p) v).rd (F.LNK_HUSK_UNLOCKED p) = s.rd (F.LNK_HUSK_UNLOCKED p) :=
  s.rd_setLnkCmd p v (by simp only [F.LNK_HUSK_UNLOCKED, R.LNK_HUSK]; omega)

theorem State.regN_LNK_CMDARG_setLnkCmd : (s.setN (R.LNK_CMD p) v).regN (R.LNK_CMDARG p) = s.regN (R.LNK_CMDARG p) :=
  s.regN_setN_ne v (by simp [R.LNK_CMDARG, R.LNK_CMD])

theorem State.on_setLnkCmd (d : Dom) : (s.setN (R.LNK_CMD p) v).on d = s.on d :=
  congrArg (bitAt · d.num) (s.rd_setLnkCmd p v (f := F.PWR_DOMSTAT_ON) (by decide))

theorem State.held_setLnkCmd (g : Nat) : (s.setN (R.LNK_CMD p) v).held g = s.held g :=
  congrArg (bitAt · g) (s.rd_setLnkCmd p v (f := F.PWR_PADHOLD_GROUP) (by decide))

theorem State.mode_setLnkCmd : (s.setN (R.LNK_CMD p) v).mode = s.mode :=
  congrArg Mode.ofNum (s.rd_setLnkCmd p v (f := F.PWR_MODE_MODE) (by decide))

theorem State.demand_setLnkCmd : (s.setN (R.LNK_CMD p) v).demand = s.demand := by
  simp only [State.demand, State.flag, s.rd_setLnkCmd p v (f := F.BIST_TESTSTAT_TESTONLY) (by decide),
    s.rd_setLnkCmd p v (f := F.PWR_WAKESTAT_LAMPREQ_LVL) (by decide), s.rd_setLnkCmd p v (f := F.PWR_MODEREQ_REQ) (by decide)]

theorem State.acceptsCmd_setLnkCmd (op : Nat) : (s.setN (R.LNK_CMD p) v).acceptsCmd p op = s.acceptsCmd p op := by
  simp only [State.acceptsCmd, State.portUp, State.flag, s.rd_STATE_setLnkCmd, s.rd_UNLOCKED_setLnkCmd, s.on_setLnkCmd, s.mode_setLnkCmd,
    s.demand_setLnkCmd]

theorem State.trimAllowed_setLnkCmd (t : Nat) : (s.setN (R.LNK_CMD p) v).trimAllowed t = s.trimAllowed t := by
  unfold State.trimAllowed
  rw [s.mode_setLnkCmd, State.flag, s.rd_setLnkCmd p v (f := F.CAL_CTRL_TRIM_RUN) (by decide)]
  rfl

theorem State.sampling_setLnkCmd (t : Nat) : (s.setN (R.LNK_CMD p) v).sampling t = s.sampling t := rfl

theorem State.rowEnd_setLnkCmd : (s.setN (R.LNK_CMD p) v).rowEnd p = s.rowEnd p := by
  have htransfer : (s.setN (R.LNK_CMD p) v).rowTransfer p = s.rowTransfer p := by
    simp only [State.rowTransfer, State.portWidth, State.lanesOf, State.flag, s.rd_WIDTH12_setLnkCmd, s.rd_LANEMAP_setLnkCmd]
    rfl
  unfold State.rowEnd
  rw [htransfer]
  rfl

theorem State.txLanes_setLnkCmd : (s.setN (R.LNK_CMD p) v).txLanes p = s.txLanes p := by
  have hidle : (s.setN (R.LNK_CMD p) v).bitF F.SAF_OUTCMD_LANEIDLE p = s.bitF F.SAF_OUTCMD_LANEIDLE p :=
    congrArg (bitAt · p) (s.rd_setLnkCmd p v (by decide))
  refine congrArg (List.filter · [0, 1]) (funext fun lane => ?_)
  simp only [State.laneDriven, s.rd_STATE_setLnkCmd, s.rd_LANEMAP_setLnkCmd, s.on_setLnkCmd, hidle, State.setN_link]

end

/-! ### A command leaves (R258) -/

/-- The blocks that a port sends depend on its hidden state, the lanes that carry symbols and the time. -/
theorem State.port_sendBlocks_congr {s t : State} {p : Nat} (hlink : t.link = s.link) (hnow : t.now = s.now) (hlanes : t.txLanes p = s.txLanes p)
    (bs : List Block) : (t.sendBlocks p bs).port p = (s.sendBlocks p bs).port p := by
  simp only [State.port, State.sendBlocks, State.modPort, hlink, hnow, hlanes]

/-- A command leaves on a port. -/
def State.sendTileCmd (s : State) (p op tag arg : Nat) : State :=
  (s.emit (.tileCmd p op tag arg [])).sendBlocks p (cmdBlocks op tag arg [])

section
variable {l : List Nat} {s t : State} {p : Nat} (op tag arg : Nat)

theorem State.sent_sendTileCmd (hheld : s.held (portPads p) = false) :
    (s.sendTileCmd p op tag arg).sent = Sent.tileCmd p op tag arg [] :: s.sent := by
  rw [State.sendTileCmd, State.sendBlocks, State.sent_modPort, State.emit_sent, if_neg (by simp [Sent.padGroup, hheld])]

theorem State.flag_sendTileCmd (f : Fld) : (s.sendTileCmd p op tag arg).flag f = s.flag f := State.flag_of_regs rfl f

theorem State.length_link_sendTileCmd : (s.sendTileCmd p op tag arg).link.length = s.link.length := by
  simp [State.sendTileCmd, State.sendBlocks, State.modPort, State.emit]

theorem OnlyRegs.sendTileCmd (h : OnlyRegs l s t) : OnlyRegs l s (t.sendTileCmd p op tag arg) := ⟨h.1, h.2⟩

/-- A command of firmware has left and is in flight, with BUSY at 1. -/
def State.inFlight (s : State) (p op tag arg : Nat) : State :=
  ((s.sendTileCmd p op tag arg).wr (F.LNK_CMD_BUSY p) 1).modPort p fun l => { l with cmd := some ⟨op, tag, arg, (s.rowEnd p).getD s.now⟩ }

theorem OnlyRegs.inFlight (h : OnlyRegs l s t) (hl : R.LNK_CMD p ∈ l) : OnlyRegs l s (t.inFlight p op tag arg) :=
  ((h.sendTileCmd op tag arg).wr (f := F.LNK_CMD_BUSY p) hl 1).modPort p _

end

/-- A command that has an answer is in flight; COMMIT closes the Husk store, and the command of a trim is noted with the calibration. -/
theorem State.sendCmd_eq (s : State) (p tag arg : Nat) {op : Nat} (hop : op ≠ 0x40) : ∃ cal, s.sendCmd p op tag arg =
    { (if op = 0x31 then (s.inFlight p op tag arg).wr (F.LNK_HUSK_UNLOCKED p) 0 else s.inFlight p op tag arg) with cal := cal } := by
  unfold State.sendCmd
  dsimp only
  rw [if_neg hop]
  by_cases htrim : (decide (op = 0x10) && decide (arg = Config.trimCommand)) = true
  · rw [if_pos htrim]
    exact ⟨_, rfl⟩
  · rw [if_neg htrim]
    exact ⟨_, rfl⟩

/-- From a state to the next a command with an answer has been sent: it has left with the argument of LNK_CMDARG, BUSY is 1, and it waits
for its answer. -/
def CommandSent (s t : State) (p op tag : Nat) : Prop :=
  t.sent = Sent.tileCmd p op tag (s.regN (R.LNK_CMDARG p)) [] :: s.sent ∧ t.flag (F.LNK_CMD_BUSY p) = true ∧
    (t.port p).cmd = some (⟨op, tag, s.regN (R.LNK_CMDARG p), (s.rowEnd p).getD s.now⟩ : LinkCmd) ∧
    (t.port p).tx = ((s.sendBlocks p (cmdBlocks op tag (s.regN (R.LNK_CMDARG p)) [])).port p).tx

section
variable {s t u : State} {p op tag : Nat}

/-- A command has been sent whatever becomes of other registers and of the calibration. -/
theorem CommandSent.congr (h : CommandSent s t p op tag) (hsent : u.sent = t.sent) (hlink : u.link = t.link)
    (hbusy : u.flag (F.LNK_CMD_BUSY p) = t.flag (F.LNK_CMD_BUSY p)) : CommandSent s u p op tag := by
  have hport : u.port p = t.port p := by rw [State.port, hlink]; rfl
  obtain ⟨hs, hb, hcmd, htx⟩ := h
  exact ⟨hsent.trans hs, hbusy.trans hb, hport ▸ hcmd, hport ▸ htx⟩

theorem CommandSent.updCal (h : CommandSent s t p op tag) (cal : Cal) : CommandSent s { t with cal := cal } p op tag :=
  h.congr rfl rfl (State.flag_of_regs rfl _)

variable (hlen : p < s.link.length) (hheld : s.held (portPads p) = false)
include hlen hheld

theorem commandSent_inFlight (v op tag : Nat) :
    CommandSent s ((s.setN (R.LNK_CMD p) v).inFlight p op tag (s.regN (R.LNK_CMDARG p))) p op tag := by
  refine ⟨?sent, ?busy, ?cmd, ?tx⟩
  case sent =>
    rw [State.inFlight, State.sent_modPort, State.wr_sent, State.sent_sendTileCmd _ _ _ ((s.held_setLnkCmd p v _).trans hheld), State.setN_sent]
  case busy => rw [State.inFlight, State.flag_modPort, State.flag_wr_one _ _ (by simp [F.LNK_CMD_BUSY]) (by simp [F.LNK_CMD_BUSY])]
  case cmd =>
    rw [State.inFlight, State.port_modPort (by simpa [State.length_link_sendTileCmd] using hlen), s.rowEnd_setLnkCmd]
    rfl
  case tx =>
    rw [State.inFlight, State.port_modPort (by simpa [State.length_link_sendTileCmd] using hlen), State.port_wr, State.sendTileCmd,
      State.port_sendBlocks_congr (s := s) (t := (s.setN (R.LNK_CMD p) v).emit _) rfl rfl (s.txLanes_setLnkCmd p v)]

/-- A command with an answer that is sent: it reaches LNK_CMD alone, and COMMIT closes the Husk store beside. -/
theorem commandSent_sendCmd (v tag : Nat) (hop : op ≠ 0x40) :
    CommandSent s ((s.setN (R.LNK_CMD p) v).sendCmd p op tag (s.regN (R.LNK_CMDARG p))) p op tag ∧
      OnlyRegs (if op = 0x31 then [R.LNK_CMD p, R.LNK_HUSK p] else [R.LNK_CMD p]) s
        ((s.setN (R.LNK_CMD p) v).sendCmd p op tag (s.regN (R.LNK_CMDARG p))) ∧
      (op = 0x31 → ((s.setN (R.LNK_CMD p) v).sendCmd p op tag (s.regN (R.LNK_CMDARG p))).flag (F.LNK_HUSK_UNLOCKED p) = false) := by
  have hflight := commandSent_inFlight hlen hheld v op tag
  have hframe : OnlyRegs [R.LNK_CMD p] s ((s.setN (R.LNK_CMD p) v).inFlight p op tag (s.regN (R.LNK_CMDARG p))) :=
    ((OnlyRegs.refl _ s).setN (.head _) v).inFlight op tag _ (.head _)
  obtain ⟨cal, heq⟩ := (s.setN (R.LNK_CMD p) v).sendCmd_eq p tag (s.regN (R.LNK_CMDARG p)) hop
  rw [heq]
  generalize (s.setN (R.LNK_CMD p) v).inFlight p op tag (s.regN (R.LNK_CMDARG p)) = w at hflight hframe
  split
  case isTrue h31 =>
    have hbusy : (w.wr (F.LNK_HUSK_UNLOCKED p) 0).flag (F.LNK_CMD_BUSY p) = w.flag (F.LNK_CMD_BUSY p) :=
      w.flag_wr_addr (by simp [F.LNK_CMD_BUSY, F.LNK_HUSK_UNLOCKED, R.LNK_CMD, R.LNK_HUSK]) 0
    have hshut := w.flag_wr_zero (F.LNK_HUSK_UNLOCKED p) (by simp [F.LNK_HUSK_UNLOCKED]) (by simp [F.LNK_HUSK_UNLOCKED])
    have hclose := (hframe.mono (by simp)).wr (f := F.LNK_HUSK_UNLOCKED p) (l := [R.LNK_CMD p, R.LNK_HUSK p]) (.tail _ (.head _)) 0
    exact ⟨(hflight.congr (u := w.wr (F.LNK_HUSK_UNLOCKED p) 0) rfl rfl hbusy).updCal cal, hclose.updCal cal,
      fun _ => (State.flag_of_regs rfl _).trans hshut⟩
  case isFalse h31 => exact ⟨hflight.updCal cal, hframe.updCal cal, fun h => absurd h h31⟩

end

/-! ### A write to LNK_CMD (R258, R259) -/

section
variable {s : State} {p op : Nat} {data : Word} (hp : p < 4)
include hp

/-- A write while a command is in flight stores its word and no more. -/
theorem State.writeLnkCmd_busy (hbusy : s.flag (F.LNK_CMD_BUSY p) = true) : s.writeLnkCmd p data = s.store (R.LNK_CMD p) data := by
  have hstored := (s.flag_BUSY_store hp data).trans hbusy
  simp [State.writeLnkCmd, hstored]

variable (hgo : bitAt data.toNat 16 = true) (hidle : s.flag (F.LNK_CMD_BUSY p) = false) (hop : bitsOf data.toNat 7 0 = op)
include hgo hidle hop

/-- GO sends a command that is accepted; that of a trim waits for no SAMPLE and may run. -/
theorem State.writeLnkCmd_sends (hacc : s.acceptsCmd p op = true)
    (htrim : op = 0x10 → s.regN (R.LNK_CMDARG p) = Config.trimCommand → s.trimAllowed p = true ∧ s.sampling p = false) :
    s.writeLnkCmd p data = (s.store (R.LNK_CMD p) data).sendCmd p op (bitsOf data.toNat 15 8) (s.regN (R.LNK_CMDARG p)) := by
  have hstored := (s.flag_BUSY_store hp data).trans hidle
  obtain ⟨v, hv⟩ := s.store_eq (R.LNK_CMD p) data
  rw [hv] at hstored
  simp only [State.writeLnkCmd, hgo, hop, hv, hstored, s.acceptsCmd_setLnkCmd, s.trimAllowed_setLnkCmd, s.sampling_setLnkCmd,
    s.regN_LNK_CMDARG_setLnkCmd, hacc]
  by_cases h : op = 0x10 ∧ s.regN (R.LNK_CMDARG p) = Config.trimCommand
  · simp [htrim h.1 h.2]
  · simp [h]

/-- GO with a command that is not accepted, or with that of a trim that may not run, ends at once with status 14. -/
theorem State.writeLnkCmd_refused (href : s.acceptsCmd p op = false ∨
    (op = 0x10 ∧ s.regN (R.LNK_CMDARG p) = Config.trimCommand) ∧ s.trimAllowed p = false ∧ s.sampling p = false) :
    s.writeLnkCmd p data = (s.store (R.LNK_CMD p) data).answerCmd p (bitsOf data.toNat 15 8) 14 := by
  have hstored := (s.flag_BUSY_store hp data).trans hidle
  obtain ⟨v, hv⟩ := s.store_eq (R.LNK_CMD p) data
  rw [hv] at hstored
  simp only [State.writeLnkCmd, hgo, hop, hv, hstored, s.acceptsCmd_setLnkCmd, s.trimAllowed_setLnkCmd, s.sampling_setLnkCmd,
    s.regN_LNK_CMDARG_setLnkCmd]
  rcases href with hacc | ⟨⟨h10, harg⟩, hallowed, hsampling⟩
  · simp [hacc]
  · simp [h10, harg, hallowed, hsampling]

end

/-! ### An answer ends a command (R258, R261) -/

section
variable {s : State} {p : Nat} (tag status : Nat)

theorem State.rd_TAG_answerCmd (s : State) (p : Nat) : (s.answerCmd p tag status).rd (F.LNK_CMDRESP_TAG p) = tag % 256 := by
  rw [State.answerCmd, State.rd_modPort, State.rd_wr_addr _ _ _ 0 (by simp [F.LNK_CMDRESP_TAG, F.LNK_CMD_BUSY, R.LNK_CMDRESP, R.LNK_CMD]),
    State.rd_mark_ne _ _ _ (by simp [F.LNK_CMDRESP_VALID]) (by simp [F.LNK_CMDRESP_VALID]) (by simp [F.LNK_CMDRESP_VALID, F.LNK_CMDRESP_TAG]),
    State.rd_wr_ne _ _ _ _ (by simp [F.LNK_CMDRESP_STATUS]) (by simp [F.LNK_CMDRESP_STATUS]) (by simp [F.LNK_CMDRESP_STATUS, F.LNK_CMDRESP_TAG]),
    State.rd_wr_same _ _ _ (by simp [F.LNK_CMDRESP_TAG]) (by simp [F.LNK_CMDRESP_TAG])]
  rfl

theorem State.rd_STATUS_answerCmd (s : State) (p : Nat) : (s.answerCmd p tag status).rd (F.LNK_CMDRESP_STATUS p) = status % 16 := by
  rw [State.answerCmd, State.rd_modPort, State.rd_wr_addr _ _ _ 0 (by simp [F.LNK_CMDRESP_STATUS, F.LNK_CMD_BUSY, R.LNK_CMDRESP, R.LNK_CMD]),
    State.rd_mark_ne _ _ _ (by simp [F.LNK_CMDRESP_VALID]) (by simp [F.LNK_CMDRESP_VALID]) (by simp [F.LNK_CMDRESP_VALID, F.LNK_CMDRESP_STATUS]),
    State.rd_wr_same _ _ _ (by simp [F.LNK_CMDRESP_STATUS]) (by simp [F.LNK_CMDRESP_STATUS])]
  rfl

theorem State.flag_VALID_answerCmd (s : State) (p : Nat) : (s.answerCmd p tag status).flag (F.LNK_CMDRESP_VALID p) = true := by
  rw [State.answerCmd, State.flag_modPort, State.flag_wr_addr _ (by simp [F.LNK_CMDRESP_VALID, F.LNK_CMD_BUSY, R.LNK_CMDRESP, R.LNK_CMD]),
    State.flag, State.rd_mark_same _ _ (by simp [F.LNK_CMDRESP_VALID]) (by simp [F.LNK_CMDRESP_VALID])]
  rfl

theorem State.flag_BUSY_answerCmd (s : State) (p : Nat) : (s.answerCmd p tag status).flag (F.LNK_CMD_BUSY p) = false := by
  rw [State.answerCmd, State.flag_modPort, State.flag_wr_zero _ _ (by simp [F.LNK_CMD_BUSY]) (by simp [F.LNK_CMD_BUSY])]

@[simp] theorem State.sent_answerCmd (s : State) (p : Nat) : (s.answerCmd p tag status).sent = s.sent := by
  rw [State.answerCmd, State.sent_modPort, State.wr_sent, State.mark_sent, State.wr_sent, State.wr_sent]

theorem State.cmd_answerCmd (hp : p < s.link.length) : ((s.answerCmd p tag status).port p).cmd = none := by
  have hlen (v : State) (hv : v.link = s.link) : p < v.link.length := hv ▸ hp
  rw [State.answerCmd, State.port_modPort (hlen _ (by rw [State.wr_link, State.mark_link, State.wr_link, State.wr_link]))]

theorem OnlyRegs.answerCmd {l : List Nat} {t : State} (h : OnlyRegs l t s) (hcmd : R.LNK_CMD p ∈ l) (hresp : R.LNK_CMDRESP p ∈ l) :
    OnlyRegs l t (s.answerCmd p tag status) :=
  ((((h.wr (f := F.LNK_CMDRESP_TAG p) hresp tag).wr (f := F.LNK_CMDRESP_STATUS p) hresp status).mark
    (f := F.LNK_CMDRESP_VALID p) hresp).wr (f := F.LNK_CMD_BUSY p) hcmd 0).modPort p _

end

/-! ### A training begins (R265) -/

section
variable (s : State) (p : Nat)

@[simp] theorem State.sent_setPort (st : Nat) : (s.setPort p st).sent = s.sent := by
  unfold State.setPort
  dsimp only
  rw [State.sent_modPort]
  split
  · rw [State.wr_sent, State.wr_sent, State.wr_sent]
  · rw [State.wr_sent]

theorem State.onlyRegs_setPort (st : Nat) : OnlyRegs [R.LNK_STATE p, R.LNK_CTRL p] s (s.setPort p st) := by
  have hstate := (OnlyRegs.refl [R.LNK_STATE p, R.LNK_CTRL p] s).wr (f := F.LNK_STATE_STATE p) (.head _) st
  have hlight := (hstate.wr (f := F.LNK_CTRL_LIGHT p) (.tail _ (.head _)) 0).wr (f := F.LNK_STATE_FULLREF p) (.head _) 0
  unfold State.setPort
  dsimp only
  split
  · exact hlight.modPort p _
  · exact hstate.modPort p _

theorem State.rd_STATE_setPort (st : Nat) : (s.setPort p st).rd (F.LNK_STATE_STATE p) = st % 16 := by
  have hstate : (s.wr (F.LNK_STATE_STATE p) st).rd (F.LNK_STATE_STATE p) = st % 16 :=
    s.rd_wr_same _ _ (by simp [F.LNK_STATE_STATE]) (by simp [F.LNK_STATE_STATE])
  unfold State.setPort
  dsimp only
  rw [State.rd_modPort]
  split
  · rw [State.rd_wr_ne _ _ _ _ (by simp [F.LNK_STATE_FULLREF]) (by simp [F.LNK_STATE_FULLREF]) (by simp [F.LNK_STATE_FULLREF, F.LNK_STATE_STATE]),
      State.rd_wr_addr _ _ _ _ (by simp [F.LNK_CTRL_LIGHT, F.LNK_STATE_STATE, R.LNK_CTRL, R.LNK_STATE]), hstate]
  · exact hstate

@[simp] theorem State.sent_setLanes (map : Nat) : (s.setLanes p map).sent = s.sent := by
  rw [State.setLanes, State.sent_modPort, State.wrB_sent, State.wrB_sent, State.wr_sent]

theorem OnlyRegs.setLanes {l : List Nat} {s t : State} {p : Nat} (h : OnlyRegs l s t) (hstate : R.LNK_STATE p ∈ l) (hgl : R.LNK_GLSTAT p ∈ l)
    (map : Nat) : OnlyRegs l s (t.setLanes p map) :=
  (((h.wr (f := F.LNK_STATE_LANEMAP p) hstate map).wr (f := F.LNK_GLSTAT_LOCK0 p) hgl _).wr (f := F.LNK_GLSTAT_LOCK1 p) hgl _).modPort p _

theorem State.rd_STATE_setLanes (map : Nat) : (s.setLanes p map).rd (F.LNK_STATE_STATE p) = s.rd (F.LNK_STATE_STATE p) := by
  have hgl (g : Fld) (hg : g.addr = R.LNK_GLSTAT p) : (F.LNK_STATE_STATE p).addr ≠ g.addr := by
    rw [hg]; simp [F.LNK_STATE_STATE, R.LNK_STATE, R.LNK_GLSTAT]
  rw [State.setLanes, State.rd_modPort, State.wrB, State.wrB, State.rd_wr_addr _ _ _ _ (hgl _ rfl), State.rd_wr_addr _ _ _ _ (hgl _ rfl),
    State.rd_wr_ne _ _ _ _ (by simp [F.LNK_STATE_LANEMAP]) (by simp [F.LNK_STATE_LANEMAP]) (by simp [F.LNK_STATE_LANEMAP, F.LNK_STATE_STATE])]

theorem State.train_disabled {s : State} {p : Nat} (hen : s.flag (F.LNK_CTRL_EN p) = false) (retry : Bool) : s.train p retry = s := by
  simp [State.train, hen]

/-- A training of an enabled port whose domain is on starts in DETECT. -/
theorem State.train_enabled {s : State} {p : Nat} (hon : s.on (portDom p) = true) (hen : s.flag (F.LNK_CTRL_EN p) = true) (retry : Bool) :
    ∃ f, s.train p retry = ((((s.setPort p 1).setLanes p 0).wr (F.LNK_STATE_WIDTH12 p) 0).bumpSat (F.LNK_STATE_TRAINCNT p)).modPort p f := by
  unfold State.train
  dsimp only
  rw [if_neg (by simp [hon, hen])]
  exact ⟨_, rfl⟩

theorem State.rd_STATE_train {s : State} {p : Nat} (hon : s.on (portDom p) = true) (hen : s.flag (F.LNK_CTRL_EN p) = true) (retry : Bool) :
    (s.train p retry).rd (F.LNK_STATE_STATE p) = 1 := by
  obtain ⟨f, htrain⟩ := State.train_enabled hon hen retry
  rw [htrain, State.rd_modPort, State.bumpSat,
    State.rd_wr_ne _ _ _ _ (by simp [F.LNK_STATE_TRAINCNT]) (by simp [F.LNK_STATE_TRAINCNT]) (by simp [F.LNK_STATE_TRAINCNT, F.LNK_STATE_STATE]),
    State.rd_wr_ne _ _ _ _ (by simp [F.LNK_STATE_WIDTH12]) (by simp [F.LNK_STATE_WIDTH12]) (by simp [F.LNK_STATE_WIDTH12, F.LNK_STATE_STATE]),
    State.rd_STATE_setLanes, State.rd_STATE_setPort]

/-- A training that begins sends nothing yet, and reaches LNK_STATE, LNK_GLSTAT and LNK_CTRL alone. -/
theorem State.train_leaves (retry : Bool) :
    (s.train p retry).sent = s.sent ∧ OnlyRegs [R.LNK_STATE p, R.LNK_GLSTAT p, R.LNK_CTRL p] s (s.train p retry) := by
  by_cases h : s.on (portDom p) = true ∧ s.flag (F.LNK_CTRL_EN p) = true
  · obtain ⟨f, htrain⟩ := State.train_enabled h.1 h.2 retry
    rw [htrain]
    have hport := (s.onlyRegs_setPort p 1).mono (k := [R.LNK_STATE p, R.LNK_GLSTAT p, R.LNK_CTRL p]) (by simp)
    have hlanes := hport.setLanes (.head _) (.tail _ (.head _)) 0
    exact ⟨by rw [State.sent_modPort, State.bumpSat_sent, State.wr_sent, State.sent_setLanes, State.sent_setPort],
      ((hlanes.wr (f := F.LNK_STATE_WIDTH12 p) (.head _) 0).bumpSat (f := F.LNK_STATE_TRAINCNT p) (.head _)).modPort p _⟩
  · have hnone : s.train p retry = s := by
      unfold State.train
      rw [if_pos (by simpa [imp_iff_not_or] using h)]
    rw [hnone]
    exact ⟨rfl, OnlyRegs.refl _ s⟩

end

/-! ### A RESPONSE record (R261) -/

/-- A number of one byte. -/
theorem leAt_one_lt (bs : List Byte) (off : Nat) : leAt bs off 1 < 256 := by
  unfold leAt
  cases bs.drop off with
  | nil => decide
  | cons b _ => simpa [ofLeBytes] using b.isLt

/-- TAG is a byte, and STATUS the upper half of one. -/
theorem upRecord_bounds {bs : List (Option Block)} {r : UpRecord} (h : upRecord bs = some r) : r.tag < 256 ∧ r.status < 16 := by
  unfold upRecord at h
  split at h
  case h_1 head rest _ =>
    obtain rfl := Option.some.inj h
    have hstatus := leAt_one_lt head.payload 3
    exact ⟨leAt_one_lt head.payload 2, by dsimp only; omega⟩
  case h_2 => contradiction

section
variable {s : State} {p : Nat}

theorem OnlyRegs.regN_eq {l : List Nat} {t : State} (h : OnlyRegs l s t) {a : Nat} (ha : a ∉ l) : t.regN a = s.regN a :=
  congrArg BitVec.toNat (h.1 a ha)

theorem State.onlyRegs_hearLine (line : List LineBlock) : OnlyRegs [R.LNK_UPCNT p] s (s.hearLine p line) :=
  ((OnlyRegs.refl _ s).wr (f := F.LNK_UPCNT_HDRERR p) (.head _) _).modPort p _

theorem State.cmd_hearLine (hp : p < s.link.length) (line : List LineBlock) : ((s.hearLine p line).port p).cmd = (s.port p).cmd := by
  rw [State.hearLine, State.port_modPort (by simpa using hp)]
  rfl

@[simp] theorem State.length_link_hearLine (line : List LineBlock) : (s.hearLine p line).link.length = s.link.length := by
  simp [State.hearLine, State.modPort]

theorem State.takeResponse_answers {c : LinkCmd} {tag : Nat} (hcmd : (s.port p).cmd = some c) (htag : c.tag = tag) (hop : c.opcode ≠ 2)
    (status value : Nat) :
    s.takeResponse p tag status value = ((s.setN (R.LNK_CMDVAL p) value).answerCmd p tag status).huskAnswer p c status := by
  simp [State.takeResponse, hcmd, htag, hop]

/-- What the answer to a Husk command does to the machine: it leaves the ports alone, and reaches LNK_HUSK and LNK_EXPHUSK. -/
theorem State.huskAnswer_leaves (c : LinkCmd) (status : Nat) :
    (s.huskAnswer p c status).link = s.link ∧ OnlyRegs [R.LNK_HUSK p, R.LNK_EXPHUSK p] s (s.huskAnswer p c status) := by
  have hrefl := OnlyRegs.refl [R.LNK_HUSK p, R.LNK_EXPHUSK p] s
  unfold State.huskAnswer
  dsimp only
  split
  · exact ⟨rfl, hrefl⟩
  split
  · exact ⟨rfl, hrefl.wr (f := F.LNK_HUSK_UNLOCKED p) (.head _) 1⟩
  split
  · have hpattern := hrefl.setN (a := R.LNK_EXPHUSK p) (.tail _ (.head _)) c.arg
    exact ⟨rfl, hpattern.1, hpattern.2⟩
  · exact ⟨rfl, hrefl⟩

/-- A successful unlock opens the Husk store. -/
theorem State.flag_UNLOCKED_huskAnswer {c : LinkCmd} (hop : c.opcode = 0x30) : (s.huskAnswer p c 0).flag (F.LNK_HUSK_UNLOCKED p) = true := by
  rw [State.huskAnswer, if_neg (by decide), if_pos hop,
    State.flag_wr_one _ _ (by simp [F.LNK_HUSK_UNLOCKED]) (by simp [F.LNK_HUSK_UNLOCKED])]

/-- A successful commit shows the CRC of the pattern. -/
theorem State.regN_EXPHUSK_huskAnswer {c : LinkCmd} (hop : c.opcode = 0x31) :
    (s.huskAnswer p c 0).regN (R.LNK_EXPHUSK p) = c.arg % 2 ^ 32 := by
  rw [State.huskAnswer, if_neg (by decide), if_neg (by simp [hop]), if_pos hop]
  exact s.regN_setN_same _ c.arg

end

/-! ### What a write to LNK_CMD with GO ends in (R258, R259) -/

section
variable {s : State} {m : Master} {p op : Nat} {data : Word} (hp : p < 4) (hgo : bitAt data.toNat 16 = true)
  (hidle : s.flag (F.LNK_CMD_BUSY p) = false) (hop : bitsOf data.toNat 7 0 = op)
include hp hgo hidle hop

theorem commandSent_writeLnkCmd (hheld : s.held (portPads p) = false) (hlen : s.link.length = 4) (hacc : s.acceptsCmd p op = true)
    (hne : op ≠ 0x40)
    (htrim : op = 0x10 → s.regN (R.LNK_CMDARG p) = Config.trimCommand → s.trimAllowed p = true ∧ s.sampling p = false) :
    CommandSent s (s.writeLnkCmd p data) p op (bitsOf data.toNat 15 8) ∧
      OnlyRegs (if op = 0x31 then [R.LNK_CMD p, R.LNK_HUSK p] else [R.LNK_CMD p]) s (s.writeLnkCmd p data) ∧
      (op = 0x31 → (s.writeLnkCmd p data).flag (F.LNK_HUSK_UNLOCKED p) = false) := by
  obtain ⟨v, hv⟩ := s.store_eq (R.LNK_CMD p) data
  rw [State.writeLnkCmd_sends hp hgo hidle hop hacc htrim, hv]
  exact commandSent_sendCmd (hlen ▸ hp) hheld v _ hne

/-- A command that has an answer and opens or closes nothing, and is not that of a trim, is sent and reaches LNK_CMD alone. -/
theorem exec_tileCommand_sends {c : Instr} (hheld : s.held (portPads p) = false) (hlen : s.link.length = 4)
    (hacc : s.Accepts m (R.LNK_CMD p) data) (hok : s.acceptsCmd p op = true) (hne : op ∉ [0x10, 0x31, 0x40]) (hc : c ∈ lnkCmdWrites m p data) :
    ∃ t, exec c s = .next t ∧ t.sent = Sent.tileCmd p op (bitsOf data.toNat 15 8) (s.regN (R.LNK_CMDARG p)) [] :: s.sent ∧
      t.flag (F.LNK_CMD_BUSY p) = true ∧
      (t.port p).cmd = some (⟨op, bitsOf data.toNat 15 8, s.regN (R.LNK_CMDARG p), (s.rowEnd p).getD s.now⟩ : LinkCmd) ∧
      (t.port p).tx = ((s.sendBlocks p (cmdBlocks op (bitsOf data.toNat 15 8) (s.regN (R.LNK_CMDARG p)) [])).port p).tx ∧
      OnlyRegs [R.LNK_CMD p] s t := by
  obtain ⟨hne10, hne31, hne40⟩ : op ≠ 0x10 ∧ op ≠ 0x31 ∧ op ≠ 0x40 := by simpa using hne
  obtain ⟨⟨hsent, hbusy, hcmd, htx⟩, hframe, -⟩ := commandSent_writeLnkCmd hp hgo hidle hop hheld hlen hok hne40 fun h => absurd h hne10
  rw [if_neg hne31] at hframe
  exact ⟨_, exec_tileCommand hp hacc hc, hsent, hbusy, hcmd, htx, hframe⟩

/-- A command that is refused ends at once with status 14 under its tag; nothing leaves. -/
theorem refused_writeLnkCmd (href : s.acceptsCmd p op = false ∨
    (op = 0x10 ∧ s.regN (R.LNK_CMDARG p) = Config.trimCommand) ∧ s.trimAllowed p = false ∧ s.sampling p = false) :
    (s.writeLnkCmd p data).sent = s.sent ∧ (s.writeLnkCmd p data).rd (F.LNK_CMDRESP_STATUS p) = 14 ∧
      (s.writeLnkCmd p data).rd (F.LNK_CMDRESP_TAG p) = bitsOf data.toNat 15 8 ∧
      (s.writeLnkCmd p data).flag (F.LNK_CMDRESP_VALID p) = true ∧ (s.writeLnkCmd p data).flag (F.LNK_CMD_BUSY p) = false ∧
      OnlyRegs [R.LNK_CMD p, R.LNK_CMDRESP p] s (s.writeLnkCmd p data) := by
  obtain ⟨v, hv⟩ := s.store_eq (R.LNK_CMD p) data
  rw [State.writeLnkCmd_refused hp hgo hidle hop href, hv]
  have htag : bitsOf data.toNat 15 8 % 256 = bitsOf data.toNat 15 8 := Nat.mod_eq_of_lt (bitsOf_lt ..)
  exact ⟨by simp, State.rd_STATUS_answerCmd .., (State.rd_TAG_answerCmd ..).trans htag, State.flag_VALID_answerCmd ..,
    State.flag_BUSY_answerCmd .., ((OnlyRegs.refl _ s).setN (.head _) v).answerCmd _ _ (.head _) (.tail _ (.head _))⟩

end

/-- TILE_RESET has no answer: the Husk store is closed and the port trains again. -/
theorem State.sendCmd_reset (s : State) (p tag arg : Nat) :
    s.sendCmd p 0x40 tag arg = ((s.sendTileCmd p 0x40 tag arg).wr (F.LNK_HUSK_UNLOCKED p) 0).train p false := by
  simp [State.sendCmd, State.sendTileCmd]

/-- The state behind a TILE_RESET that is sent: an enabled port is in DETECT. -/
theorem reset_writeLnkCmd {s : State} {p : Nat} {data : Word} (hp : p < 4) (hon : s.on (portDom p) = true)
    (hheld : s.held (portPads p) = false) (hgo : bitAt data.toNat 16 = true) (hidle : s.flag (F.LNK_CMD_BUSY p) = false)
    (hop : bitsOf data.toNat 7 0 = 0x40) (hacc : s.acceptsCmd p 0x40 = true) :
    (s.writeLnkCmd p data).sent = Sent.tileCmd p 0x40 (bitsOf data.toNat 15 8) (s.regN (R.LNK_CMDARG p)) [] :: s.sent ∧
      (s.writeLnkCmd p data).rd (F.LNK_STATE_STATE p) = (if s.flag (F.LNK_CTRL_EN p) = true then 1 else s.rd (F.LNK_STATE_STATE p)) ∧
      (s.writeLnkCmd p data).flag (F.LNK_HUSK_UNLOCKED p) = false ∧ (s.writeLnkCmd p data).flag (F.LNK_CMD_BUSY p) = false ∧
      OnlyRegs [R.LNK_CMD p, R.LNK_HUSK p, R.LNK_STATE p, R.LNK_GLSTAT p, R.LNK_CTRL p] s (s.writeLnkCmd p data) := by
  have hstored := (s.flag_BUSY_store hp data).trans hidle
  obtain ⟨v, hv⟩ := s.store_eq (R.LNK_CMD p) data
  rw [hv] at hstored
  rw [State.writeLnkCmd_sends hp hgo hidle hop hacc (fun h => absurd h (by decide)), hv, State.sendCmd_reset]
  have hsent := (s.setN (R.LNK_CMD p) v).sent_sendTileCmd 0x40 (bitsOf data.toNat 15 8) (s.regN (R.LNK_CMDARG p))
    ((s.held_setLnkCmd p v _).trans hheld)
  have hbusy := ((s.setN (R.LNK_CMD p) v).flag_sendTileCmd (p := p) 0x40 (bitsOf data.toNat 15 8) (s.regN (R.LNK_CMDARG p)) _).trans hstored
  have hframe := ((OnlyRegs.refl [R.LNK_CMD p, R.LNK_HUSK p] s).setN (.head _) v).sendTileCmd (p := p) 0x40 (bitsOf data.toNat 15 8)
    (s.regN (R.LNK_CMDARG p))
  generalize (s.setN (R.LNK_CMD p) v).sendTileCmd p 0x40 (bitsOf data.toNat 15 8) (s.regN (R.LNK_CMDARG p)) = w at hsent hbusy hframe
  have hshut := w.flag_wr_zero (F.LNK_HUSK_UNLOCKED p) (by simp [F.LNK_HUSK_UNLOCKED]) (by simp [F.LNK_HUSK_UNLOCKED])
  have hclose := hframe.wr (f := F.LNK_HUSK_UNLOCKED p) (.tail _ (.head _)) 0
  obtain ⟨htsent, htframe⟩ := (w.wr (F.LNK_HUSK_UNLOCKED p) 0).train_leaves p false
  refine ⟨htsent.trans hsent, ?state, ?unlocked, ?busy, (hclose.mono (by simp)).trans (htframe.mono (by simp))⟩
  case state =>
    have hen := hclose.flag_eq (f := F.LNK_CTRL_EN p) (by simp [F.LNK_CTRL_EN, R.LNK_CTRL, R.LNK_CMD, R.LNK_HUSK])
    split
    case isTrue h =>
      have hdom := hclose.on_eq (by simp [R.PWR_DOMSTAT, R.LNK_CMD, R.LNK_HUSK]; omega) (portDom p)
      exact State.rd_STATE_train (hdom.trans hon) (hen.trans h) false
    case isFalse h =>
      rw [State.train_disabled (hen.trans (Bool.eq_false_of_not_eq_true h))]
      exact hclose.rd_eq (by simp [F.LNK_STATE_STATE, R.LNK_STATE, R.LNK_CMD, R.LNK_HUSK])
  case unlocked =>
    exact (htframe.flag_eq (by simp [F.LNK_HUSK_UNLOCKED, R.LNK_HUSK, R.LNK_STATE, R.LNK_GLSTAT, R.LNK_CTRL])).trans hshut
  case busy =>
    exact (htframe.flag_eq (by simp [F.LNK_CMD_BUSY, R.LNK_CMD, R.LNK_STATE, R.LNK_GLSTAT, R.LNK_CTRL])).trans
      ((w.flag_wr_addr (by simp [F.LNK_CMD_BUSY, F.LNK_HUSK_UNLOCKED, R.LNK_CMD, R.LNK_HUSK]) 0).trans hbusy)

/-! ### The ends of a command in flight (R258, R261) -/

section
variable {s : State} {p : Nat}

/-- A good record of the kind that a command takes does what its kind does. -/
theorem State.takeRecord_taken {s : State} {p kind : Nat} {line : List LineBlock} {r : UpRecord} {k : UpRecord → State → State} (hp : p < 4)
    (hon : s.on (portDom p) = true) (hr : s.upRecord p ⟨line, false⟩ = some r) (hgood : r.good = true) (hkind : r.kind = kind) :
    s.takeRecord p kind ⟨line, false⟩ k = k r (s.hearLine p line) := by
  simp [State.takeRecord, hp, hon, hr, hgood, hkind]

theorem exec_responseRecord_taken {before record after : List LineBlock} {r : UpRecord} (hp : p < 4) (hon : s.on (portDom p) = true)
    (hr : s.upRecord p ⟨before ++ record ++ after, false⟩ = some r) (hgood : r.good = true) (hkind : r.kind = 4) :
    exec (.responseRecord p false before record after) s =
      .next ((s.hearLine p (before ++ record ++ after)).takeResponse p r.tag r.status r.info) :=
  congrArg Host.Outcome.next (State.takeRecord_taken hp hon hr hgood hkind)

/-- A RESPONSE ends the command in flight with its tag, its status and its value. -/
theorem State.takeResponse_ends {c : LinkCmd} {tag status : Nat} (hp : p < s.link.length) (hcmd : (s.port p).cmd = some c) (hop : c.opcode ≠ 2)
    (htag : c.tag = tag) (value : Nat) :
    ((s.takeResponse p tag status value).port p).cmd = none ∧ (s.takeResponse p tag status value).flag (F.LNK_CMD_BUSY p) = false ∧
      (s.takeResponse p tag status value).rd (F.LNK_CMDRESP_TAG p) = tag % 256 ∧
      (s.takeResponse p tag status value).rd (F.LNK_CMDRESP_STATUS p) = status % 16 ∧
      (s.takeResponse p tag status value).flag (F.LNK_CMDRESP_VALID p) = true ∧
      (s.takeResponse p tag status value).regN (R.LNK_CMDVAL p) = value % 2 ^ 32 := by
  rw [State.takeResponse_answers hcmd htag hop]
  have hnone := (s.setN (R.LNK_CMDVAL p) value).cmd_answerCmd tag status hp
  have hvalue := ((OnlyRegs.refl [R.LNK_CMD p, R.LNK_CMDRESP p] (s.setN (R.LNK_CMDVAL p) value)).answerCmd tag status (.head _)
    (.tail _ (.head _))).regN_eq (a := R.LNK_CMDVAL p) (by simp [R.LNK_CMDVAL, R.LNK_CMD, R.LNK_CMDRESP])
  obtain ⟨hlink, hframe⟩ := ((s.setN (R.LNK_CMDVAL p) value).answerCmd p tag status).huskAnswer_leaves (p := p) c status
  have hport : (((s.setN (R.LNK_CMDVAL p) value).answerCmd p tag status).huskAnswer p c status).port p =
      ((s.setN (R.LNK_CMDVAL p) value).answerCmd p tag status).port p := congrArg (·.getD p {}) hlink
  refine ⟨hport ▸ hnone, ?_, ?_, ?_, ?_, ?_⟩
  · rw [hframe.flag_eq (by simp [F.LNK_CMD_BUSY, R.LNK_CMD, R.LNK_HUSK, R.LNK_EXPHUSK]), State.flag_BUSY_answerCmd]
  · rw [hframe.rd_eq (by simp [F.LNK_CMDRESP_TAG, R.LNK_CMDRESP, R.LNK_HUSK, R.LNK_EXPHUSK]), State.rd_TAG_answerCmd]
  · rw [hframe.rd_eq (by simp [F.LNK_CMDRESP_STATUS, R.LNK_CMDRESP, R.LNK_HUSK, R.LNK_EXPHUSK]), State.rd_STATUS_answerCmd]
  · rw [hframe.flag_eq (by simp [F.LNK_CMDRESP_VALID, R.LNK_CMDRESP, R.LNK_HUSK, R.LNK_EXPHUSK]), State.flag_VALID_answerCmd]
  · rw [hframe.regN_eq (by simp [R.LNK_CMDVAL, R.LNK_HUSK, R.LNK_EXPHUSK]), hvalue, State.regN_setN_same]

theorem OnlyRegs.takeResponse {l : List Nat} {t : State} (h : OnlyRegs l t s) {c : LinkCmd} {tag : Nat} (hcmd : (s.port p).cmd = some c)
    (hop : c.opcode ≠ 2) (htag : c.tag = tag) (status value : Nat)
    (hl : [R.LNK_CMD p, R.LNK_CMDRESP p, R.LNK_CMDVAL p, R.LNK_HUSK p, R.LNK_EXPHUSK p] ⊆ l) :
    OnlyRegs l t (s.takeResponse p tag status value) := by
  rw [State.takeResponse_answers hcmd htag hop]
  exact ((h.setN (hl (by simp)) value).answerCmd tag status (hl (by simp)) (hl (by simp))).trans
    ((State.huskAnswer_leaves c status).2.mono fun a ha => hl (by simp at ha ⊢; tauto))

theorem exec_commandTimeout_due {c : LinkCmd} (hp : p < 4) (hcmd : (s.port p).cmd = some c) (hlate : s.since c.since (usec 100) = true) :
    exec (.commandTimeout p) s = .next (s.answerCmd p c.tag 15) := by
  rw [show exec (.commandTimeout p) s = execCommandTimeout p s from rfl, execCommandTimeout, hcmd]
  exact congrArg Host.Outcome.next (if_pos (by simp [hp, hlate]))

end

end Sys2Proof.Machine

namespace Sys2Proof
open Machine

/-- Settles O47, by the lemmas of what a write to LNK_CMD ends in, of an answer, and of the training that TILE_RESET begins. -/
theorem tileCommands : Obligations.TileCommands := by
  refine ⟨?ping, ?ident, ?regWrite, ?regRead, ?unlock, ?commit, ?reset, ?refused, ?busy, ?response, ?timeout⟩
  case ping =>
    intro s m p data hp hheld hlen hacc hgo hidle hop hok
    exact exec_tileCommand_sends hp hgo hidle hop hheld hlen hacc hok (by decide) (by simp [lnkCmdWrites])
  case ident =>
    intro s m p data hp hheld hlen hacc hgo hidle hop hok
    exact exec_tileCommand_sends hp hgo hidle hop hheld hlen hacc hok (by decide) (by simp [lnkCmdWrites])
  case regWrite =>
    intro s m p data hp hheld hlen hacc hgo hidle hop hok
    refine ⟨_, exec_tileCommand hp hacc (by simp [lnkCmdWrites]), fun htrim => ?_, fun harg hallowed hsampling => ?_⟩
    · obtain ⟨⟨hsent, hbusy, hcmd, htx⟩, hframe, -⟩ := commandSent_writeLnkCmd hp hgo hidle hop hheld hlen hok (by decide) fun _ => htrim
      exact ⟨hsent, hbusy, hcmd, htx, hframe⟩
    · obtain ⟨hsent, hstatus, htag, -, hbusy, hframe⟩ := refused_writeLnkCmd hp hgo hidle hop (.inr ⟨⟨rfl, harg⟩, hallowed, hsampling⟩)
      exact ⟨hsent, hstatus, htag, hbusy, hframe⟩
  case regRead =>
    intro s m p data hp hheld hlen hacc hgo hidle hop hok
    exact exec_tileCommand_sends hp hgo hidle hop hheld hlen hacc hok (by decide) (by simp [lnkCmdWrites])
  case unlock =>
    intro s m p data hp hheld hlen hacc hgo hidle hop hok
    exact exec_tileCommand_sends hp hgo hidle hop hheld hlen hacc hok (by decide) (by simp [lnkCmdWrites])
  case commit =>
    intro s m p data hp hheld hlen hacc hgo hidle hop hok
    obtain ⟨⟨hsent, hbusy, hcmd, htx⟩, hframe, hshut⟩ := commandSent_writeLnkCmd hp hgo hidle hop hheld hlen hok (by decide)
      fun h => absurd h (by decide)
    exact ⟨_, exec_tileCommand hp hacc (by simp [lnkCmdWrites]), hsent, hbusy, hcmd, htx, hshut rfl, hframe⟩
  case reset =>
    intro s m p data hp hon _ hheld hacc hgo hidle hop hok
    exact ⟨_, exec_tileCommand hp hacc (by simp [lnkCmdWrites]), reset_writeLnkCmd hp hon hheld hgo hidle hop hok⟩
  case refused =>
    intro s m p data hp hacc hgo hidle hok
    exact ⟨_, exec_tileCommand hp hacc (by simp [lnkCmdWrites]), refused_writeLnkCmd hp hgo hidle rfl (.inl hok)⟩
  case busy =>
    intro s m p data hp hacc hbusy
    refine ⟨_, exec_tileCommand hp hacc (by simp [lnkCmdWrites]), ?_⟩
    have hstored := (s.flag_BUSY_store hp data).trans hbusy
    obtain ⟨v, hv⟩ := s.store_eq (R.LNK_CMD p) data
    rw [State.writeLnkCmd_busy hp hbusy, hv]
    exact ⟨rfl, rfl, hv ▸ hstored, (OnlyRegs.refl _ s).setN (.head _) v⟩
  case response =>
    intro s p before record after r c hp hon hlen hcmd hop htag hr hgood hkind
    have hlt : p < (s.hearLine p (before ++ record ++ after)).link.length := by simpa [hlen] using hp
    have hheard := (State.cmd_hearLine (hlen ▸ hp) (before ++ record ++ after)).trans hcmd
    have hline := (s.onlyRegs_hearLine (p := p) (before ++ record ++ after)).mono (k := [R.LNK_CMD p, R.LNK_CMDRESP p, R.LNK_CMDVAL p,
      R.LNK_HUSK p, R.LNK_EXPHUSK p, R.LNK_UPCNT p]) (by simp)
    obtain ⟨htagByte, hstatusBits⟩ := upRecord_bounds hr
    obtain ⟨hnone, hbusy, htagShown, hstatus, hvalid, hvalue⟩ := State.takeResponse_ends hlt hheard hop htag r.info (status := r.status)
    refine ⟨_, exec_responseRecord_taken hp hon hr hgood hkind, hnone, hbusy, htagShown.trans (Nat.mod_eq_of_lt htagByte),
      hstatus.trans (Nat.mod_eq_of_lt hstatusBits), hvalid, hvalue, fun h30 hok => ?_, fun h31 hok => ?_,
      hline.takeResponse hheard hop htag r.status r.info (by simp)⟩
    · rw [State.takeResponse_answers hheard htag hop, hok]
      exact State.flag_UNLOCKED_huskAnswer h30
    · rw [State.takeResponse_answers hheard htag hop, hok]
      exact State.regN_EXPHUSK_huskAnswer h31
  case timeout =>
    intro s p c hp hlen hcmd hlate
    exact ⟨_, exec_commandTimeout_due hp hcmd hlate, State.cmd_answerCmd _ _ (hlen ▸ hp), State.flag_BUSY_answerCmd ..,
      State.rd_STATUS_answerCmd .., State.flag_VALID_answerCmd .., (OnlyRegs.refl _ s).answerCmd _ _ (.head _) (.tail _ (.head _))⟩

end Sys2Proof
end

section
/-!
A bonded training whose DN1 has not locked goes on with DN0 (R265): LANE_DEGRADE is raised, and where it is configured as class DARK its request
can reach a satellite chain.
-/

-- One theorem at a time, as in the tests, but with the kernel's checks left to themselves: a proof that is elaborated beside the others, or that
-- waits for the kernel, would hold a thread.
set_option deprecated.oldSectionVars true

namespace Sys2Proof.Machine

/-- A training that goes on with DN0 alone. -/
def State.giveUpDn1 (s : State) (p : Nat) : State := s.modPort p fun l => { l with bonded := false }

theorem State.reg_giveUpDn1 (s : State) (p a : Nat) : (s.giveUpDn1 p).reg a = s.reg a := rfl

/-- Where DN0 alone has locked in time, LANE_DEGRADE is raised and the training goes on to IDENT on one lane. -/
theorem exec_trainStateTimeout_bonded {s : State} {p : Nat} (hp : p < 4) (hon : s.on (portDom p) = true)
    (hstate : s.rd (F.LNK_STATE_STATE p) = 3) (hlate : s.since (s.port p).since (msec 6) = true) (hbonded : (s.port p).bonded = true)
    (hlocked : bitAt (s.port p).locked 0 = true) :
    exec (.trainStateTimeout p) s = .next (((s.giveUpDn1 p).raise (Src.LANE_DEGRADE p)).trainStep p 5) := by
  rw [show exec (.trainStateTimeout p) s = execTrainStateTimeout p s from rfl, execTrainStateTimeout, hstate,
    if_neg (by simp [hp, hon, trainLimit, hlate]), if_pos (by simp [hbonded, hlocked])]
  rfl

/-- The entry into IDENT sends IDENT. -/
theorem State.trainStep_ident (s : State) (p : Nat) : s.trainStep p 5 = (s.setPort p 5).sendTileCmd p 0x02 0 0 := by
  rw [State.trainStep, if_neg (by simp)]
  rfl

/-- `darkOnBusyLine` with its pads free and port 0 in a bonded training, in which only DN0 has locked after 6 ms. -/
def darkAtLaneLock : State :=
  { ((darkOnBusyLine (Src.LANE_DEGRADE 0)).wr (F.LNK_STATE_STATE 0) 3).wr F.PWR_PADHOLD_GROUP 0 with
    now := msec 6, link := { bonded := true, locked := 1 } :: List.replicate 3 {} }

/-- LANE_DEGRADE meets the busy line. -/
theorem darkAtLaneLock_giveUpDn1 : (darkAtLaneLock.giveUpDn1 0).DarkMeetsLine (Src.LANE_DEGRADE 0) := by decide

end Sys2Proof.Machine

namespace Sys2Proof
open Machine

/-- Refutes O45: LANE_DEGRADE configured as class DARK, a bonded training in RUN that goes on with DN0 makes the chains send OFF, and the chain
whose line is not idle counts a collision in SAT_CH_ERRCNT, outside the blocks of fault handling that the clause lists. -/
theorem not_portsTrain : ¬Obligations.PortsTrain := by
  intro ⟨_, _, _, _, _, _, _, _, _, hbonded, _⟩
  obtain ⟨t, ht, -, -, -, -, hframe⟩ := hbonded darkAtLaneLock 0 (by decide) (by decide) (by decide) rfl (by decide) rfl (by decide) (by decide)
    (by decide)
  have hexec := exec_trainStateTimeout_bonded (s := darkAtLaneLock) (p := 0) (by decide) (by decide) (by decide) (by decide) rfl (by decide)
  have hident := (((darkAtLaneLock.giveUpDn1 0).raise (Src.LANE_DEGRADE 0)).onlyRegs_setPort 0 5).sendTileCmd (p := 0) 0x02 0 0
  have hsame := hframe.1 (R.SAT_CH_ERRCNT 0) (by decide)
  rw [next_unique ht hexec, State.trainStep_ident, hident.1 _ (by decide), ← darkAtLaneLock.reg_giveUpDn1 0] at hsame
  exact State.reg_ERRCNT_raise_ne darkAtLaneLock_giveUpDn1 hsame

end Sys2Proof
end
